-- ==== Sys2Proof/Word.lean ====
section
/-! DEFINITION. The word types of the module and the type of a sparse table. -/

namespace Sys2Proof

/-- A set-up register, a descriptor word, a configuration word: 32 bits (R12, R91). -/
abbrev Word := BitVec 32

/-- One byte of a bank, a frame or a buffer. -/
abbrev Byte := BitVec 8

/-- A sparse table: key and value pairs, keys strictly rising, no value equal to what an unlisted key reads as.
A memory is a `Tab Byte` (a list of `Host.Cell`). -/
abbrev Tab (α : Type) := List (Nat × α)

end Sys2Proof
end

