-- ==== Sys2Proof/Syntax.lean ====
section
/-! DEFINITION. The commands: one constructor per row of spec/opcode_table.json. -/

namespace Sys2Proof

/-- What a fault report carries beside its source and location: the activity of an AGEING fault (R461), the area of an MRAM word
(R465), or that the word holds a stuck cell (R459). -/
inductive FaultInfo where
  | plain
  | activity (i : Nat)
  | seedSlot (slot : Fin 2)
  | selector (copy : Fin 2)
  | activeBank
  | shadowBank
  | growthMark (key : Nat)
  | sapwood (slot : Nat)
  | heartwood (slot : Nat)
  | displayStore
  | stuck
  deriving DecidableEq, Repr

/-- A failure of the start-up self-test: the item of Table 2.2, the location, and what the fault report carries beside them. -/
structure StartFail where
  item : Nat
  loc : Word
  info : FaultInfo
  deriving DecidableEq, Repr

/-- What the module finds during start-up (Table 2.1). -/
structure StartInfo where
  /-- Ticks at which the steps 2 to 9 of Table 2.1 complete where they finish before the table's latest tick (R50). -/
  early : List (Option Nat)
  /-- Logic feeds A and B lie within range. -/
  feedA : Bool
  feedB : Bool
  /-- PAIR_POS is left open (R349). -/
  posOpen : Bool
  /-- Energy of the hold-up store in mJ once it has charged. -/
  holdup : Nat
  /-- The 10 MHz reference has been qualified. -/
  refOk : Bool
  /-- The copies of the bank selector and of the lifecycle that fail their check: selector A and B, lifecycle A and B. -/
  badCopies : List (Fin 4)
  fails : List StartFail
  /-- Voltage of each group feed in 50 mV: entry 2g is feed A, 2g + 1 feed B. -/
  volts : List Nat
  /-- A frame received on the carrier management port. -/
  trimAck : Option (List Byte)
  /-- Working readings of the 33 replica sites. -/
  readings : List Nat
  deriving DecidableEq, Repr

end Sys2Proof

namespace Sys2Proof.Machine

/-- The classifications of one sample tick: the channels (port n as 192 + n) that read ON, and those whose classification has not arrived
because their frame was lost (R186). A channel in neither list reads OFF. -/
structure SafSample where
  tick : Nat
  on : List Nat
  missing : List Nat := []
  deriving DecidableEq, Repr

/-- A rising edge of a PI input: its stamp, and for how many ticks the input stood high after it and low before it (R136). -/
structure PiEdge where
  stamp : Nat
  high : Nat
  low : Nat
  deriving DecidableEq, Repr

/-- What a field-side frame carries (R118): the measured quantity in binary32, an input's voltage at B in V while it listens (R141) and
otherwise the current in mA; the load current in A; whether a limiter or a current limit is at work; the rising edges since the frame
before, oldest first; and whether the front end has discarded the newest command frame on a CRC failure. The front end's state and the state
of its input are the front end's own state (R138, R159). -/
structure FieldFrame where
  meas : Word
  load : Word
  limited : Bool
  edges : List PiEdge
  cmdBad : Bool := false
  deriving DecidableEq, Repr

/-- A CAN frame: the two words of Table 12.2 and its data bytes. -/
structure CanFrame where
  id : Word := 0
  ctl : Word := 0
  data : List Byte := []
  deriving DecidableEq, Repr

/-- How an attempt ended without success: it lost arbitration, or met an error. `lec` codes the error as CAN_CTL_STATUS does; `dominant` says
that a dominant bit was seen during the passive error flag; `exempt` that ISO 11898-1 exempts this stuff error in arbitration from counting;
`eights` counts the further steps of 8 of ISO 11898-1. -/
structure CanFailure where
  lost : Bool
  lec : Nat
  dominant : Bool
  exempt : Bool
  eights : Nat
  deriving DecidableEq, Repr

/-- Ticks at which the first bit of each copy of a frame left its port; only those of the copies that were sent count (R426). -/
structure TxStamps where
  lanA : Nat
  lanB : Nat
  deriving DecidableEq, Repr

/-- What a write-back meets: both writes go out, the data buffer's data are uncorrectable, or the descriptor's are (R90). -/
inductive WbResult where
  | ok | bufferFailed | descriptorFailed
  deriving DecidableEq, Repr

/-- What the read of an image brings (R63): its bytes, and the events and completions a second that the module works out for it (R47; the spec does
not say how, log 46). -/
structure LoadedImage where
  bytes : List Byte
  events : Nat := 0
  completions : Nat := 0
  deriving DecidableEq, Repr

end Sys2Proof.Machine

namespace Sys2Proof

/-- The commands, one per row of spec/opcode_table.json. -/
inductive Instr where
  /-- REGISTER_WRITE (R15). A host write to a set-up register that has no row of its own sets, clears or ignores fields by access code,
  with narrow writes discarded and held low words handled. -/
  | registerWrite (link off : Nat) (val : Word) (wide : Bool)
  /-- LOW_WORD_READ (R13). A read of the low word of a 64-bit register loads the link's read latch with the high word and records the
  register. -/
  | lowWordRead (link off len : Nat)
  /-- LOW_WORD_WRITE (R13). A write to the low word of a 64-bit register is held for the link until the matching high-word write. -/
  | lowWordWrite (link off : Nat) (val : Word)
  /-- HIGH_WORD_WRITE (R13). A write to the high word of a 64-bit register commits it together with the held or present low word. -/
  | highWordWrite (link off : Nat) (val : Word)
  /-- FAULT_RECORD_W0_READ (R463). A read of FLT_RECn_W0 latches words W1 to W7 of that record for the reading link. -/
  | faultRecordW0Read (link n : Nat)
  /-- POWER_UP (R49). The logic supply is qualified for 10 ms, tick 0 begins, and the start-up sequence of Table 2.1 runs. -/
  | powerUp (info : StartInfo)
  /-- READY (R50). Start-up ends with the role Standby or Isolated, ES000 is raised and the START record is written. -/
  | ready
  /-- LINK_UP (R565). A host link completes PCI Express training and comes up, with DEGRADED set when it trains below 8 GT/s x2. -/
  | linkUp (link : Nat) (degraded : Bool)
  /-- LINK_DOWN (R79). A host link goes down, and every ring bound to it enters DOWN within 10 us. -/
  | linkDown (link : Nat)
  /-- TIME_TRIGGER (R424). A time trigger fires and starts the sample instants, loop instants, send instants and snapshots that count its
  firings. -/
  | timeTrigger (tt : Nat)
  /-- SEED_BOUNDARY (R26). At every multiple of 1 000 000 ticks the freeze starts, engines pause and the seed capture begins. -/
  | seedBoundary
  /-- SEED_CAPTURE_COMPLETE (R28). The seed capture completes, the freeze ends, deferred activities start in trigger order and the seed is
  sent. -/
  | seedCaptureComplete
  /-- FREEZE_TIMEOUT (R28). The capture is not complete at B + 4 000, so the engines resume, the seed is discarded and a seed overrun
  fault is raised. -/
  | freezeTimeout
  /-- TIMEBASE_FAULT (R25). The timebase deviates more than 1 % from the self-timed reference, or stops, and the module isolates. -/
  | timebaseFault
  /-- LOAD (R63). Host software writes LOAD and the module starts reading the image by DMA into the shadow bank. -/
  | load (link : Nat)
  /-- IMAGE_READ_COMPLETE (R63). The DMA read of the image ends and the admission checks start. -/
  | imageReadComplete (data : Option Machine.LoadedImage)
  /-- ADMISSION_COMPLETE (R65). The admission checks of Table 2.5 end with the shadow bank ADMITTED or REJECTED and release the
  configuration channel. -/
  | admissionComplete
  /-- GROWTH_RETRY (R480). After a trim step wait of 10 ms the GROWTH check repeats at the next step. -/
  | growthRetry
  /-- SWITCH (R67). Host software writes SWITCH and an admitted shadow bank becomes PENDING for the next eligible DP cycle boundary. -/
  | switch (link : Nat)
  /-- ABORT (R70). Host software writes ABORT, which cancels a pending switch captured before B. -/
  | abort (link : Nat)
  /-- BANK_SWITCH (R68). At switch boundary B the old instances are abandoned, the selector is written and the engines resume under the
  new bank. -/
  | bankSwitch
  /-- CONFIRM (R73). Host software writes CONFIRM and the module sets the shadow bank's confirmation flag when the typed CRCs match. -/
  | confirm (link : Nat)
  /-- CONFIRM_IMG_WRITE (R72). A typed image CRC is written, and it is kept only while KEY is asserted. -/
  | confirmImgWrite (link : Nat) (val : Word)
  /-- CONFIRM_SAF_WRITE (R72). A typed safety CRC is written, and it is kept only while KEY is asserted. -/
  | confirmSafWrite (link : Nat) (val : Word)
  /-- KEY_ASSERTED (R71). COMMISSION_KEY has been asserted for 10 ms and counts as asserted. -/
  | keyAsserted
  /-- KEY_RELEASED (R71). COMMISSION_KEY is seen released, which discards typed values, clears CONFIRM_LOCK and LC_LOCK and may lower the
  debug level. -/
  | keyReleased
  /-- RING_ENABLE (R81). A write of RNG_RING_CFG with EN = 1 enables a disabled ring when its configuration is valid. -/
  | ringEnable (link ring : Nat) (cfg : Word)
  /-- RING_STOP (R83). STOP in RNG_RING_CTRL puts a ring in STOPPED. -/
  | ringStop (link ring : Nat)
  /-- RING_RESET (R83). RESET, or EN = 0, returns a ring to DISABLED once its outstanding write-backs are done. -/
  | ringReset (link ring : Nat)
  /-- DOORBELL (R85). Host software writes the host index to RNG_RING_DB and hands descriptors to the module. -/
  | doorbell (link ring h : Nat)
  /-- DESCRIPTOR_FETCH (R87). A fetch read of descriptors returns, and the module checks OWN and takes the descriptors once staging credit
  exists. -/
  | descriptorFetch (ring : Nat) (data : Option (List Word))
  /-- DESCRIPTOR_WRITEBACK (R89). The module writes back the buffer, the descriptor body and then DW7, and requests the vector when IRQ =
  1. -/
  | descriptorWriteback (ring : Nat) (res : Machine.WbResult)
  /-- MSIX_HOLDOFF_END (R112). A vector holdoff ends and the merged MSI-X message is sent. -/
  | msixHoldoffEnd (link vec : Nat)
  /-- WRITE (R101). A WRITE command places a standing order of its ring on the target. -/
  | write (ring : Nat)
  /-- READ (R96). A READ command returns the target's value in force. -/
  | read (ring : Nat)
  /-- RELEASE (R101). A RELEASE command withdraws its ring's standing order on the target. -/
  | release (ring : Nat)
  /-- NOP (R96). A NOP command completes with OK as an ordering marker. -/
  | nop (ring : Nat)
  /-- CANCEL (R99). A ring-control CANCEL withdraws an MTX descriptor that has not yet been handed to its bus. -/
  | cancel (ring : Nat)
  /-- TARGET_RESOLVE (R102). At the start of its cycle a target resolves its value in force from the standing orders and the engine
  candidates. -/
  | targetResolve (cls index field : Nat)
  /-- COUPLER_FRAME_BOUNDARY (R39). A coupler frame period starts and carries the ready commands to the front ends. -/
  | couplerFrameBoundary
  /-- FIELD_FRAME_RECEIVE (R118). A field-side coupler frame arrives with measurements, states and flags, or is discarded on a CRC
  failure. -/
  | fieldFrameReceive (ch : Nat) (frame : Option Machine.FieldFrame)
  /-- FE_WATCHDOG (R139). A front end in SERVE or HOLD gets no valid command frame for 100 us and falls to LISTEN with its outputs off. -/
  | feWatchdog (ch : Nat)
  /-- FE_SELF_TEST_END (R139). A front end's self-test in INIT or RETEST ends with LISTEN, or with FENCED on failure. -/
  | feSelfTestEnd (ch : Nat) (pass : Bool)
  /-- RETEST (R148). A RETEST write runs the self-test of a fenced channel and lifts the fence when it passes. -/
  | retest (link ch : Nat)
  /-- CLR_LINKERR (R152). A CLR_LINKERR write clears the channel's discarded-frame counts. -/
  | clrLinkerr (link ch : Nat)
  /-- FOLDBACK (R123). The AI limiter, held at 30 mA for 1 ms, folds back to 5 mA and sets FOLDBACK. -/
  | foldback (ch : Nat)
  /-- FOLDBACK_RETRY (R123). After 1 s of fold-back the limiter releases to 30 mA for one retry. -/
  | foldbackRetry (ch : Nat)
  /-- COMPLIANCE (R127). An AO shortfall lasts 10 ms, or it clears after 10 ms within tolerance, and COMPLIANCE sets or clears. -/
  | compliance (ch : Nat)
  /-- OPEN_LOAD (R128). An open-load condition persists for 10 ms and OPEN is set or cleared. -/
  | openLoad (ch : Nat)
  /-- DEVIATION (R129). An AO output deviates by more than 0.5 mA for 10 ms, so the channel enters HOLD and a front-end fault is reported.
  -/
  | deviation (ch : Nat)
  /-- DEVIATION_RETRY (R129). After 100 ms in HOLD the command is applied once more, and the channel is fenced if the deviation returns.
  -/
  | deviationRetry (ch : Nat)
  /-- OVERLOAD (R135). A DO held in current limit for 1 ms turns off, sets OVERLOAD and enters HOLD. -/
  | overload (ch : Nat)
  /-- OVERLOAD_RETRY (R135). With RETRY = 1 the DO tries again every 1 s while the value in force is ON. -/
  | overloadRetry (ch : Nat)
  /-- THERMAL (R139). An output stage crosses its thermal limit and the channel enters HOLD de-energised, or it resumes below the reset
  temperature. -/
  | thermal (ch : Nat) (hot : Bool)
  /-- WIRE_BREAK (R132). A wire-break or band condition persists for 10 ms and becomes status, or clears. -/
  | wireBreak (ch : Nat)
  /-- COUPLER_LOSS (R147). No valid coupler frame arrives in either direction for 1 s and the channel is fenced. -/
  | couplerLoss (ch : Nat)
  /-- FIELD_FEED_LOST (R145). A group feed has been below 16.0 V for 1 ms, and with both lost the group's converters are disabled. -/
  | fieldFeedLost (group feed volts : Nat)
  /-- FIELD_FEED_RESTORED (R145). A group feed has been at or above 17.0 V for 10 ms and the converters are enabled. -/
  | fieldFeedRestored (group feed volts : Nat)
  /-- FE_POWER_OFF (R145). A front end goes OFF when its isolated supply leaves range or 10 ms after its converter is disabled. -/
  | fePowerOff (ch : Nat)
  /-- OVERCURRENT (R149). A group's feed currents sum above 6.0 A for 100 ms and OVERCURRENT is set. -/
  | overcurrent (group curA curB : Nat)
  /-- RESTART_ACK (R150). A RESTART_ACK write lets an output in restart hold leave HOLD at the next frame boundary. -/
  | restartAck (ring : Nat)
  /-- ENTRY (R150). A BUFFERED ENTRY command returns the channel's value-table entry with its SAMPLE_TICK. -/
  | entry (ring : Nat)
  /-- MEASURED (R163). A READ of MEASURED returns the channel's current VALUE. -/
  | measured (ring : Nat)
  /-- CHANNEL_STATUS (R150). A READ of STATUS returns CHN_CH_STATUS. -/
  | channelStatus (ring : Nat)
  /-- SAMPLE_WRITE (R155). The channel engine writes the sample of an instant into the value table with its SAMPLE_TICK. -/
  | sampleWrite (ch : Nat) (x : Word) (high : Bool)
  /-- DI_DEBOUNCE (R159). A DI classification has persisted for DEBOUNCE and the state in force changes. -/
  | diDebounce (ch : Nat)
  /-- IMAGE_ASSEMBLY (R165). Image assembly starts at T + 2 000 ticks, snapshots its blocks and hands the image to its TLM rings. -/
  | imageAssembly (image dur : Nat)
  /-- HART_POLL (R171). POLL_PERIOD elapses and the modem issues Command 0 or Command 3. -/
  | hartPoll (ch : Nat)
  /-- HART_REPLY (R169). A HART reply frame arrives and updates the link state, the HART entry or the pass-through reply. -/
  | hartReply (ch : Nat) (valid : Bool) (resp dev : Nat) (data : List Byte)
  /-- HART_REPLY_TIMEOUT (R169). No reply starts within 28 character times, so the attempt fails and is repeated or ends the transaction.
  -/
  | hartReplyTimeout (ch : Nat)
  /-- HART_BURST_FRAME (R171). A burst frame arrives and supplies dynamic variables or counts in BURST_COUNT. -/
  | hartBurstFrame (ch cmd resp dev : Nat) (data : List Byte)
  /-- HART_BURST_TIMEOUT (R171). No Command 3 burst frame arrives for 2 x POLL_PERIOD and BURST returns to ONLINE. -/
  | hartBurstTimeout (ch : Nat)
  /-- HART_PASS_THROUGH (R175). A BUFFERED command of CLASS 0x05 queues a host HART command and returns its reply. -/
  | hartPassThrough (ring : Nat)
  /-- HART_STATUS (R179). A READ of CLASS 0x05 FIELD 0x01 returns CHN_CH_HART_STATUS. -/
  | hartStatus (ring : Nat)
  /-- SAFETY_SCAN (R185). At each tick whose count is 100 modulo 400 the safety engine processes the new samples and updates demands,
  latches and commands. -/
  | safetyScan (samples : List Machine.SafSample) (dur : Nat)
  /-- TEST_PULSE_SLOT (R187). A test-pulse slot opens and the channel or port of that slot pulses. -/
  | testPulseSlot (slot : Nat)
  /-- SAFETY_DATA_LOST (R186). No valid frame arrives from a safety channel for 100 us, so the gap counts as OFF and ES059 is raised. -/
  | safetyDataLost (ch : Nat)
  /-- USL_FRAME_RECEIVE (R224). A Safe Layer frame arrives on a receive connection and runs the FORMAT, CRC, IDENT, TIME and SEQ checks.
  -/
  | uslFrameReceive (conn : Nat) (bytes : List Byte)
  /-- USL_FAILED_END (R229). CORRUPT_WIN passes without a corruption and both sub-channels return to SYNC. -/
  | uslFailedEnd (conn : Nat)
  /-- USL_WATCHDOG (R228). No frame is accepted within PERIOD_WD and the sub-channel goes to SYNC. -/
  | uslWatchdog (conn sub : Nat)
  /-- USL_PERIODIC_SEND (R219). A transmit connection sends its periodic frame at each multiple of PERIOD_WD. -/
  | uslPeriodicSend (conn : Nat)
  /-- USL_EVENT_HOLDOFF_END (R219). The 100 us spacing of event frames ends and a delayed event frame is sent. -/
  | uslEventHoldoffEnd (conn : Nat)
  /-- LOOP_EVALUATION (R254). A free lane starts the ready instance with the earliest deadline and evaluates it to a candidate. -/
  | loopEvaluation (lane dur : Nat)
  /-- TUNE_START (R262). A BUFFERED TUNE command starts a relay auto-tune in a free slot. -/
  | tuneStart (ring : Nat)
  /-- TUNE_TIMEOUT (R264). TMAX passes before DONE and the tune fails with TIMEOUT. -/
  | tuneTimeout (slot : Nat)
  /-- TUNE_ABORT (R264). A TUNE write of ABORT ends a running tune. -/
  | tuneAbort (ring : Nat)
  /-- TUNE_ACCEPT (R265). A TUNE write of ACCEPT puts the proposed gains in force and frees the slot. -/
  | tuneAccept (ring : Nat)
  /-- TUNE_REJECT (R265). A TUNE write of REJECT frees the slot and changes nothing. -/
  | tuneReject (ring : Nat)
  /-- LOOP_PV (R270). A READ of PV returns the pv of the last evaluation. -/
  | loopPv (ring : Nat)
  /-- LOOP_OUT (R270). A READ of OUT returns u_last. -/
  | loopOut (ring : Nat)
  /-- LOOP_STATUS (R270). A READ of STATUS returns LPE_CTX_STATUS. -/
  | loopStatus (ring : Nat)
  /-- GAIN_TABLE_READ (R270). A READ of GP[k] or GI[k] returns a gain-table breakpoint. -/
  | gainTableRead (ring : Nat)
  /-- DP_CYCLE_BOUNDARY (R313). A DP cycle boundary opens the cycle, and DP fields and inputs resolve. -/
  | dpCycleBoundary
  /-- INTAKE_STAGE (R306). The intake stage classifies samples, updates masks, votes and writes the intake record. -/
  | intakeStage (dur : Nat)
  /-- LATE_WINDOW_END (R295). A 10 s late window ends and each sensor enters or leaves LATE. -/
  | lateWindowEnd
  /-- ESTIMATOR_STAGE (R323). The estimator propagates and updates the filter and predicts to the boundary. -/
  | estimatorStage (dur : Nat)
  /-- CONTROL_LAW_STAGE (R326). The control law forms the force demand and advances the integrals. -/
  | controlLawStage (dur : Nat)
  /-- INTACT_SOLVE (R331). The allocation solver runs the intact solve on logical lane 0. -/
  | intactSolve (dur : Nat)
  /-- DELIVERY (R334). The thruster commands of the intact result are written as candidates within 20 us of the solve. -/
  | delivery
  /-- CONSEQUENCE_SOLVE (R335). A failure group's consequence solve runs and yields its verdict. -/
  | consequenceSolve (group dur : Nat)
  /-- CONSEQUENCE_CUTOFF (R315). At B + 1 900 000 the unfinished consequence solves are abandoned and marked NOT_DONE. -/
  | consequenceCutoff
  /-- SELECT (R308). A WRITE of SELECT selects or deselects a sensor slot or thruster. -/
  | select (ring : Nat)
  /-- READMIT (R301). A READMIT write clears a reference's VOTED_OUT latch at the next boundary. -/
  | readmit (ring : Nat)
  /-- FUSION_MODE (R291). A FUSION_MODE order switches between aligned and latest-value intake at a boundary. -/
  | fusionMode (ring : Nat)
  /-- RE_ORIGIN (R307). A RE_ORIGIN write moves the working origin at the next boundary. -/
  | reOrigin (ring : Nat)
  /-- INTAKE_STATUS (R308). A READ of STATUS returns DPE_SNS_STATUS or DPE_IN_STATUS. -/
  | intakeStatus (ring : Nat)
  /-- DP_ENABLE (R312). A DP_ENABLE order moves the DP engine between STANDBY and ACTIVE. -/
  | dpEnable (ring : Nat)
  /-- SP_HERE (R344). An SP_HERE write sets the setpoint targets to the estimate at the next boundary. -/
  | spHere (ring : Nat)
  /-- GROUP_EN (R344). A GROUP_EN order enables or disables a failure group. -/
  | groupEn (ring : Nat)
  /-- DP_STATUS (R344). A READ of STATUS returns DPE_STATUS or DPE_THR_STATUS. -/
  | dpStatus (ring : Nat)
  /-- ROLE_SEND (R350). Every 5 ms, and after any change of FLAGS, a ROLE message is sent on each partner link. -/
  | roleSend
  /-- ROLE_RECEIVE (R352). A valid ROLE message updates liveness, OFS, grants, the partner's role, elections and dual-active resolution.
  -/
  | roleReceive (k : Nat) (msg : List Byte)
  /-- DEPART_SEND (R356). A module leaving Active or Standby sends its DEPART messages 100 us apart. -/
  | departSend
  /-- LIVENESS_LOSS (R352). A partner link stops being live and, with both lost, the partner is no longer heard. -/
  | livenessLoss (k : Nat)
  /-- LEASE_FENCE (R362). At E_A - G an Active module without SOLE becomes Isolated. -/
  | leaseFence
  /-- LEASE_EXPIRY (R363). At or after E_S a Standby meeting the conditions becomes Active. -/
  | leaseExpiry
  /-- TAKE (R358). PTN_CTRL.TAKE makes a Standby that has not heard its partner Active. -/
  | take (link : Nat)
  /-- CLR_ERRS (R387). PTN_CTRL.CLR_ERRS clears the discarded-message counts of both links. -/
  | clrErrs (link : Nat)
  /-- START_ALONE (R358). A Standby that hears no partner for 2 x ST after Ready becomes Active by itself. -/
  | startAlone
  /-- SEED_RESTORE_COMPLETE (R366). The seed is restored into the engines and the channel commands, latches, loops and DP resume. -/
  | seedRestoreComplete
  /-- SEED_RECEIVE (R380). A SEED message arrives, is checked and becomes the held seed or is rejected. -/
  | seedReceive (k : Nat) (msg : List Byte)
  /-- PARTNER_USL_RECEIVE (R350). A USL message on a partner link hands its Safe Layer frame to the safety engine. -/
  | partnerUslReceive (k : Nat) (msg : List Byte)
  /-- SEED_COMMIT_COMPLETE (R382). The commit of a captured seed to its MRAM slot completes. -/
  | seedCommitComplete (ok : Bool)
  /-- HANDOVER (R371). A HANDOVER write to the Active module starts a planned handover. -/
  | handover (ring : Nat)
  /-- ROLE_STATUS (R385). A READ of ROLE returns PTN_STATUS. -/
  | roleStatus (ring : Nat)
  /-- HANDOVER_BOUNDARY (R371). At the handover boundary the handover seed is captured and the Active module's engines stop. -/
  | handoverBoundary
  /-- HANDOVER_RESTORE (R371). The Standby restores the handover seed and confirms it in its ROLE messages. -/
  | handoverRestore
  /-- HANDOVER_TICK (R372). At H the roles exchange, or the handover is cancelled. -/
  | handoverTick
  /-- OVERLAP_WINDOW_END (R373). The overlap window ends and the former Active module becomes Standby. -/
  | overlapWindowEnd
  /-- DRILL_DUE (R384). A Standby's time since Active reaches DRILL_DUE days, or a further 24 h, and ES213 fires. -/
  | drillDue
  /-- PARTNER_LINK_CHANGE (R351). A partner link trains or drops, restarting its LINK_SEQ. -/
  | partnerLinkChange (k : Nat) (up : Bool)
  /-- CAN_FRAME_RECEIVE (R393). A valid CAN frame goes to the lowest matching object, the catch buffer or the default ring. -/
  | canFrameReceive (ctl : Nat) (frame : Machine.CanFrame)
  /-- CAN_LAUNCH (R402). A HOST object's frame becomes pending at its launch tick or at fetch. -/
  | canLaunch (ring : Nat)
  /-- CAN_ATTEMPT_START (R403). The lowest-identifier pending frame starts arbitration at bus idle. -/
  | canAttemptStart (ctl : Nat)
  /-- CAN_TX_COMPLETE (R400). A transmission succeeds and the frame is written back with its timestamp. -/
  | canTxComplete (ctl tdcv : Nat)
  /-- CAN_ATTEMPT_FAILED (R403). An attempt loses arbitration or meets an error and is retried or failed. -/
  | canAttemptFailed (ctl : Nat) (err : Machine.CanFailure) (tdcv : Nat)
  /-- RECOVER (R406). A RECOVER write starts bus-off recovery. -/
  | recover (link ctl : Nat)
  /-- RECOVERED (R406). Bus-off recovery ends after 128 x 11 recessive bits and the controller returns to error-active. -/
  | recovered (ctl : Nat)
  /-- CAN_CLR_COUNTS (R411). A CLR_COUNTS write clears the controller's counters. -/
  | canClrCounts (link ctl : Nat)
  /-- CAN_MODE_CHANGE (R389). At the first bus idle after a role change the controller switches between normal and monitoring mode. -/
  | canModeChange (ctl : Nat)
  /-- DATA (R408). A BUFFERED DATA command returns the object's frame and clears OVERRUN. -/
  | data (ring : Nat)
  /-- LOCK (R394). A LOCK write locks or unlocks an object's main buffer and moves the shadow at unlock. -/
  | lock (ring : Nat)
  /-- TX_EN (R408). A TX_EN order makes a transmit object silent or sending. -/
  | txEn (ring : Nat)
  /-- OBJECT_STATUS (R408). A READ of STATUS returns CAN_OBJ_STATUS. -/
  | objectStatus (ring : Nat)
  /-- LOCK_TMO (R408). A lock held for 100 ms is released and LOCK_TMO is latched. -/
  | lockTmo (obj : Nat)
  /-- ETH_FRAME_RECEIVE (R432). An Ethernet frame passes the PRP check and is offered to its consumers in order. -/
  | ethFrameReceive (port : Nat) (frame : List Byte) (rx : Nat) (dropped : Bool)
  /-- NODE_FORGET (R431). A node table entry with no frame for ENTRY_FORGET is removed. -/
  | nodeForget (net mac : Nat)
  /-- PRP_SUPERVISION (R430). An Active module sends PRP supervision frames every 2 s. -/
  | prpSupervision
  /-- ETH_LAUNCH (R435). An MTX Ethernet frame is handed to its port MACs at its launch tick or at fetch. -/
  | ethLaunch (ring : Nat)
  /-- ETH_FRAME_SENT (R434). An Ethernet frame has been sent and is written back with its timestamp. -/
  | ethFrameSent (net : Nat) (tx : Machine.TxStamps)
  /-- RECEIVING_TIMEOUT (R436). A stream accepts no datagram for 2 s and RECEIVING clears. -/
  | receivingTimeout (stream : Nat)
  /-- ETH_LINK_CHANGE (R430). An Ethernet port links or drops and LINK_CHG is latched. -/
  | ethLinkChange (port : Nat) (up : Bool)
  /-- ETH_CLR_COUNTS (R443). A CLR_COUNTS write clears the network's counters. -/
  | ethClrCounts (link net : Nat)
  /-- REF_QUALIFIED (R413). The 10 MHz reference has been qualified long enough and the timebase moves to it. -/
  | refQualified
  /-- REF_LOST (R413). The reference loses edges or frequency and the timebase moves to the internal oscillator. -/
  | refLost
  /-- INC_WRITE (R415). A write of an increment register sets INC0, INC1 or VT_INC, or is refused when out of range. -/
  | incWrite (link k : Nat) (val : BitVec 64)
  /-- STEP_WRITE (R416). A write of TIM_STEP0 or TIM_STEP1 steps a shadow clock. -/
  | stepWrite (link k : Nat) (val : BitVec 64)
  /-- SEL (R417). A TIM_VT_CTRL write with SEL_WR selects the source of vessel time. -/
  | sel (link source : Nat)
  /-- SET_TIME (R418). SET_TIME loads vessel time while it is invalid and free-running. -/
  | setTime (link : Nat)
  /-- SET_VALID (R418). SET_VALID sets VT_VALID. -/
  | setValid (link : Nat)
  /-- CLR_VALID (R418). CLR_VALID clears VT_VALID. -/
  | clrValid (link : Nat)
  /-- SNAP (R420). SNAP captures TB, VT, SC0 and SC1 at one tick. -/
  | snap (link : Nat)
  /-- DISC_HOLD_EXPIRY (R418). DISC_HOLD passes without a discipline write and VT_VALID clears. -/
  | discHoldExpiry
  /-- PPS_IN_EDGE (R427). A rising edge on a PPS input is stamped and ES195 or ES196 fires. -/
  | ppsInEdge (io : Nat)
  /-- PPS_IN_TIMEOUT (R427). No PPS edge arrives for 150 000 000 ticks and the input stops being OK. -/
  | ppsInTimeout (io : Nat)
  /-- PPS_OUT_RISE (R428). A PPS output rises when its source passes a whole second. -/
  | ppsOutRise (io : Nat)
  /-- PPS_OUT_FALL (R428). A PPS output falls WIDTH after its rise. -/
  | ppsOutFall (io : Nat)
  /-- TIME_STATUS (R440). A READ of CLASS 0x06 FIELD 0x00 returns TIM_STATUS. -/
  | timeStatus (ring : Nat)
  /-- VT_NSEC_READ (R440). A READ of FIELD 0x01 returns the VT nanoseconds. -/
  | vtNsecRead (ring : Nat)
  /-- TIME_SNAPSHOT (R440). A BUFFERED FIELD 0x02 returns TB, VT, SC0 and SC1 at one tick. -/
  | timeSnapshot (ring : Nat)
  /-- SENTENCE_RECEIVE (R446). A serial sentence ends and is checked, filtered, converted into templates and staged. -/
  | sentenceReceive (port : Nat) (line : List Byte) (rx : Nat) (framing : List Nat) (fits : Bool)
  /-- SENTENCE_GAP (R446). A gap of more than 20 character times ends the sentence as FORMAT. -/
  | sentenceGap (port : Nat)
  /-- CHUNK_END (R452). A byte-mode chunk ends by count or idle time and is staged. -/
  | chunkEnd (port : Nat) (bytes : List Byte) (rx bad dropped : Nat)
  /-- SERIAL_TRANSMIT (R453). An MTX serial payload is sent unchanged on its port. -/
  | serialTransmit (ring : Nat)
  /-- FAULT_DETECTED (R461). A checker reports a fault and the fault collector opens or merges a record and applies the reaction. -/
  | faultDetected (source : Nat) (loc : Word) (persistent forced : Bool) (info : FaultInfo)
  /-- FAULT_HANDLING_END (R457). The handling of every fault in a record ends and the record closes. -/
  | faultHandlingEnd (domain : Nat)
  /-- STAGE_HANG (R459). An instance still runs 2 x D_cur + 4 000 ticks after its start and a STAGE_HANG fault is raised. -/
  | stageHang (activity site : Nat)
  /-- CORE_SUPPLY (R459). The core rail stays outside its window for 10 us and the module isolates. -/
  | coreSupply
  /-- SCRUB_PASS_END (R464). A full scrub pass ends and ES228 fires. -/
  | scrubPassEnd (area corrected : Nat)
  /-- FORCE_WRITE (R467). A write to a force register arms forced faults, or is refused outside Factory, Open or Full. -/
  | forceWrite (link which : Nat) (val : Word)
  /-- REPLICA_MEASUREMENT (R471). Every 100 us the monitor times each working replica and updates s_cur, the margin state and trim
  requests. -/
  | replicaMeasurement (readings : List Nat)
  /-- BARK_MEASUREMENT (R471). Every 1 s the monitor times the bark replica and forms the ageing ratio g. -/
  | barkMeasurement (barks : List Nat)
  /-- MARGIN_OUT (R478). A D_cur exceeds its budget for 10 ms and the activity's reaction applies. -/
  | marginOut (activity : Nat)
  /-- AGE_SAVE (R474). Every 0.1 h the service age is saved to the growth area. -/
  | ageSave
  /-- MARK_CLOSE (R474). A mark closes every 730.5 h, the fit is recomputed and the twelfth mark writes the ring record. -/
  | markClose
  /-- TRIM_STEP_DOWN (R479). After 24 h within 0.80 of every budget the module requests a step down. -/
  | trimStepDown
  /-- TRIM_REQ_REPEAT (R556). An unanswered TRIM_REQ is sent again after 20 ms. -/
  | trimReqRepeat
  /-- TRIM_ACK (R556). A TRIM_ACK from the carrier sets the applied step and moves the core regulator. -/
  | trimAck (bytes : List Byte)
  /-- TRIM (R479). The applied step still differs from the request 10 ms after it and a TRIM fault is raised. -/
  | trim
  /-- CLR (R484). A CLR write clears a monitor's statistics. -/
  | clr (link mon : Nat)
  /-- RECORD_WRITTEN (R498). The recorder writes a held snapshot as a record to sapwood and heartwood. -/
  | recordWritten
  /-- FIRE (R519). A FIRE write fires a HOST recorder trigger. -/
  | fire (ring : Nat)
  /-- RECORDER_STATUS (R519). A READ of recorder STATUS returns REC_STATUS. -/
  | recorderStatus (ring : Nat)
  /-- DISPLAY_UPDATE_START (R509). An update starts when targets differ from SHOWN and the driver is free. -/
  | displayUpdateStart
  /-- DISPLAY_FRAME (R510). A waveform frame drives active segments with alternating polarity. -/
  | displayFrame
  /-- FULL_REFRESH (R517). A full refresh runs its light and dark phases when the driver falls idle. -/
  | fullRefresh
  /-- REFRESH_PERIOD (R517). REFRESH_PERIOD hours of powered time pass and a full refresh is requested. -/
  | refreshPeriod
  /-- THERMISTOR_READ (R513). Every 100 ms the panel temperature is read and the band moves. -/
  | thermistorRead (temp : Option Int)
  /-- RAIL_CHECK (R516). Every 1 ms the display rails are checked and a waveform stops when a rail is out of range. -/
  | railCheck (pos neg vcom : Nat)
  /-- HEARTBEAT (R506). The HEARTBEAT status bit toggles every HB_PERIOD seconds. -/
  | heartbeat
  /-- DISPLAY_VALUE (R508). A VALUE order sets a display host word. -/
  | displayValue (ring : Nat)
  /-- REFRESH (R519). A REFRESH write requests a full refresh. -/
  | refresh (ring : Nat)
  /-- DISPLAY_STATUS (R519). A READ of display STATUS returns DSP_STATUS. -/
  | displayStatus (ring : Nat)
  /-- SEC_CONFIRM_WRITE (R525). A typed value is written to SEC_CONFIRM and starts the 60 s window under the key. -/
  | secConfirmWrite (src : Nat) (val : Word)
  /-- OPEN (R524). OPEN moves the lifecycle from Factory to Open. -/
  | openAction (src : Nat)
  /-- SEAL (R527). SEAL moves the lifecycle from Open to Sealed and writes the SEAL record. -/
  | seal (src : Nat)
  /-- UNSEAL (R527). UNSEAL moves the lifecycle from Sealed to Open. -/
  | unseal (src : Nat)
  /-- RETIRE (R528). RETIRE takes the bank out of force, erases the banks and seeds and ends participation. -/
  | retire (src : Nat)
  /-- DBG_SET (R532). DBG_SET raises or lowers the debug level under the lifecycle rules. -/
  | dbgSet (src level : Nat)
  /-- REG_READ (R531). A debug REG_READ returns what a host read would return. -/
  | regRead (addr : Word)
  /-- REG_WRITE (R531). A debug REG_WRITE acts as a host-link write at debug level Full. -/
  | regWrite (addr val : Word)
  /-- ARRAY_READ (R531). A debug ARRAY_READ returns a corrected internal array word. -/
  | arrayRead (loc : Word) (corrected : Option Nat)
  /-- DBG_NOP (R530). A DBG_CMD NOP captures the result of the previous operation. -/
  | dbgNop
  /-- LOGIC_FEED_LOST (R534). A logic feed has been out of range for 100 us, and with both lost the module enters Ride-through. -/
  | logicFeedLost (feed : Nat)
  /-- LOGIC_FEED_RESTORED (R534). A logic feed has been in range for 10 ms and ends Ride-through. -/
  | logicFeedRestored (feed : Nat)
  /-- RIDE_THROUGH_TIMEOUT (R536). 20 ms of Ride-through pass and the power-down sequence starts. -/
  | rideThroughTimeout
  /-- HOLDUP_RESERVE (R536). The store falls to its 0.40 J reserve and the power-down sequence starts. -/
  | holdupReserve (mj : Nat)
  /-- POWER_OFF (R537). The power-down sequence ends and the logic power goes off. -/
  | powerOff
  /-- WAKE_TEST (R535). On leaving Hold the gated tiles are powered and tested, and failing lanes are fenced. -/
  | wakeTest (fails : List Word)
  /-- COMPLETION_TIMEOUT (R90). A read of a descriptor or data buffer gets no completion within the 10 ms completion timeout and fails. -/
  | completionTimeout (ring : Nat) (idx : Option Nat)
  /-- BUFFER_READ_COMPLETION (R90). The completion of a read of a data buffer (an MTX payload or a BUFFERED command buffer) arrives from
  host memory, carrying the data or a failure. -/
  | bufferReadCompletion (ring idx : Nat) (data : Option (List Byte))
  /-- VECTOR_UNMASK (R112). Host software unmasks an MSI-X vector whose pending bit is set, and the pending message is sent. -/
  | vectorUnmask (link vec : Nat)
  /-- LINK_RETRAIN (R78). A host link that is up retrains to another speed or width, and DEGRADED changes and ES006 fires. -/
  | linkRetrain (link : Nat) (degraded : Bool)
  /-- LISTEN_WINDOW_END (R142). The overlap window [t_x, t_x + max(W_O, 600 000)) after an unplanned entry into Active ends, and AI, DI
  and PI channels leave LISTEN for SERVE. -/
  | listenWindowEnd
  /-- SLEW_COMPLETE (R417). Vessel time closes to within STEP of the selected shadow clock, follows it exactly, clears SLEWING and fires
  ES193. -/
  | slewComplete
  /-- SERIAL_TX_COMPLETE (R453). The last character of an MTX serial payload leaves the port, the descriptor is written back and the next
  frame of the port may start. -/
  | serialTxComplete (port : Nat)
  /-- ERROR_FRAME_DETECTED (R405). A controller detects an error while receiving another node's frame, updates REC, LEC and the error
  state and counts the error frame. -/
  | errorFrameDetected (ctl lec : Nat) (one : Bool) (eights : Nat)
  /-- HOLDUP_LOW (R560). The hold-up store falls below 1.6 J in Run or Hold, and ES253 fires. -/
  | holdupLow (mj : Nat)
  deriving DecidableEq, Repr

end Sys2Proof
end

