-- ==== Sys2Proof/Decode.lean ====
section
/-! DEFINITION. The command that a word spells. The opcode table gives no row any bits (every row's `fields` is empty): the commands are
register accesses, messages, frames and events, and no word of the table spells one. -/

namespace Sys2Proof

/-- The command that the `nbits` low bits of `w` spell by the bits of spec/opcode_table.json: none, since no row gives bits. -/
def decodeTableWord (_nbits _w : Nat) : Option Instr := none

end Sys2Proof
end

