-- ==== Sys2Proof/Machine/Tab.lean ====
section
/-! DEFINITION. Sparse tables in canonical form: reading, writing, the canonical form itself, and bytes of memory as
little-endian words (R60: "It reads every multi-byte field in little-endian order"). -/

namespace Sys2Proof.Machine

/-- What key `k` of the table reads as; `d` where the table lists nothing for it. -/
def tget {α : Type} (d : α) : Tab α → Nat → α
  | [], _ => d
  | (j, v) :: t, k => if j = k then v else tget d t k

/-- A table that lists nothing for key `k`, with the entry `v` put at its place in the order. -/
def tput {α : Type} (k : Nat) (v : α) : Tab α → Tab α
  | [] => [(k, v)]
  | (j, w) :: t => if k < j then (k, v) :: (j, w) :: t else (j, w) :: tput k v t

/-- The table with `v` at key `k`. Writing the value an unlisted key reads as removes the entry. -/
def tset {α : Type} [DecidableEq α] (d : α) (t : Tab α) (k : Nat) (v : α) : Tab α :=
  let u := t.filter fun p => p.1 != k
  if v = d then u else tput k v u

/-- The table with the value at `k` replaced by `f` of it. -/
def tmod {α : Type} [DecidableEq α] (d : α) (t : Tab α) (k : Nat) (f : α → α) : Tab α :=
  tset d t k (f (tget d t k))

/-- Every key of the table is above `k`. -/
def tabove {α : Type} (k : Nat) (t : Tab α) : Bool := t.all fun p => decide (k < p.1)

/-- The canonical form: keys strictly rising and no entry equal to what an unlisted key reads as. -/
def twf {α : Type} [DecidableEq α] (d : α) : Tab α → Bool
  | [] => true
  | (j, v) :: t => tabove j t && decide (v ≠ d) && twf d t

/-- `f` applied to every entry; one that comes to read as an unlisted key is dropped. -/
def tmap {α : Type} [DecidableEq α] (d : α) (f : α → α) (t : Tab α) : Tab α :=
  (t.map fun p => (p.1, f p.2)).filter fun p => decide (p.2 ≠ d)

/-- `f` applied at each of the keys `0 … n-1`. -/
def tmodAll {α : Type} [DecidableEq α] (d : α) (f : Nat → α → α) : Nat → Tab α → Tab α
  | 0, t => t
  | n + 1, t => tmod d (tmodAll d f n t) n (f n)

/-- The byte at address `a` of a memory whose unlisted bytes read 0. -/
def byteAt (m : Tab Byte) (a : Nat) : Byte := tget 0 m a

/-- The little-endian 32-bit word at byte address `a`. -/
def wordAt (m : Tab Byte) (a : Nat) : Word :=
  byteAt m (a + 3) ++ byteAt m (a + 2) ++ byteAt m (a + 1) ++ byteAt m a

/-- The memory that holds `bs` from address `a` on, over `m`. -/
def putBytes (m : Tab Byte) (a : Nat) : List Byte → Tab Byte
  | [] => m
  | x :: xs => putBytes (tset 0 m a x) (a + 1) xs

/-- The canonical form of a memory. -/
abbrev memWf (m : Tab Byte) : Bool := twf (0 : Byte) m

/-- The `n` bytes from address `a` on. -/
def bytesFrom (m : Tab Byte) (a : Nat) : Nat → List Byte
  | 0 => []
  | n + 1 => byteAt m a :: bytesFrom m (a + 1) n

/-- The four bytes of a word, least significant first. -/
def wordBytes (w : Word) : List Byte :=
  [w.extractLsb' 0 8, w.extractLsb' 8 8, w.extractLsb' 16 8, w.extractLsb' 24 8]

/-- The little-endian number of a list of bytes. -/
def leNat : List Byte → Nat
  | [] => 0
  | x :: xs => x.toNat + 256 * leNat xs

/-- `n` bytes of a number, least significant first. -/
def leBytes : Nat → Nat → List Byte
  | 0, _ => []
  | n + 1, v => BitVec.ofNat 8 v :: leBytes n (v / 256)

/-- The `n` bytes of a list from position `p` on as a little-endian number; missing bytes count 0. -/
def leAt (bs : List Byte) (p n : Nat) : Nat := leNat ((bs.drop p).take n)

/-- The `n` bytes of a list from position `p` on as a big-endian number (network order). -/
def beAt (bs : List Byte) (p n : Nat) : Nat := leNat ((bs.drop p).take n).reverse

/-- The words of a list of bytes, little-endian, the last one filled up with zero bytes; fuel `n`. -/
def wordsOf : Nat → List Byte → List Word
  | 0, _ => []
  | n + 1, bs => BitVec.ofNat 32 (leNat (bs.take 4)) :: wordsOf n (bs.drop 4)

/-- The bytes of a list of words. -/
def bytesOf (ws : List Word) : List Byte := ws.flatMap wordBytes

end Sys2Proof.Machine
end

