-- ==== Sys2Proof/Machine/Bits.lean ====
section
/-! DEFINITION. Bit fields of words, counters that saturate or wrap, and composing a register from its fields. -/

namespace Sys2Proof.Machine

/-- Bit `i` of a word. -/
def bit (w : Word) (i : Nat) : Bool := w.getLsbD i

/-- The field of `len` bits of a word whose lowest bit is bit `lo`. -/
def fld (w : Word) (lo len : Nat) : Nat := w.toNat / 2 ^ lo % 2 ^ len

/-- The field as a two's complement number. -/
def sfld (w : Word) (lo len : Nat) : Int :=
  let v := fld w lo len
  if v < 2 ^ (len - 1) then (v : Int) else (v : Int) - (2 ^ len : Nat)

/-- A word from a number. -/
def w32 (n : Nat) : Word := BitVec.ofNat 32 n

/-- A word from an integer, two's complement. -/
def w32i (n : Int) : Word := BitVec.ofInt 32 n

/-- The low word of a 64-bit value. -/
def loW (n : Nat) : Word := BitVec.ofNat 32 n

/-- The high word of a 64-bit value. -/
def hiW (n : Nat) : Word := BitVec.ofNat 32 (n / 2 ^ 32)

/-- A 64-bit number from its low and high word. -/
def join64 (lo hi : Word) : Nat := lo.toNat + 2 ^ 32 * hi.toNat

/-- A word with bit `i` set to `v`. -/
def putBit (w : Word) (i : Nat) (v : Bool) : Word :=
  if v then w ||| BitVec.ofNat 32 (2 ^ i) else w &&& ~~~ BitVec.ofNat 32 (2 ^ i)

/-- A register composed of fields, each given as (lowest bit, length, value). Bits no field names read 0 (R14). -/
def regOf (fs : List (Nat × Nat × Nat)) : Word :=
  BitVec.ofNat 32 (fs.foldl (fun a f => a + f.2.2 % 2 ^ f.2.1 * 2 ^ f.1) 0)

/-- A truth value as a bit of a register. -/
def b1 (v : Bool) : Nat := if v then 1 else 0

/-- A word with the bits of a list of truth values from bit 0 up. -/
def wordOfBools (l : List Bool) : Word :=
  BitVec.ofNat 32 (l.foldr (fun v a => b1 v + 2 * a) 0)

/-- The bits set by a predicate on bit numbers 0 to 31. -/
def wordOfFn (f : Nat → Bool) : Word := wordOfBools ((List.range 32).map f)

/-- A count that stays at its greatest value `top`. -/
def satAdd (top n k : Nat) : Nat := if n + k < top then n + k else top

/-- Add to a 32-bit count that saturates. -/
def sat32 (n k : Nat) : Nat := satAdd (2 ^ 32 - 1) n k

/-- Add to a 16-bit count that saturates. -/
def sat16 (n k : Nat) : Nat := satAdd (2 ^ 16 - 1) n k

/-- Add to an 8-bit count that saturates. -/
def sat8 (n k : Nat) : Nat := satAdd 255 n k

/-- Add to a 32-bit count that wraps. -/
def wrap32 (n k : Nat) : Nat := (n + k) % 2 ^ 32

/-- The least multiple of `m` that is at or after `t`. -/
def nextMultiple (m t : Nat) : Nat := (t + (m - 1)) / m * m

/-- Division rounded up. -/
def ceilDiv (a b : Nat) : Nat := (a + (b - 1)) / b

/-- Element `i` of a list of words; 0 beyond its end. -/
def wAt (l : List Word) (i : Nat) : Word := l.getD i 0

/-- A list with element `i` replaced (unchanged when there is none). -/
def lset {α : Type} (l : List α) (i : Nat) (v : α) : List α := l.set i v

/-- The greatest of a list of numbers, 0 for none. -/
def maxOf (l : List Nat) : Nat := l.foldl max 0

/-- The number of elements a test accepts. -/
def countOf {α : Type} (p : α → Bool) (l : List α) : Nat := (l.filter p).length

/-- Insert before the first entry with a larger key. -/
def insertTick {α : Type} (key : α → Nat) (x : α) : List α → List α
  | [] => [x]
  | y :: l => if key x < key y then x :: y :: l else y :: insertTick key x l

/-- The entries in the order of their ticks; equal ticks keep their order. -/
def sortTicks {α : Type} (key : α → Nat) (l : List α) : List α := l.foldl (fun a x => insertTick key x a) []

/-- Whether a number carries no repeat in a list and the like: the first position at which a test holds. -/
def firstIdx {α : Type} (p : α → Bool) (l : List α) : Option Nat := l.findIdx? p

/-- The first element of a list of checks that fails, in order. -/
def firstSome {α : Type} : List (Option α) → Option α
  | [] => none
  | some a :: _ => some a
  | none :: l => firstSome l

/-- A fault or failure reported when a condition holds. -/
def failIf {α : Type} (c : Bool) (a : α) : Option α := if c then some a else none

end Sys2Proof.Machine
end

