-- ==== Sys2Proof/Machine/CanState.lean ====
section
/-! DEFINITION. State of the CAN controllers and of the serial ports (chapters 12 and 14). -/

namespace Sys2Proof.Machine

/-- A frame with the tick of Table 9.3, or its transmit timestamp (R394, R400). -/
structure CanTaken where
  frame : CanFrame := {}
  tick : Nat := 0
  deriving DecidableEq, Repr

/-- A frame that waits for the bus (R401 to R404). -/
structure CanPend where
  frame : CanFrame := {}
  /-- MTX ring and descriptor index; none for a CYCLIC or USL frame. -/
  mtx : Option (Nat × Nat) := none
  late : Bool := false
  /-- Start-of-frame tick of the attempt in progress. -/
  inArb : Option Nat := none
  /-- A cancel has come during the attempt. -/
  cancel : Bool := false
  /-- Frame that takes its place when the attempt ends (R401). -/
  next : Option CanFrame := none
  deriving DecidableEq, Repr

/-- A message object (R392 to R396, Table 12.16). -/
structure CanObj where
  main : Option CanTaken := none
  shadow : Option CanTaken := none
  /-- Frame taken at this tick while locked with a full shadow: it overwrites the shadow once the tick is over without an unlock
  (R394). -/
  third : Option CanTaken := none
  /-- Ring that holds the lock, and the tick at which it took it. -/
  locked : Option (Nat × Nat) := none
  overrun : Bool := false
  events : Nat := 0
  sent : Option CanTaken := none
  pend : Option CanPend := none
  /-- Send instants whose assembly the freeze has deferred, the oldest first (R29). -/
  due : List Nat := []
  /-- A takeover without a usable seed has silenced the object until an engine writes it (R368). -/
  hush : Bool := false
  deriving DecidableEq, Repr

/-- A frame in the catch buffer: the frame, the object that takes it, and its tick (R397). -/
structure CatchFrame where
  frame : CanFrame := {}
  obj : Option Nat := none
  tick : Nat := 0
  deriving DecidableEq, Repr

/-- A CAN controller (Table 12.7). -/
structure CanCtl where
  state : Nat := 3
  monitor : Bool := false
  alone : Bool := false
  recovering : Bool := false
  lec : Nat := 0
  tec : Nat := 0
  recc : Nat := 0
  ackRun : Nat := 0
  rx : Nat := 0
  tx : Nat := 0
  catchDrops : Nat := 0
  unmatched : Nat := 0
  errs : Nat := 0
  busOff : Nat := 0
  lateCancels : Nat := 0
  latch : Word := 0
  tdcv : Nat := 0
  caught : List CatchFrame := []
  deriving DecidableEq, Repr

/-- The CAN controllers. -/
structure Can where
  ctls : Tab CanCtl := []
  objs : Tab CanObj := []
  deriving DecidableEq, Repr

/-- A serial port (Table 14.3). -/
structure SerPort where
  /-- Tick of the last good sentence or chunk. -/
  goodAt : Option Nat := none
  good : Nat := 0
  talker : Nat := 0
  framing : Nat := 0
  csum : Nat := 0
  format : Nat := 0
  bufDrop : Nat := 0
  latch : Word := 0
  /-- Payload in transmission: ring, descriptor index, first start bit, and LAUNCH_LATE. -/
  tx : Option (Nat × Nat × Nat × Bool) := none
  /-- RS-485: ticks from which and up to which received characters were last ignored (R444). -/
  quietFrom : Nat := 0
  quiet : Nat := 0
  deriving DecidableEq, Repr

/-- A sentence template (R450, R451, Table 14.3). -/
structure SerTpl where
  valid : Bool := false
  /-- Bit k: field k converted in the newest sentence. -/
  conv : Nat := 0
  vals : List Word := []
  count : Nat := 0
  /-- t_rx of the newest sentence. -/
  rx : Nat := 0
  deriving DecidableEq, Repr

/-- The serial ports. -/
structure Ser where
  ports : Tab SerPort := []
  tpls : Tab SerTpl := []
  deriving DecidableEq, Repr

end Sys2Proof.Machine
end

