-- ==== Sys2Proof/Machine/CoreState.lean ====
section
/-! DEFINITION. State of the host side: links, rings, descriptors, orders, the configuration store and start-up
(chapters 0 to 3). Register indices and counts are numbers; what software sees as a word is composed in the register read. -/

namespace Sys2Proof.Machine

/-- One MSI-X vector of one link (R112, Table 3.1). -/
structure Vec where
  /-- Masked under the PCI Express rules; so after reset (PRESUMED, log 5). -/
  masked : Bool := true
  /-- Pending bit: a message waits for the unmask. -/
  pending : Bool := false
  /-- End tick of the running holdoff; none when no holdoff runs. -/
  holdEnd : Option Nat := none
  /-- A request arrived during the holdoff and merges at its end. -/
  merged : Bool := false
  deriving DecidableEq, Repr

/-- One host link (R13, R77 to R79, R463). -/
structure HostLink where
  up : Bool := false
  degraded : Bool := false
  /-- Read latch: offset of the low word of its register, and the latched high word (R13). -/
  latch : Option (Nat × Word) := none
  /-- Held low word: offset of the low word, and the word (R13). -/
  held : Option (Nat × Word) := none
  /-- Latch of a fault record: its number and words W1 to W7 (R463). -/
  recLatch : Option (Nat × List Word) := none
  /-- Configured max read request size in bytes (Table 3.1): 512, the value PCI Express gives it at reset (PRESUMED, log 127). -/
  maxRead : Nat := 512
  vecs : Tab Vec := []
  deriving DecidableEq, Repr

/-- Ring types of Table 3.2. -/
inductive RingType where
  | cmd | cpl | evt | tlm | mtx | mrx | rrd
  deriving DecidableEq, Repr

/-- Ring states of Table 3.3. -/
inductive RingState where
  | disabled | running | stopped | down
  deriving DecidableEq, Repr

/-- The data buffer of a BUFFERED command or an MTX descriptor (R90). -/
inductive Buf where
  | none | requested | data (bytes : List Byte) | failed
  deriving DecidableEq, Repr

/-- What a descriptor will be written back with. -/
structure Done where
  status : Nat
  result : Word := 0
  tick : Nat := 0
  /-- Bytes for the data buffer: the reply of a BUFFERED command, the records of an RRD. -/
  reply : List Byte := []
  /-- RRD: records delivered (Table 3.12). -/
  delivered : Nat := 0
  deriving DecidableEq, Repr

/-- A descriptor the module has fetched and not yet written back. -/
structure Desc where
  /-- Free-running index (R85). -/
  idx : Nat := 0
  w : List Word := []
  done : Option Done := none
  buf : Buf := .none
  /-- The command has started: its order stands, or its transaction runs, and it awaits its resolution. -/
  started : Bool := false
  /-- CPL ring in which an entry is reserved for the command (R105). -/
  cplTo : Option Nat := none
  /-- MTX: handed to its bus. -/
  handed : Bool := false
  /-- MTX: fetched after its launch tick (R108). -/
  late : Bool := false
  /-- MTX: a cancel has been asked for after the frame was handed over. -/
  cancel : Bool := false
  deriving DecidableEq, Repr

/-- A completion entry in staging (Table 3.8). -/
structure CplEntry where
  tag : Word := 0
  slot : Nat := 0
  ring : Nat := 0
  result : Word := 0
  tick : Nat := 0
  status : Nat := 0
  irq : Bool := false
  deriving DecidableEq, Repr

/-- An event in staging (Table 3.9). -/
structure Evt where
  src : Nat := 0
  overflow : Bool := false
  repeats : Nat := 0
  detail : Word := 0
  first : Nat := 0
  last : Nat := 0
  merged : Nat := 0
  deriving DecidableEq, Repr

/-- A telemetry image in staging (Table 3.10). -/
structure TlmImage where
  image : Nat := 0
  seq : Nat := 0
  tick : Nat := 0
  body : List Byte := []
  deriving DecidableEq, Repr

/-- A received frame in staging (Table 3.11). -/
structure RxFrame where
  bus : Nat := 0
  port : Nat := 0
  obj : Nat := 0
  time : Nat := 0
  flags : Nat := 0
  body : List Byte := []
  deriving DecidableEq, Repr

/-- One ring slot (R80 to R90, Tables 3.17 to 3.20). -/
structure Ring where
  baseLo : Word := 0
  baseHi : Word := 0
  cfg : Word := 0
  cfg2 : Word := 0
  state : RingState := .disabled
  err : Nat := 0
  /-- Host index H. -/
  hIdx : Nat := 0
  /-- Host index that the fetches may use; a doorbell becomes usable 2 ticks after its capture (R24). -/
  hUse : Nat := 0
  /-- Doorbells captured and not usable yet, oldest first: capture tick and H (R24). -/
  bells : List (Nat × Nat) := []
  /-- Module index M. -/
  mIdx : Nat := 0
  /-- Index of the next descriptor to fetch. -/
  fIdx : Nat := 0
  /-- Descriptors asked for by a fetch read that has not returned; 0 for none. -/
  asked : Nat := 0
  /-- The next descriptor, read and left in host memory for want of a staging credit (R88). -/
  blocked : Option Desc := none
  count : Nat := 0
  drops : Nat := 0
  /-- Fetched and not written back, in index order. -/
  fetched : List Desc := []
  /-- MTX: indices that a CANCEL has named and that have not been fetched yet (R99). -/
  cancels : List Nat := []
  /-- RESET waits for the write-backs of STOPPED (R83). -/
  resetting : Bool := false
  cpls : List CplEntry := []
  evts : List Evt := []
  imgs : List TlmImage := []
  frames : List RxFrame := []
  /-- Image sequence number of the last image produced for this ring. -/
  imgSeq : Nat := 0
  /-- MRX frames dropped since the previous write-back (DW6 DROPS). -/
  dropsSince : Nat := 0
  deriving DecidableEq, Repr

/-- A standing host order (R101). -/
structure Order where
  ring : Nat
  prio : Nat
  val : Word
  /-- Index of the WRITE descriptor that awaits its write-back (R104). -/
  waits : Option Nat := none
  deriving DecidableEq, Repr

/-- An engine candidate (R101): its source, its priority and its latest output; the tick of that write and the output before it. -/
structure Cand where
  src : Nat
  prio : Nat
  val : Word
  at' : Nat := 0
  before : Option Word := none
  deriving DecidableEq, Repr

/-- A writable value target (R101, R102). -/
structure Target where
  inForce : Word := 0
  /-- A candidate or an order has resolved on it. -/
  decided : Bool := false
  orders : List Order := []
  cands : List Cand := []
  /-- Commands superseded since the last resolution: ring and index (R104). -/
  superseded : List (Nat × Nat) := []
  /-- RELEASE commands since the last resolution: ring and index (R104). -/
  releases : List (Nat × Nat) := []
  /-- One more than the tick of the last resolution; 0 before the first (R102). -/
  resolved : Nat := 0
  deriving DecidableEq, Repr

/-- The ring engine (chapter 3). -/
structure Rng where
  rings : Tab Ring := []
  conflictCount : Nat := 0
  conflictTarget : Word := 0
  /-- Map bytes that host software has changed from their reset value, as words RNG_ES_MAP00 to 63 with the reset value taken off. -/
  esMap : Tab Word := []
  holdoff : Tab Word := []
  targets : Tab Target := []
  /-- The last fetch read came from the second order of R109. -/
  lastInbound : Bool := false
  /-- Ring of the last fetch read of each class, for round robin (R109). -/
  rrLast : Tab Nat := []
  /-- Ring and index of the MTX descriptors fetched, in the order of fetch (R453). -/
  mtxOrder : List (Nat × Nat) := []
  deriving DecidableEq, Repr

/-- States of the shadow bank (Table 2.11). -/
inductive ShadowState where
  | empty | loading | checking | admitted | rejected | pending
  deriving DecidableEq, Repr

/-- One bank of the configuration store (R58): its MRAM bytes, whether it holds an image, and its confirmation flag. -/
structure Bank where
  mem : Tab Byte := []
  present : Bool := false
  /-- No word of the bank is uncorrectable (Table 2.2). -/
  readable : Bool := true
  /-- Events and completions a second that the module works out for the bank (R47). The spec does not say how: they come with the image (log 46). -/
  events : Nat := 0
  completions : Nat := 0
  confirmed : Bool := false
  deriving DecidableEq, Repr

/-- Start-up and configuration (chapter 2). -/
structure Glb where
  /-- Last completed step of Table 2.1; 15 means Ready. -/
  phase : Nat := 1
  /-- What the rest of the start-up sequence will find, until Ready (log 14). -/
  start : Option StartInfo := none
  /-- The configuration store has been read: the bank bits of GLB_START_STATUS have their meaning. -/
  started : Bool := false
  ready : Bool := false
  /-- The hold-up store reached 1.6 J: MRAM may be written (R51). -/
  mramOk : Bool := false
  /-- SEED_OLD: a seed from before tick 0 was found at start (R53). -/
  seedOld : Bool := false
  /-- That seed has not been discarded yet. -/
  oldSeeds : Bool := false
  marginLow : Bool := false
  selectorBad : Bool := false
  selftest : Word := 0
  addrLo : Word := 0
  addrHi : Word := 0
  len : Word := 0
  shadow : ShadowState := .empty
  owner : Nat := 0
  owned : Bool := false
  busyRefused : Bool := false
  cmdErr : Bool := false
  reject : Word := 0
  /-- Typed CRCs, each with the tick of its write (R72). -/
  typedImg : Option (Word × Nat) := none
  typedSaf : Option (Word × Nat) := none
  confirmFails : Nat := 0
  confirmLock : Bool := false
  /-- Debounced COMMISSION_KEY (R71). -/
  key : Bool := false
  /-- Boundary of a pending switch (R67). -/
  switchAt : Option Nat := none
  switchTick : Nat := 0
  /-- The image CRC of the selected bank passed at step 6 of Table 2.1. -/
  selPassed : Bool := false
  /-- A bank is in force. -/
  active : Bool := false
  /-- Tick at which the bank came into force (R153). -/
  bankTick : Nat := 0
  /-- Bank named by the selector. -/
  bank : Nat := 0
  /-- Reads of the image that have been issued (R63). -/
  readsOut : Nat := 0
  /-- The DMA read of the image failed. -/
  dmaFailed : Bool := false
  /-- Growth admission steps the trim: step under test, and the tick of the next check (R480). -/
  growthStep : Option Int := none
  growthAt : Nat := 0
  /-- The shadow bank is being checked because it was the active bank of a start without a bank in force (R68). -/
  recheck : Bool := false
  bank0 : Bank := {}
  bank1 : Bank := {}
  selA : Option Nat := some 0
  selB : Option Nat := some 0
  deriving DecidableEq, Repr

end Sys2Proof.Machine
end

