-- ==== Sys2Proof/Machine/ChnState.lean ====
section
/-! DEFINITION. State of the channel engine: front ends, the value table, HART modems, groups and images (chapters 4 and 5). -/

namespace Sys2Proof.Machine

/-- An entry of the channel value table with its SAMPLE_TICK (R160, Table 5.2). -/
structure ChnEntry where
  value : Word := 0
  aux : Word := 0
  /-- CHN_CH_STATUS bits [19:0] at the sample instant. -/
  status : Nat := 0
  seq : Nat := 0
  tick : Nat := 0
  deriving DecidableEq, Repr

/-- A HART transaction in flight (R174). `kind`: 0 Command 0, 1 Command 3, 2 Command 48, 3 pass-through. -/
structure HartTrans where
  kind : Nat
  /-- Attempts that have failed. -/
  failed : Nat := 0
  /-- Some attempt got an invalid reply. -/
  invalid : Bool := false
  /-- Pass-through: its ring and descriptor index, and the request. -/
  ring : Nat := 0
  idx : Nat := 0
  request : List Byte := []
  /-- Tick at which the last attempt was sent. -/
  sentAt : Nat := 0
  deriving DecidableEq, Repr

/-- A HART modem and its link (R168 to R178, Table 5.9). -/
structure Hart where
  /-- Link state of Table 5.7. -/
  state : Nat := 0
  errors : Nat := 0
  /-- Unique identifier kept since power-up (R172). -/
  uid : Option (List Byte) := none
  preambles : Nat := 5
  resp : Nat := 0
  devStatus : Nat := 0
  loopCurrent : Word := 0x7FA00000
  pv : Word := 0x7FA00000
  sv : Word := 0x7FA00000
  tv : Word := 0x7FA00000
  qv : Word := 0x7FA00000
  units : List Byte := [0, 0, 0, 0]
  dvSeq : Nat := 0
  dvTick : Nat := 0
  bursts : Nat := 0
  source : Nat := 0
  addStatus : List Byte := [0, 0, 0, 0, 0, 0]
  /-- OUT_STATUS at its last change (R177, R178). -/
  outStatus : Nat := 0
  /-- Consecutive sets of variables out of and within CMP_TOL, and DISAGREE (R177). -/
  disRun : Nat := 0
  agreeRun : Nat := 0
  disagree : Bool := false
  flight : Option HartTrans := none
  /-- Pass-through transactions that wait, in order of arrival. -/
  queue : List HartTrans := []
  /-- Command 0 or 3 is due, Command 48 is due. -/
  pollDue : Bool := false
  due48 : Bool := false
  pollAt : Nat := 0
  last48 : Option Nat := none
  lastBurst : Nat := 0
  /-- Consecutive failed transactions. -/
  fails : Nat := 0
  deriving DecidableEq, Repr

/-- One channel: its front end and what the logic side keeps of it. -/
structure Chan where
  /-- Front-end state of Table 4.8. -/
  fe : Nat := 0
  /-- Bits [19:4] of CHN_CH_STATUS. -/
  st : Word := 0
  latch : Word := 0
  errCount : Nat := 0
  errLongest : Nat := 0
  errRun : Nat := 0
  /-- Command of the last frame that has left `cmds` (R39). -/
  applied : Word := 0
  /-- The last two frames' commands, newest first, each with the tick from which the front end applies it (R39). -/
  cmds : List (Nat × Word) := []
  /-- Measured current in binary32 mA, of a listening input the current in the partner's sink or burden (R141), load current in binary32 A, and a limiter or current limit at work, from the last valid frame. -/
  meas : Word := 0
  load : Word := 0
  limited : Bool := false
  /-- Front-end state before the newest command frame, where that frame changes it (R118). -/
  feBefore : Option Nat := none
  /-- Tick of INIT or RETEST entry. -/
  testAt : Nat := 0
  /-- The front end passed OFF, FENCED or a watchdog episode since it last served (R145). -/
  restart : Bool := false
  /-- RESTART_ACK written: index and ring of the command that waits for the frame boundary. -/
  acks : List (Nat × Nat) := []
  /-- Fold-back: its start, and the release for the retry. -/
  foldAt : Nat := 0
  foldRelease : Option Nat := none
  /-- Deviation: its start, and the tick of the retry. -/
  devAt : Nat := 0
  devRetry : Option Nat := none
  /-- Overload: its start, and that the value in force has been OFF for a frame since (R135). -/
  overAt : Nat := 0
  overOff : Bool := false
  /-- DI, SDI and PI: the classified state of Table 4.5, and the tick of its last change (R131, R159). -/
  cls : Bool := false
  clsAt : Nat := 0
  /-- DI: state in force, and the ticks of its last 64 changes, newest first (R159, R161). -/
  on : Bool := false
  changes : List Nat := []
  /-- PI: edges counted, and the stamps of the last eight, newest first. -/
  edges : Nat := 0
  stamps : List Nat := []
  /-- Filter value y, and the ticks of the entries into SERVE or LISTEN whose first sample is outstanding: it sets y (R158). -/
  y : Word := 0
  firsts : List Nat := []
  cur : ChnEntry := {}
  prev : ChnEntry := {}
  /-- Sample instant whose write is outstanding. -/
  due : Option Nat := none
  /-- CHN_CH_STATUS bits [19:0] at that instant. -/
  dueSt : Nat := 0
  /-- A freeze has deferred that write (R155). -/
  dueLate : Bool := false
  hart : Hart := {}
  deriving DecidableEq, Repr

/-- A channel group's supply (R145 to R149). -/
structure Group where
  okA : Bool := false
  okB : Bool := false
  fieldLost : Bool := false
  overcurrent : Bool := false
  /-- Feed voltages in 50 mV and currents in mA. -/
  voltA : Nat := 0
  voltB : Nat := 0
  curA : Nat := 0
  curB : Nat := 0
  latch : Word := 0
  /-- The group's converters are enabled. -/
  converters : Bool := false
  deriving DecidableEq, Repr

/-- A telemetry image (R165, R166). -/
structure Image where
  count : Nat := 0
  /-- Instant whose assembly is outstanding. -/
  due : Option Nat := none
  /-- The vessel time at that instant. -/
  vt : Nat := 0
  /-- Its start fell in a freeze window. -/
  deferred : Bool := false
  /-- R23 has skipped the instance before the outstanding one, and the last instance (Table 5.4). -/
  skipped : Bool := false
  skipPrev : Bool := false
  /-- Tick at which the last assembly ends (R23), and how long it runs without the freezes. -/
  endAt : Nat := 0
  dur : Nat := 0
  /-- The image of the assembly that runs: it counts and goes to the rings when the assembly ends (R68, R167). -/
  inHand : Option TlmImage := none
  /-- MARGIN_OUT has stopped the image (Table 15.7). -/
  stopped : Bool := false
  deriving DecidableEq, Repr

/-- The channel engine. -/
structure Chn where
  chans : Tab Chan := []
  groups : Tab Group := []
  images : Tab Image := []
  skipSamples : Nat := 0
  skipImages : Nat := 0
  /-- The role has been Active with a bank in force since tick 0 (R140). -/
  served : Bool := false
  /-- R142 keeps AI, DI and PI channels in LISTEN, and the end of the window. -/
  listen : Bool := false
  listenEnd : Nat := 0
  deriving DecidableEq, Repr

end Sys2Proof.Machine
end

