-- ==== Sys2Proof/Machine/DpState.lean ====
section
/-! DEFINITION. State of the DP engine: intake, estimator, control law, allocation and consequence analysis (chapters 9 and 10).
Reals are binary32 words. -/

namespace Sys2Proof.Machine

/-- A sample in a sensor buffer (R275, R277, R281). -/
structure DpSample where
  rx : Nat := 0
  arr : Nat := 0
  /-- F0 to F2 after SCALE and OFFSET; latitude and longitude as integers. -/
  v : List Word := []
  good : Bool := false
  /-- The time field in ms of the day, with the vessel time of day at t_rx in ns. -/
  tSensor : Option Nat := none
  vtDay : Nat := 0
  /-- Set when the intake stage has classed it (R306). -/
  classed : Bool := false
  /-- Sample tick ts, once classed. -/
  ts : Int := 0
  /-- Classed as usable: good, in time and not late. -/
  usable : Bool := false
  /-- It has entered a record, or has been dropped (R288, R291). -/
  spent : Bool := false
  /-- It was classed while its sensor was masked (R297); none before its sensor's masks have been judged. -/
  masked : Option Bool := none
  /-- A value of it saturated (R42). -/
  sat : Bool := false
  deriving DecidableEq, Repr

/-- A position moved to the reference point (R283 to R286). -/
structure DpPos where
  n : Word := 0
  e : Word := 0
  ts : Int := 0
  arr : Nat := 0
  held : Bool := false
  noAtt : Bool := false
  /-- A result on its way saturated (R42). -/
  sat : Bool := false
  deriving DecidableEq, Repr

/-- A sensor slot (Table 9.16). -/
structure DpSlot where
  /-- Oldest sample first. -/
  buf : List DpSample := []
  overwrites : Nat := 0
  aLast : Option Nat := none
  state : Nat := 0
  timeBad : Bool := false
  tq : Nat := 0
  /-- ô in ns. -/
  ofs : Option Int := none
  fault : Bool := false
  faultRun : Nat := 0
  late : Bool := false
  lateN : Nat := 0
  onN : Nat := 0
  votedOut : Bool := false
  voteCount : Nat := 0
  accepted : Nat := 0
  lateCount : Nat := 0
  faults : Nat := 0
  tqEntries : Nat := 0
  voteOuts : Nat := 0
  noHdg : Nat := 0
  dropout : Bool := false
  noHeading : Bool := false
  /-- Alignment offset of a relative reference, and that it has one since it entered OK. -/
  oN : Word := 0
  oE : Word := 0
  aligned : Bool := false
  /-- Latest compensated sample (R298). -/
  last : Option DpPos := none
  deriving DecidableEq, Repr

/-- A position entry of the intake record (Table 9.9). -/
structure DpEntry where
  n : Word := 0
  e : Word := 0
  dt : Nat := 0
  state : Nat := 0
  flags : Nat := 0
  deriving DecidableEq, Repr

/-- An intake record (Table 9.8). -/
structure DpRecord where
  outTick : Nat := 0
  mode : Nat := 1
  pos : Nat := 0
  hdg : Nat := 0
  att : Nat := 0
  wind : Nat := 0
  draftC : Nat := 0
  vote : Nat := 0
  used : Nat := 0
  masked : Nat := 0
  voted : Nat := 0
  heading : Word := 0
  roll : Word := 0
  pitch : Word := 0
  heave : Word := 0
  windS : Word := 0
  windD : Word := 0
  draft : Word := 0
  medN : Word := 0
  medE : Word := 0
  entries : List DpEntry := []
  /-- Median of the voting positions, which takes the place of the medians where no vote of three or more was held (R307). -/
  posN : Word := 0
  posE : Word := 0
  /-- A vote of three or more was held. -/
  three : Bool := false
  /-- A wind sample entered this record. -/
  newWind : Bool := false
  deriving DecidableEq, Repr

/-- A thruster (Table 10.18). -/
structure DpThr where
  avail : Bool := false
  ready : Bool := false
  fbOk : Bool := false
  fenced : Bool := false
  side : Bool := false
  /-- Side in the intact solve of this cycle. -/
  sideNow : Bool := false
  atLimit : Bool := false
  /-- α_fb in degrees. -/
  azFb : Word := 0
  fx : Word := 0
  fy : Word := 0
  /-- Previous command (R330). -/
  prev : Word := 0
  cmdA : Word := 0
  cmdB : Word := 0
  /-- A candidate of CMD_B has been written. -/
  heldB : Bool := false
  deriving DecidableEq, Repr

/-- A consequence result entry (Table 10.7). -/
structure DpResult where
  resX : Word := 0
  resY : Word := 0
  resN : Word := 0
  util : Nat := 0
  verdict : Nat := 0
  run : Nat := 0
  age : Nat := 0
  deriving DecidableEq, Repr

/-- A cycle record (Table 10.9) as its bytes from STATUS on, with OUT_TICK. -/
structure DpCycleRec where
  outTick : Nat := 0
  bytes : List Byte := []
  deriving DecidableEq, Repr

/-- A consequence solve that runs (R338): its group, its logical and physical lane, when it ends, and how long it runs without the freezes. -/
structure DpRun where
  g : Nat
  lane : Nat
  phys : Nat
  stop : Nat
  dur : Nat
  deriving DecidableEq, Repr

/-- The cycle that runs. `stage`: 1 intake is next, 2 estimator, 3 control law, 4 intact solve, 5 consequence solves, 0 none. -/
structure DpCycle where
  b : Nat := 0
  stage : Nat := 0
  /-- End of the stage before. -/
  endAt : Nat := 0
  /-- Delivery is still to come. -/
  deliver : Bool := false
  /-- Groups still to solve, and the end of the last solve on each logical lane. -/
  todo : List Nat := []
  runs : List DpRun := []
  /-- Duration of the intact solve, and the physical lane it runs on. -/
  intactDur : Nat := 0
  intactPhys : Nat := 0
  laneEnd : Tab Nat := []
  /-- Groups that were enabled at the start of the solves, for lane and round. -/
  order : List Nat := []
  /-- Lu for this cycle. -/
  lu : Nat := 0
  notDone : Nat := 0
  /-- The engine was ACTIVE in this cycle. -/
  active : Bool := false
  /-- A solve in this cycle has yielded LOSS, or has been done at all. -/
  loss : Bool := false
  solved : Bool := false
  deriving DecidableEq, Repr

/-- The DP engine (Tables 9.12 and 10.15). -/
structure Dp where
  lat0 : Word := 0
  lon0 : Word := 0
  kn : Word := 0
  ke : Word := 0
  /-- FUSION_MODE in force: 1 latest-value. -/
  mode : Nat := 1
  /-- Consecutive ticks since which POS_CONF has been NORMAL or HIGH; none while it is not. -/
  goodSince : Option Nat := none
  /-- Boundary of the first aligned record of the present aligned run, and the last latest-value boundary (R290, R291). -/
  alignedFrom : Option Nat := none
  /-- Boundaries of the present aligned run at which no record was output (R23, R290). -/
  missed : List Nat := []
  slots : Tab DpSlot := []
  rec1 : Option DpRecord := none
  rec0 : Option DpRecord := none
  records : Nat := 0
  /-- Once-acting commands that wait for the boundary: ring and index (R301, R307, R344). -/
  readmits : List (Nat × Nat × Nat) := []
  reOrigins : List (Nat × Nat) := []
  spHeres : List (Nat × Nat) := []
  /-- The SP_HERE commands of this boundary, which take the estimate at it (R344). -/
  spActs : List (Nat × Nat) := []
  /-- Shift of the origin that the estimator and the setpoints have still to follow (R307). -/
  shiftN : Word := 0
  shiftE : Word := 0
  /-- DP_STATE, EST_STATE. -/
  state : Nat := 0
  est : Nat := 0
  x : List Word := []
  /-- Covariance, 15 rows of 15. -/
  p : List (List Word) := []
  tf : Nat := 0
  drTime : Nat := 0
  rejRun : Nat := 0
  innovRej : Nat := 0
  predHold : Bool := false
  /-- Hats: N, E, ψ (rad), u, v, r at the boundary. -/
  hat : List Word := []
  /-- Cycles since a heading update (R326). -/
  hdgAge : Nat := 0
  /-- Ramped setpoints Ns, Es, ψs (degrees). -/
  sp : List Word := []
  integ : List Word := []
  tau : List Word := []
  /-- Achieved force and residual of the last intact solve. -/
  ach : List Word := []
  res : List Word := []
  /-- Achieved forces of the cycles, newest first: boundary, whether the cycle was ACTIVE, and the force (R317). The newest 32 stand: R323
  reaches back 21 steps at most. -/
  achs : List (Nat × Bool × List Word) := []
  /-- The seed record as the last cycle that completed left it (R27, R341); empty while none has since the engine started. -/
  seed : List Byte := []
  sat : Nat := 0
  numSat : Bool := false
  /-- Filtered wind components, and that the filter has started; wind force. -/
  windX : Word := 0
  windY : Word := 0
  windOn : Bool := false
  fw : List Word := []
  tauCa : List Word := []
  thrs : Tab DpThr := []
  grps : Tab DpResult := []
  intact : DpResult := {}
  conseq : Bool := false
  conseqClear : Nat := 0
  resumed : Bool := false
  /-- Seed record restored and not yet used by the first record (R342): its T_F and DP_STATE. -/
  resume : Option (Nat × Nat) := none
  /-- DP_STATE has become ACTIVE and the control law has not yet set itself up for it (R312). -/
  fresh : Bool := false
  /-- Saturation of the arithmetic in the cycle so far (NUM_SAT). -/
  satNow : Bool := false
  cycle : DpCycle := {}
  cycles : Nat := 0
  notDone : Nat := 0
  overruns : Nat := 0
  /-- Outputs 0 to 63 of the last completed cycle and its boundary (R339). -/
  outs : List Word := []
  outAt : Option Nat := none
  /-- Where a logical solver lane does not run on its own number: one more than its physical lane (R338). -/
  solverMap : Tab Nat := []
  cyc1 : Option DpCycleRec := none
  cyc0 : Option DpCycleRec := none
  /-- SAFE of Tables 15.3 and 15.7: 0 no, 1 asked for, otherwise two more than the boundary at which it took place. -/
  safe : Nat := 0
  deriving DecidableEq, Repr

end Sys2Proof.Machine
end

