-- ==== Sys2Proof/Machine/FltState.lean ====
section
/-! DEFINITION. State of the fault collector, the monitors, the performance counters and the growth-ring monitor (chapter 15). -/

namespace Sys2Proof.Machine

/-- The units a fence can take (R33, Table 15.3). -/
inductive FUnit where
  | hostLink (i : Nat) | hart | channel (n : Nat) | can (c : Nat) | eth (p : Nat) | ser (p : Nat) | partner (k : Nat)
  | loopLane (l : Nat) | solverLane (l : Nat) | monitors | counters | growth | recorder (tile : Nat) | display
  deriving DecidableEq, Repr

/-- What Table 15.3 gives the unit at a location. -/
inductive UnitReaction where
  | fence (u : FUnit) | safeLoops (rowGroup : Nat) | safeLoopLane (lane : Nat) | safeDp | safeImage (i : Nat) | isolate
  deriving DecidableEq, Repr

/-- One fault of a record: its source and location, and whether it has become persistent (R462). -/
structure FaultMember where
  source : Nat
  loc : Word
  persistent : Bool
  /-- Activity index of an AGEING fault, else 0. -/
  act : Nat
  deriving DecidableEq, Repr

/-- A fault record (Table 15.4). -/
structure FaultRec where
  source : Nat := 0
  cls : Nat := 0
  reaction : Nat := 0
  persistent : Bool := false
  forced : Bool := false
  isOpen : Bool := false
  merges : Nat := 0
  loc : Word := 0
  first : Nat := 0
  last : Nat := 0
  lastSource : Nat := 0
  seq : Nat := 0
  lastLoc : Word := 0
  /-- The record has been written since power-up. -/
  used : Bool := false
  /-- The faults of the record, oldest first. -/
  members : List FaultMember := []
  deriving DecidableEq, Repr

/-- Latch of one event source in the fault collector (Table 1.4): set, and the number of repeats. -/
structure SrcLatch where
  set : Bool := false
  repeats : Nat := 0
  deriving DecidableEq, Repr

/-- When a fence was applied, and the logical lane that a fenced lane carried (R457). -/
structure FenceNote where
  unit : FUnit
  at' : Nat
  lane : Option Nat
  deriving DecidableEq, Repr

/-- The fault collector (R457 to R469, Table 15.11). -/
structure Flt where
  recs : Tab FaultRec := []
  newest : Nat := 0
  seq : Nat := 0
  corrected : Nat := 0
  fences : Nat := 0
  merges : Nat := 0
  sramCorrected : Nat := 0
  sramStuck : Nat := 0
  mramCorrected : Nat := 0
  mramUe : Nat := 0
  /-- Tick of the last full pass over the SRAM and over the MRAM. -/
  sramPass : Nat := 0
  mramPass : Nat := 0
  rotaCount : Nat := 0
  rotaNext : Nat := 0
  forceLo : Word := 0
  forceHi : Word := 0
  forceLoc : Word := 0xFFFFFFFF
  forceMode : Nat := 0
  /-- Sources whose ONCE force is spent (R467). -/
  spent : List Nat := []
  forceRefused : Bool := false
  injected : Nat := 0
  isolated : Bool := false
  latches : Tab SrcLatch := []
  /-- Ticks and locations of past credit mismatches (Table 15.2, CREDIT). -/
  creditLog : List (Word × Nat) := []
  fenced : List FUnit := []
  /-- A note of every fence, the newest first. -/
  notes : List FenceNote := []
  /-- Second of the timebase whose rota scan has come (R469). -/
  rotaSec : Nat := 0
  /-- Checkers forced in the running 24 h. -/
  rotaDone : Nat := 0
  deriving DecidableEq, Repr

/-- One monitor (R483). -/
structure Monitor where
  min : Word := 0
  max : Word := 0
  count : Nat := 0
  invalid : Nat := 0
  bins : Tab Nat := []
  deriving DecidableEq, Repr

/-- Entry of one site in a mark or a ring record (Table 15.8). -/
structure SiteEntry where
  gMean : Word := 0
  gMax : Word := 0
  sObsMax : Word := 0
  k : Word := 0
  rhoMax : Word := 0
  near : Nat := 0
  exceed : Nat := 0
  deriving DecidableEq, Repr

/-- A mark or ring record in the growth area (R482). -/
structure MarkRec where
  startAge : Nat := 0
  endAge : Nat := 0
  trim : Int := 0
  /-- The record is there and its CRC passes. -/
  valid : Bool := false
  sites : Tab SiteEntry := []
  deriving DecidableEq, Repr

/-- One replica site (R470 to R476). -/
structure Site where
  /-- Working readings of the last 10 000 000 ticks, newest first: tick and reading in units of 2^-10 tick. -/
  window : List (Nat × Nat) := []
  /-- k in units of 1/1024 (R473). -/
  k : Nat := 1024
  /-- Sum and number of the g values of the running hour. -/
  gHour : Word := 0
  gHourN : Nat := 0
  /-- Sum and number of the hourly means of the running mark, and the largest g. -/
  gMark : Word := 0
  gMarkN : Nat := 0
  gMax : Word := 0
  /-- Largest working reading at each trim step (key T + 4) in the current ring, in the ring before it, and in the running mark. -/
  obsRing : Tab Nat := []
  obsPrev : Tab Nat := []
  obsMark : Tab Nat := []
  rhoMax : Word := 0
  near : Nat := 0
  exceed : Nat := 0
  /-- Fitted growth: A and n, and whether the linear rule holds (R475). -/
  fitA : Word := 0
  fitN : Word := 0x3F800000
  linear : Bool := true
  hist : Tab Nat := []
  deriving DecidableEq, Repr

/-- The growth-ring monitor (R470 to R482). -/
structure Growth where
  sites : Tab Site := []
  /-- Margin state: 0 OK, 1 LOW, 2 OUT (R478). -/
  state : Nat := 0
  /-- Service age in 0.1 h (R474). -/
  age : Nat := 0
  /-- Marks closed since the module was new. -/
  closed : Nat := 0
  /-- Marks and ring records: key ring * 16 + mark, mark 15 for the ring record. -/
  marks : Tab MarkRec := []
  /-- Trim step requested and applied (R479), its tick, and whether the answer is awaited. -/
  trimReq : Int := 0
  trimApplied : Int := 0
  trimPending : Bool := false
  trimAt : Nat := 0
  /-- TRIM of R479 has been raised for the standing request. -/
  trimRaised : Bool := false
  /-- TRIM_REQ sequence of the carrier management port (R556), the tick at which the frame was last sent, and no echo yet. -/
  trimSeq : Nat := 0
  trimSent : Nat := 0
  trimEcho : Bool := true
  /-- Tick of the last step up under R479; none before the first. -/
  lastUp : Option Nat := none
  /-- Tick since which every D_proj stayed within 0.80 of its budget (R479). -/
  quietSince : Option Nat := none
  /-- A step down was taken and the first mark reading at the new step is still to come. -/
  afterDown : Bool := false
  /-- Activities whose D_cur exceeds the budget, with one more than the tick since which it does (R478). -/
  exceed : Tab Nat := []
  /-- Activities for which MARGIN_OUT has been raised since they last fitted. -/
  outRaised : List Nat := []
  /-- Margin in 0.1 year and the activity that sets it (R481). -/
  margin : Nat := 0
  marginAct : Nat := 0
  deriving DecidableEq, Repr

/-- Performance counters and the selectors of the PRF block (R485, R486, Table 15.13). -/
structure Prf where
  userEn : Word := 0
  actSel : Word := 0
  ringSel : Word := 0
  cnt : Tab Nat := []
  mons : Tab Monitor := []
  /-- Monitors whose statistics are cleared at the next tick (R484). -/
  clears : List Nat := []
  deriving DecidableEq, Repr

end Sys2Proof.Machine
end

