-- ==== Sys2Proof/Machine/Float32.lean ====
section
/-! DEFINITION. The binary32 arithmetic of the engines (R42): round to nearest even, subnormal operands and results flushed to
zero with their sign, saturation to the largest finite value with a flag, no NaN and no infinity as a result. A value is its bit
pattern; a `Num` carries beside it whether any result on the way saturated. -/

namespace Sys2Proof.Machine

/-- A binary32 value on its way through an engine: the bits, and whether a result it came from saturated (R42). -/
structure Num where
  v : Word
  sat : Bool := false
  deriving DecidableEq, Repr

/-- A constant or an input as a `Num`. -/
def num (w : Word) : Num := ⟨w, false⟩

/-- The sign bit. -/
def fSign (w : Word) : Bool := w.getLsbD 31

/-- The exponent field. -/
def fExp (w : Word) : Nat := fld w 23 8

/-- A NaN or an infinity (R42: it marks the input it arrives on invalid). -/
def fBad (w : Word) : Bool := fExp w == 255

/-- Zero, a subnormal counting as zero (R42). -/
def fZero (w : Word) : Bool := fExp w == 0

/-- The significand as an integer, 0 for a flushed operand. -/
def fMant (w : Word) : Nat := if fZero w then 0 else 2 ^ 23 + fld w 0 23

/-- The exponent of the significand's lowest bit, counted from -150, so that the value is `fMant w * 2 ^ (fScale w - 150)`. -/
def fScale (w : Word) : Nat := fExp w

/-- A zero with a sign. -/
def fZeroOf (neg : Bool) : Word := if neg then 0x80000000#32 else 0#32

/-- The largest finite value with a sign (R42). -/
def fMaxOf (neg : Bool) : Word := if neg then 0xFF7FFFFF#32 else 0x7F7FFFFF#32

/-- The number of bits of a positive number. -/
def bitLen (m : Nat) : Nat := if m = 0 then 0 else Nat.log2 m + 1

/-- Whether a magnitude cut by `sh` places rounds up: to nearest, ties to even, with a non-zero remainder below it when `sticky` (R42). -/
def roundUp (m sh : Nat) (sticky : Bool) : Bool :=
  let r := m % 2 ^ sh
  let half := 2 ^ (sh - 1)
  decide (half < r) || (decide (r = half) && (sticky || m / 2 ^ sh % 2 == 1))

/-- `m * 2 ^ e`, for m > 0 and with a non-zero remainder below it when `sticky`, rounded to a significand of 24 bits with the exponent range unbounded
(R42). -/
def fNorm (m : Nat) (e : Int) (sticky : Bool) : Nat × Int :=
  let l := bitLen m
  let (q, e1) :=
    if l ≤ 24 then (m * 2 ^ (24 - l), e - ((24 - l : Nat) : Int))
    else
      let sh := l - 24
      (m / 2 ^ sh + b1 (roundUp m sh sticky), e + (sh : Int))
  if q = 2 ^ 24 then (2 ^ 23, e1 + 1) else (q, e1)

/-- A rounded significand and its exponent as binary32: the flush below 2^-126 and the saturation above the largest finite value (R42). The second
component says that the result saturated. -/
def fPack (neg : Bool) (x : Nat × Int) : Num :=
  let ex := x.2 + 150
  if ex < 1 then ⟨fZeroOf neg, false⟩
  else if 254 < ex then ⟨fMaxOf neg, true⟩
  else ⟨BitVec.ofNat 32 ((if neg then 2 ^ 31 else 0) + ex.toNat * 2 ^ 23 + (x.1 - 2 ^ 23)), false⟩

/-- Round `m * 2 ^ e` (with a non-zero remainder below it when `sticky`) to binary32 (R42). -/
def fRound (neg : Bool) (m : Nat) (e : Int) (sticky : Bool) : Num :=
  if m = 0 then ⟨fZeroOf neg, false⟩ else fPack neg (fNorm m e sticky)

/-- Round an exact integer times a power of two. -/
def fRoundInt (m : Int) (e : Int) : Num := fRound (decide (m < 0)) m.natAbs e false

/-- The exact value of an operand as an integer over 2^150. -/
def fInt (w : Word) : Int :=
  let m : Int := (fMant w * 2 ^ fScale w : Nat)
  if fSign w then -m else m

/-- Sum. An exact sum of zero is +0, but for two negative zeros. -/
def Num.add (a b : Num) : Num :=
  let s := fInt a.v + fInt b.v
  let r : Num := if s = 0 then
      (if fZero a.v && fZero b.v then ⟨fZeroOf (fSign a.v && fSign b.v), false⟩ else ⟨0#32, false⟩)
    else fRoundInt s (-150)
  ⟨r.v, a.sat || b.sat || r.sat⟩

/-- An operand with a subnormal flushed to zero with its sign (R42). -/
def fFlush (w : Word) : Word := if fZero w then fZeroOf (fSign w) else w

/-- The value with its sign turned. -/
def Num.neg (a : Num) : Num := ⟨fFlush a.v ^^^ 0x80000000#32, a.sat⟩

/-- Difference. -/
def Num.sub (a b : Num) : Num := a.add b.neg

/-- The magnitude. -/
def Num.abs (a : Num) : Num := ⟨fFlush a.v &&& 0x7FFFFFFF#32, a.sat⟩

/-- Product. -/
def Num.mul (a b : Num) : Num :=
  let r := fRound (fSign a.v != fSign b.v) (fMant a.v * fMant b.v)
    (((fScale a.v + fScale b.v : Nat) : Int) - 300) false
  ⟨r.v, a.sat || b.sat || r.sat⟩

/-- Quotient. A magnitude divided by zero exceeds the largest finite value and saturates (R42; log 12). -/
def Num.div (a b : Num) : Num :=
  let neg := fSign a.v != fSign b.v
  let r : Num :=
    if fMant b.v = 0 then (if fMant a.v = 0 then ⟨fZeroOf neg, false⟩ else ⟨fMaxOf neg, true⟩)
    else
      let n := fMant a.v * 2 ^ 30
      fRound neg (n / fMant b.v) ((fScale a.v : Int) - (fScale b.v : Int) - 30) (n % fMant b.v != 0)
  ⟨r.v, a.sat || b.sat || r.sat⟩

/-- One bit of the integer square root: keep bit `k` when the square still fits. -/
def isqrtBit (n : Nat) (r k : Nat) : Nat :=
  let c := r + 2 ^ k
  if c * c ≤ n then c else r

/-- Integer square root of a number below 2^64. -/
def isqrt (n : Nat) : Nat := (List.range 32).reverse.foldl (isqrtBit n) 0

/-- Square root of a value that is not negative; of a negative one, zero (no rule takes one). -/
def Num.sqrt (a : Num) : Num :=
  if fZero a.v || fSign a.v then ⟨fZeroOf (fSign a.v && fZero a.v), a.sat⟩ else
  -- value = m * 2^(x-150); make the exponent even and the radicand wide
  let x := fScale a.v
  let m := if x % 2 = 0 then fMant a.v * 2 ^ 36 else fMant a.v * 2 ^ 37
  let e : Int := if x % 2 = 0 then ((x : Int) - 150 - 36) / 2 else ((x : Int) - 150 - 37) / 2
  let r := isqrt m
  let q := fRound false r e (r * r != m)
  ⟨q.v, a.sat || q.sat⟩

/-- `a < b` as numbers; the two zeros are equal. -/
def fLt (a b : Word) : Bool := decide (fInt a < fInt b)

/-- `a ≤ b` as numbers. -/
def fLe (a b : Word) : Bool := decide (fInt a ≤ fInt b)

/-- Equal as numbers. -/
def fEq (a b : Word) : Bool := decide (fInt a = fInt b)

/-- The lesser of two. -/
def Num.min (a b : Num) : Num := ⟨fFlush (if fLt b.v a.v then b.v else a.v), a.sat || b.sat⟩

/-- The greater of two. -/
def Num.max (a b : Num) : Num := ⟨fFlush (if fLt a.v b.v then b.v else a.v), a.sat || b.sat⟩

/-- The value held within `[lo, hi]`. -/
def Num.clamp (lo hi x : Num) : Num :=
  ⟨fFlush (if fLt hi.v x.v then hi.v else if fLt x.v lo.v then lo.v else x.v), lo.sat || hi.sat || x.sat⟩

/-- An integer as binary32. -/
def fOfInt (n : Int) : Num := fRoundInt n 0

/-- A natural number as binary32. -/
def fOfNat (n : Nat) : Num := fRoundInt n 0

/-- The fraction `n / d` as binary32, correctly rounded. -/
def fOfRat (neg : Bool) (n d : Nat) : Num :=
  if n = 0 || d = 0 then ⟨fZeroOf neg, false⟩ else
  let k := bitLen d + 30
  let x := n * 2 ^ k
  fRound neg (x / d) (-(k : Int)) (x % d != 0)

/-- The integer nearest to the value, ties to even. -/
def fToInt (w : Word) : Int :=
  let m := fInt w
  let d : Int := (2 ^ 150 : Nat)
  let q := m / d
  let r := m % d
  if 2 * r < d then q else if d < 2 * r then q + 1 else if q % 2 = 0 then q else q + 1

/-- The greatest integer not above the value. -/
def fFloor (w : Word) : Int := fInt w / ((2 ^ 150 : Nat) : Int)

/-- The least integer not below the value. -/
def fCeil (w : Word) : Int := -((-(fInt w)) / ((2 ^ 150 : Nat) : Int))

/-- Sum of a list of products, in the order given. -/
def numSum (l : List Num) : Num := l.foldl Num.add (num 0#32)

/-- Frequently used constants. -/
def f0 : Num := num 0#32
def f1 : Num := num 0x3F800000#32
def f2 : Num := num 0x40000000#32
def fHalf : Num := num 0x3F000000#32
def fNeg1 : Num := num 0xBF800000#32
/-- π, rounded to binary32. -/
def fPi : Num := num 0x40490FDB#32
/-- 2π, rounded to binary32. -/
def fTwoPi : Num := num 0x40C90FDB#32
/-- π/180, rounded to binary32. -/
def fDeg : Num := num 0x3C8EFA35#32

/-- A count of ticks as a time in seconds (one tick is 10 ns, R9). -/
def fSeconds (ticks : Nat) : Num := fOfRat false ticks 100000000

/-- A time in seconds as ticks, rounded to the nearest tick. -/
def ticksOfSeconds (w : Word) : Nat :=
  let m := fInt w * 100000000
  let d : Int := (2 ^ 150 : Nat)
  ((2 * m + d) / (2 * d)).toNat

end Sys2Proof.Machine
end

