-- ==== Sys2Proof/Machine/LpeState.lean ====
section
/-! DEFINITION. State of the loop engine: contexts, lanes and tune slots (chapter 8). -/

namespace Sys2Proof.Machine

/-- What one evaluation has worked out before it forms the output. -/
structure LpeTerms where
  pv : Num
  sp : Word
  spR : Num
  e : Num
  p : Num
  di : Num
  d : Num
  ff : Num
  bad : Bool
  ffBad : Bool
  deriving DecidableEq, Repr

/-- An evaluation that runs on a lane (R40, R245, R254): its snapshot and what it has worked out from it. Its writes are made when it ends. -/
structure LpeRun where
  /-- The instant T. -/
  at' : Nat
  /-- Tick at which it ends, and how long it runs without the freezes. -/
  stop : Nat
  dur : Nat
  /-- The terms; none without a valid process value. -/
  terms : Option LpeTerms
  /-- The value in force v of the target, and MODE, at the snapshot. -/
  v : Word
  mode : Nat
  track : Bool
  /-- sp_r has been set to pv for a soft start that stands (R258). -/
  soft : Bool
  /-- u0 of a tune that has ended, and the slot of a tune that runs. -/
  exit : Option Word
  slot : Option Nat
  deriving DecidableEq, Repr

/-- A loop context (R241, R254, Table 8.13). -/
structure LpeCtx where
  /-- Table 8.14. -/
  state : Nat := 0
  /-- Bits [14:5] of LPE_CTX_STATUS. -/
  st : Word := 0
  pv : Word := 0
  e : Word := 0
  i : Word := 0
  d : Word := 0
  /-- u_last. -/
  u : Word := 0
  pvPrev : Word := 0
  spR : Word := 0
  ff : Word := 0
  /-- FIRST (R254). -/
  first : Bool := true
  /-- sp_r takes pv at the next evaluation (R258, R268). -/
  soft : Bool := true
  /-- The next evaluation tracks (R258, R259). -/
  track : Bool := true
  /-- u0 of a tune that has ended, for the next evaluation (R264). -/
  exit : Option Word := none
  /-- MODE of the last evaluation, or of the last resolution during a tune. -/
  mode : Nat := 0
  /-- Instant of the last evaluation and its tick; none before the first. -/
  evalAt : Option Nat := none
  overruns : Nat := 0
  /-- Instant of the instance that waits, and the tick from which it may start. -/
  ready : Option Nat := none
  readyAt : Nat := 0
  /-- The evaluation that runs. -/
  run : Option LpeRun := none
  /-- Its lane is UNSERVED, or it has been made safe: FAILED whenever the engine evaluates (R250). -/
  failed : Bool := false
  /-- Tick at which the context in FAILED has first applied its FAIL_ACTION (R457). -/
  failAt : Option Nat := none
  /-- What the loop above has written to the cascade input; none without a candidate. -/
  casc : Option Word := none
  /-- CARRY_OK. -/
  carried : Bool := false
  /-- SP to come into force at the first instant, from a seed record or as accepted gains: KP, KI, KD (R265). -/
  accept : Option (Word × Word × Word) := none
  deriving DecidableEq, Repr

/-- A tune slot (R262 to R265, Table 8.7). -/
structure TuneSlot where
  /-- 0 FREE, 1 RUNNING, 2 DONE, 3 FAILED. -/
  state : Nat := 0
  reason : Nat := 0
  rule : Nat := 0
  loop : Nat := 0
  /-- Cycles measured. -/
  cycles : Nat := 0
  ku : Word := 0
  tu : Word := 0
  a : Word := 0
  deff : Word := 0
  kp : Word := 0
  ki : Word := 0
  kd : Word := 0
  /-- Parameters d, h, e_lim and TMAX in seconds. -/
  d : Word := 0
  h : Word := 0
  elim : Word := 0
  tmax : Nat := 0
  startAt : Nat := 0
  /-- The first evaluation has set u0 and r. -/
  begun : Bool := false
  u0 : Word := 0
  /-- r = +1. -/
  up : Bool := true
  uHi : Option Word := none
  uLo : Option Word := none
  switches : Nat := 0
  /-- Instant of the last switch to +1. -/
  lastUp : Option Nat := none
  eMax : Word := 0
  eMin : Word := 0
  /-- Periods in instants and amplitudes of the last cycles, oldest first. -/
  meas : List (Nat × Word) := []
  deriving DecidableEq, Repr

/-- The loop engine (Table 8.7). -/
structure Lpe where
  ctxs : Tab LpeCtx := []
  slots : Tab TuneSlot := []
  /-- Where a logical lane does not run on its own number: one more than its physical lane, or 129 more than the last one when UNSERVED. -/
  moved : Tab Nat := []
  /-- End of the last evaluation on each logical lane. -/
  laneEnd : Tab Nat := []
  laneMoves : Nat := 0
  overruns : Nat := 0
  deriving DecidableEq, Repr

end Sys2Proof.Machine
end

