-- ==== Sys2Proof/Machine/PtnState.lean ====
section
/-! DEFINITION. State of the partner and seed unit and of the lease logic (chapter 11). A seed is its list of 64-bit words. -/

namespace Sys2Proof.Machine

/-- One partner link (R350 to R353, Table 11.18). -/
structure PLink where
  up : Bool := false
  live : Bool := false
  /-- LINK_SEQ of the last message sent, and of the newest valid message received; 0 when none. -/
  txSeq : Nat := 0
  rxSeq : Nat := 0
  /-- Tick of the newest valid message received. -/
  rxTick : Option Nat := none
  /-- Own messages sent: LINK_SEQ and tick, newest first. -/
  sent : List (Nat × Nat) := []
  /-- Latest send tick of an own message that a received message has echoed (R352). -/
  echo : Option Nat := none
  rtt : Nat := 0
  errs : Nat := 0
  /-- FLAGS of the last ROLE message sent on the link, without GRANT. -/
  flags : Option Nat := none
  deriving DecidableEq, Repr

/-- What the partner's newest valid message showed (R352). -/
structure PartnerView where
  role : Nat := 0
  sole : Bool := false
  pos : Nat := 0
  mode : Nat := 0
  handover : Bool := false
  bankCrc : Word := 0
  seedSeq : Nat := 0
  activeSince : Nat := 0
  hTick : Nat := 0
  /-- A DEPART has been received and no message without it since (R356). -/
  departed : Bool := false
  /-- SOLE of the newest message received that showed ROLE Active; none before the first. -/
  soleAsActive : Option Bool := none
  /-- ROLE was Active in the newest message that did not show Isolated. -/
  wasActive : Bool := false
  deriving DecidableEq, Repr

/-- A seed held or captured. -/
structure Seed where
  words : List (BitVec 64) := []
  deriving DecidableEq, Repr

/-- A received seed with the offset at its receipt (R381). -/
structure HeldSeed where
  seed : Seed := {}
  ofs : Int := 0
  deriving DecidableEq, Repr

/-- A pending planned handover on the Active module (R371). -/
structure Handover where
  b : Nat
  h : Nat
  ring : Nat
  idx : Nat
  /-- The handover seed has been captured at B. -/
  captured : Bool := false
  /-- SEED_SEQ of the handover seed. -/
  seedSeq : Nat := 0
  /-- The Standby has confirmed it. -/
  confirmed : Bool := false
  deriving DecidableEq, Repr

/-- A handover as the Standby sees it (R371 to R373). -/
structure HandoverIn where
  /-- H in the own timebase. -/
  h : Nat
  restored : Bool := false
  seedSeq : Nat := 0
  /-- Lease mode: the former Active module has reported Standby with HANDOVER = 1 (R372). -/
  go : Bool := false
  deriving DecidableEq, Repr

/-- The overlap window of a planned handover (R373). -/
structure Overlap where
  start : Nat
  stop : Nat
  /-- This module is the former Active module. -/
  former : Bool
  /-- Channel values of the handover seed. -/
  vals : Tab Word := []
  deriving DecidableEq, Repr

/-- The partner and seed unit and the lease logic. -/
structure Ptn where
  role : Nat := 1
  cause : Nat := 0
  pos : Nat := 0
  sole : Bool := false
  posClash : Bool := false
  rate : Bool := false
  activeSince : Nat := 0
  /-- Tick from which PTN_ACTIVE_AGE counts: Ready, or the tick at which the module last left Active (R384). -/
  ageFrom : Nat := 0
  drillDone : Nat := 0
  readyTick : Nat := 0
  heard : Bool := false
  /-- Tick since which the partner has not been heard. -/
  silentFrom : Nat := 0
  /-- The partner has been heard at some time (R365), and since Ready (R358). -/
  heardOnce : Bool := false
  heardSinceReady : Bool := false
  k0 : PLink := {}
  k1 : PLink := {}
  partner : PartnerView := {}
  /-- The partner's newest message has been received. -/
  partnerKnown : Bool := false
  ofs : Option Int := none
  /-- Past values of OFS with their ticks, newest first (R354). -/
  ofsLog : List (Nat × Int) := []
  eA : Option Nat := none
  eS : Nat := 0
  /-- GRANTs sent since the entry into Standby. -/
  grantsSent : Nat := 0
  granting : Bool := false
  handover : Option Handover := none
  handoverIn : Option HandoverIn := none
  overlap : Option Overlap := none
  held : Option HeldSeed := none
  /-- The next valid seed is accepted whatever its SEED_SEQ (R381). -/
  anySeq : Bool := true
  capSeq : Nat := 0
  /-- SEED_SEQ of the last own capture, 0 before the first (PTN_SEED_CAPT). -/
  lastCap : Nat := 0
  /-- A capture is in progress: its boundary. -/
  capturing : Option Nat := none
  /-- The capture buffer used last: the seed of the boundary in progress, or the last one captured; and the other one (R375). -/
  buffer : Seed := {}
  buffer1 : Seed := {}
  /-- The seed whose commit runs stands in the other buffer: a capture has begun since. -/
  commitPrev : Bool := false
  /-- Commit in progress: its slot. -/
  commit : Option Nat := none
  nextSlot : Nat := 0
  slot0 : Option Seed := none
  slot1 : Option Seed := none
  /-- A takeover is running: t_x, and the usable seed it resumes from (R366 to R368). -/
  takeover : Option (Nat × Option HeldSeed) := none
  /-- H of a handover in lease mode that this module has left as Standby: its messages still carry HANDOVER = 1 (R372). -/
  handedOver : Option Nat := none
  takeovers : Nat := 0
  handovers : Nat := 0
  discarded : Nat := 0
  rejected : Nat := 0
  txSeqs : Tab Nat := []
  /-- DEPART messages still to send, and the tick of the next one (R356). -/
  departLeft : Nat := 0
  departAt : Nat := 0
  /-- Mismatch reported by the last ES215 (R386). -/
  bankDiffers : Bool := false
  /-- Both modules report Active and the resolution of R359 has been taken. -/
  dual : Bool := false
  deriving DecidableEq, Repr

end Sys2Proof.Machine
end

