-- ==== Sys2Proof/Machine/RecState.lean ====
section
/-! DEFINITION. State of the recorder, of the display driver and of the security, debug and power controller (chapters 16 and 17). -/

namespace Sys2Proof.Machine

/-- A snapshot the recorder holds until it has written it (R496). `kind`: 1 TRIGGER, 2 START, 3 SEAL. -/
structure Snapshot where
  kind : Nat
  trigger : Nat
  tick : Nat
  vtSec : Nat
  vtNsec : Nat
  vtValid : Bool
  missed : Nat := 0
  state : Nat
  detail : Word
  vals : List Word
  crc : Word
  /-- Parts already written. -/
  written : Nat := 0
  /-- The SEAL record of the first seal transition, which opens heartwood (R501). -/
  opens : Bool := false
  deriving DecidableEq, Repr

/-- A recorder slot: the record of Table 16.1, or nothing while both sequence numbers are 0. -/
structure Record where
  seqA : Nat := 0
  seqB : Nat := 0
  kind : Nat := 0
  trigger : Nat := 0
  part : Nat := 0
  count : Nat := 0
  tick : Nat := 0
  vtSec : Nat := 0
  vtNsec : Nat := 0
  missed : Nat := 0
  state : Nat := 0
  detail : Word := 0
  data : List Word := []
  crc : Word := 0
  /-- A word of the slot holds an uncorrectable error (R504). -/
  bad : Bool := false
  deriving DecidableEq, Repr

/-- The recorder (R491 to R505, Table 16.6). -/
structure Rec where
  seq : Nat := 0
  sapNext : Nat := 0
  hwCount : Nat := 0
  /-- A seal transition has opened heartwood (R501). -/
  hwOpened : Bool := false
  sap : Tab Record := []
  hw : Tab Record := []
  lost : Nat := 0
  latch : Word := 0
  held : List Snapshot := []
  /-- Firings of each trigger since counting started, snapshots written, and MISSED total. -/
  fired : Tab Nat := []
  written : Tab Nat := []
  missed : Tab Nat := []
  logicFenced : Bool := false
  mramFenced : Bool := false
  /-- Torn slots found at start, to be reported at Ready (R503). -/
  tornSap : Bool := false
  tornHw : Bool := false
  deriving DecidableEq, Repr

/-- The status display (R506 to R518, Table 16.7). -/
structure Dsp where
  /-- 0 IDLE, 1 UPDATE, 2 REFRESH, 3 STOPPED. -/
  state : Nat := 0
  dirty : Bool := false
  railsOk : Bool := false
  tempOk : Bool := false
  frame : Nat := 0
  /-- Tick at which the current frame began, frames of the running waveform, and FRAME_T in ticks. -/
  frameAt : Nat := 0
  frames : Nat := 0
  frameT : Nat := 0
  /-- TO_DARK and TO_LIGHT masks of the running waveform. -/
  maskDark : Nat := 0
  maskLight : Nat := 0
  /-- SHOWN once the running update or dark phase has ended. -/
  next : Tab Word := []
  /-- Band latched for the running waveform, and the band now. -/
  band : Nat := 0
  bandNow : Nat := 0
  temp : Int := 0
  railP : Nat := 0
  railN : Nat := 0
  vcom : Nat := 0
  latch : Word := 0
  updates : Nat := 0
  interrupted : Nat := 0
  refreshes : Nat := 0
  shown : Tab Word := []
  /-- Segments the running waveform drives with TO_DARK and with TO_LIGHT. -/
  toDark : Tab Word := []
  toLight : Tab Word := []
  /-- Frames driven so far minus opposite polarity ones, of each waveform. -/
  imbDark : Int := 0
  imbLight : Int := 0
  /-- Compensating phase after Ride-through or a fence (R514, R518). -/
  compensating : Bool := false
  /-- Frame at which compensation started. -/
  compFrame : Nat := 0
  /-- A waveform is to be broken off when its current frame ends. -/
  stopAsked : Bool := false
  /-- Tick at which the previous update ended, whole or interrupted; none before the first (R509). -/
  lastEnd : Option Nat := none
  /-- Phase of a full refresh: 0 none, 1 light, 2 dark. -/
  phase : Nat := 0
  /-- Cause of the running refresh, and of one that waits (Table 16.5, ES246). -/
  cause : Nat := 0
  wanted : Option Nat := none
  heartbeat : Bool := false
  hbAt : Nat := 0
  /-- Tick of the last full refresh or of power-up, for REFRESH_PERIOD. -/
  refreshFrom : Nat := 0
  /-- ES213 has fired since the module was last Active (Table 16.2, bit 23). -/
  drillSeen : Bool := false
  deriving DecidableEq, Repr

/-- Security lifecycle, debug and power (chapter 17). -/
structure Sec where
  /-- The two copies of the lifecycle; none for a copy that fails its check (R523). -/
  lcA : Option Nat := some 0
  lcB : Option Nat := some 0
  /-- The lifecycle in force: 0 Factory, 1 Open, 2 Sealed, 3 Retired. -/
  lifecycle : Nat := 0
  /-- Debug level: 0 Closed, 1 Observe, 2 Full. -/
  level : Nat := 0
  /-- Power state: 0 Run, 1 Hold, 2 Ride-through, 3 Off. -/
  power : Nat := 0
  feedA : Bool := false
  feedB : Bool := false
  lcLock : Bool := false
  valueFails : Nat := 0
  waking : Bool := false
  policy : Word := 0x0000000A
  /-- Value typed into SEC_CONFIRM under the key, and its tick. -/
  typed : Option Word := none
  typedAt : Nat := 0
  refuse : Nat := 0
  latch : Word := 0
  seals : Nat := 0
  unseals : Nat := 0
  survived : Nat := 0
  powerDowns : Nat := 0
  holdupMj : Nat := 0
  /-- Tick at which the store has recharged after a feed's restoration (R560). -/
  chargedAt : Option Nat := none
  lastLoss : Nat := 0
  /-- Entry into Ride-through, and the state before. -/
  rideFrom : Nat := 0
  before : Nat := 0
  /-- Start of the power-down sequence (R536). -/
  downAt : Option Nat := none
  /-- Result of the previous DBG_CMD operation (Table 17.5). -/
  dbgErr : Bool := false
  dbgData : BitVec 64 := 0
  deriving DecidableEq, Repr

end Sys2Proof.Machine
end

