-- ==== Sys2Proof/Machine/SafState.lean ====
section
/-! DEFINITION. State of the safety engine and of the Uadan Safe Layer (chapters 6 and 7). -/

namespace Sys2Proof.Machine

/-- One safety channel or port input as the engine follows it: its state after R189, its running pulse and its run of OFF. -/
structure SafCh where
  on : Bool := false
  /-- Slot tick of the pulse whose window has not been closed. -/
  pulse : Option Nat := none
  /-- 1 input window, 2 OFF-test, 3 ON-test. -/
  kind : Nat := 0
  /-- Some classification inside the window read OFF. -/
  offSeen : Bool := false
  /-- First sample of the run of OFF classifications. -/
  offStart : Option Nat := none
  deriving DecidableEq, Repr

/-- A safety pair (Table 6.15). -/
structure SafPair where
  a : SafCh := {}
  b : SafCh := {}
  demand : Bool := false
  /-- First sample since which both channels read ON (R183). -/
  runSince : Option Nat := none
  fault : Bool := false
  cause : Nat := 0
  faultTick : Nat := 0
  /-- Tick at which the module set the latch, be its stamp earlier (R202). -/
  setAt : Nat := 0
  /-- The cause of the latch has been detected in this scan (R200). -/
  seen : Bool := false
  bothSafe : Bool := false
  foreignSlot : Nat := 0
  /-- SDO command, the tick at which the front ends apply its last change, and that a coupler frame has taken that change (R39, R184, R195). -/
  cmd : Bool := false
  cmdAt : Nat := 0
  cmdSent : Bool := true
  /-- Feedback state; it has been seen as required since the last change; since when it is wrong. -/
  fb : Bool := false
  fbSeen : Bool := true
  fbBad : Option Nat := none
  /-- K, its largest value, and t0 of the disagreement in progress (R193). -/
  k : Nat := 0
  maxK : Nat := 0
  t0 : Option Nat := none
  completed : Nat := 0
  abandoned : Nat := 0
  /-- RESET: first sample of the press; a press of a good length waits for both channels OFF (R199). -/
  press : Option Nat := none
  pressed : Bool := false
  deriving DecidableEq, Repr

/-- A safety-chain port (Table 6.8). -/
structure SafPort where
  ch : SafCh := {}
  out : Bool := false
  demand : Bool := false
  fault : Bool := false
  cause : Nat := 0
  faultTick : Nat := 0
  /-- Tick at which the module set the latch (R202). -/
  setAt : Nat := 0
  seen : Bool := false
  bothSafe : Bool := false
  k : Nat := 0
  t0 : Option Nat := none
  deriving DecidableEq, Repr

/-- A safety function (Table 6.16). At power-up it is tripped with cause POWER_UP (R54, R202). -/
structure SafFn where
  tripped : Bool := true
  cause : Nat := 5
  src : Nat := 0
  trips : Nat := 0
  tick : Nat := 0
  /-- Tick at which the module set the latch, be its stamp earlier (R202). -/
  setAt : Nat := 0
  deriving DecidableEq, Repr

/-- A sub-channel of a receive connection (R222 to R228). -/
structure UslSub where
  /-- State of Table 7.3. -/
  state : Nat := 0
  /-- A reference frame or an accepted frame stands. -/
  hasRef : Bool := false
  seq : Nat := 0
  runWord : Word := 0
  resetWord : Word := 0
  role : Nat := 0
  run : Bool := false
  rejects : Nat := 0
  /-- Tick at which the watchdog expires. -/
  deadline : Nat := 0
  deriving DecidableEq, Repr

/-- A connection of the Safe Layer (Tables 7.12 to 7.14). -/
structure UslConn where
  a : UslSub := {}
  b : UslSub := {}
  errCrc : Nat := 0
  errIdent : Nat := 0
  errTime : Nat := 0
  errSeq : Nat := 0
  lost : Nat := 0
  timeouts : Nat := 0
  resyncs : Nat := 0
  lastSeq : Nat := 0
  /-- Tick of the last FORMAT or CRC failure (R229). -/
  corruptAt : Option Nat := none
  /-- Transmit: SEQ of the next frame, whether one has been sent, the last event frame, and an event frame delayed (R217, R219). -/
  txSeq : Nat := 0
  sent : Bool := false
  lastEvent : Option Nat := none
  delayed : Bool := false
  /-- Frames in which the reset bit of a RESET pair still stands (Table 7.2). -/
  resetLeft : Tab Nat := []
  deriving DecidableEq, Repr

/-- A Safe Layer frame that waits through a freeze window, with its receive timestamp and the vessel time there (R230). -/
structure UslWaiting where
  conn : Nat
  bytes : List Byte
  tick : Nat
  vt : Nat
  vtValid : Bool
  deriving DecidableEq, Repr

/-- The safety engine. -/
structure Saf where
  pairs : Tab SafPair := []
  ports : Tab SafPort := []
  fns : Tab SafFn := []
  /-- ENGINE_STATE: 0 NO_BANK, 1 UNCONFIRMED, 2 RUN, 3 FAILED. -/
  engine : Nat := 0
  supplyOk : Bool := false
  overruns : Nat := 0
  /-- A scan trigger fell into the freeze window (R185). -/
  catchUp : Bool := false
  /-- Tick at which the last scan ends. -/
  scanEnd : Nat := 0
  /-- The latch image as it stood before the last scan: that of a seed whose boundary finds the scan running (R27). -/
  image : List Byte := []
  /-- The last scan was a catch-up scan. -/
  lastCatch : Bool := false
  /-- Field-side samples received and not processed by a scan yet (R185). -/
  held : List SafSample := []
  /-- Safety channels without a valid frame for 100 µs (R186). -/
  lost : List Nat := []
  /-- Losses whose gap no scan has counted as OFF yet: the channel and the tick at which the 100 µs were over (R186). -/
  gaps : List (Nat × Nat) := []
  /-- Losses that have ended, while samples of the gap may still wait for a scan: the channel, and the tick of its next valid frame (R186). -/
  ended : List (Nat × Nat) := []
  /-- Tick of the newest sample that a scan has processed. -/
  scanned : Nat := 0
  /-- Safe Layer inputs in run. -/
  uiRun : Tab Bool := []
  /-- Inputs with a reset demand that no scan has taken yet. -/
  uiReset : List Nat := []
  conns : Tab UslConn := []
  waiting : List UslWaiting := []
  /-- RUN_WORD after the last scan. -/
  runWord : Word := 0
  deriving DecidableEq, Repr

end Sys2Proof.Machine
end

