-- ==== Sys2Proof/Machine/TimState.lean ====
section
/-! DEFINITION. State of the time unit and of the Ethernet networks (chapter 13). A clock is one number: the count of 2^-32 ns since
seconds 0, nanoseconds 0, fraction 0 (R414), modulo 2^48 seconds. -/

namespace Sys2Proof.Machine

/-- An effect of a captured write that takes place at the next tick (R415 to R420). -/
inductive TimAct where
  /-- Increment k (0 INC0, 1 INC1, 2 VT_INC) takes a value. -/
  | inc (k : Nat) (v : Nat)
  /-- Shadow clock k steps by a signed number of nanoseconds. -/
  | stepBy (k : Nat) (ns : Int)
  | sel (v : Nat)
  | setTime (sec nsec : Nat)
  | setValid
  | clrValid
  | snap
  deriving DecidableEq, Repr

/-- A PPS input (R427). -/
structure PpsIn where
  tb : Nat := 0
  vtSec : Nat := 0
  vtNsec : Nat := 0
  sc0Nsec : Nat := 0
  sc1Nsec : Nat := 0
  count : Nat := 0
  ok : Bool := false
  /-- Consecutive edges whose spacings lie in range, the first edge counting as one. -/
  good : Nat := 0
  deriving DecidableEq, Repr

/-- A PPS output (R428). -/
structure PpsOut where
  level : Bool := false
  fallAt : Nat := 0
  /-- Tick of the last rise. -/
  riseAt : Option Nat := none
  deriving DecidableEq, Repr

/-- A clock from a tick on: its value at that tick, and what it gains at each tick after it. -/
structure ClkSeg where
  from' : Nat
  v : Nat
  rate : Nat
  deriving DecidableEq, Repr

/-- The values captured by SNAP (R420). -/
structure Snap where
  tb : Nat := 0
  vt : Nat := 0
  sc0 : Nat := 0
  sc1 : Nat := 0
  deriving DecidableEq, Repr

/-- The nominal increment of 10 ns in 32.32 fixed point (R415). -/
def incNominal : Nat := 0x0000000A00000000

/-- The time unit (R412 to R428). -/
structure Tim where
  vt : Nat := 0
  sc0 : Nat := 0
  sc1 : Nat := 0
  inc0 : Nat := incNominal
  inc1 : Nat := incNominal
  vtInc : Nat := incNominal
  sel : Nat := 2
  vtValid : Bool := false
  slewing : Bool := false
  extRef : Bool := false
  refQualified : Bool := false
  /-- Tick from which the input has been good, and whether a qualified reference has been lost since power-up (R413). -/
  refFrom : Nat := 0
  refWasLost : Bool := false
  /-- SC_SEL − VT as formed at this tick, before its increments (R417). -/
  diff : Int := 0
  /-- How the clocks have run, the newest stretch first, 64 each: what they showed at an earlier tick. -/
  vtPast : List ClkSeg := []
  sc0Past : List ClkSeg := []
  sc1Past : List ClkSeg := []
  /-- Tick and rank of the newest schedule point that took effect (R425). -/
  point : Option (Nat × Nat) := none
  latch : Word := 0
  setSecLo : Word := 0
  setSecHi : Word := 0
  setNsec : Word := 0
  applyTick : Nat := 0
  snap : Snap := {}
  /-- Start of the DISC_HOLD interval (R418). -/
  holdFrom : Nat := 0
  /-- Writes captured at this tick that take effect at the next one, in order of capture. -/
  acts : List TimAct := []
  ttCount : Tab Nat := []
  ppsA : PpsIn := {}
  ppsB : PpsIn := {}
  outA : PpsOut := {}
  outB : PpsOut := {}
  deriving DecidableEq, Repr

/-- A node table entry (R431). -/
structure Node where
  mac : Nat
  smax : Nat
  /-- Bit i: SeqNr `smax - i` has been accepted. -/
  record : Nat
  lastTick : Nat
  deriving DecidableEq, Repr

/-- A frame of host software that has been handed to the port MACs (R434, R435): its descriptor, its bytes, LAUNCH_LATE, and the
PTP domain whose frame it is, with whether it is an event message. -/
structure EthTx where
  ring : Nat
  idx : Nat
  bytes : List Byte
  late : Bool
  ptp : Option (Nat × Bool)
  deriving DecidableEq, Repr

/-- One Ethernet network (R429 to R433, Table 13.11). -/
structure Net where
  upA : Bool := false
  upB : Bool := false
  seqNr : Nat := 0
  nodes : List Node := []
  dropsA : Nat := 0
  dropsB : Nat := 0
  prpDup : Nat := 0
  wrongLan : Nat := 0
  nodeOvf : Nat := 0
  outOfWindow : Nat := 0
  unmatched : Nat := 0
  latch : Word := 0
  ipId : Nat := 0
  /-- IPv4 fragments seen (R432: "It is counted"). -/
  fragments : Nat := 0
  /-- Frames handed to the MACs and not yet sent, the one in transmission first. -/
  txq : List EthTx := []
  deriving DecidableEq, Repr

/-- One IEC 61162-450 stream (R436). -/
structure Stream where
  receiving : Bool := false
  lastTick : Nat := 0
  accepted : Nat := 0
  bad : Nat := 0
  sfiRej : Nat := 0
  deriving DecidableEq, Repr

/-- One transmit datagram (R438). -/
structure Datagram where
  valid : Bool := false
  forced : Bool := false
  replaced : Nat := 0
  /-- The assembled frame that has not been handed to the MAC. -/
  waiting : Option (List Byte) := none
  /-- Tick of the last one sent. -/
  sentAt : Option Nat := none
  /-- Send instants whose assembly the freeze has deferred, the oldest first (R29). -/
  due : List Nat := []
  deriving DecidableEq, Repr

/-- The Ethernet side (R429 to R443). -/
structure Eth where
  nets : Tab Net := []
  streams : Tab Stream := []
  tds : Tab Datagram := []
  deriving DecidableEq, Repr

end Sys2Proof.Machine
end

