-- ==== Sys2Proof/Machine/State.lean ====
section
/-! DEFINITION. The state of the module: one record per unit, the queue of commands that wait, and what has left the module. -/

namespace Sys2Proof.Machine

/-- Why a run stops with a fault. No command of the table does (NOTES.md, Stops). -/
inductive Fault where
  /-- Reserved for an access outside the set-up window; no command raises it. Safe. -/
  | outsideWindow
  deriving DecidableEq, Repr

/-- Why a command has no meaning. -/
inductive Refusal where
  /-- Raised by the dispatcher for a command whose meaning has not been written yet. Safe: it stops. -/
  | notModelled (mnemonic : String)
  deriving DecidableEq, Repr

/-- What leaves the module (the model's own trace, log 6). -/
inductive Output where
  /-- A read of host memory asked for through a link. -/
  | hostRead (link addr len : Nat)
  /-- A write to host memory through a link. -/
  | hostWrite (link addr : Nat) (data : List Byte)
  /-- An MSI-X message. -/
  | msix (link vec : Nat)
  /-- The value a register read returned: source 0 H0, 1 H1, 2 the debug port. -/
  | regValue (src off : Nat) (val : Word)
  /-- What Capture-DR of the debug port loads: ERR and DATA of the previous operation (Table 17.5). -/
  | debug (err : Bool) (data : BitVec 64)
  /-- A message on a partner link. -/
  | partner (link : Nat) (bytes : List Byte)
  /-- A frame on a CAN bus. -/
  | can (ctl obj : Nat) (bytes : List Byte)
  /-- A frame on an Ethernet port: LAN 0 A, 1 B. -/
  | eth (net lan : Nat) (bytes : List Byte)
  /-- A frame whose bytes the standards fix: 0 an ARP reply, 1 an IGMPv2 membership report of the group, 2 a PRP supervision frame. -/
  | ethOwn (net lan kind arg seq : Nat)
  /-- Characters on a serial port. -/
  | serial (port : Nat) (bytes : List Byte)
  /-- A HART frame on a channel. -/
  | hart (ch : Nat) (bytes : List Byte)
  /-- The UDP datagram of a Safe Layer connection on an Ethernet port, and SeqNr of the trailer where the network adds one. -/
  | uslEth (net lan conn : Nat) (trailer : Option Nat) (bytes : List Byte)
  /-- A frame on the carrier management port. -/
  | carrier (bytes : List Byte)
  /-- A test pulse that a front end, or a port (as 192 + n), times itself: its source or its switch is on, or off, from one tick until another, and
then again as its command says (R187, R188, R191). -/
  | testPulse (ch start stop : Nat) (on : Bool)
  /-- A level of a safety-chain output or a PPS output. -/
  | pin (name idx : Nat) (level : Bool)
  /-- The drive of the display during one frame: polarity and the segments driven. -/
  | display (positive : Bool) (dark light : Tab Word)
  deriving DecidableEq, Repr

/-- The module (everything but the queue). -/
structure Block where
  /-- Timebase count (R412). -/
  tb : Nat := 0
  /-- Boundary B of the freeze window in progress (R26). -/
  freeze : Option Nat := none
  /-- Links H0 (0) and H1 (1), and the debug port's latches (2) (R13, R531). -/
  links : Tab HostLink := []
  glb : Glb := {}
  rng : Rng := {}
  flt : Flt := {}
  growth : Growth := {}
  prf : Prf := {}
  tim : Tim := {}
  eth : Eth := {}
  ptn : Ptn := {}
  chn : Chn := {}
  saf : Saf := {}
  lpe : Lpe := {}
  can : Can := {}
  ser : Ser := {}
  dp : Dp := {}
  recorder : Rec := {}
  dsp : Dsp := {}
  sec : Sec := {}
  /-- Bits of W1C registers that the module has set at this tick, by register offset (R16). -/
  fresh : List (Nat × Word) := []
  /-- What has left the module, newest first (the model's own, log 6). -/
  out : List Output := []
  /-- Free values taken so far (the model's own, log 1). -/
  free : Nat := 0
  deriving DecidableEq, Repr

end Sys2Proof.Machine

namespace Sys2Proof.Machine

/-- The state: the queue of commands that wait, first in first out, and the module. -/
structure State where
  pending : List Instr := []
  blk : Block := {}
  deriving DecidableEq, Repr

/-- The module right after reset, before the supply is qualified: every field at the value its unit's record names. -/
def State.reset : State := { pending := [], blk := {} }

end Sys2Proof.Machine
end

