-- ==== Sys2Proof/WellFormed.lean ====
section
/-! DEFINITION. Well-formed commands: every operand names something that the module has (Table 0.8). -/

namespace Sys2Proof

/-- The operands of a command lie within the numbers of the objects they name. -/
def Instr.ok (i : Instr) : Bool :=
  match i with
  | .registerWrite link off _ _ => decide (link < 2) && decide (off < 0x100000)
  | .lowWordRead link off _ => decide (link < 2) && decide (off < 0x100000)
  | .lowWordWrite link off _ => decide (link < 2) && decide (off < 0x100000) && decide (off % 4 = 0)
  | .highWordWrite link off _ => decide (link < 2) && decide (off < 0x100000) && decide (off % 4 = 0)
  | .faultRecordW0Read link n => decide (link < 2) && decide (n < 16)
  | .powerUp _ => true
  | .ready => true
  | .linkUp link _ => decide (link < 2)
  | .linkDown link => decide (link < 2)
  | .timeTrigger tt => decide (tt < 64)
  | .seedBoundary => true
  | .seedCaptureComplete => true
  | .freezeTimeout => true
  | .timebaseFault => true
  | .load link => decide (link < 2)
  | .imageReadComplete _ => true
  | .admissionComplete => true
  | .growthRetry => true
  | .switch link => decide (link < 2)
  | .abort link => decide (link < 2)
  | .bankSwitch => true
  | .confirm link => decide (link < 2)
  | .confirmImgWrite link _ => decide (link < 2)
  | .confirmSafWrite link _ => decide (link < 2)
  | .keyAsserted => true
  | .keyReleased => true
  | .ringEnable link ring _ => decide (link < 2) && decide (ring < 128)
  | .ringStop link ring => decide (link < 2) && decide (ring < 128)
  | .ringReset link ring => decide (link < 2) && decide (ring < 128)
  | .doorbell link ring h => decide (link < 2) && decide (ring < 128) && decide (h < 0x20000)
  | .descriptorFetch ring _ => decide (ring < 128)
  | .descriptorWriteback ring _ => decide (ring < 128)
  | .msixHoldoffEnd link vec => decide (link < 2) && decide (vec < 32)
  | .write ring => decide (ring < 128)
  | .read ring => decide (ring < 128)
  | .release ring => decide (ring < 128)
  | .nop ring => decide (ring < 128)
  | .cancel ring => decide (ring < 128)
  | .targetResolve cls index field => decide (cls < 256) && decide (index < 0x10000) && decide (field < 256)
  | .couplerFrameBoundary => true
  | .fieldFrameReceive ch _ => decide (ch < 192)
  | .feWatchdog ch => decide (ch < 192)
  | .feSelfTestEnd ch _ => decide (ch < 192)
  | .retest link ch => decide (link < 2) && decide (ch < 192)
  | .clrLinkerr link ch => decide (link < 2) && decide (ch < 192)
  | .foldback ch => decide (ch < 192)
  | .foldbackRetry ch => decide (ch < 192)
  | .compliance ch => decide (ch < 192)
  | .openLoad ch => decide (ch < 192)
  | .deviation ch => decide (ch < 192)
  | .deviationRetry ch => decide (ch < 192)
  | .overload ch => decide (ch < 192)
  | .overloadRetry ch => decide (ch < 192)
  | .thermal ch _ => decide (ch < 192)
  | .wireBreak ch => decide (ch < 192)
  | .couplerLoss ch => decide (ch < 192)
  | .fieldFeedLost group feed _ => decide (group < 8) && decide (feed < 2)
  | .fieldFeedRestored group feed _ => decide (group < 8) && decide (feed < 2)
  | .fePowerOff ch => decide (ch < 192)
  | .overcurrent group _ _ => decide (group < 8)
  | .restartAck ring => decide (ring < 128)
  | .entry ring => decide (ring < 128)
  | .measured ring => decide (ring < 128)
  | .channelStatus ring => decide (ring < 128)
  | .sampleWrite ch _ _ => decide (ch < 192)
  | .diDebounce ch => decide (ch < 192)
  | .imageAssembly image _ => decide (image < 64)
  | .hartPoll ch => decide (ch < 192)
  | .hartReply ch _ resp dev _ => decide (ch < 192) && decide (resp < 256) && decide (dev < 256)
  | .hartReplyTimeout ch => decide (ch < 192)
  | .hartBurstFrame ch cmd resp dev _ => decide (ch < 192) && decide (cmd < 256) && decide (resp < 256) && decide (dev < 256)
  | .hartBurstTimeout ch => decide (ch < 192)
  | .hartPassThrough ring => decide (ring < 128)
  | .hartStatus ring => decide (ring < 128)
  | .safetyScan _ _ => true
  | .testPulseSlot slot => decide (slot < 64)
  | .safetyDataLost ch => decide (ch < 192)
  | .uslFrameReceive conn _ => decide (conn < 24)
  | .uslFailedEnd conn => decide (conn < 24)
  | .uslWatchdog conn sub => decide (conn < 24) && decide (sub < 2)
  | .uslPeriodicSend conn => decide (conn < 24)
  | .uslEventHoldoffEnd conn => decide (conn < 24)
  | .loopEvaluation lane _ => decide (lane < 16)
  | .tuneStart ring => decide (ring < 128)
  | .tuneTimeout slot => decide (slot < 4)
  | .tuneAbort ring => decide (ring < 128)
  | .tuneAccept ring => decide (ring < 128)
  | .tuneReject ring => decide (ring < 128)
  | .loopPv ring => decide (ring < 128)
  | .loopOut ring => decide (ring < 128)
  | .loopStatus ring => decide (ring < 128)
  | .gainTableRead ring => decide (ring < 128)
  | .dpCycleBoundary => true
  | .intakeStage _ => true
  | .lateWindowEnd => true
  | .estimatorStage _ => true
  | .controlLawStage _ => true
  | .intactSolve _ => true
  | .delivery => true
  | .consequenceSolve group _ => decide (group < 32)
  | .consequenceCutoff => true
  | .select ring => decide (ring < 128)
  | .readmit ring => decide (ring < 128)
  | .fusionMode ring => decide (ring < 128)
  | .reOrigin ring => decide (ring < 128)
  | .intakeStatus ring => decide (ring < 128)
  | .dpEnable ring => decide (ring < 128)
  | .spHere ring => decide (ring < 128)
  | .groupEn ring => decide (ring < 128)
  | .dpStatus ring => decide (ring < 128)
  | .roleSend => true
  | .roleReceive k _ => decide (k < 2)
  | .departSend => true
  | .livenessLoss k => decide (k < 2)
  | .leaseFence => true
  | .leaseExpiry => true
  | .take link => decide (link < 2)
  | .clrErrs link => decide (link < 2)
  | .startAlone => true
  | .seedRestoreComplete => true
  | .seedReceive k _ => decide (k < 2)
  | .partnerUslReceive k _ => decide (k < 2)
  | .seedCommitComplete _ => true
  | .handover ring => decide (ring < 128)
  | .roleStatus ring => decide (ring < 128)
  | .handoverBoundary => true
  | .handoverRestore => true
  | .handoverTick => true
  | .overlapWindowEnd => true
  | .drillDue => true
  | .partnerLinkChange k _ => decide (k < 2)
  | .canFrameReceive ctl _ => decide (ctl < 16)
  | .canLaunch ring => decide (ring < 128)
  | .canAttemptStart ctl => decide (ctl < 16)
  | .canTxComplete ctl tdcv => decide (ctl < 16) && decide (tdcv < 128)
  | .canAttemptFailed ctl err tdcv => decide (ctl < 16) && decide (err.lec < 8) && decide (tdcv < 128)
  | .recover link ctl => decide (link < 2) && decide (ctl < 16)
  | .recovered ctl => decide (ctl < 16)
  | .canClrCounts link ctl => decide (link < 2) && decide (ctl < 16)
  | .canModeChange ctl => decide (ctl < 16)
  | .data ring => decide (ring < 128)
  | .lock ring => decide (ring < 128)
  | .txEn ring => decide (ring < 128)
  | .objectStatus ring => decide (ring < 128)
  | .lockTmo obj => decide (obj < 2048)
  | .ethFrameReceive port _ _ _ => decide (port < 8)
  | .nodeForget net _ => decide (net < 4)
  | .prpSupervision => true
  | .ethLaunch ring => decide (ring < 128)
  | .ethFrameSent net _ => decide (net < 4)
  | .receivingTimeout stream => decide (stream < 16)
  | .ethLinkChange port _ => decide (port < 8)
  | .ethClrCounts link net => decide (link < 2) && decide (net < 4)
  | .refQualified => true
  | .refLost => true
  | .incWrite link k _ => decide (link < 2) && decide (k < 3)
  | .stepWrite link k _ => decide (link < 2) && decide (k < 2)
  | .sel link source => decide (link < 2) && decide (source < 4)
  | .setTime link => decide (link < 2)
  | .setValid link => decide (link < 2)
  | .clrValid link => decide (link < 2)
  | .snap link => decide (link < 2)
  | .discHoldExpiry => true
  | .ppsInEdge io => decide (io < 2)
  | .ppsInTimeout io => decide (io < 2)
  | .ppsOutRise io => decide (io < 2)
  | .ppsOutFall io => decide (io < 2)
  | .timeStatus ring => decide (ring < 128)
  | .vtNsecRead ring => decide (ring < 128)
  | .timeSnapshot ring => decide (ring < 128)
  | .sentenceReceive port _ _ _ _ => decide (port < 24)
  | .sentenceGap port => decide (port < 24)
  | .chunkEnd port _ _ _ _ => decide (port < 24)
  | .serialTransmit ring => decide (ring < 128)
  | .faultDetected source _ _ _ _ => decide (1 ≤ source) && decide (source ≤ 0x17)
  | .faultHandlingEnd domain => decide (domain < 8)
  | .stageHang _ site => decide (site < 33)
  | .coreSupply => true
  | .scrubPassEnd area _ => decide (area < 2)
  | .forceWrite link which _ => decide (link < 2) && decide (which < 4)
  | .replicaMeasurement _ => true
  | .barkMeasurement _ => true
  | .marginOut _ => true
  | .ageSave => true
  | .markClose => true
  | .trimStepDown => true
  | .trimReqRepeat => true
  | .trimAck _ => true
  | .trim => true
  | .clr link mon => decide (link < 2) && decide (mon < 32)
  | .recordWritten => true
  | .fire ring => decide (ring < 128)
  | .recorderStatus ring => decide (ring < 128)
  | .displayUpdateStart => true
  | .displayFrame => true
  | .fullRefresh => true
  | .refreshPeriod => true
  | .thermistorRead _ => true
  | .railCheck _ _ _ => true
  | .heartbeat => true
  | .displayValue ring => decide (ring < 128)
  | .refresh ring => decide (ring < 128)
  | .displayStatus ring => decide (ring < 128)
  | .secConfirmWrite src _ => decide (src < 3)
  | .openAction src => decide (src < 3)
  | .seal src => decide (src < 3)
  | .unseal src => decide (src < 3)
  | .retire src => decide (src < 3)
  | .dbgSet src level => decide (src < 3) && decide (level < 4)
  | .regRead _ => true
  | .regWrite _ _ => true
  | .arrayRead _ _ => true
  | .dbgNop => true
  | .logicFeedLost feed => decide (feed < 2)
  | .logicFeedRestored feed => decide (feed < 2)
  | .rideThroughTimeout => true
  | .holdupReserve mj => decide (mj < 4096)
  | .powerOff => true
  | .wakeTest _ => true
  | .completionTimeout ring _ => decide (ring < 128)
  | .bufferReadCompletion ring _ _ => decide (ring < 128)
  | .vectorUnmask link vec => decide (link < 2) && decide (vec < 32)
  | .linkRetrain link _ => decide (link < 2)
  | .listenWindowEnd => true
  | .slewComplete => true
  | .serialTxComplete port => decide (port < 24)
  | .errorFrameDetected ctl lec _ _ => decide (ctl < 16) && decide (lec < 8)
  | .holdupLow mj => decide (mj < 4096)

/-- A well-formed command. -/
abbrev Instr.WellFormed (i : Instr) : Prop := i.ok = true

end Sys2Proof
end

