-- ==== Sys2Proof/Machine/Act.lean ====
section
/-! DEFINITION. How a command acts: on everything but the queue, while the module is not Off (R533, Table 17.8). -/

namespace Sys2Proof.Machine

/-- The outcome of a command. -/
abbrev Result := Host.Outcome State Fault Refusal

/-- A command takes its effect on the module; one whose operands name nothing that the module has leaves everything as it is (log 47). -/
def actAlways (c : Instr) (f : Block → Block) (s : State) : Result := .next { s with blk := if c.ok then f s.blk else s.blk }

/-- As `actAlways`; in Off nothing runs (Table 17.8). -/
def act (c : Instr) (f : Block → Block) (s : State) : Result :=
  actAlways c (fun b => if b.sec.power = 3 then b else f b) s

end Sys2Proof.Machine
end

