-- ==== Sys2Proof/Machine/Crc.lean ====
section
/-! DEFINITION. The cyclic redundancy codes and check sums the spec names: CRC-32 (R61), the Safe Layer CRC (R216), CRC-8 of the
carrier management port (R555) and the sentence check sum (R446). -/

namespace Sys2Proof.Machine

/-- One bit step of CRC-32 in its reflected form: polynomial 0x04C1_1DB7 reflected is 0xEDB8_8320 (R61). -/
def crc32Bit (c : Word) : Word := if c.getLsbD 0 then (c >>> 1) ^^^ 0xEDB88320#32 else c >>> 1

/-- One byte of CRC-32. -/
def crc32Byte (c : Word) (x : Byte) : Word :=
  crc32Bit (crc32Bit (crc32Bit (crc32Bit (crc32Bit (crc32Bit (crc32Bit (crc32Bit (c ^^^ x.zeroExtend 32))))))))

/-- CRC-32 with initial value and final XOR 0xFFFF_FFFF, reflected input and output (R61). -/
def crc32 (bs : List Byte) : Word := bs.foldl crc32Byte 0xFFFFFFFF#32 ^^^ 0xFFFFFFFF#32

/-- One bit of a CRC taken most significant bit first, with polynomial `p`. -/
def crcMsbBit (p c : Word) (v : Bool) : Word :=
  if c.getLsbD 31 ^^ v then (c <<< 1) ^^^ p else c <<< 1

/-- One byte of a CRC taken most significant bit first. -/
def crcMsbByte (p c : Word) (x : Byte) : Word :=
  [7, 6, 5, 4, 3, 2, 1, 0].foldl (fun c i => crcMsbBit p c (x.getLsbD i)) c

/-- A 32-bit CRC most significant bit first, no reflection and no final XOR. -/
def crcMsb (p init : Word) (bs : List Byte) : Word := bs.foldl (crcMsbByte p) init

/-- One byte of CRC-8, most significant bit first, with polynomial `p`. -/
def crc8Byte (p c : Byte) (x : Byte) : Byte :=
  (List.range 8).foldl (fun (c : Byte) _ => if c.getLsbD 7 then (c <<< 1) ^^^ p else c <<< 1) (c ^^^ x)

/-- CRC-8 with initial value 0. -/
def crc8 (p : Byte) (bs : List Byte) : Byte := bs.foldl (crc8Byte p) 0

/-- The exclusive or of a list of bytes. -/
def xorSum (bs : List Byte) : Byte := bs.foldl (· ^^^ ·) 0

end Sys2Proof.Machine
end

