-- ==== Sys2Proof/Machine/Cfg.lean ====
section
/-! DEFINITION. The banks of the configuration store and the configuration in force: image header, section table and section words
(R58 to R62), and the accessors every unit reads its configuration with. -/

namespace Sys2Proof.Machine

/-- The bank with a physical number. -/
def Glb.bankAt (g : Glb) (i : Nat) : Bank := if i = 0 then g.bank0 else g.bank1

/-- Replace a bank. -/
def Glb.setBank (g : Glb) (i : Nat) (k : Bank) : Glb := if i = 0 then { g with bank0 := k } else { g with bank1 := k }

/-- Physical number of the shadow bank (R58). -/
def Glb.shadowNo (g : Glb) : Nat := 1 - g.bank

/-- The active bank: the one the selector names, in force or not (R57). -/
def Glb.activeBank (g : Glb) : Bank := g.bankAt g.bank

/-- The shadow bank. -/
def Glb.shadowBank (g : Glb) : Bank := g.bankAt g.shadowNo

/-- Header words of an image (Table 2.3). -/
def imgMagic (m : Tab Byte) : Word := wordAt m 0x0
def imgFormat (m : Tab Byte) : Word := wordAt m 0x4
def imgLength (m : Tab Byte) : Nat := (wordAt m 0x8).toNat
def imgSections (m : Tab Byte) : Nat := (wordAt m 0xC).toNat
def imgSafetyCrc (m : Tab Byte) : Word := wordAt m 0x10
def imgSeedWords (m : Tab Byte) : Nat := (wordAt m 0x14).toNat
/-- IMAGE_CRC, the last word of the image. -/
def imgCrc (m : Tab Byte) : Word := wordAt m (imgLength m - 4)

/-- Section table entry `i`: TYPE, FLAGS, OFFSET, LENGTH. -/
def secEntry (m : Tab Byte) (i : Nat) : Nat × Nat × Nat × Nat :=
  let a := 0x20 + 16 * i
  ((wordAt m a).toNat, (wordAt m (a + 4)).toNat, (wordAt m (a + 8)).toNat, (wordAt m (a + 12)).toNat)

/-- The used entry of a section type: FLAGS, OFFSET and LENGTH. -/
def secFind (m : Tab Byte) (ty : Nat) : Option (Nat × Nat × Nat) :=
  (List.range 16).findSome? fun i =>
    let e := secEntry m i
    if i < imgSections m ∧ e.1 = ty then some e.2 else none

/-- Word `i` of the body of a section; 0 beyond its end or without the section. -/
def secWord (m : Tab Byte) (ty i : Nat) : Word :=
  match secFind m ty with
  | none => 0
  | some (_, off, len) => if 4 * i + 4 ≤ len then wordAt m (off + 4 * i) else 0

/-- Byte `i` of the body of a section. -/
def secByte (m : Tab Byte) (ty i : Nat) : Byte :=
  match secFind m ty with
  | none => 0
  | some (_, off, len) => if i < len then byteAt m (off + i) else 0

/-- Length of the body of a section, 0 without it. -/
def secLen (m : Tab Byte) (ty : Nat) : Nat :=
  match secFind m ty with
  | none => 0
  | some (_, _, len) => len

/-- Whether an image holds a section. -/
def secHas (m : Tab Byte) (ty : Nat) : Bool := (secFind m ty).isSome

/-- CARRY of a section (R62). -/
def secCarry (m : Tab Byte) (ty : Nat) : Bool :=
  match secFind m ty with
  | none => false
  | some (flags, _, _) => flags % 2 == 1

/-- The memory of the bank in force; empty while no bank is in force. -/
def cfgMem (b : Block) : Tab Byte := if b.glb.active then b.glb.activeBank.mem else []

/-- Word `i` of a section of the bank in force; 0 while no bank is in force. -/
def cfgW (b : Block) (ty i : Nat) : Word := if b.glb.active then secWord b.glb.activeBank.mem ty i else 0

/-- The body of a section of the bank in force reaches beyond its first `n` words. A body that its chapter's records do not fit into breaks the
chapter's rule (R65, Table 2.5). -/
def secReach (b : Block) (ty n : Nat) : Bool := decide (4 * n ≤ secLen b.glb.activeBank.mem ty)

/-- IMAGE_CRC of the bank in force; 0 when no bank is in force. -/
def bankCrc (b : Block) : Word := if b.glb.active then imgCrc b.glb.activeBank.mem else 0

/-- SAFETY_CRC of the bank in force; 0 when no bank is in force. -/
def bankSafCrc (b : Block) : Word := if b.glb.active then imgSafetyCrc b.glb.activeBank.mem else 0

/-! Section 0x01 (R441). -/

def timCfg (b : Block) : Word := cfgW b 1 0
def timDomCfg (b : Block) (k : Nat) : Word := cfgW b 1 (1 + k)
def timPpsOutCfg (b : Block) (i : Nat) : Word := cfgW b 1 (3 + i)
def ttCfg (b : Block) (n : Nat) : Word := cfgW b 1 (16 + 2 * n)
def ttPhase (b : Block) (n : Nat) : Word := cfgW b 1 (17 + 2 * n)

/-- SLEW_PPM in force; 50 while no bank is in force (R417). -/
def slewPpm (b : Block) : Nat := if b.glb.active then fld (timCfg b) 2 10 else 50
/-- DISC_HOLD in seconds; 0 while no bank is in force. -/
def discHold (b : Block) : Nat := fld (timCfg b) 12 10

/-! Section 0x09 (R387). -/

def ptnCfg (b : Block) : Word := cfgW b 9 0
def ptnCfg2 (b : Block) : Word := cfgW b 9 1
def ptnMapLo (b : Block) (e : Nat) : Word := cfgW b 9 (2 + 2 * e)
def ptnMapHi (b : Block) (e : Nat) : Word := cfgW b 9 (3 + 2 * e)
def ptnSeqObj (b : Block) (k : Nat) : Word := cfgW b 9 (34 + k)
def isActive (b : Block) : Bool := b.ptn.role == 0
def paired (b : Block) : Bool := bit (ptnCfg b) 0
def overlapMode (b : Block) : Bool := bit (ptnCfg b) 1
/-- ST in ticks (R352). -/
def silentT (b : Block) : Nat := fld (ptnCfg b) 13 8 * 100000
/-- L in ticks (R361). -/
def leaseL (b : Block) : Nat := fld (ptnCfg b) 4 9 * 100000
/-- W_O in ticks (R373). -/
def overlapW (b : Block) : Nat := fld (ptnCfg b) 21 4 * 100000

/-! Section 0x0A (R521). -/

def trgCfg (b : Block) (t : Nat) : Word := cfgW b 0xA (34 * t)
def trgArg (b : Block) (t : Nat) : Word := cfgW b 0xA (34 * t + 1)
def trgReg (b : Block) (t i : Nat) : Word := cfgW b 0xA (34 * t + 2 + i)
def dspCfg (b : Block) : Word := cfgW b 0xA 1088
def dspBandT (b : Block) (i : Nat) : Word := cfgW b 0xA (1089 + i)
/-- Word `i` of a band record (CFG, DARK_LO, DARK_HI, LIGHT_LO, LIGHT_HI). -/
def dspBand (b : Block) (k i : Nat) : Word := cfgW b 0xA (1092 + 6 * k + i)
def dspSeg (b : Block) (s : Nat) : Word := cfgW b 0xA (1140 + s)

/-! Section 0x0B (R488). -/

def monCfg (b : Block) (m : Nat) : Word := cfgW b 0xB (4 * m)
def monSrc (b : Block) (m : Nat) : Word := cfgW b 0xB (4 * m + 1)
def monLo (b : Block) (m : Nat) : Word := cfgW b 0xB (4 * m + 2)
def monHi (b : Block) (m : Nat) : Word := cfgW b 0xB (4 * m + 3)
def cntCfg (b : Block) (k : Nat) : Word := cfgW b 0xB (128 + k)

/-! Section 0x07 (R441). -/

def netCfg (b : Block) (n : Nat) : Word := cfgW b 7 (4 * n)
def netIp (b : Block) (n : Nat) : Word := cfgW b 7 (4 * n + 1)
def netUslGroup (b : Block) (n : Nat) : Word := cfgW b 7 (4 * n + 2)
def rxfCfg (b : Block) (n f : Nat) : Word := cfgW b 7 (16 + 2 * (16 * n + f))
def rxfMatch (b : Block) (n f : Nat) : Word := cfgW b 7 (17 + 2 * (16 * n + f))
/-- Word `i` of a stream record (CFG, GROUP, SFI_LO, SFI_HI). -/
def strCfg (b : Block) (j i : Nat) : Word := cfgW b 7 (144 + 4 * j + i)
def tdCfg (b : Block) (n d : Nat) : Word := cfgW b 7 (208 + 2 * (32 * n + d))
def tdArg (b : Block) (n d : Nat) : Word := cfgW b 7 (209 + 2 * (32 * n + d))
/-- LEN of a datagram. -/
def tdLen (b : Block) (n d : Nat) : Nat := fld (tdCfg b n d) 1 10
/-- Byte offset in the section body of the template of a datagram: the templates of the enabled datagrams before it, each padded to a
multiple of 8 bytes (R441). -/
def tdTemplateAt (b : Block) (n d : Nat) : Nat :=
  (List.range (32 * n + d)).foldl (fun a k =>
    if bit (tdCfg b (k / 32) (k % 32)) 0 then a + nextMultiple 8 (tdLen b (k / 32) (k % 32)) else a) (464 * 4)
/-- Byte `i` of the template of a datagram. -/
def tdTemplate (b : Block) (n d i : Nat) : Byte :=
  if b.glb.active then secByte b.glb.activeBank.mem 7 (tdTemplateAt b n d + i) else 0

/-- The loop engine and the DP engine stand still: a takeover has not restored the seed yet (R366), or the freeze of a handover boundary has
ended (R371). -/
def enginesHeld (b : Block) : Bool :=
  b.ptn.takeover.isSome || (b.freeze.isNone && match b.ptn.handover with
    | some h => h.captured
    | none => false)

/-- Whether a unit is fenced (R466). -/
def isFenced (b : Block) (u : FUnit) : Bool := b.flt.fenced.contains u

end Sys2Proof.Machine
end

