-- ==== Sys2Proof/Machine/CfgField.lean ====
section
/-! DEFINITION. Accessors for the configuration of channels, images, safety, loops, DP, CAN and serial ports, and the instants that
triggers and dividers give. -/

namespace Sys2Proof.Machine

/-! Section 0x02 (R570). -/

def chnCfg (b : Block) (n : Nat) : Word := cfgW b 2 (8 * n)
def chnSafe (b : Block) (n : Nat) : Word := cfgW b 2 (8 * n + 1)
def chnLoThr (b : Block) (n : Nat) : Word := cfgW b 2 (8 * n + 2)
def chnHiThr (b : Block) (n : Nat) : Word := cfgW b 2 (8 * n + 3)
def chnSample (b : Block) (n : Nat) : Word := cfgW b 2 (8 * n + 4)
def chnFilter (b : Block) (n : Nat) : Word := cfgW b 2 (8 * n + 5)
def chnHartCfg (b : Block) (n : Nat) : Word := cfgW b 2 (8 * n + 6)
def imgCfg (b : Block) (i : Nat) : Word := cfgW b 2 (1536 + 2 * i)
/-- List word of an image: byte offset of the block list and the number of blocks. -/
def imgList (b : Block) (i : Nat) : Word := cfgW b 2 (1537 + 2 * i)
/-- Byte of the body of section 0x02. -/
def chnSecByte (b : Block) (i : Nat) : Byte := if b.glb.active then secByte b.glb.activeBank.mem 2 i else 0

/-! Section 0x03 (R204). -/

def safGlbCfg (b : Block) : Word := cfgW b 3 0
/-- Word `i` of a pair record (CFG, CFG2, CFG3). -/
def safPair (b : Block) (p i : Nat) : Word := cfgW b 3 (16 + 4 * p + i)
def safScCfg (b : Block) (n : Nat) : Word := cfgW b 3 (112 + 2 * n)
def safScOutFn (b : Block) (n : Nat) : Word := cfgW b 3 (113 + 2 * n)
/-- Word `i` of a function record (DEMAND, DEMAND_USL, ACTION, RESET). -/
def safFn (b : Block) (f i : Nat) : Word := cfgW b 3 (120 + 4 * f + i)
def safForceTgt (b : Block) (i : Nat) : Word := cfgW b 3 (248 + 2 * i)
def safForceFn (b : Block) (i : Nat) : Word := cfgW b 3 (249 + 2 * i)
/-- Word `i` of the connection records of the Safe Layer. -/
def uslWord (b : Block) (i : Nat) : Word := cfgW b 3 (760 + i)

/-! Section 0x04 (R569): 90 words a context. -/

def lpeW (b : Block) (c i : Nat) : Word := cfgW b 4 (90 * c + i)
def lpeEn (b : Block) (c : Nat) : Bool := bit (lpeW b c 0) 0
def lpeLane (b : Block) (c : Nat) : Nat := fld (lpeW b c 0) 4 4
/-- Loop period in ticks (R243). -/
def lpePeriod (b : Block) (c : Nat) : Nat := fld (lpeW b c 1) 0 20 * 10000
def lpeTrig (b : Block) (c : Nat) : Nat := fld (lpeW b c 1) 20 6
/-- The enabled contexts. -/
def lpeList (b : Block) : List Nat := if b.glb.active then (List.range 256).filter (lpeEn b) else []

/-! Section 0x05 (R310, R346). -/

def dpIn (b : Block) (i : Nat) : Word := cfgW b 5 i
def snsW (b : Block) (s i : Nat) : Word := cfgW b 5 (16 + 24 * s + i)
def estW (b : Block) (i : Nat) : Word := cfgW b 5 (784 + i)
def ctlW (b : Block) (i : Nat) : Word := cfgW b 5 (824 + i)
def alcW (b : Block) (i : Nat) : Word := cfgW b 5 (848 + i)
def thrW (b : Block) (n i : Nat) : Word := cfgW b 5 (864 + 16 * n + i)
def grpCfg (b : Block) (g : Nat) : Word := cfgW b 5 (1248 + 2 * g)
/-- The bank in force has a DP section. -/
def dpHas (b : Block) : Bool := b.glb.active && secHas b.glb.activeBank.mem 5

/-! Section 0x06 (R410). -/

/-- Word `i` of a controller record (CFG, NBT, DBT, TDC, CATCH_ID, CATCH_MASK). -/
def canCtl (b : Block) (c i : Nat) : Word := cfgW b 6 (8 * c + i)
/-- Word `i` of an object record (CFG, ID, ARG); objects count from 0 to 2047. -/
def canObj (b : Block) (o i : Nat) : Word := cfgW b 6 (128 + 4 * o + i)
def canSecByte (b : Block) (i : Nat) : Byte := if b.glb.active then secByte b.glb.activeBank.mem 6 i else 0

/-! Section 0x08 (R455). -/

def serPort (b : Block) (p i : Nat) : Word := cfgW b 8 (4 * p + i)
def serTpl (b : Block) (t i : Nat) : Word := cfgW b 8 (96 + 12 * t + i)

/-! Triggers (R424). -/

def ttEn (b : Block) (n : Nat) : Bool := bit (ttCfg b n) 0
/-- Period of a trigger in ticks. -/
def ttPeriod (b : Block) (n : Nat) : Nat := fld (ttCfg b n) 1 26 * 100
/-- Phase of a trigger in ticks. -/
def ttPhaseT (b : Block) (n : Nat) : Nat := fld (ttPhase b n) 0 26 * 100
/-- A trigger fires at tick `t` (R424). -/
def ttFires (b : Block) (n t : Nat) : Bool :=
  b.glb.active && ttEn b n && (t % ttPeriod b n == ttPhaseT b n)
/-- Divider of a loop: its period over the period of its trigger (R243). -/
def lpeDivider (b : Block) (c : Nat) : Nat := lpePeriod b c / ttPeriod b (lpeTrig b c)
/-- Image period in ticks (R165). -/
def imgPeriod (b : Block) (i : Nat) : Nat := ttPeriod b (fld (imgCfg b i) 0 6) * fld (imgCfg b i) 8 16
def imgEn (b : Block) (i : Nat) : Bool := bit (imgCfg b i) 7

/-- The module as it would be with an image in force, for the checks of admission. -/
def asIfActive (m : Tab Byte) (b : Block) : Block :=
  { b with glb := { b.glb with active := true, bank := 0, bank0 := { b.glb.bank0 with mem := m } } }

/-- Physical loop lanes that are not fenced (R249). -/
def loopLanes (b : Block) : List Nat := (List.range 18).filter fun l => !isFenced b (.loopLane l)
/-- Physical solver lanes that are not fenced. -/
def solverLanes (b : Block) : List Nat := (List.range 9).filter fun l => !isFenced b (.solverLane l)
/-- Lu of R314. -/
def solverLu (b : Block) : Nat := min 8 (solverLanes b).length
/-- Enabled failure groups of the bank. -/
def dpGroups (b : Block) : List Nat := (List.range 32).filter fun g => bit (grpCfg b g) 31

/-- Key of a command target in the target table: CLASS, INDEX and FIELD (R97). -/
def targetKey (cls index field : Nat) : Nat := cls * 2 ^ 24 + index * 2 ^ 8 + field

def targetAt (b : Block) (k : Nat) : Target := tget {} b.rng.targets k

end Sys2Proof.Machine
end

