-- ==== Sys2Proof/Machine/ChnCalc.lean ====
section
/-! DEFINITION. What the channel engine's state reads as: status words, validity, entries of images, registers (chapters 4 and 5), and
the checks of the channel section. -/

namespace Sys2Proof.Machine

def chanAt (b : Block) (n : Nat) : Chan := tget {} b.chn.chans n
def groupAt (b : Block) (g : Nat) : Group := tget {} b.chn.groups g
def imageAt (b : Block) (i : Nat) : Image := tget {} b.chn.images i

/-- Fields of CHN_CH_CFG (Table 4.17). -/
def chnMode (b : Block) (n : Nat) : Nat := fld (chnCfg b n) 0 4
def chnType (b : Block) (n : Nat) : Nat := if chnMode b n = 4 then fld (chnCfg b n) 4 2 else 3
def chnWb (b : Block) (n : Nat) : Bool := bit (chnCfg b n) 7
def chnFaultAction (b : Block) (n : Nat) : Bool := bit (chnCfg b n) 8
def chnRetry (b : Block) (n : Nat) : Bool := bit (chnCfg b n) 9
def chnOpenDet (b : Block) (n : Nat) : Bool := bit (chnCfg b n) 10
def chnHartEn (b : Block) (n : Nat) : Bool := bit (chnCfg b n) 11
def chnRestartHold (b : Block) (n : Nat) : Bool := bit (chnCfg b n) 12
def chnFeedback (b : Block) (n : Nat) : Bool := bit (chnCfg b n) 13
def chnHostMin (b : Block) (n : Nat) : Nat := fld (chnCfg b n) 14 3
def chnLoopPrio (b : Block) (n : Nat) : Nat := fld (chnCfg b n) 17 3

def isAI (m : Nat) : Bool := m == 1 || m == 2
/-- AO, DO and SDO drive terminal A. -/
def isOut (m : Nat) : Bool := m == 3 || m == 5 || m == 8

/-- Safe current of an AO: S of Table 4.13. -/
def chnS (b : Block) (n : Nat) : Word :=
  if chnMode b n = 3 ∧ !chnFaultAction b n then chnSafe b n else 0

/-- The partner is heard with the role Active (R141). -/
def partnerActive (b : Block) : Bool := b.ptn.heard && b.ptn.partnerKnown && b.ptn.partner.role == 0

/-- A channel has the status bit `i` of Table 4.18. -/
def Chan.stBit (c : Chan) (i : Nat) : Bool := bit c.st i

/-- VALID of a channel (Table 4.8, R132, R141, R147). -/
def chnValid (b : Block) (n : Nat) : Bool :=
  let c := chanAt b n
  chnMode b n != 0 && !c.stBit 12 && !c.stBit 16 &&
    (c.fe == 3 || c.fe == 4 || (c.fe == 2 && partnerActive b))

/-- CHN_CH_STATUS (Table 4.18): LO and HI read 0 while VALID = 0 (R124). -/
def chnStatus (b : Block) (n : Nat) : Word :=
  let c := chanAt b n
  let v := chnValid b n
  (c.st &&& (if v then 0x000FFFF0#32 else 0x000FFFC0#32)) ||| regOf [(0, 3, c.fe), (3, 1, b1 v)]

/-- Causes of HOLD among the status bits (Table 4.10). -/
def holdCause (c : Chan) : Bool := c.stBit 8 || c.stBit 9 || c.stBit 17 || c.stBit 19

/-- Thresholds of Table 4.5 in binary32 mA: ON and OFF. -/
def diOn (ty : Nat) : Word := if ty = 1 then 0x40200000 else if ty = 2 then 0x40A00000 else 0x40000000
def diOff (ty : Nat) : Word := if ty = 2 then 0x404CCCCD else 0x3FB33333

/-- State of a digital input from its current, the state before in the band between (R131). -/
def diClass (ty : Nat) (meas : Word) (before : Bool) : Bool :=
  if fLe (diOn ty) meas then true else if fLe meas (diOff ty) then false else before

/-- Current in mA that the partner's burden or sink carries at a voltage in V (R141): over 250 Ω for an analogue input; for a digital one the
characteristic of Table 4.5 for its type, a resistance in kΩ below 11 V and a limit above. -/
def listenCurrent (m ty : Nat) (v : Word) : Word :=
  let drawn := fun (kOhm : Word) => ((num v).div (num kOhm)).v
  if isAI m then drawn 0x3E800000
  else if m = 4 ∨ m = 6 ∨ m = 7 then
    if fLt v 0x41300000 then drawn (if ty = 2 then 0x3FC8F5C3 else 0x406AE148)
    else if ty = 2 then 0x40E00000 else 0x40400000
  else v

/-- DEBOUNCE of a DI channel in ticks (R159). -/
def chnDebounce (b : Block) (n : Nat) : Nat := fld (chnFilter b n) 8 16 * 100

/-- The command that the front end applies at this tick (R39). -/
def appliedOf (b : Block) (n : Nat) : Word :=
  let c := chanAt b n
  match c.cmds.find? fun x => decide (x.1 ≤ b.tb) with
  | some x => x.2
  | none => c.applied

/-! Telemetry images (R165, R166, R570). -/

/-- A block of an image: KIND, COUNT and the channel numbers. -/
structure ImgBlock where
  kind : Nat
  count : Nat
  chans : List Nat
  deriving DecidableEq, Repr

def imgBlocksFrom (b : Block) : Nat → Nat → List ImgBlock
  | 0, _ => []
  | k + 1, p =>
    let kind := (chnSecByte b p).toNat
    let count := (chnSecByte b (p + 2)).toNat + 256 * (chnSecByte b (p + 3)).toNat
    let chans := if kind ≤ 2 then (List.range count).map fun j => (chnSecByte b (p + 4 + j)).toNat else []
    { kind := kind, count := count, chans := chans } ::
      imgBlocksFrom b k (p + 4 + nextMultiple 4 chans.length)

/-- The reserved byte of every block header and the padding of every channel list of a block list are 0 (R570). -/
def imgListZero (b : Block) : Nat → Nat → Bool
  | 0, _ => true
  | k + 1, p =>
    let kind := (chnSecByte b p).toNat
    let count := (chnSecByte b (p + 2)).toNat + 256 * (chnSecByte b (p + 3)).toNat
    let n := if kind ≤ 2 then count else 0
    chnSecByte b (p + 1) == 0 && ((List.range (nextMultiple 4 n - n)).all fun j => chnSecByte b (p + 4 + n + j) == 0) &&
      imgListZero b k (p + 4 + nextMultiple 4 n)

/-- The blocks of an image in their order. -/
def imgBlocks (b : Block) (i : Nat) : List ImgBlock := imgBlocksFrom b (fld (imgList b i) 16 8) (fld (imgList b i) 0 16)

/-- Bytes of an entry of a block kind (Tables 5.2 and 5.9, R305, R340). -/
def entryBytes (kind : Nat) : Nat := if kind = 1 then 16 else if kind = 2 then 64 else if kind = 3 then 256 else 864

/-- LENGTH of a block with its header. -/
def blockLen (x : ImgBlock) : Nat := 8 + entryBytes x.kind * x.count

/-- CHN_IMG_LEN. -/
def imgLen (b : Block) (i : Nat) : Nat :=
  if imgEn b i then 32 + ((imgBlocks b i).map blockLen).foldl (· + ·) 0 else 0

/-- W of Table 5.1 in ticks. -/
def windowT (k : Nat) : Nat :=
  [10000, 20000, 50000, 100000, 1000000, 1666667, 2000000, 10000000].getD k 0

/-- Fields of CHN_CH_SAMPLE and CHN_CH_FILTER. -/
def smpEn (b : Block) (n : Nat) : Bool := bit (chnSample b n) 7
def smpTrig (b : Block) (n : Nat) : Nat := fld (chnSample b n) 0 6
def smpDiv (b : Block) (n : Nat) : Nat := fld (chnSample b n) 8 16
def smpPeriod (b : Block) (n : Nat) : Nat := ttPeriod b (smpTrig b n) * smpDiv b n
def iirK (b : Block) (n : Nat) : Nat := fld (chnFilter b n) 4 4

/-- First firing of a trigger at or after the tick at which the bank came into force (R153). -/
def ttFirst (b : Block) (t : Nat) : Nat :=
  let p := max 1 (ttPeriod b t)
  let s := b.glb.bankTick
  s + (ttPhaseT b t + p - s % p) % p

/-- Number of the firing of a trigger at this tick, counted from 0 at the first one under the bank (R153). -/
def ttIndex (b : Block) (t : Nat) : Nat := (b.tb - ttFirst b t) / max 1 (ttPeriod b t)

/-- This tick is an instant of a trigger and divider (R153). -/
def isInstant (b : Block) (t d : Nat) : Bool := ttFires b t b.tb && ttIndex b t % max 1 d == 0

/-- The 16 bytes of a channel entry (Table 5.2). -/
def entryWords (n : Nat) (e : ChnEntry) (age : Nat) : List Word :=
  [e.value, e.aux, regOf [(0, 20, e.status), (20, 8, n)], regOf [(0, 16, e.seq), (16, 16, age)]]

/-- The newest entry of a channel with SAMPLE_TICK at or before a tick (R160, R165). -/
def entryAt (b : Block) (n t : Nat) : ChnEntry :=
  let c := chanAt b n
  if c.cur.tick ≤ t then c.cur else c.prev

/-- OUT_STATUS of an AO (R177). -/
def outStatusOf (b : Block) (n : Nat) : Nat :=
  let c := chanAt b n
  if chnMode b n ≠ 3 then 0 else
  b1 (c.stBit 19 || c.stBit 9 || c.stBit 14 || isFenced b (.channel n)) * 128 + b1 (c.fe == 4 || c.stBit 18 || c.stBit 17) * 8 +
    b1 (c.stBit 10) * 4 + b1 c.hart.disagree * 2

/-- CHN_CH_HART_STATUS (Table 5.14). -/
def hartStatus (b : Block) (n : Nat) : Word :=
  regOf [(0, 3, (chanAt b n).hart.state), (8, 8, outStatusOf b n), (16, 16, (chanAt b n).hart.errors)]

/-- Fields of CHN_CH_HART_CFG. -/
def hartPeriod (b : Block) (n : Nat) : Nat := fld (chnHartCfg b n) 8 8 * 10000000
def hartRetries (b : Block) (n : Nat) : Nat := fld (chnHartCfg b n) 16 2
def hartAuto48 (b : Block) (n : Nat) : Bool := bit (chnHartCfg b n) 18

/-- The 64 bytes of a HART entry (Table 5.9). -/
def hartEntry (b : Block) (n : Nat) : List Byte :=
  let h := (chanAt b n).hart
  let uid := match h.uid with
    | some u => u
    | none => [0, 0, 0, 0, 0]
  leBytes 1 n ++ leBytes 1 h.state ++ leBytes 1 h.resp ++ leBytes 1 h.devStatus ++ wordBytes h.loopCurrent ++
    wordBytes h.pv ++ wordBytes h.sv ++ wordBytes h.tv ++ wordBytes h.qv ++ h.units ++ leBytes 2 h.dvSeq ++
    leBytes 2 h.errors ++ leBytes 8 h.dvTick ++ leBytes 2 h.bursts ++ leBytes 1 h.source ++
    leBytes 1 (outStatusOf b n) ++ h.addStatus ++ uid ++ leBytes 9 0

/-- The channels of a group. -/
def chansOf (g : Nat) : List Nat := (List.range 24).map fun i => 24 * g + i

def chnFencedCount (b : Block) (l : List Nat) : Nat := countOf (fun n => isFenced b (.channel n)) l

/-- Registers of the CHN block (Tables 4.15 and 5.10). -/
def readChn (b : Block) (off : Nat) : Word :=
  if off = 0x0 then
    regOf [(0, 8, chnFencedCount b (List.range 192)),
      (8, 8, (List.range 8).foldl (fun a g => a + b1 (groupAt b g).fieldLost * 2 ^ g) 0),
      (16, 8, (List.range 8).foldl (fun a g => a + b1 (!(groupAt b g).okA || !(groupAt b g).okB) * 2 ^ g) 0)]
  else if 0x10 ≤ off ∧ off < 0x28 then wordOfFn fun k => isFenced b (.channel (8 * (off - 0x10) + k))
  else if off = 0x30 then regOf [(0, 16, b.chn.skipSamples), (16, 16, b.chn.skipImages)]
  else if 0x100 ≤ off ∧ off < 0x180 then
    let g := (off - 0x100) / 0x10
    let x := groupAt b g
    let r := (off - 0x100) % 0x10
    if r = 0 then regOf [(0, 1, b1 x.okA), (1, 1, b1 x.okB), (2, 1, b1 x.fieldLost), (3, 1, b1 x.overcurrent),
      (8, 8, chnFencedCount b (chansOf g))]
    else if r = 4 then regOf [(0, 10, x.voltA), (16, 10, x.voltB)]
    else if r = 8 then regOf [(0, 14, x.curA), (16, 14, x.curB)]
    else x.latch
  else if 0x1000 ≤ off ∧ off < 0x1000 + 0x20 * 192 then
    let n := (off - 0x1000) / 0x20
    let r := (off - 0x1000) % 0x20
    let c := chanAt b n
    if r = 0 then chnCfg b n
    else if r = 4 then chnSafe b n
    else if r = 8 then chnLoThr b n
    else if r = 0xC then chnHiThr b n
    else if r = 0x10 then chnStatus b n
    else if r = 0x14 then c.latch
    else if r = 0x1C then regOf [(0, 16, c.errCount), (16, 16, c.errLongest)]
    else 0
  else if 0x3000 ≤ off ∧ off < 0x3000 + 0x10 * 192 then
    let n := (off - 0x3000) / 0x10
    let r := (off - 0x3000) % 0x10
    if r = 0 then chnSample b n else if r = 4 then chnFilter b n else if r = 8 then chnHartCfg b n else hartStatus b n
  else if 0x5000 ≤ off ∧ off < 0x5400 then
    let i := (off - 0x5000) / 0x10
    let r := (off - 0x5000) % 0x10
    if r = 0 then imgCfg b i else if r = 4 then w32 (imgLen b i) else if r = 8 then w32 (imageAt b i).count else 0
  else 0

/-! Checks of admission (R164, R570). -/

/-- A channel record keeps the rules of chapters 4 and 5. -/
def chnRecordOk (b : Block) (n : Nat) : Bool :=
  let c := chnCfg b n
  let m := chnMode b n
  let s := chnSample b n
  secReach b 2 (8 * n + 8) && decide (m ≤ 8) && decide (c.toNat < 2 ^ 20) && (m != 4 || fld c 4 2 != 0) && (!bit c 13 || m == 4) &&
    (m != 3 || (!fBad (chnSafe b n) && fLe 0 (chnSafe b n) && fLe (chnSafe b n) 0x41C00000)) &&
    (!isAI m || (!fBad (chnLoThr b n) && !fBad (chnHiThr b n))) &&
    !bit s 6 && fld s 24 8 == 0 && (!bit s 7 || smpDiv b n != 0) &&
    !bit (chnFilter b n) 3 && (!(m == 6 && bit s 7) || fld (chnFilter b n) 24 8 != 0) &&
    fld (chnHartCfg b n) 6 2 == 0 && !bit (chnHartCfg b n) 19 && (!chnHartEn b n || decide (5 ≤ fld (chnHartCfg b n) 8 8)) &&
    cfgW b 2 (8 * n + 7) == 0

/-- An image record and its block list keep the rules of chapter 5. -/
def imgRecordOk (b : Block) (len i : Nat) : Bool :=
  let c := imgCfg b i
  let l := imgList b i
  secReach b 2 (1538 + 2 * i) && !bit c 6 && fld c 24 8 == 0 && fld l 24 8 == 0 &&
  if !bit c 7 then true else
  fld c 8 16 != 0 && fld l 0 2 == 0 && imgListZero b (fld l 16 8) (fld l 0 16) &&
    (imgBlocks b i).all (fun x => decide (1 ≤ x.kind) && decide (x.kind ≤ 4) && (decide (x.kind ≤ 2) || x.count == 1) &&
      x.chans.all fun n => decide (n ≤ 191) && (x.kind != 2 || chnHartEn b n)) &&
    decide (fld l 0 16 + ((imgBlocks b i).map fun x => 4 + nextMultiple 4 x.chans.length).foldl (· + ·) 0 ≤
      secLen b.glb.activeBank.mem 2)

/-- STRUCTURE of section 0x02: the DETAIL of the first record that breaks a rule. `b` shows the image as if it were in force. -/
def chnCheck (b : Block) : Option Nat :=
  match (List.range 192).find? (fun n => !chnRecordOk b n) with
  | some n => some n
  | none => ((List.range 64).find? fun i => !imgRecordOk b 0 i).map (0x100 + ·)

/-- CAPACITY of section 0x02 (R164). -/
def chnCapacityOk (b : Block) : Bool :=
  ((List.range 192).all fun n =>
    !smpEn b n || (ttEn b (smpTrig b n) && decide (10000 ≤ smpPeriod b n) && decide (windowT (fld (chnFilter b n) 0 3) ≤ smpPeriod b n))) &&
  ((List.range 192).all fun n =>
    !chnHartEn b n || ((isAI (chnMode b n) || chnMode b n == 3) && decide (3 ≤ fld (chnFilter b n) 0 3))) &&
  ((List.range 64).all fun i =>
    !imgEn b i || (ttEn b (fld (imgCfg b i) 0 6) && decide (imgLen b i ≤ 65536) && decide (10000 ≤ imgPeriod b i)))

end Sys2Proof.Machine
end

