-- ==== Sys2Proof/Machine/SafCalc.lean ====
section
/-! DEFINITION. What the safety engine's state reads as, what it forces, and the checks of the safety section (chapters 6 and 7). -/

namespace Sys2Proof.Machine

def pairAt (b : Block) (p : Nat) : SafPair := tget {} b.saf.pairs p
def portAt (b : Block) (n : Nat) : SafPort := tget {} b.saf.ports n
def fnAt (b : Block) (f : Nat) : SafFn := tget {} b.saf.fns f
def connAt (b : Block) (c : Nat) : UslConn := tget {} b.saf.conns c

/-- TPP in ticks (R187). -/
def safTpp (b : Block) : Nat := fld (safGlbCfg b) 0 7 * 1000000

/-- Fields of a pair record (Tables 6.13 and 6.14). -/
def spType (b : Block) (p : Nat) : Nat := fld (safPair b p 0) 0 2
def spA (b : Block) (p : Nat) : Nat := fld (safPair b p 0) 2 8
def spB (b : Block) (p : Nat) : Nat := fld (safPair b p 0) 10 8
/-- N = 10 × TD (R193). -/
def spN (b : Block) (p : Nat) : Nat := 10 * fld (safPair b p 0) 18 13
def spTpw (b : Block) (p : Nat) : Nat := fld (safPair b p 1) 0 3 * 10000
def spTpn (b : Block) (p : Nat) : Nat := fld (safPair b p 1) 3 2 * 5000
def spFilter (b : Block) (p : Nat) : Nat := fld (safPair b p 1) 5 10 * 10000
def spFb (b : Block) (p : Nat) : Bool := bit (safPair b p 1) 15
def spFbCh (b : Block) (p : Nat) : Nat := fld (safPair b p 1) 16 8
def spTf (b : Block) (p : Nat) : Nat := fld (safPair b p 2) 0 10 * 100000

/-- Fields of a port record (Table 6.12). -/
def scMode (b : Block) (n : Nat) : Nat := fld (safScCfg b n) 0 2
def scPaired (b : Block) (n : Nat) : Bool := bit (safScCfg b (n / 2 * 2)) 2
def scTpw (b : Block) (n : Nat) : Nat := fld (safScCfg b n) 3 3 * 10000
def scMask (b : Block) (n : Nat) : Nat := fld (safScCfg b n) 6 4 * 10000
def scN (b : Block) (n : Nat) : Nat := 10 * fld (safScCfg b (n / 2 * 2)) 19 13

/-- Fields of a function record. -/
def fnDemand (b : Block) (f : Nat) : Word := safFn b f 0
def fnUsl (b : Block) (f : Nat) : Word := safFn b f 1
def fnAction (b : Block) (f : Nat) : Word := safFn b f 2
def fnAuto (b : Block) (f : Nat) : Bool := fld (safFn b f 3) 0 2 == 1
def fnSrc (b : Block) (f : Nat) : Nat := fld (safFn b f 3) 8 8

/-- A tripped function forces the module (R196). -/
def moduleForce (b : Block) : Bool :=
  b.glb.active && (List.range 32).any fun f => (fnAt b f).tripped && bit (fnAction b f) 24

/-- The force list forces a target: class and index agree, and the entry's function is tripped (R197). -/
def listForces (b : Block) (k : Nat) : Bool :=
  b.glb.active && (List.range 256).any fun i =>
    bit (safForceFn b i) 8 && (safForceTgt b i).toNat / 256 == k / 256 && (fnAt b (fld (safForceFn b i) 0 5)).tripped

/-- An SDO channel's command (R184): the pair that holds it is commanded ON. -/
def sdoOn (b : Block) (n : Nat) : Bool :=
  (List.range 24).any fun p => spType b p == 2 && (spA b p == n || spB b p == n) && (pairAt b p).cmd

/-- The safety engine forces a target: the force list, the module force on channel outputs and transmit objects (row 1 of Table 1.7). -/
def safForces (b : Block) (k : Nat) : Bool :=
  let cls := k / 2 ^ 24
  (cls == 1 || cls == 4) && (listForces b k || moduleForce b)

/-- Width of the window of a slot; 0 for a slot that is not configured (R187, R188, R191). -/
def slotWidth (b : Block) (s : Nat) : Nat :=
  if s < 48 then (if spType b (s / 2) = 0 then 0 else spTpw b (s / 2))
  else if s < 52 then (if scMode b (s - 48) = 0 then 0 else scTpw b (s - 48))
  else 0

/-- The slot of another channel whose window holds a run of OFF from `o` to its first ON at `e` (R190). -/
def foreignSlot (b : Block) (own o e : Nat) : Option Nat :=
  let s := o % max 1 (safTpp b) / 50000
  let ts := o - o % max 1 (safTpp b) + 50000 * s
  if s ≠ own ∧ slotWidth b s ≠ 0 ∧ e ≤ ts + slotWidth b s then some s else none

/-- A member of a function's demand set demands: trip cause and index (Table 6.11). -/
def fnDemanding (b : Block) (f : Nat) : Option (Nat × Nat) :=
  let pairs := (List.range 24).findSome? fun p =>
    if bit (fnDemand b f) p then
      (if (pairAt b p).fault then some (2, p) else if (pairAt b p).demand then some (1, p) else none)
    else none
  let ports := (List.range 4).findSome? fun n =>
    if bit (fnDemand b f) (24 + n) then
      (if (portAt b n).fault then some (2, 0x30 + n) else if (portAt b n).demand then some (3, 0x30 + n) else none)
    else none
  let usl := (List.range 32).findSome? fun k => if bit (fnUsl b f) k && !tget false b.saf.uiRun k then some (4, k) else none
  firstSome [pairs, ports, usl]

/-- A member of a function's demand set demands by its input, whatever fault latches stand. -/
def fnInput (b : Block) (f : Nat) : Bool :=
  ((List.range 24).any fun p => bit (fnDemand b f) p && (pairAt b p).demand) ||
    ((List.range 4).any fun n => bit (fnDemand b f) (24 + n) && (portAt b n).demand) ||
    (List.range 32).any fun k => bit (fnUsl b f) k && !tget false b.saf.uiRun k

/-- A pair or port of a function's sets holds a fault latch (Table 6.16). -/
def fnFaulted (b : Block) (f : Nat) : Bool :=
  ((List.range 24).any fun p => (bit (fnDemand b f) p || bit (fnAction b f) p) && (pairAt b p).fault) ||
    (List.range 4).any fun n => bit (fnDemand b f) (24 + n) && (portAt b n).fault

/-- The press of a reset demand is in progress (Table 6.16). -/
def fnArmed (b : Block) (f : Nat) : Bool := fnSrc b f < 24 && (pairAt b (fnSrc b f)).press.isSome

/-- RUN_WORD (Table 7.2). -/
def uslRunWord (b : Block) : Word :=
  if isActiveRole b && b.saf.engine == 2 then wordOfFn fun f => !(fnAt b f).tripped else 0
where isActiveRole (b : Block) : Bool := b.ptn.role == 0

/-- The safety engine may drive: the role is Active and a takeover has restored the latch image (R202, R366). -/
def safActs (b : Block) : Bool := b.ptn.role == 0 && b.ptn.takeover.isNone

/-! Connections (Tables 7.12 and 7.13). -/

def cnCfg (b : Block) (c : Nat) : Word := uslWord b (8 * c)
def cnEn (b : Block) (c : Nat) : Bool := bit (cnCfg b c) 0
def cnTx (b : Block) (c : Nat) : Bool := bit (cnCfg b c) 1
def cnBus (b : Block) (c : Nat) : Nat := fld (cnCfg b c) 2 2
def cnPort (b : Block) (c : Nat) : Nat := fld (cnCfg b c) 4 4
def cnObj (b : Block) (c : Nat) : Nat := fld (cnCfg b c) 8 7
def cnSeqWin (b : Block) (c : Nat) : Nat := fld (cnCfg b c) 16 4
def cnIdA (b : Block) (c : Nat) : Word := uslWord b (8 * c + 1)
def cnIdB (b : Block) (c : Nat) : Word := uslWord b (8 * c + 2)
/-- PERIOD_WD in ticks. -/
def cnPeriod (b : Block) (c : Nat) : Nat := fld (uslWord b (8 * c + 3)) 0 12 * 100000
def cnAgeMax (b : Block) (c : Nat) : Nat := fld (uslWord b (8 * c + 3)) 12 12
def cnSkew (b : Block) (c : Nat) : Nat := fld (uslWord b (8 * c + 3)) 24 8
/-- CORRUPT_WIN in ticks. -/
def cnCorrupt (b : Block) (c : Nat) : Nat := fld (uslWord b (8 * c + 4)) 0 12 * 100000000
def cnUdp (b : Block) (c : Nat) : Nat := fld (uslWord b (8 * c + 4)) 16 16
/-- SAF_USL_IN of an input. -/
def uiCfg (b : Block) (k : Nat) : Word := uslWord b (192 + k)

/-- The connection bound to an endpoint (R212, R213): bus 1 CAN, 2 Ethernet (the object is the UDP port), 3 partner channel. -/
def connOf (b : Block) (bus port obj : Nat) (tx : Bool) : Option Nat :=
  (List.range 24).find? fun c =>
    cnEn b c && cnTx b c == tx && cnBus b c == bus &&
      (if bus = 1 then cnPort b c == port && cnObj b c == obj
       else if bus = 2 then cnPort b c == port && cnUdp b c == obj
       else cnObj b c == obj)

/-- A sub-channel contributes to its inputs (R232). -/
def UslSub.contributes (s : UslSub) : Bool := s.state == 2 && s.role == 0 && s.run

/-- The sub-channels of the connections that an input names. -/
def uiSubs (b : Block) (k : Nat) : List UslSub :=
  let c := uiCfg b k
  ([fld c 0 8, fld c 8 8].filter (· < 24)).flatMap fun n => [(connAt b n).a, (connAt b n).b]

/-- The state of an input: true is run (Table 7.5). -/
def uiState (b : Block) (k : Nat) : Bool :=
  let cs := (uiSubs b k).filter UslSub.contributes
  bit (uiCfg b k) 21 && !cs.isEmpty && cs.all fun s => bit s.runWord (fld (uiCfg b k) 16 5)

/-- A CAN controller runs in normal mode (R389): the role is Active, it is not fenced, it has left bus monitoring mode, and it is on the bus. -/
def canNormal (b : Block) (c : Nat) : Bool :=
  let x := tget {} b.can.ctls c
  b.ptn.role == 0 && !isFenced b (.can c) && !x.monitor && decide (x.state ≤ 1)

/-- A transmit connection sends (R217): a bank in force, the engine not FAILED, and on CAN its controller in normal mode. -/
def cnSends (b : Block) (c : Nat) : Bool :=
  b.glb.active && cnEn b c && cnTx b c && b.saf.engine != 3 && (cnBus b c != 1 || canNormal b (cnPort b c))

/-! Registers (Tables 6.8 and 7.10). -/

def readSaf (b : Block) (off : Nat) : Word :=
  let s := b.saf
  if off = 0x0 then
    regOf [(0, 2, s.engine), (2, 1, b1 (b.glb.active && b.glb.activeBank.confirmed)), (3, 1, b1 s.supplyOk), (4, 1, b1 (b.ptn.role == 0))]
  else if off = 0x4 then bankSafCrc b
  else if off = 0x8 then safGlbCfg b
  else if off = 0x10 then wordOfFn fun f => (fnAt b f).tripped
  else if off = 0x14 then wordOfFn fun i => if i < 24 then (pairAt b i).fault else i < 28 && (portAt b (i - 24)).fault
  else if off = 0x18 then w32 s.overruns
  else if off = 0x20 then
    wordOfFn fun c => c < 24 && ((connAt b c).a.state == 2 || (connAt b c).b.state == 2)
  else if off = 0x24 then wordOfFn fun k => !tget false s.uiRun k
  else if 0x100 ≤ off ∧ off < 0x140 then
    let n := (off - 0x100) / 0x10
    let r := (off - 0x100) % 0x10
    let x := portAt b n
    if r = 0 then safScCfg b n
    else if r = 4 then safScOutFn b n
    else if r = 8 then regOf [(0, 1, b1 x.ch.on), (1, 1, b1 x.out), (2, 1, b1 x.demand), (3, 1, b1 x.fault), (4, 4, x.cause)]
    else 0
  else if 0x1000 ≤ off ∧ off < 0x1300 then
    let p := (off - 0x1000) / 0x20
    let r := (off - 0x1000) % 0x20
    let x := pairAt b p
    if r < 0xC then safPair b p (r / 4)
    else if r = 0xC then
      regOf [(0, 1, b1 x.a.on), (1, 1, b1 x.b.on), (2, 1, b1 (x.demand || (x.fault && spType b p == 1))), (3, 1, b1 x.fault), (4, 4, x.cause), (8, 1, b1 x.bothSafe),
        (9, 1, b1 x.cmd), (10, 1, b1 x.fb), (11, 6, x.foreignSlot)]
    else if r = 0x10 then regOf [(0, 16, x.k), (16, 16, x.maxK)]
    else if r = 0x14 then loW x.faultTick
    else if r = 0x18 then regOf [(0, 16, x.completed), (16, 16, x.abandoned)]
    else 0
  else if 0x2000 ≤ off ∧ off < 0x2400 then
    let f := (off - 0x2000) / 0x20
    let r := (off - 0x2000) % 0x20
    let x := fnAt b f
    if r < 0x10 then safFn b f (r / 4)
    else if r = 0x10 then
      regOf [(0, 1, b1 x.tripped), (1, 1, b1 (b.glb.active && (fnDemanding b f).isSome)), (2, 1, b1 (fnFaulted b f)),
        (3, 1, b1 (fnArmed b f)), (4, 4, x.cause), (8, 8, x.src), (16, 16, x.trips)]
    else if r = 0x14 then loW x.tick
    else if r = 0x18 then hiW x.tick
    else 0
  else if 0x4000 ≤ off ∧ off < 0x4800 then
    let i := (off - 0x4000) / 8
    if (off - 0x4000) % 8 = 0 then safForceTgt b i else safForceFn b i
  else if 0x5000 ≤ off ∧ off < 0x5080 then uiCfg b ((off - 0x5000) / 4)
  else if 0x6000 ≤ off ∧ off < 0x6300 then
    let c := (off - 0x6000) / 0x20
    let r := (off - 0x6000) % 0x20
    let x := connAt b c
    if r < 0x14 then uslWord b (8 * c + r / 4)
    else if r = 0x14 then
      regOf [(0, 2, if cnTx b c then 0 else x.a.state), (2, 2, x.a.role), (4, 1, b1 x.a.run),
        (5, 1, b1 x.a.contributes), (6, 2, x.a.rejects), (8, 2, x.b.state), (10, 2, x.b.role), (12, 1, b1 x.b.run),
        (13, 1, b1 x.b.contributes), (14, 2, x.b.rejects), (16, 16, x.lastSeq)]
    else if r = 0x18 then regOf [(0, 8, x.errCrc), (8, 8, x.errIdent), (16, 8, x.errTime), (24, 8, x.errSeq)]
    else regOf [(0, 16, x.lost), (16, 8, x.timeouts), (24, 8, x.resyncs)]
  else 0

/-! Checks of admission (R181, R204, R239). -/

def inRange (lo hi n : Nat) : Bool := decide (lo ≤ n) && decide (n ≤ hi)

/-- The pairs that hold a channel. -/
def pairsWith (b : Block) (n : Nat) : Nat :=
  ((List.range 24).map fun p => if spType b p = 0 then 0 else b1 (spA b p == n) + b1 (spB b p == n)).foldl (· + ·) 0

def safPairOk (b : Block) (p : Nat) : Bool :=
  let t := spType b p
  let c2 := safPair b p 1
  let mode := if t = 2 then 8 else 7
  secReach b 3 (20 + 4 * p) && !bit (safPair b p 0) 31 && fld c2 24 8 == 0 && fld (safPair b p 2) 10 22 == 0 && cfgW b 3 (16 + 4 * p + 3) == 0 &&
    (t == 0 || inRange 0 191 (spA b p) && inRange 0 191 (spB b p) && chnMode b (spA b p) == mode && chnMode b (spB b p) == mode &&
    pairsWith b (spA b p) == 1 && pairsWith b (spB b p) == 1 &&
    (if t = 2 then
      inRange 1 3 (fld c2 0 3) && inRange 0 2 (fld c2 3 2) &&
        (!spFb b p || (inRange 0 191 (spFbCh b p) && chnMode b (spFbCh b p) == 4 && chnFeedback b (spFbCh b p) &&
          inRange 10 1000 (fld (safPair b p 2) 0 10)))
     else inRange 1 4 (fld c2 0 3) && inRange 1 5000 (fld (safPair b p 0) 18 13) && inRange 0 1000 (fld c2 5 10)))

def safPortOk (b : Block) (n : Nat) : Bool :=
  let c := safScCfg b n
  secReach b 3 (114 + 2 * n) && fld c 10 9 == 0 && (scMode b n == 0 || inRange 1 2 (scMode b n) && inRange 1 4 (fld c 3 3) && (scMode b n != 2 || inRange 1 10 (fld c 6 4)) &&
    (!bit c 2 || (n % 2 == 0 && inRange 1 5000 (fld c 19 13))))

def safFnOk (b : Block) (f : Nat) : Bool :=
  let src := fnSrc b f
  secReach b 3 (124 + 4 * f) && fld (fnDemand b f) 28 4 == 0 && fld (fnAction b f) 25 7 == 0 && fld (safFn b f 3) 2 6 == 0 && fld (safFn b f 3) 16 16 == 0 &&
    inRange 0 1 (fld (safFn b f 3) 0 2) &&
    ((List.range 24).all fun p => (!bit (fnDemand b f) p || spType b p == 1) && (!bit (fnAction b f) p || spType b p == 2)) &&
    ((List.range 4).all fun n => !bit (fnDemand b f) (24 + n) || scMode b n != 0) &&
    (src == 0xFF || (inRange 0x40 0x5F src) || (inRange 0 0x17 src && (spType b src == 3 || (src == 0 && fnDemand b f == 0 && fnUsl b f == 0))))

def safForceOk (b : Block) (i : Nat) : Bool :=
  let t := safForceTgt b i
  let f := safForceFn b i
  secReach b 3 (250 + 2 * i) && fld f 5 3 == 0 && fld f 9 23 == 0 &&
    (!bit f 8 || (fld t 24 8 == 1 && inRange 0 191 (fld t 8 16) && (chnMode b (fld t 8 16) == 3 || chnMode b (fld t 8 16) == 5)) ||
      (fld t 24 8 == 4 && inRange 0 2047 (fld t 8 16) && fld (canObj b (fld t 8 16) 0) 0 1 == 1 && bit (canObj b (fld t 8 16) 0) 1))

/-- Two connections share one endpoint (R212, R239): on Ethernet the UDP port of a network, on the partner links the channel. -/
def sameEndpoint (b : Block) (c d : Nat) : Bool :=
  cnBus b d == cnBus b c &&
    (if cnBus b c = 1 then cnPort b d == cnPort b c && cnObj b d == cnObj b c
     else if cnBus b c = 2 then cnPort b d == cnPort b c && cnUdp b d == cnUdp b c
     else cnObj b d == cnObj b c)

/-- The reserved bits and the zero bytes of a connection record (R239). -/
def connZeros (b : Block) (c : Nat) : Bool :=
  !bit (cnCfg b c) 15 && fld (cnCfg b c) 20 12 == 0 && fld (uslWord b (8 * c + 4)) 12 4 == 0 &&
    [5, 6, 7].all fun i => uslWord b (8 * c + i) == 0

/-- A connection record. UDP_PORT is a field of Ethernet connections only, and is 0 on the other buses (DEDUCED, log 149). -/
def safConnOk (b : Block) (c : Nat) : Bool :=
  secReach b 3 (768 + 8 * c) && connZeros b c && (!cnEn b c ||
  let others := (List.range 24).filter fun d => d != c && cnEn b d
  let ids := fun d => [cnIdA b d, cnIdB b d].filter (· != 0)
  inRange 1 3 (cnBus b c) && (cnBus b c != 2 || (cnPort b c < 4 && cnObj b c == 0 && 1024 ≤ cnUdp b c)) &&
    (cnBus b c == 2 || cnUdp b c == 0) && (cnBus b c != 3 || cnPort b c == 0) &&
    (if cnTx b c then cnIdA b c != cnIdB b c && inRange 1 1000 (fld (uslWord b (8 * c + 3)) 0 12)
     else cnIdA b c != 0 && cnIdB b c != cnIdA b c && inRange 3 4000 (fld (uslWord b (8 * c + 3)) 0 12) && inRange 1 4000 (cnAgeMax b c) &&
       inRange 1 15 (cnSeqWin b c)) &&
    inRange 600 3600 (fld (uslWord b (8 * c + 4)) 0 12) &&
    (others.all fun d => (ids c).all fun x => !(ids d).contains x) &&
    (others.all fun d => !sameEndpoint b c d))

def safInputOk (b : Block) (k : Nat) : Bool :=
  let c := uiCfg b k
  secReach b 3 (953 + k) && fld c 22 10 == 0 && (!bit c 21 ||
  let n1 := fld c 0 8
  let n2 := fld c 8 8
  let ok := fun n => n == 0xFF || (n < 24 && cnEn b n && !cnTx b n)
  ok n1 && ok n2 && (n1 == 0xFF || n1 != n2))

/-- STRUCTURE of section 0x03: the record number of the first record that breaks a rule, in the order of R204 (R181, R239); a channel that no pair
holds breaks it for the whole section. `objOk` says that a CAN message
object suits a connection. -/
def safCheck (objOk : Nat → Nat → Bool → Bool) (b : Block) : Option Nat :=
  let glb := !(secReach b 3 16 && inRange 4 100 (fld (safGlbCfg b) 0 7) && fld (safGlbCfg b) 7 25 == 0 && (List.range 15).all fun i => cfgW b 3 (i + 1) == 0)
  let orphan := (List.range 192).any fun n => (chnMode b n == 7 || chnMode b n == 8) && pairsWith b n != 1
  firstSome [
    failIf glb 0xFFFF,
    (List.range 24).find? fun p => !safPairOk b p,
    ((List.range 4).find? fun n => !safPortOk b n).map (0x100 + ·),
    ((List.range 32).find? fun f => !safFnOk b f).map (0x200 + ·),
    ((List.range 256).find? fun i => !safForceOk b i).map (0x300 + ·),
    ((List.range 24).find? fun c => !safConnOk b c || (cnEn b c && cnBus b c == 1 && !objOk (cnPort b c) (cnObj b c) (cnTx b c))).map (0x400 + ·),
    ((List.range 32).find? fun k => !safInputOk b k).map (0x500 + ·),
    failIf orphan 0xFFFF]

end Sys2Proof.Machine
end

