-- ==== Sys2Proof/Machine/CanCalc.lean ====
section
/-! DEFINITION. What the CAN controllers' registers show, how frames match objects, and the checks of the CAN section (chapter 12). -/

namespace Sys2Proof.Machine

def ctlAt (b : Block) (c : Nat) : CanCtl := tget {} b.can.ctls c
/-- Object `o`, counted c × 128 + o. -/
def objAt (b : Block) (o : Nat) : CanObj := tget {} b.can.objs o

/-! Fields of the controller records (Tables 12.8 to 12.11). -/

def ctlEn (b : Block) (c : Nat) : Bool := bit (canCtl b c 0) 0
def ctlFd (b : Block) (c : Nat) : Bool := bit (canCtl b c 0) 1
def ctlAutoRec (b : Block) (c : Nat) : Bool := bit (canCtl b c 0) 2
def ctlAloneHold (b : Block) (c : Nat) : Bool := bit (canCtl b c 0) 3
def ctlCatchEn (b : Block) (c : Nat) : Bool := bit (canCtl b c 0) 4
def ctlDefaultEn (b : Block) (c : Nat) : Bool := bit (canCtl b c 0) 5
def ctlCatchRing (b : Block) (c : Nat) : Nat := fld (canCtl b c 0) 6 7
def ctlDefaultRing (b : Block) (c : Nat) : Nat := fld (canCtl b c 0) 13 7
def ctlTdcEn (b : Block) (c : Nat) : Bool := bit (canCtl b c 3) 0
def ctlTdcf (b : Block) (c : Nat) : Nat := fld (canCtl b c 3) 8 7

/-! Fields of the object records (Tables 12.14 and 12.15). -/

def objCfg (b : Block) (o : Nat) : Word := canObj b o 0
def objEn (b : Block) (o : Nat) : Bool := bit (objCfg b o) 0 && ctlEn b (o / 128)
def objTx (b : Block) (o : Nat) : Bool := bit (objCfg b o) 1
/-- 0 HOST, 1 CYCLIC, 2 USL. -/
def objMode (b : Block) (o : Nat) : Nat := fld (objCfg b o) 2 2
def objTrig (b : Block) (o : Nat) : Nat := fld (canObj b o 2) 0 6
def objDiv (b : Block) (o : Nat) : Nat := fld (canObj b o 2) 6 16
def objHostMin (b : Block) (o : Nat) : Nat := fld (objCfg b o) 23 3
def objLoopPrio (b : Block) (o : Nat) : Nat := fld (objCfg b o) 26 3
def objDpPrio (b : Block) (o : Nat) : Nat := fld (objCfg b o) 29 3

/-- Data length of a DLC under ISO 11898-1 (R398): a classical frame carries at most 8 bytes. -/
def dlcLen (fd : Bool) (d : Nat) : Nat := if d ≤ 8 then d else if fd then [12, 16, 20, 24, 32, 48, 64].getD (d - 9) 0 else 8
/-- Data length of an object's frames. -/
def objLen (b : Block) (o : Nat) : Nat := dlcLen (bit (objCfg b o) 8) (fld (objCfg b o) 4 4)

/-! Frames (Table 12.2). -/

def CanFrame.ident (f : CanFrame) : Nat := fld f.id 0 29
def CanFrame.ide (f : CanFrame) : Bool := bit f.id 29
def CanFrame.rtr (f : CanFrame) : Bool := bit f.id 30
def CanFrame.dlc (f : CanFrame) : Nat := fld f.ctl 0 4
def CanFrame.fdf (f : CanFrame) : Bool := bit f.ctl 4
def CanFrame.brs (f : CanFrame) : Bool := bit f.ctl 5
def CanFrame.oneShot (f : CanFrame) : Bool := bit f.ctl 7
/-- A frame as the controller sends it: ESI of an FD frame is the controller's own state, error-passive (R388, R398). -/
def CanFrame.withEsi (f : CanFrame) (passive : Bool) : CanFrame := { f with ctl := putBit f.ctl 6 (f.fdf && passive) }
/-- The bytes of a frame record: header and data (R398). -/
def CanFrame.bytes (f : CanFrame) : List Byte := wordBytes f.id ++ wordBytes f.ctl ++ f.data
/-- The frame of an MTX payload. -/
def frameOf (bs : List Byte) : CanFrame :=
  { id := BitVec.ofNat 32 (leAt bs 0 4), ctl := BitVec.ofNat 32 (leAt bs 4 4), data := bs.drop 8 }

/-- A frame whose words and data fit together (Table 12.3): what BAD_VALUE refuses. -/
def frameOk (fdEn : Bool) (f : CanFrame) : Bool :=
  decide (f.data.length = if f.rtr then 0 else dlcLen f.fdf f.dlc) && (!f.fdf || fdEn) && (!f.brs || f.fdf) && !(f.rtr && f.fdf) &&
    (f.ide || decide (f.ident < 2048)) && !bit f.id 31 && !bit f.ctl 6 && fld f.ctl 8 24 == 0

/-- A received frame matches a receive object (R393). -/
def canMatches (b : Block) (o : Nat) (f : CanFrame) : Bool :=
  let g := objCfg b o
  let id := canObj b o 1
  let mask := fld (canObj b o 2) 0 29
  objEn b o && !objTx b o && (Nat.xor f.ident (fld id 0 29)) &&& mask == 0 && f.ide == bit id 29 && (!f.rtr || bit g 13) &&
    (fld g 11 2 != 1 || !f.fdf) && (fld g 11 2 != 2 || f.fdf) && (!bit g 10 || f.dlc == fld g 4 4)

/-- The lowest-numbered receive object of a controller that a frame matches (R393). -/
def canTaker (b : Block) (c : Nat) (f : CanFrame) : Option Nat :=
  (List.range 128).find? fun o => canMatches b (128 * c + o) f

/-- The catch filter of a controller takes a frame (R397). -/
def canCatches (b : Block) (c : Nat) (f : CanFrame) : Bool :=
  ctlCatchEn b c && (Nat.xor f.ident (fld (canCtl b c 4) 0 29)) &&& fld (canCtl b c 5) 0 29 == 0 && f.ide == bit (canCtl b c 4) 29

/-- The newest frame of a receive object (R395). -/
def CanObj.newest (x : CanObj) : Option CanTaken := x.third.or (x.shadow.or x.main)

/-- The newest frame taken since the bank came into force (Tables 8.1 and 12.16). -/
def objNewest (b : Block) (o : Nat) : Option CanTaken :=
  match (objAt b o).newest with
  | some t => if b.glb.bankTick ≤ t.tick then some t else none
  | none => none

/-- TX_EN in force. -/
def objTxEn (b : Block) (o : Nat) : Bool := (targetAt b (targetKey 4 o 2)).inForce == 1
/-- A safety force silences a transmit object (R196). -/
def objForced (b : Block) (o : Nat) : Bool := objTx b o && objEn b o && safForces b (targetKey 4 o 0)

/-- CAN_OBJ_STATUS (Table 12.16). -/
def objStatus (b : Block) (o : Nat) : Word :=
  let x := objAt b o
  regOf [(0, 1, b1 (if objTx b o then x.sent.isSome else (objNewest b o).isSome)), (1, 1, b1 x.locked.isSome), (2, 1, b1 x.shadow.isSome),
    (3, 1, b1 x.overrun), (4, 1, b1 x.pend.isSome),
    (5, 1, b1 (match x.pend with | some p => p.inArb.isSome | none => false)),
    (6, 1, b1 (objEn b o && objTx b o && objMode b o != 2 && objTxEn b o)), (7, 1, b1 (objForced b o)), (16, 16, x.events)]

/-- HOLDING: ALONE with ALONE_HOLD (R405). -/
def ctlHolding (b : Block) (c : Nat) : Bool := (ctlAt b c).alone && ctlAloneHold b c

/-- CAN_CTL_STATUS (Table 12.12). -/
def ctlStatus (b : Block) (c : Nat) : Word :=
  let x := ctlAt b c
  regOf [(0, 2, x.state), (2, 1, b1 x.monitor), (3, 1, b1 x.alone), (4, 1, b1 (ctlHolding b c)), (5, 1, b1 x.recovering), (6, 3, x.lec),
    (9, 1, b1 (decide (96 ≤ x.tec) || decide (96 ≤ x.recc))), (16, 5, x.caught.length)]

/-- Registers of the CAN block (Table 12.7). -/
def readCan (b : Block) (off : Nat) : Word :=
  if off = 0 then
    wordOfFn fun i => if i < 16 then (ctlAt b i).state == 2 else (ctlAt b (i - 16)).alone
  else if 0x100 ≤ off ∧ off < 0x500 then
    let c := (off - 0x100) / 0x40
    let r := (off - 0x100) % 0x40
    let x := ctlAt b c
    if r = 0xC then canCtl b c 3 ||| regOf [(16, 7, x.tdcv)]
    else if r < 0x18 then canCtl b c (r / 4)
    else if r = 0x18 then ctlStatus b c
    else if r = 0x1C then regOf [(0, 9, x.tec), (16, 8, min 255 x.recc), (24, 8, min 255 x.ackRun)]
    else if r = 0x20 then w32 x.rx
    else if r = 0x24 then w32 x.tx
    else if r = 0x28 then regOf [(0, 16, x.catchDrops), (16, 16, x.unmatched)]
    else if r = 0x2C then regOf [(0, 16, x.errs), (16, 8, x.busOff), (24, 8, x.lateCancels)]
    else if r = 0x34 then x.latch
    else 0
  else if 0x8000 ≤ off ∧ off < 0x10000 then
    let o := (off - 0x8000) / 0x10
    let r := (off - 0x8000) % 0x10
    if r = 0xC then objStatus b o else canObj b o (r / 4)
  else 0

/-! Templates (R410). -/

/-- An object has a template: an enabled CYCLIC or HOST object. -/
def objHasTpl (b : Block) (o : Nat) : Bool := bit (objCfg b o) 0 && objTx b o && decide (objMode b o ≤ 1)
/-- Byte offset of an object's template in the body of section 0x06. -/
def objTplAt (b : Block) (o : Nat) : Nat :=
  (List.range o).foldl (fun a k => if objHasTpl b k then a + nextMultiple 8 (objLen b k) else a) (512 + 16 * 2048)
def objTpl (b : Block) (o : Nat) : List Byte := (List.range (objLen b o)).map fun i => canSecByte b (objTplAt b o + i)

/-! Checks of admission (R390, R410). -/

/-- A controller record keeps the rules of the chapter. -/
def canCtlOk (b : Block) (c : Nat) : Bool :=
  let g := canCtl b c 0
  let n := canCtl b c 1
  let d := canCtl b c 2
  let t := canCtl b c 3
  let nbrp := fld n 0 8 + 1
  let nq := 1 + (fld n 8 8 + 1) + (fld n 16 7 + 1)
  let dbrp := fld d 0 5 + 1
  let dq := 1 + (fld d 5 5 + 1) + (fld d 10 4 + 1)
  let fd := bit g 1
  secReach b 6 (8 * c + 8) && canCtl b c 6 == 0 && canCtl b c 7 == 0 && fld g 20 12 == 0 && fld n 30 2 == 0 && fld d 18 14 == 0 && !bit t 15 && fld t 16 16 == 0 &&
    fld (canCtl b c 4) 30 2 == 0 && fld (canCtl b c 5) 29 3 == 0 &&
    (!bit g 0 || decide (8 ≤ nq) && decide (100 ≤ nq * nbrp) && decide (1 ≤ fld n 8 8) && decide (fld n 23 7 ≤ fld n 16 7) &&
    decide (5 ≤ dq) && decide (20 ≤ dq * dbrp) && decide (dq * dbrp ≤ nq * nbrp) && decide (fld d 14 4 ≤ fld d 10 4) &&
    (!bit t 0 || decide (dbrp ≤ 2)) && (!(fd && decide (dq * dbrp < 50)) || bit t 0))

/-- No two spans overlap and each lies within the data. -/
def spansOk (len : Nat) (l : List (Nat × Nat)) : Bool :=
  l.all (fun s => decide (s.1 + s.2 ≤ len)) &&
    (List.range l.length).all fun i => (List.range i).all fun j =>
      match l[i]?, l[j]? with
      | some x, some y => decide (x.1 + x.2 ≤ y.1) || decide (y.1 + y.2 ≤ x.1)
      | _, _ => true

/-- The zeros after the template of an object, up to a multiple of 8 bytes (R410). -/
def objPadOk (b : Block) (o : Nat) : Bool :=
  !objHasTpl b o || (List.range (nextMultiple 8 (objLen b o) - objLen b o)).all fun i => canSecByte b (objTplAt b o + objLen b o + i) == 0

/-- An object record keeps the rules of the chapter. `spans` gives the fields written into a transmit object. -/
def canObjOk (spans : Nat → List (Nat × Nat)) (b : Block) (o : Nat) : Bool :=
  let g := objCfg b o
  let id := canObj b o 1
  let a := canObj b o 2
  secReach b 6 (132 + 4 * o) && canObj b o 3 == 0 && fld id 30 2 == 0 && fld a 29 3 == 0 && objPadOk b o && (!bit g 0 ||
  ctlEn b (o / 128) && (bit id 29 || decide (fld id 0 29 < 2048)) &&
    (!bit g 8 || ctlFd b (o / 128)) && (!bit g 9 || bit g 8) &&
    (if bit g 1 then
      decide (objMode b o ≤ 2) && fld a 22 10 == 0 && !bit g 10 && fld g 11 2 == 0 && !bit g 13 && !bit g 22 &&
        (!bit g 14 || objMode b o == 1) &&
        (objMode b o != 1 || (ttEn b (objTrig b o) && decide (1 ≤ objDiv b o) && spansOk (objLen b o) (spans o)))
     else
      objMode b o == 0 && decide (fld g 11 2 ≤ 2) && !bit g 9 && !bit g 14 && fld g 23 9 == 0))

/-- STRUCTURE of section 0x06: the DETAIL of the first record that breaks a rule (R410). -/
def canCheck (spans : Nat → List (Nat × Nat)) (b : Block) : Option Nat :=
  match (List.range 16).find? (fun c => !canCtlOk b c) with
  | some c => some (0x1000 + c)
  | none => (List.range 2048).find? fun o => !canObjOk spans b o

/-- A message object suits a Safe Layer connection (R212, R239): enabled, of the direction, mode USL for sending. -/
def canUslOk (b : Block) (port obj : Nat) (tx : Bool) : Bool :=
  let o := 128 * port + obj
  objEn b o && objTx b o == tx && (!tx || objMode b o == 2) && bit (objCfg b o) 8 && fld (objCfg b o) 4 4 == 13

/-- A transmit object may start no further arbitration: a safety force, a fence or TX_EN = 0 (R196, R403, R408). A USL object has no
TX_EN (R213). -/
def objStopped (b : Block) (o : Nat) : Bool :=
  objForced b o || isFenced b (.can (o / 128)) || (objMode b o != 2 && !objTxEn b o)

/-- A transmit object can take a frame: the controller runs in normal mode and nothing stops the object. -/
def objMaySend (b : Block) (o : Nat) : Bool :=
  isActive b && objEn b o && objTx b o && !objStopped b o && decide ((ctlAt b (o / 128)).state ≤ 1)

end Sys2Proof.Machine
end

