-- ==== Sys2Proof/Config.lean ====
section
/-! DEFINITION. What the spec leaves to each unit or leaves open: opaque constants. Nothing in Lean can evaluate one of them, so a
claim that holds holds whatever they are. Each is named in the assumption log. -/

namespace Sys2Proof

/-- Free values: the n-th value that the spec leaves open on the way of a run (log 1). -/
opaque Config.freeWord : Nat → Word

/-- Unit value of GLB_SERIAL_LO and GLB_SERIAL_HI (R4, Table 0.2; log 2). -/
opaque Config.serial : BitVec 64

/-- Manufacturer bits and version of SEC_IDCODE (Table 17.12; log 2). -/
opaque Config.idcode : Word

/-- Unit MAC address of an Ethernet network (Table 13.11; log 2). -/
opaque Config.mac : Nat → BitVec 48

/-- Stage count `W_a` of an activity under the bank with an IMAGE_CRC: derived "from its circuits and the bank" (R472; log 3). -/
opaque Config.stageCount : Word → Nat → Nat

/-- Fixed term `C_a` of an activity in ticks under the bank with an IMAGE_CRC (R472; log 3). -/
opaque Config.fixedTicks : Word → Nat → Nat

/-- g_0 of a replica site, binary32 (R474: ring 0, written in lifecycle Factory; log 2). -/
opaque Config.ringZero : Nat → Word

/-- Corner table s_C(T) of a site at the trim step T, binary32, the step given as T + 4 (R474; log 2). -/
opaque Config.cornerS : Nat → Nat → Word

/-- Ticks from the end of a coupler frame to the application of its command, taken modulo 101 (R39: "within 100 ticks"; log 52). -/
opaque Config.applyTicks : Nat → Nat

/-- Whether a PI input counts a pulse with these high and low times in ticks, where R136 says neither that it does nor that it does not
(log 145). -/
opaque Config.pulseCounted : Nat → Nat → Bool

/-- Bytes of a serial port's buffer in use by the sentence or chunk still in reception at a tick, taken modulo 1025 (R447; log 174). -/
opaque Config.serialBytes : Nat → Nat → Nat

/-- Row group of the loop engine's context array that holds a context (Table 15.3; log 15). -/
opaque Config.rowGroup : Nat → Nat

/-- Number of the safety engine's own checkers, less 1 and taken modulo 256, the width of FLT_ROTA's index (R469; log 160). -/
opaque Config.rotaCheckers : Nat

/-- What force bits 0x15 and 0x16 read of the rota state: the next checker, the injections detected, and the bit (R469; log 160). -/
opaque Config.rotaBit : Nat → Nat → Nat → Bool

/-- The sine of a binary32 angle in radians; the spec states no algorithm and no rounding (log 11). -/
opaque Config.sinF : Word → Word

/-- The cosine of a binary32 angle in radians (log 11). -/
opaque Config.cosF : Word → Word

/-- The angle of the vector (x, y): `atan2F y x` in radians (log 11). -/
opaque Config.atan2F : Word → Word → Word

/-- The natural exponential (log 11). -/
opaque Config.expF : Word → Word

/-- The natural logarithm (log 11). -/
opaque Config.lnF : Word → Word

end Sys2Proof
end

