-- ==== Sys2Proof/Machine/GrowthCalc.lean ====
section
/-! DEFINITION. The arithmetic of growth: durations, budgets, the fits of R248 and R314, and the margin (R471 to R481). -/

namespace Sys2Proof.Machine

/-- The scheduled activities of the bank in force (Table 15.7). -/
def activities (b : Block) : List Nat :=
  if b.glb.active then
    [0, 1] ++ (lpeList b).map (0x100 + ·) ++ (if dpHas b then [0x200, 0x201, 0x202, 0x203] else []) ++ [0x300] ++
      ((List.range 64).filter (imgEn b)).map (0x400 + ·)
  else []

def actExists (b : Block) (a : Nat) : Bool := (activities b).contains a

/-- The sites that carry an activity (R472, Table 15.6): a loop evaluation and a solve, every lane that is not fenced. -/
def actSites (b : Block) (a : Nat) : List Nat :=
  if a = 0 then [31] else if a = 1 then [29]
  else if 0x100 ≤ a ∧ a < 0x200 then loopLanes b
  else if a = 0x200 ∨ a = 0x201 then [27]
  else if a = 0x202 then [28]
  else if a = 0x203 then (solverLanes b).map (18 + ·)
  else if a = 0x300 then [30]
  else [32]

def siteAt (b : Block) (s : Nat) : Site := tget {} b.growth.sites s

/-- s_cur: the largest working reading of the last 100 ms (R471). -/
def sCur (b : Block) (s : Nat) : Nat := maxOf ((siteAt b s).window.map (·.2))

def actW (b : Block) (a : Nat) : Nat := if actExists b a then Sys2Proof.Config.stageCount (bankCrc b) a else 0
def actC (b : Block) (a : Nat) : Nat := if actExists b a then Sys2Proof.Config.fixedTicks (bankCrc b) a else 0

/-- D_cur on one site (R472). -/
def dCurAt (b : Block) (a s : Nat) : Nat := ceilDiv (actW b a * sCur b s * (siteAt b s).k) (2 ^ 20) + actC b a
/-- D_cur of an activity (R472). -/
def dCur (b : Block) (a : Nat) : Nat := maxOf ((actSites b a).map (dCurAt b a))

/-- Service age in years (R475). -/
def ageYears (age : Nat) : Num := fOfRat false age 87660

/-- g(t) on the fitted curve of a site (R475). -/
def gAt (b : Block) (s : Nat) (t : Num) : Num :=
  let x := siteAt b s
  let g0 := num (Sys2Proof.Config.ringZero s)
  if x.linear then g0.add ((num x.fitA).mul t)
  else if fZero t.v then g0
  else g0.add ((num x.fitA).mul (num (Sys2Proof.Config.expF ((num x.fitN).mul (num (Sys2Proof.Config.lnF t.v))).v)))

def gNow (b : Block) (s : Nat) : Num := gAt b s (ageYears b.growth.age)

/-- g_EOS: g(25), never less than g_now; after 219 150 h, g(present age + 1) (R475). -/
def gEos (b : Block) (s : Nat) : Num :=
  let e := if 2191500 < b.growth.age then gAt b s (ageYears (b.growth.age + 87660)) else gAt b s (fOfNat 25)
  Num.max (gNow b s) e

/-- The trim step as a key of the corner table and of the observed readings. -/
def trimKey (t : Int) : Nat := (t + 4).toNat

/-- s_obs(T): the largest working reading at T in the current ring and the ring before it (R476). -/
def sObs (b : Block) (s : Nat) (t : Int) : Nat :=
  max (tget 0 (siteAt b s).obsRing (trimKey t)) (tget 0 (siteAt b s).obsPrev (trimKey t))

/-- s_env at a trim step (R476). -/
def sEnv (b : Block) (s : Nat) (t : Int) : Num :=
  Num.max (((num (Sys2Proof.Config.cornerS s (trimKey t))).mul (gNow b s)).div (num (Sys2Proof.Config.ringZero s)))
    (fOfNat (sObs b s t))

/-- s_proj at a trim step (R476). -/
def sProj (b : Block) (s : Nat) (t : Int) : Num := ((sEnv b s t).mul (gEos b s)).div (gNow b s)

/-- D_proj on one site at a trim step (R476). -/
def dProjAt (b : Block) (t : Int) (a s : Nat) : Nat :=
  ceilDiv (actW b a * (fInt (sProj b s t).v).toNat * (siteAt b s).k) (2 ^ 170) + actC b a

def dProjT (b : Block) (t : Int) (a : Nat) : Nat := maxOf ((actSites b a).map (dProjAt b t a))
/-- D_proj at the trim step in force (R476). -/
def dProj (b : Block) (a : Nat) : Nat := dProjT b b.growth.trimApplied a

/-- Budget of a solve (R314). -/
def solveBudget (b : Block) : Nat :=
  if solverLu b = 0 then 0
  else min 243600 (1196000 / (1 + ceilDiv (dpGroups b).length (solverLu b)) - 100)

/-- Budget of an activity in ticks (Table 15.7); 0 when the index does not exist. -/
def budget (b : Block) (a : Nat) : Nat :=
  if !actExists b a then 0
  else if a = 0 then 100 else if a = 1 then 200
  else if 0x100 ≤ a ∧ a < 0x200 then 1500
  else if a = 0x200 then 150000 else if a = 0x201 then 200000 else if a = 0x202 then 20000
  else if a = 0x203 then solveBudget b
  else if a = 0x300 then 4000
  else imgPeriod b (a - 0x400) - 6000

/-- Contexts on a logical lane. -/
def laneCtx (b : Block) (l : Nat) : List Nat := (lpeList b).filter fun c => lpeLane b c == l

/-- The lane test of R248 with given durations, as fractions over a common denominator: each share is rounded up to 2^-40. -/
def laneFits (b : Block) (dur : Nat → Nat) (l : Nat) : Bool :=
  let cs := laneCtx b l
  match cs with
  | [] => true
  | c :: _ =>
    let tmin := cs.foldl (fun m i => min m (lpePeriod b i)) (lpePeriod b c)
    let dmax := maxOf (cs.map fun i => dur (0x100 + i) + 100)
    let den := cs.foldl (fun d i => Nat.lcm d (lpePeriod b i)) (1000 * tmin)
    let sum := cs.foldl (fun n i => n + (dur (0x100 + i) + 100) * (den / lpePeriod b i)) 0
    decide (0 < tmin) && decide (sum + 4 * (den / 1000) + (dmax + 4000) * (den / tmin) ≤ den)

/-- The lowest-numbered context with the shortest period on a lane (R248). -/
def laneFirst (b : Block) (l : Nat) : Nat :=
  let cs := laneCtx b l
  let tmin := cs.foldl (fun m i => min m (lpePeriod b i)) (lpePeriod b (cs.headD 0))
  (cs.find? fun i => lpePeriod b i == tmin).getD 0

/-- Whether an activity fits with given durations (R478): the tests of R248 and R314, otherwise its budget. -/
def actFits (b : Block) (dur : Nat → Nat) (a : Nat) : Bool :=
  decide (dur a ≤ budget b a) &&
    (if 0x100 ≤ a ∧ a < 0x200 then laneFits b dur (lpeLane b (a - 0x100)) else true)

/-- The GROWTH check of Table 2.5 with given durations: the DETAIL of the failing activity with the lowest index, none when all fit. -/
def growthFails (b : Block) (dur : Nat → Nat) : Option Nat :=
  (activities b).findSome? fun a =>
    if decide (dur a ≤ budget b a) then
      (if 0x100 ≤ a ∧ a < 0x200 then
        let l := lpeLane b (a - 0x100)
        if laneFirst b l + 0x100 = a ∧ !laneFits b dur l then some a else none
      else none)
    else some a

/-- The activity with the largest D_cur over budget (Table 15.14). -/
def worstAct (b : Block) : Nat :=
  ((activities b).foldl (fun (w : Option (Nat × Nat × Nat)) a =>
      let d := dCur b a
      let g := max 1 (budget b a)
      match w with
      | none => some (a, d, g)
      | some (_, d', g') => if d' * g < d * g' then some (a, d, g) else w) none).elim 0 (·.1)

/-- t* on the fitted curve for the largest g that an activity stands on one site (R481), less the present age, in 0.1 year, from
0 to 999. -/
def marginAt (b : Block) (a s : Nat) : Nat :=
  let x := siteAt b s
  let c := actC b a
  let top := fOfNat (budget b a - c)
  let gStar := (((gNow b s).mul top).mul (fOfNat 1048576)).div
    (((fOfNat (actW b a)).mul (sEnv b s b.growth.trimApplied)).mul (fOfNat x.k))
  let rise := gStar.sub (num (Sys2Proof.Config.ringZero s))
  if budget b a ≤ c || fLe gStar.v (gNow b s).v then 0
  else if fLe x.fitA 0 then 999
  else
    let q := rise.div (num x.fitA)
    let t := if x.linear then q
      else num (Sys2Proof.Config.expF ((num (Sys2Proof.Config.lnF q.v)).div (num x.fitN)).v)
    let m := fFloor ((t.sub (ageYears b.growth.age)).mul (fOfNat 10)).v
    min 999 m.toNat

/-- The margin in 0.1 year and the activity that sets it (R481). -/
def marginOf (b : Block) : Nat × Nat :=
  (activities b).foldl (fun m a =>
    let v := ((actSites b a).map (marginAt b a)).foldl min 999
    if v < m.1 then (v, a) else m) (999, 0)

/-- Current ring of PRF_GROWTH: ring 0 in Factory, then ring k of R474. -/
def growthRing (b : Block) : Nat := if b.sec.lifecycle = 0 then 0 else 1 + b.growth.age / 87660
/-- Marks closed in the current ring. -/
def growthMark (b : Block) : Nat := b.growth.age / 7305 % 12

/-- The site that carries an activity: of several lanes that are not fenced, the one with the largest duration (R461). -/
def carrierSite (b : Block) (a : Nat) (d : Nat → Nat) : Nat :=
  (actSites b a).foldl (fun best s => if d best < d s then s else best) ((actSites b a).headD 32)

/-- Location of an activity's unit (Table 15.6). -/
def siteLoc (s : Nat) : Word :=
  if s < 18 then regOf [(29, 3, 2), (14, 5, s), (8, 6, 0x3F), (0, 8, 0xFF)]
  else if s < 27 then regOf [(29, 3, 2), (25, 4, 3), (14, 5, s - 18), (8, 6, 0x3F), (0, 8, 0xFF)]
  else
    let e : Nat × Nat :=
      if s = 27 then (2, 1) else if s = 28 then (2, 2) else if s = 29 then (3, 0) else if s = 30 then (4, 1)
      else if s = 31 then (1, 0) else (0, 0)
    regOf [(29, 3, e.1), (25, 4, e.2), (19, 6, if s < 31 then 0x3F else 0), (14, 5, 0x1F), (8, 6, 0x3F), (0, 8, 0xFF)]

/-- Key of a mark or ring record. -/
def markKey (ring mark : Nat) : Nat := 16 * ring + mark

/-- What a ring record holds of a site: the mean of the means of its marks, the largest values, the sums (log 20); S_OBS_MAX and K are given. -/
def ringEntryOf (es : List SiteEntry) (sObs k : Word) : SiteEntry :=
  let mx := fun (l : List Word) => l.foldl (fun a v => if fLt a v then v else a) (0 : Word)
  { gMean := ((numSum (es.map fun e => num e.gMean)).div (fOfNat (max 1 es.length))).v
    gMax := mx (es.map (·.gMax)), sObsMax := sObs, k := k
    rhoMax := mx (es.map (·.rhoMax)), near := (es.map (·.near)).foldl sat32 0, exceed := (es.map (·.exceed)).foldl sat32 0 }

/-- A ring record rebuilt from its twelve marks (R465): T and K are those of the last mark, and S_OBS_MAX is the largest of the marks closed at that
T (log 20). -/
def ringRebuilt (g : Growth) (ring : Nat) : Option MarkRec :=
  let ms := (List.range 12).map fun m => tget {} g.marks (markKey ring m)
  let last := ms.getD 11 {}
  if ms.all (·.valid) then
    some { startAge := (ms.getD 0 {}).startAge, endAge := last.endAge, trim := last.trim, valid := true
           sites := (List.range 33).foldl (fun t s =>
             let es := ms.map fun m => tget {} m.sites s
             let obs := ((ms.filter fun m => m.trim = last.trim).map fun m => (tget {} m.sites s).sObsMax).foldl
               (fun a v => if fLt a v then v else a) (0 : Word)
             tset {} t s (ringEntryOf es obs (tget {} last.sites s).k)) [] }
  else none

/-! Ring data (R482). -/

/-- Header entry of a mark or ring record, without its CRC (Table 15.8). -/
def markHeader (key : Nat) (m : MarkRec) : List Byte :=
  [BitVec.ofNat 8 (key / 16), if key % 16 = 15 then 0xFF else BitVec.ofNat 8 (key % 16)] ++ leBytes 2 33 ++
    leBytes 4 m.startAge ++ leBytes 4 m.endAge ++ [BitVec.ofInt 8 m.trim] ++ leBytes 15 0

/-- Bytes of a site entry (Table 15.8). -/
def siteEntryBytes (e : SiteEntry) : List Byte :=
  wordBytes e.gMean ++ wordBytes e.gMax ++ wordBytes e.sObsMax ++ wordBytes e.k ++ wordBytes e.rhoMax ++ leBytes 4 e.near ++
    leBytes 4 e.exceed ++ leBytes 4 0

/-- A mark or ring record; ring 0 holds g_0 in its ring record and s_C(T) in S_OBS_MAX of its marks 0 to 10 (R474, R482). -/
def markAt (b : Block) (ring mark : Nat) : MarkRec :=
  if ring = 0 then
    if mark = 15 ∨ mark ≤ 10 then
      { valid := b.glb.started
        trim := if mark = 15 then 0 else (mark : Int) - 4
        sites := (List.range 33).foldl (fun t s => tset {} t s (
          if mark = 15 then { gMean := Sys2Proof.Config.ringZero s, k := 0x3F800000 }
          else { sObsMax := Sys2Proof.Config.cornerS s mark })) [] }
    else {}
  else tget {} b.growth.marks (markKey ring mark)

/-- The entry that PRF_RING_SEL names: 32 bytes, zeros when it does not exist (R482, Table 15.13). -/
def ringEntryBytes (b : Block) (ring mark site : Nat) : List Byte :=
  let m := markAt b ring mark
  if !m.valid then []
  else if site < 33 then siteEntryBytes (tget {} m.sites site)
  else if site = 0x3F then
    let h := markHeader (markKey ring mark) m
    h ++ wordBytes (crc32 (h ++ leBytes 4 0 ++ (List.range 33).flatMap fun s => siteEntryBytes (tget {} m.sites s)))
  else []

/-- What a force bit of sources 0x15 and 0x16 reads of the rota state; 0 before the first injection, as Table 15.11 has it at reset (R469; log 160). -/
def rotaShown (f : Flt) (i : Nat) : Bool := f.rotaDone != 0 && Sys2Proof.Config.rotaBit f.rotaNext f.rotaCount i

end Sys2Proof.Machine
end

