-- ==== Sys2Proof/Machine/LpeCalc.lean ====
section
/-! DEFINITION. What the loop engine reads: the sources of Table 8.1, its configuration, its registers, and the checks of the loop
section (chapter 8). -/

namespace Sys2Proof.Machine

def ctxAt (b : Block) (c : Nat) : LpeCtx := tget {} b.lpe.ctxs c
def tuneAt (b : Block) (s : Nat) : TuneSlot := tget {} b.lpe.slots s
def tplAt (b : Block) (t : Nat) : SerTpl := tget {} b.ser.tpls t
def dpThr (b : Block) (n : Nat) : DpThr := tget {} b.dp.thrs n

/-! Source words (Table 8.10). -/

def skKind (w : Word) : Nat := fld w 0 4
def skA (w : Word) : Nat := fld w 4 8
def skB (w : Word) : Nat := fld w 12 7
def skByte (w : Word) : Nat := fld w 19 6
def skFmt (w : Word) : Nat := fld w 25 3
def skBig (w : Word) : Bool := bit w 28
def skRange (w : Word) : Bool := bit w 29

/-- What a DP input carries: the value in force, or 0 or 1.0 since a resolution that found no candidate on it (R325). -/
def dpInput (b : Block) (k : Nat) : Word :=
  let t := targetAt b (2 ^ 37 + k)
  if t.decided then t.inForce else if k < 3 then 0 else f1.v

/-- A source value as it stands: its 32 bits, whether they are binary32 (4), signed (2) or unsigned (3), and its tick. -/
structure SrcVal where
  bits : Word
  fmt : Nat
  tick : Nat
  deriving DecidableEq, Repr

/-- Length of a format in bytes (Table 8.10). -/
def fmtLen (f : Nat) : Nat := if f ≤ 1 then 2 else if f ≤ 4 then 4 else 1

/-- A field of a CAN frame (Table 8.1, KIND 2). -/
def canField (w : Word) (t : CanTaken) : Option SrcVal :=
  let f := skFmt w
  let len := fmtLen f
  if t.frame.data.length < skByte w + len ∨ t.frame.rtr then none else
  let n := if skBig w then beAt t.frame.data (skByte w) len else leAt t.frame.data (skByte w) len
  let top := 2 ^ (8 * len)
  if f = 0 ∨ f = 2 ∨ f = 5 then some { bits := w32i (if n < top / 2 then (n : Int) else (n : Int) - (top : Nat)), fmt := 2, tick := t.tick }
  else some { bits := w32 n, fmt := if f = 4 then 4 else 3, tick := t.tick }

/-- The source a word names, when it is valid but for its age (Table 8.1). -/
def srcRaw (b : Block) (w : Word) : Option SrcVal :=
  let a := skA w
  match skKind w with
  | 1 =>
    let e := (chanAt b a).cur
    let st := e.status
    if 191 < a ∨ st / 8 % 2 = 0 ∨ (skRange w ∧ st / 16 % 4 ≠ 0) then none
    else some { bits := e.value, fmt := if isAI (chnMode b a) || chnMode b a == 3 then 4 else 3, tick := e.tick }
  | 2 =>
    if isFenced b (.can a) then none else
    match objNewest b (128 * a + skB w) with
    | some t => canField w t
    | none => none
  | 3 =>
    let t := tplAt b a
    if t.valid ∧ t.conv / 2 ^ skB w % 2 = 1 then
      let f := skFmt w
      some { bits := wAt t.vals (skB w), fmt := if f = 4 then 4 else if f = 2 then 2 else 3, tick := t.rx }
    else none
  | 4 =>
    let c := ctxAt b a
    match c.evalAt with
    | some t => if c.state = 2 ∨ c.state = 3 then some { bits := c.u, fmt := 4, tick := t } else none
    | none => none
  | 5 =>
    match b.dp.outAt with
    | none => none
    | some t =>
      if a < 15 then some { bits := wAt b.dp.outs a, fmt := 4, tick := t }
      else if 16 ≤ a ∧ a < 64 ∧ b.dp.state = 3 ∧ (dpThr b ((a - 16) / 2)).avail then
        some { bits := wAt b.dp.outs a, fmt := 4, tick := t }
      else none
  | _ => none

/-- The value as binary32; none for a NaN or an infinity (R42, R251). An integer VALUE of a channel counts as a number (log 32). -/
def SrcVal.num (s : SrcVal) : Option Word :=
  if s.fmt = 4 then (if fBad s.bits then none else some s.bits)
  else if s.fmt = 2 then some (fOfInt s.bits.toInt).v
  else some (fOfNat s.bits.toNat).v

/-- The value of a source that is valid at this tick with a stale limit in ticks (R251). -/
def srcValue (b : Block) (w : Word) (limit : Nat) : Option Word :=
  match srcRaw b w with
  | some s => if b.tb - s.tick ≤ limit then s.num else none
  | none => none

/-! Configuration of a context (R569): words 0 to 22 as at the context offsets, then SP_INIT, GP and GI. -/

def lpeCfg (b : Block) (c : Nat) : Word := lpeW b c 0
def lpeDirect (b : Block) (c : Nat) : Bool := bit (lpeW b c 0) 1
def lpeModeInit (b : Block) (c : Nat) : Nat := fld (lpeW b c 0) 2 2
def lpeFail (b : Block) (c : Nat) : Nat := fld (lpeW b c 0) 8 2
def lpeDep (b : Block) (c : Nat) : Bool := bit (lpeW b c 0) 10
def lpeSeedEn (b : Block) (c : Nat) : Bool := bit (lpeW b c 0) 11
def lpeHostMin (b : Block) (c : Nat) : Nat := fld (lpeW b c 0) 13 3
def lpePvSrc (b : Block) (c : Nat) : Word := lpeW b c 2
def lpeSpSrc (b : Block) (c : Nat) : Word := lpeW b c 5
def lpeFfSrc (b : Block) (c : Nat) : Word := lpeW b c 6
def lpeOut (b : Block) (c : Nat) : Word := lpeW b c 7
def lpeOutMin (b : Block) (c : Nat) : Word := lpeW b c 8
def lpeOutMax (b : Block) (c : Nat) : Word := lpeW b c 9
def lpeOutRate (b : Block) (c : Nat) : Word := lpeW b c 10
def lpeSpMin (b : Block) (c : Nat) : Word := lpeW b c 11
def lpeSpMax (b : Block) (c : Nat) : Word := lpeW b c 12
def lpeSpSafe (b : Block) (c : Nat) : Word := lpeW b c 13
def lpeEspan (b : Block) (c : Nat) : Word := lpeW b c 15
def lpeGp (b : Block) (c k : Nat) : Word := lpeW b c (24 + k)
def lpeGi (b : Block) (c k : Nat) : Word := lpeW b c (57 + k)
/-- Ts: PERIOD × 0.0001 s (R254). -/
def lpeTs (b : Block) (c : Nat) : Num := (fOfNat (fld (lpeW b c 1) 0 20)).mul (num 0x38D1B717)
/-- Stale limits of PV, and of SP and FF, in ticks (R251). -/
def lpeStale (b : Block) (c : Nat) (pv : Bool) : Nat :=
  let ms := fld (lpeW b c 22) (if pv then 0 else 16) 16
  if ms = 0 then 3 * lpePeriod b c else ms * 100000

/-- Values in force of the host fields (Table 8.5). -/
def lpeField (b : Block) (c f : Nat) : Word := (targetAt b (targetKey 2 c f)).inForce
def lpeSp (b : Block) (c : Nat) : Word := lpeField b c 0
def lpeMode (b : Block) (c : Nat) : Nat := (lpeField b c 1).toNat
/-- Bank values of the host fields. -/
def lpeBankField (b : Block) (c f : Nat) : Word :=
  if f = 0 then lpeW b c 23 else if f = 1 then w32 (lpeModeInit b c) else if f = 6 then lpeW b c 14 else lpeW b c (14 + f)

/-- The loop engine evaluates (R242). -/
def lpeOn (b : Block) : Bool := b.ptn.role == 0 && b.glb.active && secHas b.glb.activeBank.mem 4

/-- Physical lane of a logical lane; none when UNSERVED (R249, R250). -/
def lanePhys (b : Block) (l : Nat) : Option Nat :=
  let v := tget 0 b.lpe.moved l
  if v = 0 then some l else if v < 128 then some (v - 1) else none

/-- Physical lane that carries a logical lane, or that carried it last when it is UNSERVED (log 53). -/
def laneLast (b : Block) (l : Nat) : Nat :=
  let v := tget 0 b.lpe.moved l
  if v = 0 then l else if v < 128 then v - 1 else v - 129

/-- Spares that carry a lane. -/
def sparesUsed (b : Block) : Nat := countOf (fun l => match lanePhys b l with | some p => decide (16 ≤ p) | none => false) (List.range 16)

/-- STATE of a context as it reads (Table 8.14). -/
def ctxState (b : Block) (c : Nat) : Nat := if !(b.glb.active && lpeEn b c) then 0 else if !lpeOn b then 1 else max 1 (ctxAt b c).state

/-- LPE_CTX_STATUS (Table 8.13). -/
def ctxStatus (b : Block) (c : Nat) : Word :=
  if !(b.glb.active && lpeEn b c) then 0 else
  ((ctxAt b c).st &&& 0x7FE0#32) |||
    regOf [(0, 3, ctxState b c), (3, 2, lpeMode b c), (16, 5, laneLast b (lpeLane b c))]

/-- Σ 10 000 / PERIOD of the enabled contexts as a fraction (R247). -/
def lpeRate (b : Block) : Nat × Nat :=
  (lpeList b).foldl (fun a c =>
    let p := max 1 (fld (lpeW b c 1) 0 20)
    (a.1 * p + 10000 * a.2, a.2 * p)) (0, 1)

def lpeFastest (b : Block) : Nat := countOf (fun c => fld (lpeW b c 1) 0 20 == 1) (lpeList b)

/-- A tune slot's registers (Table 8.7). -/
def readSlot (x : TuneSlot) (r : Nat) : Word :=
  if r = 0 then regOf [(0, 2, x.state), (2, 4, x.reason), (6, 2, x.rule), (8, 8, x.loop), (16, 4, min 15 x.cycles)]
  else [x.ku, x.tu, x.a, x.deff, x.kp, x.ki, x.kd].getD (r / 4 - 1) 0

/-- Registers of the LPE block (Table 8.7). -/
def readLpe (b : Block) (off : Nat) : Word :=
  if off = 0 then
    regOf [(0, 18, (List.range 18).foldl (fun a p => a + b1 (isFenced b (.loopLane p)) * 2 ^ p) 0), (18, 2, sparesUsed b),
      (20, 12, min 4095 b.lpe.laneMoves)]
  else if off = 4 then
    let r := lpeRate b
    regOf [(0, 21, r.1 / r.2), (21, 6, lpeFastest b)]
  else if off = 8 then w32 b.lpe.overruns
  else if 0x10 ≤ off ∧ off < 0x20 then
    let k := (off - 0x10) / 4
    regOf ((List.range 4).flatMap fun i =>
      [(8 * i, 5, laneLast b (4 * k + i)), (8 * i + 7, 1, b1 (lanePhys b (4 * k + i)).isNone)])
  else if 0x100 ≤ off ∧ off < 0x180 then readSlot (tuneAt b ((off - 0x100) / 0x20)) ((off - 0x100) % 0x20)
  else if 0x1000 ≤ off ∧ off < 0x9000 then
    let c := (off - 0x1000) / 0x80
    let r := (off - 0x1000) % 0x80
    let x := ctxAt b c
    let en := b.glb.active && lpeEn b c
    if r = 0 then lpeW b c 0 ||| (if en && x.carried then 0x1000#32 else 0)
    else if r = 0x38 then (if en then lpeField b c 6 else 0)
    else if r = 0x40 then (if en then lpeField b c 2 else 0)
    else if r = 0x44 then (if en then lpeField b c 3 else 0)
    else if r = 0x48 then (if en then lpeField b c 4 else 0)
    else if r < 0x5C then lpeW b c (r / 4)
    else if !en then 0
    else if r = 0x5C then regOf [(0, 11, dProj b (0x100 + c)), (16, 16, x.overruns)]
    else if r = 0x60 then ctxStatus b c
    else if r = 0x68 then lpeSp b c
    else if r = 0x64 then x.pv
    else if r = 0x6C then x.spR
    else if r = 0x70 then x.e
    else if r = 0x74 then x.i
    else if r = 0x78 then x.d
    else x.u
  else 0

/-! Checks of admission (R247, R253, R569). -/

/-- A source word names something that exists in the bank (R247, R451). -/
def srcOk (b : Block) (w : Word) : Bool :=
  fld w 30 2 == 0 && match skKind w with
  | 0 => true
  | 1 => decide (skA w ≤ 191)
  | 2 => decide (skA w < 16) && objEn b (128 * skA w + skB w) && !objTx b (128 * skA w + skB w) && decide (skFmt w ≤ 6)
  | 3 =>
    let f := serTpl b (skA w) (3 + skB w)
    let cv := fld f 6 3
    decide (skA w < 64) && decide (skB w < 8) && bit (serTpl b (skA w) 0) 0 && bit f 9 &&
      skFmt w == (if cv = 0 then 4 else if cv ≤ 2 then 2 else if cv = 3 then 3 else 6)
  | 4 => lpeEn b (skA w)
  | 5 => decide (skA w < 64) && dpHas b
  | _ => false

/-- A target word names something that exists and admits it (Table 8.2). -/
def tgtOk (b : Block) (w : Word) (own : Nat) : Bool :=
  let a := fld w 4 8
  let i := fld w 12 7
  let len := fmtLen (fld w 25 3)
  fld w 29 3 == 0 && match fld w 0 4 with
  | 0 => true
  | 1 => decide (a ≤ 191) && chnMode b a == 3 && !chnFeedback b a
  | 2 => decide (a < 16) && decide (fld w 25 3 ≤ 6) && objEn b (128 * a + i) && objTx b (128 * a + i) && decide (objMode b (128 * a + i) ≤ 1) &&
      decide (fld w 19 6 + len ≤ objLen b (128 * a + i))
  | 3 => lpeEn b a && skKind (lpeSpSrc b a) == 4 && skA (lpeSpSrc b a) == own
  | 4 => decide (a ≤ 26) && dpHas b
  | 5 => decide (a < 4) && decide (i < 32) && decide (fld w 25 3 ≤ 6) && bit (tdCfg b a i) 0 && decide (fld w 19 6 + len + 42 ≤ tdLen b a i)
  | _ => false

/-- What a target word names: its kind, and the index fields that its kind uses (Table 8.2). -/
def tgtName (w : Word) : Nat :=
  let k := fld w 0 4
  if k = 2 ∨ k = 5 then fld w 0 25 else fld w 0 12

def finite (w : Word) : Bool := !fBad w
/-- A finite binary32 within a range. -/
def fIn (lo hi w : Word) : Bool := finite w && fLe lo w && fLe w hi

/-- The loop that a LOOP_SP target of a loop feeds. -/
def lpeFeeds (b : Block) (c : Nat) : Option Nat := if lpeEn b c ∧ fld (lpeOut b c) 0 4 = 3 then some (fld (lpeOut b c) 4 8) else none

/-- Following LOOP_SP targets from `c` comes back to `c`. -/
def lpeCyclic (b : Block) (c : Nat) : Bool :=
  ((List.range 256).foldl (fun (a : Option Nat × Bool) _ =>
    match a.1 with
    | none => a
    | some x => (lpeFeeds b x, a.2 || lpeFeeds b x == some c)) (some c, false)).2

/-- A context record keeps the rules of the chapter. -/
def lpeCtxOk (b : Block) (c : Nat) : Bool :=
  if !lpeEn b c then true else
  let g := lpeW b c 0
  let per := fld (lpeW b c 1) 0 20
  let t := lpeTrig b c
  let sameAs := fun (w : Word) =>
    let j := skA w
    skKind w == 4 && decide (j < c) && lpeEn b j && lpeW b j 1 == lpeW b c 1 && lpeLane b j == lpeLane b c
  fld g 16 16 == 0 && !bit g 12 && decide (lpeModeInit b c ≤ 2) && (lpeModeInit b c != 2 || skKind (lpeSpSrc b c) == 4) &&
    fld (lpeW b c 1) 26 6 == 0 && decide (1 ≤ per) && decide (per ≤ 600000) && ttEn b t && decide (0 < ttPeriod b t) &&
    lpePeriod b c % ttPeriod b t == 0 &&
    srcOk b (lpePvSrc b c) && srcOk b (lpeSpSrc b c) && srcOk b (lpeFfSrc b c) && tgtOk b (lpeOut b c) c &&
    ([3, 4, 8, 9, 10, 11, 12, 13, 14, 15, 16, 17, 18, 19, 20, 21, 23].all fun i => finite (lpeW b c i)) &&
    fLt (lpeOutMin b c) (lpeOutMax b c) && fLt (lpeSpMin b c) (lpeSpMax b c) &&
    fIn (lpeSpMin b c) (lpeSpMax b c) (lpeSpSafe b c) && fIn (lpeSpMin b c) (lpeSpMax b c) (lpeW b c 23) &&
    fLt 0 (lpeEspan b c) && ([10, 14, 16, 17, 18, 19].all fun i => fLe 0 (lpeW b c i)) &&
    (fld (lpeOut b c) 0 4 != 1 || (fLe 0 (lpeOutMin b c) && fLe (lpeOutMax b c) 0x41C00000)) &&
    ((List.range 33).all fun k => fIn 0 0x41800000 (lpeGp b c k) && fIn 0 0x41800000 (lpeGi b c k)) &&
    (!lpeDep b c || sameAs (lpePvSrc b c) || sameAs (lpeSpSrc b c)) && !lpeCyclic b c &&
    (fld (lpeOut b c) 0 4 == 0 || (lpeList b).all fun d => d == c || tgtName (lpeOut b d) != tgtName (lpeOut b c))

/-- STRUCTURE of section 0x04: the number of the first loop that breaks a rule. -/
def lpeCheck (b : Block) : Option Nat := (List.range 256).find? fun c => !(secReach b 4 (90 * c + 90) && lpeCtxOk b c)

/-- CAPACITY of section 0x04 (R247). -/
def lpeCapacityOk (b : Block) : Bool :=
  let r := lpeRate b
  decide (r.1 ≤ 1048576 * r.2) && decide (lpeFastest b ≤ 32) &&
    (lpeList b).all fun c => decide (lpeLane b c < min 16 (loopLanes b).length)

end Sys2Proof.Machine
end

