-- ==== Sys2Proof/Machine/DpCalc.lean ====
section
/-! DEFINITION. What the DP engine reads: its configuration, its fields in force, its registers, and the checks of the DP section
(chapters 9 and 10). -/

namespace Sys2Proof.Machine

def dpSlot (b : Block) (s : Nat) : DpSlot := tget {} b.dp.slots s
def dpGrp (b : Block) (g : Nat) : DpResult := tget {} b.dp.grps g

/-- The DP engine runs (R306, R312). -/
def dpOn (b : Block) : Bool := b.ptn.role == 0 && dpHas b

/-! Sensor records (Table 9.12). -/

def snEn (b : Block) (s : Nat) : Bool := dpHas b && bit (snsW b s 0) 0
def snType (b : Block) (s : Nat) : Nat := fld (snsW b s 0) 1 4
def snOwn (b : Block) (s : Nat) : Bool := bit (snsW b s 0) 5
def snOfsK (b : Block) (s : Nat) : Nat := fld (snsW b s 0) 6 4
def snLat (b : Block) (s : Nat) : Nat := fld (snsW b s 0) 10 10
def snFaultN (b : Block) (s : Nat) : Nat := fld (snsW b s 0) 20 3
def snDropT (b : Block) (s : Nat) : Nat := fld (snsW b s 1) 0 16 * 100000
def snLateLim (b : Block) (s : Nat) : Nat := fld (snsW b s 1) 16 10
def snField (b : Block) (s k : Nat) : Word := snsW b s (3 + k)
def snTime (b : Block) (s : Nat) : Word := snsW b s 6
def snScale (b : Block) (s k : Nat) : Word := snsW b s (7 + k)
def snOffset (b : Block) (s k : Nat) : Word := snsW b s (10 + k)
def snMin (b : Block) (s k : Nat) : Word := snsW b s (13 + 2 * k)
def snMax (b : Block) (s k : Nat) : Word := snsW b s (14 + 2 * k)
def snArm (b : Block) (s k : Nat) : Word := snsW b s (19 + k)
def snParam (b : Block) (s : Nat) : Word := snsW b s 22
/-- Depth of the buffer (R281). -/
def snDepth (s : Nat) : Nat := if 12 ≤ s ∧ s < 20 then 64 else 16
/-- A relative reference (Table 9.2). -/
def snRel (b : Block) (s : Nat) : Bool := snType b s == 1 || snType b s == 2 || snType b s == 4
/-- The slots of a kind that are enabled: positions, headings, MRUs, wind, draft. -/
def slotsOf (b : Block) (lo n : Nat) : List Nat := ((List.range n).map (lo + ·)).filter (snEn b)

def inWait (b : Block) : Nat := fld (dpIn b 0) 0 4
/-- W in ticks. -/
def inW (b : Block) : Nat := inWait b * 2000000
def inAutoAlign (b : Block) : Nat := fld (dpIn b 0) 4 10 * 100000000
def inVoteN (b : Block) : Nat := fld (dpIn b 0) 14 3
/-- POS_LIM in m and HDG_LIM in degrees. -/
def inPosLim (b : Block) : Num := fOfRat false (fld (dpIn b 1) 0 16) 100
def inHdgLim (b : Block) : Num := fOfRat false (fld (dpIn b 1) 16 16) 100
def inVoteAge (b : Block) : Nat := fld (dpIn b 2) 0 16 * 100000

/-! Thruster records (Tables 10.15 and 10.17). -/

def thType (b : Block) (n : Nat) : Nat := fld (thrW b n 0) 0 2
def thEn (b : Block) (n : Nat) : Bool := dpHas b && bit (thrW b n 0) 2
def thSqrt (b : Block) (n : Nat) : Bool := bit (thrW b n 0) 3
def thWash (b : Block) (n : Nat) : Bool := bit (thrW b n 0) 4
def thX (b : Block) (n : Nat) : Num := num (thrW b n 1)
def thY (b : Block) (n : Nat) : Num := num (thrW b n 2)
def thFwd (b : Block) (n : Nat) : Num := num (thrW b n 3)
def thRev (b : Block) (n : Nat) : Num := num (thrW b n 4)
def thRate (b : Block) (n : Nat) : Num := num (thrW b n 5)
def thWeight (b : Block) (n : Nat) : Num := num (thrW b n 6)
def thSect (b : Block) (n : Nat) : Num := num (thrW b n 7)
def thKr (b : Block) (n : Nat) : Num := num (thrW b n 8)
def thDmax (b : Block) (n : Nat) : Num := num (thrW b n 9)
/-- Start and end of a forbidden zone in degrees. -/
def thZone (b : Block) (n k : Nat) : Num × Num :=
  (fOfRat false (fld (thrW b n (10 + k)) 0 16) 100, fOfRat false (fld (thrW b n (10 + k)) 16 16) 100)
def thFbAz (b : Block) (n : Nat) : Word := thrW b n 12
def thReady (b : Block) (n : Nat) : Word := thrW b n 13
def thOut (b : Block) (n k : Nat) : Word := thrW b n (14 + k)
/-- The enabled thrusters. -/
def thrusters (b : Block) : List Nat := (List.range 24).filter (thEn b)

/-- A field of CLASS 0x03 in force. -/
def dpField (b : Block) (i f : Nat) : Word := (targetAt b (targetKey 3 i f)).inForce
def thSelected (b : Block) (n : Nat) : Bool := dpField b (0x80 + n) 0 == 1
def slotSelected (b : Block) (s : Nat) : Bool := dpField b s 0 == 1
def grpMask (b : Block) (g : Nat) : Nat := fld (grpCfg b g) 0 24
/-- A failure group is enabled: it has a mask, and GROUP_EN in force is 1 (R344). -/
def grpOn (b : Block) (g : Nat) : Bool := dpHas b && grpMask b g != 0 && dpField b (0xC0 + g) 0 == 1
def posJoy (b : Block) : Bool := dpField b 0x40 1 == 1
def hdgJoy (b : Block) : Bool := dpField b 0x40 2 == 1

/-- Bank value of a field of CLASS 0x03 (Tables 9.10 and 10.13). -/
def dpBankField (b : Block) (i f : Nat) : Word :=
  if i < 0x1C ∨ (0x80 ≤ i ∧ i < 0x98) then 1
  else if i = 0x20 then 1
  else if i = 0x40 then (if f = 0 then w32 (fld (ctlW b 0) 0 1) else if f = 1 then w32 (fld (ctlW b 0) 2 1) else if f = 2 then w32 (fld (ctlW b 0) 3 1) else 0)
  else if 0xC0 ≤ i ∧ i < 0xE0 then w32 (fld (grpCfg b (i - 0xC0)) 31 1)
  else 0

/-- Addresses and fields of the host fields of CLASS 0x03 that the bank in force defines. -/
def dpFields (b : Block) : List (Nat × Nat) :=
  if !dpHas b then [] else
  ((List.range 28).filter (snEn b)).map (fun s => (s, 0)) ++ [(0x20, 0)] ++ (List.range 9).map (fun f => (0x40, f)) ++
    (thrusters b).map (fun n => (0x80 + n, 0)) ++ (List.range 32).map (fun g => (0xC0 + g, 0))

/-! Registers. -/

/-- STATE of a sensor (Table 9.5), worked out from its causes. -/
def slotState (b : Block) (s : Nat) : Nat :=
  let x := dpSlot b s
  if !snEn b s || !slotSelected b s then 0
  else if x.votedOut then 6 else if x.timeBad then 4 else if x.fault then 3 else if x.dropout then 2
  else if x.late then 5 else if x.noHeading then 7 else 1

/-- DPE_SNS_STATUS (Table 9.16). -/
def snStatus (b : Block) (s : Nat) : Word :=
  if !snEn b s then 0 else
  let x := dpSlot b s
  regOf [(0, 3, x.state), (3, 1, b1 (slotSelected b s)), (4, 1, b1 x.dropout), (5, 1, b1 x.fault), (6, 1, b1 x.timeBad), (7, 1, b1 x.late),
    (8, 1, b1 x.votedOut), (9, 1, b1 x.noHeading), (12, 4, x.tq), (16, 3, x.voteCount), (19, 3, x.faultRun), (24, 8, x.overwrites)]

/-- DPE_IN_STATUS (Table 9.13). -/
def inStatus (b : Block) : Word :=
  let r := b.dp.rec1.getD {}
  regOf [(0, 1, b.dp.mode), (1, 2, r.pos), (3, 2, r.hdg), (5, 2, r.att), (7, 2, r.wind), (9, 2, r.draftC), (11, 6, r.vote), (17, 1, b1 (dpOn b))]

/-- DPE_STATUS (Table 10.16). -/
def dpStatus (b : Block) : Word :=
  regOf [(0, 2, b.dp.state), (2, 2, b.dp.est), (4, 1, b1 (dpHas b && posJoy b)), (5, 1, b1 (dpHas b && hdgJoy b)), (6, 3, b.dp.sat), (9, 1, b1 b.dp.conseq),
    (10, 1, b1 b.dp.resumed), (11, 1, b1 b.dp.numSat), (12, 1, b1 b.dp.predHold), (13, 4, if dpHas b then solverLu b else 0)]

/-- An angle in degrees in units of 0.01°, 0 to 35 999. -/
def centiDeg (w : Word) : Nat := (fToInt ((num w).mul (num 0x42C80000)).v % 36000).toNat

/-- DPE_THR_STATUS (Table 10.18). -/
def thrStatus (b : Block) (n : Nat) : Word :=
  if !thEn b n then 0 else
  let x := dpThr b n
  regOf [(0, 1, b1 x.avail), (1, 1, b1 (thSelected b n)), (2, 1, b1 x.ready), (3, 1, b1 x.fbOk), (4, 1, b1 x.fenced), (5, 1, b1 x.side),
    (6, 1, b1 x.atLimit), (16, 16, centiDeg x.azFb)]

/-- Groups with a verdict. -/
def grpVerdict (b : Block) (v : Nat) : Word := wordOfFn fun g => (dpGrp b g).verdict == v

/-- Capacity factor in force, clamped (R325). -/
def thCap (b : Block) (n : Nat) : Num := Num.clamp f0 f1 (num (dpInput b (3 + n)))

/-- ô in µs, signed, saturating. -/
def ofsMicro (x : DpSlot) : Word :=
  match x.ofs with
  | none => 0
  | some o => w32i (max (-2147483648) (min 2147483647 (o / 1000)))

/-- Registers of a sensor from 0x60 on. -/
def readSlotReg (b : Block) (s r : Nat) : Word :=
  let x := dpSlot b s
  if r = 0x60 then snStatus b s
  else if r = 0x64 then regOf [(0, 16, x.accepted), (16, 16, x.lateCount)]
  else if r = 0x68 then regOf [(0, 8, x.faults), (8, 8, x.tqEntries), (16, 8, x.voteOuts), (24, 8, x.noHdg)]
  else if r = 0x6C then ofsMicro x
  else 0

/-- The DPE block (Tables 9.12 and 10.15). -/
def readDpe (b : Block) (off : Nat) : Word :=
  let has := dpHas b
  let r := b.dp.rec1.getD {}
  if off = 0 then inStatus b
  else if off < 0x1C then (if off = 0x10 ∧ has then b.dp.lat0 else if off = 0x14 ∧ has then b.dp.lon0 else dpIn b (off / 4 - 1))
  else if off = 0x1C then (if has then b.dp.kn else 0)
  else if off = 0x20 then (if has then b.dp.ke else 0)
  else if off = 0x24 then w32 r.used
  else if off = 0x28 then w32 r.masked
  else if off = 0x2C then w32 b.dp.records
  else if off = 0x30 then loW r.outTick
  else if off = 0x34 then hiW r.outTick
  else if off < 0x100 then 0
  else if off = 0x100 then dpStatus b
  else if off = 0x104 then w32 b.dp.cycles
  else if off = 0x108 then regOf [(0, 16, b.dp.notDone), (16, 16, b.dp.overruns)]
  else if off = 0x10C then regOf [(0, 18, dProj b 0x203)]
  else if off = 0x110 then regOf [(0, 18, dProj b 0x200)]
  else if off = 0x114 then regOf [(0, 18, dProj b 0x201)]
  else if off = 0x118 then regOf [(0, 18, dProj b 0x202)]
  else if off = 0x11C then grpVerdict b 3
  else if off = 0x120 then grpVerdict b 2
  else if off = 0x124 then wordOfFn fun n => decide (n < 24) && (dpThr b n).avail
  else if off = 0x128 then wordOfFn fun p => decide (p < 9) && isFenced b (.solverLane p)
  else if off = 0x12C then regOf [(0, 16, b.dp.innovRej)]
  else if 0x200 ≤ off ∧ off < 0x28C then estW b ((off - 0x200) / 4)
  else if 0x300 ≤ off ∧ off < 0x360 then ctlW b ((off - 0x300) / 4)
  else if 0x380 ≤ off ∧ off < 0x3A0 then alcW b ((off - 0x380) / 4)
  else if 0x400 ≤ off ∧ off < 0x500 then
    wAt b.dp.outs ((off - 0x400) / 4)
  else if 0x1000 ≤ off ∧ off < 0x2000 then
    let s := (off - 0x1000) / 0x80
    let q := (off - 0x1000) % 0x80
    if q < 0x5C then snsW b s (q / 4) else readSlotReg b s q
  else if 0x3000 ≤ off ∧ off < 0x3C00 then
    let n := (off - 0x3000) / 0x80
    let q := (off - 0x3000) % 0x80
    if q < 0x40 then thrW b n (q / 4)
    else if q = 0x40 then thrStatus b n
    else if q = 0x44 then (dpThr b n).fx
    else if q = 0x48 then (dpThr b n).fy
    else if q = 0x4C then (if thEn b n then (thCap b n).v else 0)
    else 0
  else if 0x4000 ≤ off ∧ off < 0x4400 then
    let g := (off - 0x4000) / 0x20
    let q := (off - 0x4000) % 0x20
    let x := dpGrp b g
    if q = 0 then grpCfg b g
    else if q = 4 then regOf [(0, 8, x.util), (8, 3, x.verdict), (16, 8, x.run), (24, 8, x.age)]
    else if q = 8 then x.resX else if q = 0xC then x.resY else if q = 0x10 then x.resN
    else 0
  else 0

/-! Checks of admission (R274, R276, R281, R310, R346). -/

/-- Unit that a source word reads from: kind, and template, object, or nothing for channels. -/
def srcUnit (w : Word) : Nat × Nat := (skKind w, if skKind w = 2 then 128 * skA w + skB w else if skKind w = 3 then skA w else 0)

/-- The fields that a type uses: required, and optional. -/
def typeFields (t : Nat) : List Nat × List Nat :=
  if t ≤ 1 then ([0, 1], [2]) else if t ≤ 4 then ([0, 1], []) else if t = 6 then ([0, 1], [2]) else if t = 7 then ([0, 1], []) else ([0], [])

/-- Types a slot allows (Table 9.1). -/
def slotTypeOk (s t : Nat) : Bool :=
  if s < 12 then decide (t ≤ 4) else if s < 16 then t == 5 else if s < 20 then t == 6 else if s < 24 then t == 7 else s < 28 && t == 8

/-- The reserved bits and the reserved word of a sensor record (R14, Table 9.12). -/
def snsZeros (b : Block) (s : Nat) : Bool :=
  secReach b 5 (40 + 24 * s) && fld (snsW b s 0) 23 9 == 0 && fld (snsW b s 1) 26 6 == 0 && fld (snsW b s 2) 7 25 == 0 && snsW b s 23 == 0 &&
    [3, 4, 5, 6].all fun i => fld (snsW b s i) 30 2 == 0

def dpSlotOk (b : Block) (s : Nat) : Bool :=
  let g := snsW b s 0
  snsZeros b s && (!bit g 0 ||
  let t := fld g 1 4
  let own := bit g 5
  let (req, opt) := typeFields t
  let srcs := (List.range 3).map fun k => snField b s k
  let used := (srcs.filter fun w => skKind w != 0) ++ (if own then [snTime b s] else [])
  let u := srcUnit (snField b s 0)
  let chan := u.1 == 1
  let count := fun (p : Nat → Bool) => countOf (fun i => bit (snsW b i 0) 0 && p (fld (snsW b i 0) 1 4)) ((List.range (s + 1)).filter (· < 12))
  slotTypeOk s t && decide (fld g 10 10 ≤ 1000) && decide (1 ≤ fld g 20 3) &&
    (!own || decide (1 ≤ fld g 6 4)) && inRange 20 60000 (fld (snsW b s 1) 0 16) && decide (fld (snsW b s 1) 16 10 ≤ 1000) &&
    inRange 1 100 (fld (snsW b s 2) 0 7) &&
    (req.all fun k => skKind (snField b s k) != 0) &&
    ((List.range 3).all fun k => req.contains k || opt.contains k || skKind (snField b s k) == 0) &&
    (used.all fun w => srcOk b w && inRange 1 3 (skKind w) && srcUnit w == u &&
      (!chan || (smpTrig b (skA w) == smpTrig b (skA (snField b s 0)) && smpDiv b (skA w) == smpDiv b (skA (snField b s 0))))) &&
    (t != 0 || (skFmt (snField b s 0) == 2 && skFmt (snField b s 1) == 2 && !chan)) &&
    (if own then (u.1 == 2 || u.1 == 3) && skFmt (snTime b s) == 3 else skKind (snTime b s) == 0) &&
    (!chan || fld g 10 10 == 0) &&
    ((List.range 3).all fun k => finite (snArm b s k) &&
      (decide (t = 0 ∧ k < 2) || (finite (snScale b s k) && finite (snOffset b s k) && finite (snMin b s k) && finite (snMax b s k)))) &&
    (if t = 2 then finite (snParam b s) && fLt 0 (snParam b s) else snParam b s == 0) &&
    decide (fld (snsW b s 2) 0 7 * (fld (dpIn b 0) 0 4 * 20 + 40) ≤ 1000 * snDepth s) &&
    (if s < 12 then decide (count (· == 0) ≤ 6) && decide (count (· == 1) ≤ 2) && decide (count (· == 2) ≤ 2) && decide (count (fun x => x == 3 || x == 4) ≤ 2)
     else true))

def dpGlobalOk (b : Block) : Bool :=
  let lat := (dpIn b 3).toInt
  secReach b 5 16 && ((List.range 10).all fun i => dpIn b (6 + i) == 0) && inRange 1 10 (fld (dpIn b 0) 0 4) && decide (fld (dpIn b 0) 4 10 ≤ 600) && decide (1 ≤ fld (dpIn b 0) 14 3) && fld (dpIn b 0) 17 15 == 0 &&
    decide (1 ≤ fld (dpIn b 1) 0 16) && inRange 1 18000 (fld (dpIn b 1) 16 16) && inRange 20 10000 (fld (dpIn b 2) 0 16) && fld (dpIn b 2) 16 16 == 0 &&
    decide (-850000000 ≤ lat) && decide (lat ≤ 850000000) && finite (dpIn b 5)

def fPosW (w : Word) : Bool := finite w && fLt 0 w
def fNonNeg (w : Word) : Bool := finite w && fLe 0 w

def dpEstOk (b : Block) : Bool :=
  secReach b 5 824 && inRange 10 6000 (fld (estW b 0) 0 16) && fld (estW b 0) 16 16 == 0 &&
    ([1, 2, 3].all fun i => fPosW (estW b i)) && finite (estW b 4) && ([5, 6, 7].all fun i => fNonNeg (estW b i)) && finite (estW b 8) &&
    ([9, 10, 11].all fun i => fIn 0x3E4CCCCD 0x40000000 (estW b i)) && fIn 0x3C23D70A 0x3F800000 (estW b 12) &&
    (fZero (estW b 13) || fIn 0x41200000 0x461C4000 (estW b 13)) &&
    ((List.range 15).all fun i => fNonNeg (estW b (14 + i))) && ([29, 30, 31, 32, 33].all fun i => fPosW (estW b i)) && fNonNeg (estW b 34)

def dpCtlOk (b : Block) : Bool :=
  secReach b 5 848 && fld (ctlW b 0) 8 24 == 0 && ([1, 2, 3, 4, 5, 6, 7, 8, 9].all fun i => fNonNeg (ctlW b i)) && fPosW (ctlW b 10) && fPosW (ctlW b 11) &&
    fIn 0 0x3F800000 (ctlW b 12) && ([13, 14, 15, 16, 17, 18, 19, 20, 21, 22].all fun i => finite (ctlW b i)) && fNonNeg (ctlW b 23)

def dpAlcOk (b : Block) : Bool :=
  let g := alcW b 0
  secReach b 5 864 && inRange 16 64 (fld g 0 7) && inRange 1 15 (fld g 7 4) && inRange 50 100 (fld g 11 7) && fld g 18 14 == 0 &&
    ([1, 2, 3].all fun i => fPosW (alcW b i)) && ([4, 5, 6].all fun i => finite (alcW b i)) && fNonNeg (alcW b 7)

def dpThrOk (b : Block) (n : Nat) : Bool :=
  let t := fld (thrW b n 0) 0 2
  let zone := fun (w : Word) => decide (fld w 0 16 ≤ 35999) && decide (fld w 16 16 ≤ 35999)
  let out := fun (w : Word) => (skKind w == 0 || skKind w == 2 || skKind w == 5) && tgtOk b w 0
  secReach b 5 (880 + 16 * n) && fld (thrW b n 0) 5 27 == 0 && (!bit (thrW b n 0) 2 || t != 0 && finite (thrW b n 1) && finite (thrW b n 2) && fPosW (thrW b n 3) && fNonNeg (thrW b n 4) &&
    (t != 2 || fZero (thrW b n 4)) && fPosW (thrW b n 5) && fPosW (thrW b n 6) &&
    (t != 2 || fIn 0x40A00000 0x42B40000 (thrW b n 7)) && (t != 3 || (fIn 0 0x3F800000 (thrW b n 8) && fIn 0x3F800000 0x42340000 (thrW b n 9))) &&
    zone (thrW b n 10) && zone (thrW b n 11) && srcOk b (thFbAz b n) && srcOk b (thReady b n) &&
    (skKind (thFbAz b n) != 0) == (t == 2) && skKind (thReady b n) != 0 && out (thOut b n 0) && out (thOut b n 1))

def dpGrpOk (b : Block) (g : Nat) : Bool :=
  secReach b 5 (1250 + 2 * g) && fld (grpCfg b g) 24 7 == 0 && cfgW b 5 (1249 + 2 * g) == 0 && (!bit (grpCfg b g) 31 ||
    (fld (grpCfg b g) 0 24 != 0 && (List.range 24).all fun n => !bit (grpCfg b g) n || bit (thrW b n 0) 2))

/-- STRUCTURE of section 0x05: the DETAIL of the first breach. -/
def dpCheck (b : Block) : Option Nat :=
  firstSome ([failIf (!dpGlobalOk b) 0x20] ++ [(List.range 28).find? fun s => !dpSlotOk b s] ++
    [(List.range 32).find? fun s => decide (28 ≤ s) && (bit (snsW b s 0) 0 || !snsZeros b s)] ++
    [failIf (!dpEstOk b) 0x21, failIf (!dpCtlOk b) 0x22, failIf (!dpAlcOk b) 0x23] ++
    (List.range 24).map (fun n => failIf (!dpThrOk b n) (0x40 + n)) ++ (List.range 32).map (fun g => failIf (!dpGrpOk b g) (0x60 + g)))

end Sys2Proof.Machine
end

