-- ==== Sys2Proof/Machine/EthCalc.lean ====
section
/-! DEFINITION. Ethernet networks: what their registers show, the parts of a frame, the duplicate check, and the checks of section 0x07
(R429 to R443). -/

namespace Sys2Proof.Machine

def netAt (b : Block) (n : Nat) : Net := tget {} b.eth.nets n
def strAt (b : Block) (j : Nat) : Stream := tget {} b.eth.streams j
/-- Datagram `k`, counted 32 × n + d. -/
def tdAt (b : Block) (k : Nat) : Datagram := tget {} b.eth.tds k

/-! Configuration (Tables 13.11 and 13.12). -/

def netEn (b : Block) (n : Nat) : Bool := bit (netCfg b n) 0
def netSingle (b : Block) (n : Nat) : Bool := bit (netCfg b n) 1
/-- ENTRY_FORGET in ticks. -/
def netForget (b : Block) (n : Nat) : Nat := fld (netCfg b n) 2 10 * 100000
def netDefaultRing (b : Block) (n : Nat) : Nat := fld (netCfg b n) 12 7
def netDefaultEn (b : Block) (n : Nat) : Bool := bit (netCfg b n) 19
def strEn (b : Block) (j : Nat) : Bool := bit (strCfg b j 0) 0
def strNet (b : Block) (j : Nat) : Nat := fld (strCfg b j 0) 1 2
def strPort (b : Block) (j : Nat) : Nat := fld (strCfg b j 0) 16 16
def tdEn (b : Block) (k : Nat) : Bool := bit (tdCfg b (k / 32) (k % 32)) 0
def tdCsum (b : Block) (k : Nat) : Bool := bit (tdCfg b (k / 32) (k % 32)) 11
def tdTrig (b : Block) (k : Nat) : Nat := fld (tdArg b (k / 32) (k % 32)) 0 6
def tdDiv (b : Block) (k : Nat) : Nat := fld (tdArg b (k / 32) (k % 32)) 6 16

/-- A LAN of a network carries frames: its port is linked and not fenced (R429, Table 15.3). -/
def lanUp (b : Block) (n lan : Nat) : Bool :=
  (if lan = 0 then (netAt b n).upA else (netAt b n).upB) && !isFenced b (.eth (2 * n + lan))
/-- The LANs a network uses that carry frames. -/
def lansUp (b : Block) (n : Nat) : List Nat :=
  ([0, 1] : List Nat).filter fun l => lanUp b n l && (l == 0 || !netSingle b n)

/-- The transport of a transmit connection can take a frame now: the object may send, a LAN of the network carries frames, or the module has
a partner. -/
def cnReady (b : Block) (c : Nat) : Bool :=
  if cnBus b c = 1 then objMaySend b (128 * cnPort b c + cnObj b c)
  else if cnBus b c = 2 then netEn b (cnPort b c) && !(lansUp b (cnPort b c)).isEmpty
  else paired b

/-- A transmit connection transmits (R217, R240): it sends, its transport can take its frames, and one has gone out. -/
def cnTransmits (b : Block) (c : Nat) : Bool := cnSends b c && cnReady b c && (connAt b c).sent

/-- Registers of the SAF block: what tells whether a transmit connection transmits beside those of the engine (Tables 7.10 and 7.14). -/
def readSafety (b : Block) (off : Nat) : Word :=
  if off = 0x20 then readSaf b off ||| wordOfFn fun c => c < 24 && cnTransmits b c
  else if 0x6000 ≤ off ∧ off < 0x6300 ∧ (off - 0x6000) % 0x20 = 0x14 ∧ cnTransmits b ((off - 0x6000) / 0x20) then
    readSaf b off ||| 2
  else readSaf b off

/-! Registers (Table 13.11). -/

def readEth (b : Block) (off : Nat) : Word :=
  if off = 0 then
    wordOfFn fun i =>
      if i < 8 then lanUp b (i / 2) (i % 2)
      else if i < 12 then lanUp b (i - 8) 0 && lanUp b (i - 8) 1
      else if i < 16 then lanUp b (i - 12) 0 || lanUp b (i - 12) 1
      else false
  else if 0x100 ≤ off ∧ off < 0x200 then
    let n := (off - 0x100) / 0x40
    let r := (off - 0x100) % 0x40
    let x := netAt b n
    let mac := (Sys2Proof.Config.mac n).toNat
    if r = 0x0 then netCfg b n
    else if r = 0x4 then netIp b n
    else if r = 0x8 then netUslGroup b n
    else if r = 0xC then loW mac
    else if r = 0x10 then hiW mac
    else if r = 0x14 then regOf [(0, 16, x.dropsA), (16, 16, x.dropsB)]
    else if r = 0x18 then w32 x.prpDup
    else if r = 0x1C then regOf [(0, 8, x.wrongLan), (8, 8, x.nodeOvf), (16, 8, x.outOfWindow), (24, 8, x.unmatched)]
    else if r = 0x20 then w32 x.nodes.length
    else if r = 0x24 then x.latch
    else 0
  else if 0x1000 ≤ off ∧ off < 0x1200 then
    let n := (off - 0x1000) / 0x80
    let f := (off - 0x1000) % 0x80 / 8
    if off % 8 = 0 then rxfCfg b n f else rxfMatch b n f
  else if 0x2000 ≤ off ∧ off < 0x2200 then
    let j := (off - 0x2000) / 0x20
    let r := (off - 0x2000) % 0x20
    let x := strAt b j
    if r < 0x10 then strCfg b j (r / 4)
    else if r = 0x10 then w32 (b1 x.receiving)
    else if r = 0x14 then regOf [(0, 16, x.accepted), (16, 8, x.bad), (24, 8, x.sfiRej)]
    else 0
  else if 0x4000 ≤ off ∧ off < 0x4800 then
    let k := (off - 0x4000) / 0x10
    let r := (off - 0x4000) % 0x10
    let x := tdAt b k
    if r = 0x0 then tdCfg b (k / 32) (k % 32)
    else if r = 0x4 then tdArg b (k / 32) (k % 32)
    else if r = 0x8 then regOf [(0, 1, b1 x.valid), (1, 1, b1 (tdEn b k && moduleForce b)), (16, 16, x.replaced)]
    else 0
  else 0

/-! Frames. -/

/-- LSDU size of a frame with its trailer: what follows the EtherType, without an 802.1Q tag (R430; log 35). -/
def lsduSize (body : List Byte) : Nat := body.length + 6 - 14 - (if beAt body 12 2 = 0x8100 then 4 else 0)

/-- The redundancy control trailer of a frame: SeqNr and LanId (R430; its fields as IEC 62439-3 lays them out, log 35). -/
def rctOf (f : List Byte) : Option (Nat × Nat) :=
  let t := f.drop (f.length - 6)
  let lan := beAt t 2 2 / 4096
  if 20 ≤ f.length ∧ beAt t 4 2 = 0x88FB ∧ (lan = 0xA ∨ lan = 0xB) ∧ beAt t 2 2 % 4096 = lsduSize (f.take (f.length - 6)) then
    some (beAt t 0 2, lan)
  else none

/-- A frame at the MAC is 64 to 1 522 bytes with its FCS, or up to 1 528 with the trailer (Table 13.3). -/
def frLenOk (f : List Byte) : Bool := decide (60 ≤ f.length) && decide (f.length ≤ if (rctOf f).isSome then 1524 else 1518)

/-- The trailer of a frame of the module on a LAN. -/
def rctBytes (seq lan size : Nat) : List Byte :=
  (leBytes 2 seq).reverse ++ (leBytes 2 ((if lan = 0 then 0xA else 0xB) * 4096 + size % 4096)).reverse ++ [0x88, 0xFB]

def frSrc (f : List Byte) : Nat := beAt f 6 6
def frType (f : List Byte) : Nat := beAt f 12 2
def frIsIp (f : List Byte) : Bool := frType f == 0x0800 && beAt f 14 1 / 16 == 4
/-- Length of the IPv4 header. -/
def frIhl (f : List Byte) : Nat := beAt f 14 1 % 16 * 4
/-- An IPv4 fragment. -/
def frFragment (f : List Byte) : Bool := frIsIp f && beAt f 20 2 % 0x4000 != 0
def frProto (f : List Byte) : Nat := beAt f 23 1
def frDstIp (f : List Byte) : Nat := beAt f 30 4
/-- UDP destination port of a frame whose UDP header stands in it. -/
def frUdpPort (f : List Byte) : Option Nat :=
  if frIsIp f ∧ frProto f = 17 ∧ beAt f 20 2 % 0x2000 = 0 ∧ 20 ≤ frIhl f ∧ 14 + frIhl f + 8 ≤ f.length then some (beAt f (14 + frIhl f + 2) 2)
  else none
/-- UDP payload, by the length of its header. -/
def frUdpData (f : List Byte) : List Byte := (f.drop (14 + frIhl f + 8)).take (beAt f (14 + frIhl f + 4) 2 - 8)
/-- A UDP frame of the kind the module takes for itself: no options, no fragment (Table 13.3). -/
def frOwnUdp (f : List Byte) : Option Nat := if frFragment f ∨ frIhl f ≠ 20 then none else frUdpPort f

/-- The PTP message in a frame: its transport (0 Annex E, 1 Annex C), its type and its domainNumber (R422, Table 13.2). -/
def ptpOf (f : List Byte) : Option (Nat × Nat × Nat) :=
  if frType f = 0x88F7 then some (0, beAt f 14 1 % 16, beAt f 18 1)
  else
    match frUdpPort f with
    | some p => if p = 319 ∨ p = 320 then some (1, beAt (frUdpData f) 0 1 % 16, beAt (frUdpData f) 4 1) else none
    | none => none

/-- The configured domain whose message a frame on a network is, and whether it is an event message (R422). `lan` is the LAN it came from;
2 stands for a frame to be sent. -/
def ptpDomain (b : Block) (n lan : Nat) (f : List Byte) : Option (Nat × Bool) :=
  match ptpOf f with
  | none => none
  | some (tr, ty, dom) =>
    (([0, 1] : List Nat).find? fun k =>
      let c := timDomCfg b k
      bit c 0 && fld c 9 2 == n && (lan == 2 || fld c 11 1 == lan) && fld c 12 1 == tr && fld c 1 8 == dom).map fun k => (k, decide (ty ≤ 1))

/-! The duplicate check (R431). -/

/-- What the node table says to a frame: accept, and what to count: 0 nothing, 1 duplicate, 2 no room, 3 out of window. -/
structure NodeVerdict where
  accept : Bool
  count : Nat
  nodes : List Node
  deriving DecidableEq, Repr

def judgeNode (nodes : List Node) (mac s tick : Nat) : NodeVerdict :=
  match nodes.find? fun x => x.mac == mac with
  | none =>
    if nodes.length < 256 then ⟨true, 0, nodes ++ [{ mac := mac, smax := s, record := 1, lastTick := tick }]⟩ else ⟨true, 2, nodes⟩
  | some x =>
    let d := (s + 65536 - x.smax) % 65536
    let e := (x.smax + 65536 - s) % 65536
    let put := fun (y : Node) => nodes.map fun z => if z.mac = mac then y else z
    let seen := decide (e < 64) && x.record / 2 ^ e % 2 == 1
    if d = 0 ∨ seen then ⟨false, 1, put { x with lastTick := tick }⟩
    else if d ≤ 32767 then
      ⟨true, 0, put { x with smax := s, record := (x.record * 2 ^ d + 1) % 2 ^ 64, lastTick := tick }⟩
    else if e < 64 then ⟨true, 0, put { x with record := x.record + 2 ^ e, lastTick := tick }⟩
    else ⟨true, 3, put { x with lastTick := tick }⟩

/-! Check sums of IPv4 and UDP. -/

/-- The ones' complement sum of a run of bytes as 16-bit words, network order; fuel. -/
def ipSum : Nat → List Byte → Nat
  | 0, _ => 0
  | _, [] => 0
  | k + 1, x :: y :: l => x.toNat * 256 + y.toNat + ipSum k l
  | _ + 1, [x] => x.toNat * 256

def foldSum (n : Nat) : Nat := let n := n % 65536 + n / 65536; n % 65536 + n / 65536
/-- The Internet check sum of bytes. -/
def ipCsum (l : List Byte) : Nat := 65535 - foldSum (ipSum (l.length + 1) l)
def beBytes (n v : Nat) : List Byte := (leBytes n v).reverse

/-! Safe Layer endpoints and streams. -/

/-- A UDP port of a network is bound to a Safe Layer connection (R213). -/
def uslPort (b : Block) (n port : Nat) : Bool :=
  (connOf b 2 n port false).isSome || (connOf b 2 n port true).isSome

/-- The stream a datagram belongs to (R436). -/
def streamOf (b : Block) (n ip port : Nat) : Option Nat :=
  (List.range 16).find? fun j => strEn b j && strNet b j == n && strPort b j == port && (strCfg b j 1).toNat == ip

/-- The multicast groups of a network: its streams' and USL_GROUP (R437). -/
def netGroups (b : Block) (n : Nat) : List Nat :=
  let l := ((List.range 16).filter fun j => strEn b j && strNet b j == n).map fun j => (strCfg b j 1).toNat
  let u := (netUslGroup b n).toNat
  (if u = 0 then l else l ++ [u]).eraseDups

/-- The receive filter that claims a frame (R432). -/
def rxFilter (b : Block) (n : Nat) (f : List Byte) : Option Nat :=
  (List.range 16).find? fun k =>
    let c := rxfCfg b n k
    let m := fld (rxfMatch b n k) 0 16
    bit c 0 && (if fld c 1 2 = 0 then frType f == m else if fld c 1 2 = 1 then frUdpPort f == some m else fld c 1 2 == 2)

/-! Checks of admission (R441). -/

def netOk (b : Block) (n : Nat) : Bool :=
  let c := netCfg b n
  secReach b 7 (4 * n + 4) && cfgW b 7 (4 * n + 3) == 0 && fld c 20 12 == 0 && (!bit c 0 || (decide (10 ≤ fld c 2 10) && decide (fld c 2 10 ≤ 1000)))

def rxfOk (b : Block) (n f : Nat) : Bool :=
  let c := rxfCfg b n f
  secReach b 7 (18 + 2 * (16 * n + f)) && fld c 10 22 == 0 && fld (rxfMatch b n f) 16 16 == 0 && (!bit c 0 || decide (fld c 1 2 ≤ 2))

def streamOk (b : Block) (j : Nat) : Bool :=
  let c := strCfg b j 0
  secReach b 7 (148 + 4 * j) && fld c 4 12 == 0 && fld (strCfg b j 3) 16 16 == 0 && (!bit c 0 ||
    !(List.range j).any fun i => strEn b i && fld (strCfg b i 0) 1 2 == fld c 1 2 && strPort b i == strPort b j && strCfg b i 1 == strCfg b j 1)

def datagramOk (spans : Nat → List (Nat × Nat)) (b : Block) (k : Nat) : Bool :=
  let c := tdCfg b (k / 32) (k % 32)
  let len := tdLen b (k / 32) (k % 32)
  secReach b 7 (210 + 2 * k) && fld c 18 14 == 0 && fld (tdArg b (k / 32) (k % 32)) 22 10 == 0 &&
    (!bit c 0 || (decide (60 ≤ len) && decide (len ≤ 1000) && ttEn b (tdTrig b k) && decide (1 ≤ tdDiv b k) &&
    spansOk (len - 42) (spans k)))

/-- STRUCTURE of section 0x07: the DETAIL of the first record that breaks a rule. `spans` gives the fields written into a datagram. -/
def ethCheck (spans : Nat → List (Nat × Nat)) (b : Block) : Option Nat :=
  ((List.range 4).find? fun n => !netOk b n).or
    ((((List.range 64).find? fun i => !rxfOk b (i / 16) (i % 16)).map (0x100 + ·)).or
      ((((List.range 16).find? fun j => !streamOk b j).map (0x200 + ·)).or
        (((List.range 128).find? fun k => !datagramOk spans b k).map (0x400 + ·))))

end Sys2Proof.Machine
end

