-- ==== Sys2Proof/Machine/PtnCalc.lean ====
section
/-! DEFINITION. The partner and seed unit: what its registers show, the fields of its configuration, the words of a seed, and the checks
of the seed map (R348 to R387). -/

namespace Sys2Proof.Machine

def plink (b : Block) (k : Nat) : PLink := if k = 0 then b.ptn.k0 else b.ptn.k1

/-- START_ALONE (R358). -/
def startAlone (b : Block) : Bool := bit (ptnCfg b) 2
/-- CONT_AGE in ticks (R367). -/
def contAge (b : Block) : Nat := fld (ptnCfg2 b) 0 11 * 100000
def seqJump (b : Block) : Nat := fld (ptnCfg2 b) 12 8
/-- DRILL_DUE in days. -/
def drillDue (b : Block) : Nat := fld (ptnCfg2 b) 20 8
/-- Ticks of a day. -/
def dayT : Nat := 8640000000000

/-- The link carries messages: trained and not fenced. -/
def plinkUp (b : Block) (k : Nat) : Bool := (plink b k).up && !isFenced b (.partner k)

/-- A link is live (R352): a valid message within ST that echoes an own message sent within ST. -/
def plinkLive (b : Block) (k : Nat) : Bool :=
  let l := plink b k
  match l.rxTick, l.echo with
  | some r, some s => decide (b.tb < r + silentT b) && decide (b.tb < s + silentT b)
  | _, _ => false

/-- The partner's reported role, when its newest message is known and it is heard. -/
def partnerRole (b : Block) : Option Nat := if b.ptn.heard && b.ptn.partnerKnown then some b.ptn.partner.role else none

/-! Words of a seed (Tables 11.9 and 11.10). -/

def Seed.w (s : Seed) (i : Nat) : Nat := (s.words.getD i 0).toNat
def Seed.seq (s : Seed) : Nat := s.w 1 % 2 ^ 32
def Seed.tick (s : Seed) : Nat := s.w 2
def Seed.crc (s : Seed) : Word := w32 (s.w 3)
def Seed.used (s : Seed) : Nat := s.w 0 / 2 ^ 48 % 2048
def Seed.isHandover (s : Seed) : Bool := s.w 0 / 2 ^ 41 % 2 == 1
/-- The bytes of a seed, each word little-endian. -/
def Seed.bytes (s : Seed) : List Byte := s.words.flatMap fun w => leBytes 8 w.toNat
/-- The words of a list of bytes. -/
def seedOf (l : List Byte) : Seed := { words := (List.range (l.length / 8)).map fun i => BitVec.ofNat 64 (leAt l (8 * i) 8) }
/-- SEED_CRC as it should stand: over the words with word 7 bits [31:0] as 0. -/
def Seed.goodCrc (s : Seed) : Word := crc32 (overlay0 s.bytes)
where overlay0 (l : List Byte) : List Byte := l.take 56 ++ [0, 0, 0, 0] ++ l.drop 60
/-- The directory entry of a kind: its bytes and its COUNT. -/
def Seed.entry (s : Seed) (kind : Nat) : Option (List Byte × Nat) :=
  ((List.range 16).find? fun i => s.w (8 + i) % 256 == kind).map fun i =>
    let e := s.w (8 + i)
    ((s.bytes.drop (8 * (e / 2 ^ 16 % 2 ^ 16))).take (8 * (e / 2 ^ 32 % 2 ^ 16)), e / 2 ^ 48)

/-- Directory entry e of the map of the bank in force. -/
def mapEntry (b : Block) (e : Nat) : Nat := join64 (ptnMapLo b e) (ptnMapHi b e)
/-- SEED_WORDS of the bank in force. -/
def seedWords (b : Block) : Nat := if b.glb.active then imgSeedWords b.glb.activeBank.mem else 0

/-- Age of a held seed at this tick (R367). -/
def heldAge (b : Block) (h : HeldSeed) : Nat := ((b.tb : Int) - ((h.seed.tick : Int) - h.ofs)).toNat

/-! Registers (Tables 11.14 to 11.18). -/

def ptnStatus (b : Block) : Word :=
  let p := b.ptn
  regOf [(0, 2, p.role), (2, 4, p.cause), (6, 1, p.pos), (7, 1, b1 p.sole), (8, 1, b1 p.heard), (9, 1, b1 p.k0.live), (10, 1, b1 p.k1.live),
    (11, 2, p.partner.role), (13, 1, b1 p.partner.sole), (14, 1, b1 (p.partnerKnown && p.partner.bankCrc == bankCrc b)),
    (15, 1, b1 p.posClash), (16, 1, b1 (p.handover.isSome || p.handoverIn.isSome)), (17, 1, b1 p.overlap.isSome),
    (18, 1, b1 p.held.isSome), (19, 1, b1 p.rate), (20, 1, b1 p.granting)]

def plinkWord (b : Block) (k : Nat) : Word :=
  let l := plink b k
  let recent := match l.rxTick with
    | some r => decide (b.tb < r + silentT b)
    | none => false
  regOf [(0, 1, b1 (plinkUp b k)), (1, 1, b1 l.live), (2, 1, b1 recent), (4, 12, min 4095 l.rtt), (16, 16, l.errs)]

/-- E_A when Active, E_S when Standby. -/
def ptnExpiry (b : Block) : Nat :=
  if b.ptn.role = 0 then b.ptn.eA.getD 0 else if b.ptn.role = 1 then b.ptn.eS else 0

/-- PTN_ACTIVE_AGE (R384). -/
def activeAge (b : Block) : Nat := if !b.glb.ready ∨ b.ptn.role = 0 then 0 else min (2 ^ 32 - 1) ((b.tb - b.ptn.ageFrom) / 100000000)

def readPtn (b : Block) (off : Nat) : Word :=
  let p := b.ptn
  let ofs : Nat := (p.ofs.getD 0 % ((2 ^ 64 : Nat) : Int)).toNat
  if off = 0x0 then ptnStatus b
  else if off = 0x4 then ptnCfg b
  else if off = 0x8 then ptnCfg2 b
  else if off = 0x10 then plinkWord b 0
  else if off = 0x14 then plinkWord b 1
  else if off = 0x18 then loW ofs
  else if off = 0x1C then hiW ofs
  else if off = 0x20 then loW (ptnExpiry b)
  else if off = 0x24 then hiW (ptnExpiry b)
  else if off = 0x28 then w32 p.lastCap
  else if off = 0x2C then match p.held with
    | some h => w32 h.seed.seq
    | none => 0
  else if off = 0x30 then regOf [(0, 11, seedWords b), (16, 12, if b.glb.active then min 4095 (dProj b 0x300) else 0)]
  else if off = 0x34 then match p.held with
    | some h => w32 (min (2 ^ 32 - 2) (heldAge b h / 10000))
    | none => 0xFFFFFFFF#32
  else if off = 0x38 then regOf [(0, 8, p.takeovers), (8, 8, p.handovers), (16, 8, p.discarded), (24, 8, p.rejected)]
  else if off = 0x3C then w32 (activeAge b)
  else if 0x100 ≤ off ∧ off < 0x180 then
    let e := (off - 0x100) / 8
    if off % 8 = 0 then ptnMapLo b e else ptnMapHi b e
  else if 0x200 ≤ off ∧ off < 0x300 then ptnSeqObj b ((off - 0x200) / 4)
  else 0

/-! Checks of admission. -/

/-- The records of section 0x09 keep their ranges (Tables 11.16, 11.17 and 11.19). -/
def ptnOk (b : Block) : Bool :=
  let c := ptnCfg b
  let d := ptnCfg2 b
  let within := fun (lo hi n : Nat) => decide (lo ≤ n) && decide (n ≤ hi)
  secReach b 9 98 && !bit c 3 && fld c 25 7 == 0 && !bit d 11 && fld d 28 4 == 0 &&
    (!bit c 0 || (within 12 200 (fld c 13 8) && (bit c 1 || within 20 500 (fld c 4 9)) && (!bit c 1 || within 1 15 (fld c 21 4)) &&
      within 10 2000 (fld d 0 11) && within 1 255 (fld d 12 8))) &&
    (List.range 64).all fun k =>
      let w := ptnSeqObj b k
      fld w 19 12 == 0 && (!bit w 31 || (k == 0 || bit (ptnSeqObj b (k - 1)) 31) && fld w 13 6 ≤ 62 &&
        (fld w 0 2 == 1 || (fld w 0 2 == 2 && fld w 2 4 < 4 && fld w 6 7 < 32)))

/-- LENGTH and COUNT of a directory entry follow Table 11.11. -/
def mapLenOk (b : Block) (kind len count : Nat) : Bool :=
  let seeded := countOf (fun c => bit (lpeW b c 0) 11) (lpeList b)
  match kind with
  | 0x01 => len == 8 && count == 1
  | 0x02 => len == 32 && count == 1
  | 0x03 => len == 96 && count == 192
  | 0x04 => len == 64 && count == 1
  | 0x05 => len == ceilDiv count 4 && decide (1 ≤ count) && decide (count ≤ 64)
  | 0x10 => len == ceilDiv (3 * count) 2 && count == seeded && decide (0 < count)
  | 0x11 => len == 80 && count == 1 && dpHas b
  | 0x20 => len == 8 && count == 4
  | 0x21 => len == 18 * count && decide (1 ≤ count) && decide (count ≤ 32)
  | 0x22 => len == 8 && count == 8
  | _ => false

/-- Class of an entry kind (Table 11.11). -/
def kindClass (k : Nat) : Nat := if k < 0x10 then 1 else if k < 0x20 then 2 else 3

/-- SEED_FIT (R379). -/
def seedMapOk (b : Block) : Bool :=
  let es := (List.range 16).map (mapEntry b)
  let used := es.takeWhile fun e => e % 256 != 0
  let kinds := used.map (· % 256)
  let seeded := (lpeList b).any fun c => bit (lpeW b c 0) 11
  (es.drop used.length).all (· == 0) &&
    (List.range used.length).all (fun i =>
      let e := used.getD i 0
      let prev := used.getD (i - 1) 0
      (i == 0 || decide (prev % 256 < e % 256)) && e / 2 ^ 8 % 4 == kindClass (e % 256) && e / 2 ^ 10 % 2 ^ 6 == 0 &&
        e / 2 ^ 16 % 2 ^ 16 == (if i = 0 then 24 else prev / 2 ^ 16 % 2 ^ 16 + prev / 2 ^ 32 % 2 ^ 16) &&
        mapLenOk b (e % 256) (e / 2 ^ 32 % 2 ^ 16) (e / 2 ^ 48)) &&
    [1, 2, 3, 4].all (fun k => kinds.contains k) && (kinds.contains 0x10 == seeded) && (kinds.contains 0x11 == dpHas b) &&
    seedWords b == used.foldl (fun a e => a + e / 2 ^ 32 % 2 ^ 16) 24 && decide (seedWords b ≤ 1024)

end Sys2Proof.Machine
end

