-- ==== Sys2Proof/Machine/StatusBits.lean ====
section
/-! DEFINITION. What the status display shows (R506, Table 16.2), and the configuration it is driven with (R517). -/

namespace Sys2Proof.Machine

/-- A host link is up and not fenced. -/
def hostUp (b : Block) (l : Nat) : Bool := (tget {} b.links l).up && !isFenced b (.hostLink l)

/-- Status bit `i` of Table 16.2. -/
def statusBit (b : Block) (i : Nat) : Bool :=
  match i with
  | 0 => b.ptn.role == 0
  | 1 => b.ptn.role == 1
  | 2 => b.ptn.role == 2
  | 3 => b.glb.active
  | 4 => b.glb.active && b.glb.activeBank.confirmed
  | 5 => b.sec.lifecycle == 2
  | 6 => b.flt.recs.any fun r => r.2.isOpen
  | 7 => b.flt.isolated
  | 8 => b.growth.state == 1
  | 9 => b.growth.state == 2
  | 10 => (List.range 32).any fun f => (tget ({} : SafFn) b.saf.fns f).tripped
  | 11 => b.saf.engine == 2
  | 12 => b.ptn.heard
  | 13 => b.ptn.sole
  | 14 => b.tim.vtValid
  | 15 => b.tim.extRef
  | 16 => hostUp b 0
  | 17 => hostUp b 1
  | 18 => b.ptn.k0.live
  | 19 => b.ptn.k1.live
  | 20 => b.dp.state == 3
  | 21 => b.dp.conseq
  | 22 => match b.dp.rec1 with
    | some r => decide (2 ≤ r.pos)
    | none => false
  | 23 => b.dsp.drillSeen
  | 24 => !b.flt.fenced.isEmpty
  | 25 => b.chn.groups.any fun g => g.2.fieldLost
  | 26 => b.glb.key
  | 27 => b.dsp.heartbeat
  | _ => false

end Sys2Proof.Machine
end

