-- ==== Sys2Proof/Machine/DspCalc.lean ====
section
/-! DEFINITION. The display's configuration and targets (R506, R508, R513, R517). -/

namespace Sys2Proof.Machine

/-- The module whose bank drives the display: the bank in force, or before one is in force the selected bank whose image CRC passed
at step 6 (R517). -/
def dspView (b : Block) : Option Block :=
  if b.glb.active then some b
  else if b.glb.selPassed then some (asIfActive b.glb.activeBank.mem b)
  else none

/-- Host word `j` in force; every host word is 0 while the role is not Active (R508). -/
def hostWord (b : Block) (j : Nat) : Word :=
  if b.ptn.role = 0 then (targetAt b (targetKey 0xA j 0)).inForce else 0

/-- Target of segment `s`: dark (R506). Until a bank is in force every target is light (R517). -/
def segTarget (b : Block) (s : Nat) : Bool :=
  let c := dspSeg b s
  let i := fld c 3 9
  let v := match fld c 1 2 with
    | 0 => false
    | 1 => true
    | 2 => statusBit b i
    | _ => bit (hostWord b (i / 32)) (i % 32)
  b.glb.active && bit c 0 && (v != bit c 12)

/-- Bits of segments as words: bit k of word j for segment 32 j + k. -/
def segWords (f : Nat → Bool) : Tab Word :=
  (List.range 12).foldl (fun t j => tset 0 t j (wordOfFn fun k => f (32 * j + k))) []

def segBit (t : Tab Word) (s : Nat) : Bool := bit (tget 0 t (s / 32)) (s % 32)

/-- Threshold Tb, b from 1 to 7, in °C. -/
def bandT (b : Block) (k : Nat) : Int :=
  if k ≤ 4 then sfld (dspBandT b 0) (8 * (k - 1)) 8 else sfld (dspBandT b 1) (8 * (k - 5)) 8

/-- The band of a temperature in 0.1 °C, without hysteresis (R513). -/
def bandOf (b : Block) (t : Int) : Nat := countOf (fun k => decide (10 * bandT b (k + 1) ≤ t)) (List.range 7)

/-- The band after a good reading, from the band before (R513). -/
def bandNext (b : Block) (cur : Nat) (t : Int) : Nat :=
  let up := bandOf b t
  if cur < up then up
  else (((List.range (cur + 1)).reverse).find? fun k => k == 0 || decide (10 * bandT b k - 10 < t)).getD 0

end Sys2Proof.Machine
end

