-- ==== Sys2Proof/Machine/RegHouse.lean ====
section
/-! DEFINITION. Registers of the FLT, REC, DSP, SEC and PRF blocks as a read returns them (Tables 15.11 to 15.14, 16.6, 16.7, 17.11). -/

namespace Sys2Proof.Machine

/-- Fields of a fault location code (Table 1.2). -/
def locDomain (l : Word) : Nat := fld l 29 3
def locEngine (l : Word) : Nat := fld l 25 4
def locTile (l : Word) : Nat := fld l 19 6
def locLane (l : Word) : Nat := fld l 14 5
def locCluster (l : Word) : Nat := fld l 8 6
def locCell (l : Word) : Nat := fld l 0 8

/-- W0 to W7 of a fault record (Table 15.4). -/
def recWords (x : FaultRec) : List Word :=
  [regOf [(0, 6, x.source), (6, 3, x.cls), (9, 2, x.reaction), (11, 1, b1 x.persistent), (12, 1, b1 x.forced),
      (13, 1, b1 x.isOpen), (14, 8, x.merges)],
    x.loc, loW x.first, hiW x.first, loW x.last, hiW x.last,
    regOf [(0, 6, x.lastSource), (16, 16, x.seq)], x.lastLoc]

/-- Heartwood takes records (R501). -/
def hwOpen (r : Rec) : Bool := r.hwOpened && decide (r.hwCount < 4096)

/-- REC_STATUS (Table 16.6). -/
def recStatus (b : Block) : Word :=
  let r := b.recorder
  regOf [(0, 1, b1 (b.glb.started && !r.logicFenced && b.sec.downAt.isNone)), (1, 1, b1 (hwOpen r)), (2, 1, b1 (decide (4096 ≤ r.hwCount))),
    (3, 1, b1 (isFenced b (.recorder 0) || isFenced b (.recorder 1)))]

/-- DSP_STATUS (Table 16.7). -/
def dspStatus (b : Block) : Word :=
  let d := b.dsp
  regOf [(0, 2, d.state), (2, 1, b1 d.dirty), (3, 1, b1 d.railsOk), (4, 1, b1 d.tempOk), (5, 1, b1 (isFenced b .display)),
    (6, 6, d.frame), (12, 3, d.band)]

/-- SEC_STATUS (Table 17.12). -/
def secStatus (b : Block) : Word :=
  let s := b.sec
  regOf [(0, 2, s.lifecycle), (2, 2, s.level), (4, 2, s.power), (6, 1, b1 s.feedA), (7, 1, b1 s.feedB), (8, 1, b1 b.glb.key),
    (9, 1, b1 s.lcLock), (10, 1, b1 s.waking)]

/-- Registers of the FLT block (Table 15.11). -/
def readFlt (b : Block) (off : Nat) : Word :=
  let f := b.flt
  if off = 0x0 then
    let isOpenD := fun d => (List.range 16).any fun s => (tget {} f.recs s).isOpen && locDomain (tget {} f.recs s).loc == d
    regOf [(0, 6, (List.range 6).foldl (fun a d => a + b1 (isOpenD d) * 2 ^ d) 0), (6, 1, b1 (isOpenD 7)), (7, 1, b1 f.isolated),
      (8, 8, countOf (fun s => (tget {} f.recs s).used) (List.range 16))]
  else if off = 0x4 then regOf [(0, 4, f.newest), (16, 16, f.seq)]
  else if off = 0x8 then regOf [(0, 16, f.corrected), (16, 8, f.fences), (24, 8, f.merges)]
  else if off = 0xC then regOf [(0, 16, f.sramCorrected), (16, 8, f.sramStuck), (24, 8, min 255 ((b.tb - f.sramPass) / 360000000000))]
  else if off = 0x10 then
    regOf [(0, 16, f.mramCorrected), (16, 8, f.mramUe), (24, 8, min 255 ((b.tb - f.mramPass) / 8640000000000))]
  else if off = 0x14 then regOf [(0, 16, f.rotaCount), (16, 8, f.rotaNext)]
  else if off = 0x20 then f.forceLo ||| regOf [(21, 1, b1 (rotaShown f 0)), (22, 1, b1 (rotaShown f 1))]
  else if off = 0x24 then f.forceHi
  else if off = 0x28 then f.forceLoc
  else if off = 0x2C then w32 f.forceMode
  else if off = 0x30 then regOf [(0, 1, b1 f.forceRefused), (16, 16, f.injected)]
  else if 0x1000 ≤ off ∧ off < 0x1200 then
    let n := (off - 0x1000) / 0x20
    let x := tget {} f.recs n
    if x.used then wAt (recWords x) ((off - 0x1000) % 0x20 / 4) else 0
  else if 0x4000 ≤ off ∧ off < 0x6000 then
    let m := (off - 0x4000) / 0x100
    let r := (off - 0x4000) % 0x100
    let x := tget {} b.prf.mons m
    if r = 0x0 then monCfg b m
    else if r = 0x4 then monSrc b m
    else if r = 0x8 then monLo b m
    else if r = 0xC then monHi b m
    else if r = 0x10 then x.min
    else if r = 0x14 then x.max
    else if r = 0x18 then loW x.count
    else if r = 0x1C then hiW x.count
    else if r = 0x20 then w32 x.invalid
    else if 0x80 ≤ r then
      let j := (r - 0x80) / 4
      regOf [(0, 16, tget 0 x.bins (2 * j)), (16, 16, tget 0 x.bins (2 * j + 1))]
    else 0
  else 0

/-- Registers of the REC block (Table 16.6). -/
def readRec (b : Block) (off : Nat) : Word :=
  let r := b.recorder
  if off = 0x0 then recStatus b
  else if off = 0x4 then w32 r.seq
  else if off = 0x8 then w32 r.sapNext
  else if off = 0xC then w32 r.hwCount
  else if off = 0x10 then w32 r.lost
  else if off = 0x14 then r.latch
  else if 0x1000 ≤ off ∧ off < 0x3000 then
    let t := (off - 0x1000) / 0x100
    let i := (off - 0x1000) % 0x100
    if i = 0x0 then trgCfg b t
    else if i = 0x4 then trgArg b t
    else if i = 0x8 then regOf [(0, 16, tget 0 r.written t), (16, 16, tget 0 r.missed t)]
    else if 0x80 ≤ i then trgReg b t ((i - 0x80) / 4)
    else 0
  else 0

/-- Registers of the DSP block (Table 16.7). -/
def readDsp (b : Block) (off : Nat) : Word :=
  let d := b.dsp
  if off = 0x0 then dspStatus b
  else if off = 0x4 then dspCfg b
  else if off = 0x8 then dspBandT b 0
  else if off = 0xC then dspBandT b 1
  else if off = 0x10 then regOf [(0, 16, (d.temp % 65536).toNat), (16, 3, d.bandNow)]
  else if off = 0x14 then regOf [(0, 10, d.railP), (10, 10, d.railN), (20, 10, d.vcom)]
  else if off = 0x18 then d.latch
  else if off = 0x1C then regOf [(0, 16, d.updates), (16, 8, d.interrupted), (24, 8, d.refreshes)]
  else if 0x100 ≤ off ∧ off < 0x200 then
    let i := (off - 0x100) % 0x20 / 4
    if i < 5 then dspBand b ((off - 0x100) / 0x20) i else 0
  else if 0x400 ≤ off ∧ off < 0x430 then wordOfFn fun k => segTarget b (8 * (off - 0x400) + k)
  else if 0x440 ≤ off ∧ off < 0x470 then tget 0 d.shown ((off - 0x440) / 4)
  else if 0x480 ≤ off ∧ off < 0x4B0 then hostWord b ((off - 0x480) / 4)
  else if 0x1000 ≤ off ∧ off < 0x1600 then dspSeg b ((off - 0x1000) / 4)
  else 0

/-- Stored energy in mJ: the value last reported, and at least 1.6 J again 150 ms after a feed's restoration (R560). -/
def holdupOf (b : Block) : Nat :=
  match b.sec.chargedAt with
  | some t => if t ≤ b.tb ∧ b.sec.power < 2 then max 1600 b.sec.holdupMj else b.sec.holdupMj
  | none => b.sec.holdupMj

/-- Registers of the SEC block (Table 17.11). -/
def readSec (b : Block) (off : Nat) : Word :=
  let s := b.sec
  if off = 0x0 then secStatus b
  else if off = 0x4 then s.policy
  else if off = 0x10 then regOf [(0, 8, s.refuse), (8, 2, s.valueFails)]
  else if off = 0x14 then s.latch
  else if off = 0x18 then regOf [(0, 8, s.seals), (8, 8, s.unseals), (16, 8, s.survived), (24, 8, s.powerDowns)]
  else if off = 0x1C then regOf [(0, 12, holdupOf b), (12, 1, b1 (b.glb.mramOk && decide (holdupOf b ≤ 400)))]
  else if off = 0x20 then w32 s.lastLoss
  else if off = 0x24 then Sys2Proof.Config.idcode
  else 0

/-- Registers of the PRF block (Tables 15.13, 15.14, R486). -/
def readPrf (b : Block) (off : Nat) : Word :=
  let g := b.growth
  let p := b.prf
  let a := fld p.actSel 0 16
  if off = 0x0 then p.userEn
  else if off = 0x8 then loW b.tb
  else if off = 0xC then hiW b.tb
  else if off = 0x10 then
    regOf [(0, 2, g.state), (2, 1, b1 (isFenced b .growth)),
      (3, 1, b1 (g.closed != 0 && (List.range 33).any fun s => (siteAt b s).linear)),
      (4, 5, growthRing b), (9, 4, growthMark b), (16, 16, worstAct b)]
  else if off = 0x14 then regOf [(0, 10, g.margin), (16, 16, g.marginAct)]
  else if off = 0x18 then w32 g.age
  else if off = 0x1C then regOf [(0, 4, (g.trimReq % 16).toNat), (4, 4, (g.trimApplied % 16).toNat), (8, 1, b1 g.trimPending)]
  else if off = 0x20 then p.actSel
  else if off = 0x24 then w32 (actW b a)
  else if off = 0x28 then w32 (actC b a)
  else if off = 0x2C then if actExists b a then w32 (dCur b a) else 0
  else if off = 0x30 then if actExists b a then w32 (dProj b a) else 0
  else if off = 0x34 then w32 (budget b a)
  else if off = 0x38 then p.ringSel
  else if 0x40 ≤ off ∧ off < 0x60 then
    w32 (leAt (ringEntryBytes b (fld p.ringSel 0 5) (fld p.ringSel 5 4) (fld p.ringSel 9 6)) (off - 0x40) 4)
  else if 0x100 ≤ off ∧ off < 0x180 then
    let k := (off - 0x100) / 0x10
    let r := (off - 0x100) % 0x10
    if r = 0 then cntCfg b k
    else if r = 8 then loW (tget 0 p.cnt k)
    else if r = 0xC then hiW (tget 0 p.cnt k)
    else 0
  else if 0x1000 ≤ off ∧ off < 0x1000 + 0x80 * 33 then
    let s := (off - 0x1000) / 0x80
    let r := (off - 0x1000) % 0x80
    let x := siteAt b s
    let known := b.glb.started
    if r = 0x0 then w32 (sCur b s)
    else if r = 0x4 then if known then (sEnv b s g.trimApplied).v else 0
    else if r = 0x8 then if known then (sProj b s g.trimApplied).v else 0
    else if r = 0xC then if known then (gNow b s).v else 0
    else if r = 0x10 then if known then (gEos b s).v else 0
    else if r = 0x14 then (fOfRat false x.k 1024).v
    else if r = 0x18 then x.fitA
    else if r = 0x1C then if g.closed = 0 then 0 else x.fitN
    else if 0x40 ≤ r then
      let j := (r - 0x40) / 4
      regOf [(0, 16, tget 0 x.hist (2 * j)), (16, 16, tget 0 x.hist (2 * j + 1))]
    else 0
  else if 0xF000 ≤ off ∧ off < 0xF050 ∧ bit p.userEn 0 then
    let r := off - 0xF000
    if r = 0 then loW b.tb
    else if r = 4 then hiW b.tb
    else if 0x10 ≤ r then
      let k := (r - 0x10) / 8
      if r % 8 = 0 then loW (tget 0 p.cnt k) else hiW (tget 0 p.cnt k)
    else 0
  else 0

end Sys2Proof.Machine
end

