-- ==== Sys2Proof/Machine/RegMask.lean ====
section
/-! DEFINITION. The bits of each configuration register that carry a field; every other bit is reserved and reads 0 (R14). -/

namespace Sys2Proof.Machine

/-- The registers at `base + stride * k + at'` for `k < n` carry fields in the bits of `mask`. -/
structure MaskRow where
  base : Nat
  stride : Nat
  n : Nat
  at' : Nat
  mask : Word
  deriving DecidableEq, Repr

/-- The row holds the register at a block offset. -/
def MaskRow.holds (m : MaskRow) (r : Nat) : Bool :=
  decide (m.base ≤ r) && decide (r < m.base + m.stride * m.n) && (r - m.base) % m.stride == m.at'

/-- Tables 3.19 and 3.17. -/
def rngMasks : List MaskRow := [⟨0x0200, 0x4, 32, 0x0, 0xFFFF⟩, ⟨0x1000, 0x40, 128, 0x08, 0x3FFFFFFF⟩, ⟨0x1000, 0x40, 128, 0x0C, 0xFF⟩]

/-- Tables 13.6 and 13.8 to 13.10. -/
def timMasks : List MaskRow := [
  ⟨0x0, 0x100, 1, 0x04, 0x00FFFFFF⟩, ⟨0x0, 0x100, 1, 0x08, 0x1FFF⟩, ⟨0x0, 0x100, 1, 0x0C, 0x1FFF⟩,
  ⟨0x0, 0x100, 1, 0x10, 0x07FFFFFF⟩, ⟨0x0, 0x100, 1, 0x14, 0x07FFFFFF⟩, ⟨0x0, 0x100, 1, 0x54, 0xFFFF⟩,
  ⟨0x1000, 0x10, 64, 0x0, 0x07FFFFFF⟩, ⟨0x1000, 0x10, 64, 0x4, 0x03FFFFFF⟩]

/-- Tables 4.17, 5.11, 5.12 and 5.13. -/
def chnMasks : List MaskRow := [
  ⟨0x1000, 0x20, 192, 0x00, 0x000FFFFF⟩, ⟨0x3000, 0x10, 192, 0x0, 0x00FFFFBF⟩, ⟨0x3000, 0x10, 192, 0x4, 0xFFFFFFF7⟩,
  ⟨0x3000, 0x10, 192, 0x8, 0xFFF7FF3F⟩, ⟨0x5000, 0x10, 64, 0x0, 0x00FFFFBF⟩]

/-- Tables 6.8, 6.12 to 6.14, 7.10, 7.11 and 7.12. -/
def safMasks : List MaskRow := [
  ⟨0x0, 0x100, 1, 0x08, 0x7F⟩, ⟨0x0100, 0x10, 4, 0x0, 0xFFF803FF⟩, ⟨0x1000, 0x20, 24, 0x00, 0x7FFFFFFF⟩,
  ⟨0x1000, 0x20, 24, 0x04, 0x00FFFFFF⟩, ⟨0x1000, 0x20, 24, 0x08, 0x3FF⟩, ⟨0x2000, 0x20, 32, 0x00, 0x0FFFFFFF⟩,
  ⟨0x2000, 0x20, 32, 0x08, 0x01FFFFFF⟩, ⟨0x2000, 0x20, 32, 0x0C, 0xFF03⟩, ⟨0x4000, 0x8, 256, 0x4, 0x11F⟩,
  ⟨0x5000, 0x4, 32, 0x0, 0x003FFFFF⟩, ⟨0x6000, 0x20, 24, 0x00, 0x000F7FFF⟩, ⟨0x6000, 0x20, 24, 0x10, 0xFFFF0FFF⟩]

/-- Tables 8.8 to 8.11. -/
def lpeMasks : List MaskRow := [
  ⟨0x1000, 0x80, 256, 0x00, 0xFFFF⟩, ⟨0x1000, 0x80, 256, 0x04, 0x03FFFFFF⟩, ⟨0x1000, 0x80, 256, 0x08, 0x3FFFFFFF⟩,
  ⟨0x1000, 0x80, 256, 0x14, 0x3FFFFFFF⟩, ⟨0x1000, 0x80, 256, 0x18, 0x3FFFFFFF⟩, ⟨0x1000, 0x80, 256, 0x1C, 0x1FFFFFFF⟩]

/-- Tables 9.12, 9.14, 9.15, 10.15 and 10.17. -/
def dpeMasks : List MaskRow := [
  ⟨0x0, 0x100, 1, 0x04, 0x1FFFF⟩, ⟨0x0, 0x100, 1, 0x0C, 0xFFFF⟩, ⟨0x0200, 0x100, 1, 0x00, 0xFFFF⟩,
  ⟨0x0300, 0x100, 1, 0x00, 0xFF⟩, ⟨0x0300, 0x100, 1, 0x80, 0x3FFFF⟩, ⟨0x1000, 0x80, 32, 0x00, 0x007FFFFF⟩,
  ⟨0x1000, 0x80, 32, 0x04, 0x03FFFFFF⟩, ⟨0x1000, 0x80, 32, 0x08, 0x7F⟩, ⟨0x1000, 0x80, 32, 0x0C, 0x3FFFFFFF⟩,
  ⟨0x1000, 0x80, 32, 0x10, 0x3FFFFFFF⟩, ⟨0x1000, 0x80, 32, 0x14, 0x3FFFFFFF⟩, ⟨0x1000, 0x80, 32, 0x18, 0x3FFFFFFF⟩, ⟨0x1000, 0x80, 32, 0x5C, 0⟩,
  ⟨0x3000, 0x80, 24, 0x00, 0x1F⟩, ⟨0x3000, 0x80, 24, 0x30, 0x3FFFFFFF⟩, ⟨0x3000, 0x80, 24, 0x34, 0x3FFFFFFF⟩,
  ⟨0x3000, 0x80, 24, 0x38, 0x1FFFFFFF⟩, ⟨0x3000, 0x80, 24, 0x3C, 0x1FFFFFFF⟩, ⟨0x4000, 0x20, 32, 0x00, 0x80FFFFFF⟩]

/-- Tables 12.7 to 12.11 and 12.14. -/
def canMasks : List MaskRow := [
  ⟨0x0100, 0x40, 16, 0x00, 0x000FFFFF⟩, ⟨0x0100, 0x40, 16, 0x04, 0x3FFFFFFF⟩, ⟨0x0100, 0x40, 16, 0x08, 0x0003FFFF⟩,
  ⟨0x0100, 0x40, 16, 0x0C, 0x007F7FFF⟩, ⟨0x0100, 0x40, 16, 0x10, 0x3FFFFFFF⟩, ⟨0x0100, 0x40, 16, 0x14, 0x1FFFFFFF⟩,
  ⟨0x8000, 0x10, 2048, 0x4, 0x3FFFFFFF⟩]

/-- Tables 13.11 and 13.12. -/
def ethMasks : List MaskRow := [
  ⟨0x0100, 0x40, 4, 0x00, 0x000FFFFF⟩, ⟨0x1000, 0x8, 64, 0x0, 0x3FF⟩, ⟨0x1000, 0x8, 64, 0x4, 0xFFFF⟩, ⟨0x2000, 0x20, 16, 0x00, 0xFFFF000F⟩,
  ⟨0x2000, 0x20, 16, 0x0C, 0xFFFF⟩, ⟨0x4000, 0x10, 128, 0x0, 0x3FFFF⟩, ⟨0x4000, 0x10, 128, 0x4, 0x3FFFFF⟩]

/-- Tables 14.3 and 14.5. -/
def serMasks : List MaskRow := [
  ⟨0x0100, 0x20, 24, 0x04, 0xFFFFF⟩, ⟨0x1000, 0x40, 64, 0x00, 0x7F⟩, ⟨0x1000, 0x40, 64, 0x08, 0xFFFF⟩] ++
  (List.range 8).map fun k => ⟨0x1000, 0x40, 64, 0x0C + 4 * k, 0x3FF⟩

/-- Tables 11.10, 11.16, 11.17 and 11.19. -/
def ptnMasks : List MaskRow := [
  ⟨0x0, 0x100, 1, 0x04, 0x01FFFFF7⟩, ⟨0x0, 0x100, 1, 0x08, 0x0FFFF7FF⟩, ⟨0x0100, 0x8, 16, 0x0, 0xFFFF03FF⟩, ⟨0x0200, 0x4, 64, 0x0, 0x8007FFFF⟩]

/-- Table 15.12. -/
def fltMasks : List MaskRow := [⟨0x4000, 0x100, 32, 0x00, 0x07FFFFFF⟩]

/-- Table 16.6. -/
def recMasks : List MaskRow := [⟨0x1000, 0x100, 32, 0x00, 0x3F07⟩, ⟨0x1000, 0x100, 32, 0x04, 0x00FFFFFF⟩] ++
  (List.range 32).map fun i => ⟨0x1000, 0x100, 32, 0x80 + 4 * i, 0xFFFFC⟩

/-- Table 16.7. -/
def dspMasks : List MaskRow := [
  ⟨0x0, 0x100, 1, 0x04, 0x1FFFFFFF⟩, ⟨0x0, 0x100, 1, 0x0C, 0x00FFFFFF⟩, ⟨0x0100, 0x20, 8, 0x00, 0x000FFFDF⟩, ⟨0x1000, 0x4, 384, 0x0, 0x1FFF⟩]

/-- Table 15.13. -/
def prfMasks : List MaskRow := [⟨0x0100, 0x10, 8, 0x0, 0xFFFF000F⟩]

/-- The rows of a block. -/
def maskRows (blk : Nat) : List MaskRow :=
  match blk with
  | 0x1 => rngMasks
  | 0x2 => timMasks
  | 0x3 => chnMasks
  | 0x4 => safMasks
  | 0x5 => lpeMasks
  | 0x6 => dpeMasks
  | 0x7 => canMasks
  | 0x8 => ethMasks
  | 0x9 => serMasks
  | 0xA => ptnMasks
  | 0xB => fltMasks
  | 0xC => recMasks
  | 0xD => dspMasks
  | 0xF => prfMasks
  | _ => []

/-- Bits of CAN_OBJ_ARG and of FLT_MON_SRC that carry a field: they depend on the direction of the object (Table 12.15) and on the KIND of the
monitor (Table 15.12). Every other register's bits do not depend on the bank. -/
def mixedMask (b : Block) (off : Nat) : Word :=
  let r := off % 0x10000
  if off / 0x10000 = 7 ∧ 0x8000 ≤ r ∧ r % 0x10 = 8 then
    let i := (r - 0x8000) / 0x10
    if objTx b i then 0x003FFFFF else 0x1FFFFFFF
  else if off / 0x10000 = 0xB ∧ 0x4000 ≤ r ∧ r < 0x6000 ∧ r % 0x100 = 4 then
    if 8 ≤ fld (monCfg b ((r - 0x4000) / 0x100)) 1 4 then 0xFFFF else 0x3FFFFFFF
  else 0xFFFFFFFF

/-- The bits of the register at an offset that are not reserved, as far as the register shows words of the bank. -/
def definedBits (b : Block) (off : Nat) : Word :=
  match (maskRows (off / 0x10000)).find? (fun m => m.holds (off % 0x10000)) with
  | some m => m.mask
  | none => mixedMask b off

end Sys2Proof.Machine
end

