-- ==== Sys2Proof/Machine/RingCalc.lean ====
section
/-! DEFINITION. Rings and links as other units read them, and the registers of the RNG block (Tables 3.17 to 3.20). -/

namespace Sys2Proof.Machine

def ring (b : Block) (n : Nat) : Ring := tget {} b.rng.rings n
def hostLink (b : Block) (l : Nat) : HostLink := tget {} b.links l

/-- Fields of RNG_RING_CFG (Table 3.19). -/
def Ring.kind (r : Ring) : Nat := fld r.cfg 1 3
def Ring.log2 (r : Ring) : Nat := fld r.cfg 4 5
def Ring.link (r : Ring) : Nat := fld r.cfg 9 1
def Ring.prio (r : Ring) : Nat := fld r.cfg 10 3
def Ring.vec (r : Ring) : Nat := fld r.cfg 13 5
def Ring.vecEn (r : Ring) : Bool := bit r.cfg 18
def Ring.depth (r : Ring) : Nat := fld r.cfg 19 4
def Ring.cplRing (r : Ring) : Nat := fld r.cfg 23 7
def Ring.image (r : Ring) : Nat := fld r.cfg2 0 8
/-- Number of descriptors of the ring. -/
def Ring.size (r : Ring) : Nat := 2 ^ r.log2

/-- Type codes of Table 3.2. -/
def tCMD : Nat := 0
def tCPL : Nat := 1
def tEVT : Nat := 2
def tTLM : Nat := 3
def tMTX : Nat := 4
def tMRX : Nat := 5
def tRRD : Nat := 6

/-- The rings that are not DISABLED, of a type. -/
def enabledRings (b : Block) (ty : Nat) : List Nat :=
  (List.range 128).filter fun n => (ring b n).state != .disabled && (ring b n).kind == ty

/-- Map byte of an event source (R110): the reset value is the default vector, held as a difference. -/
def esMapWord (b : Block) (k : Nat) : Word :=
  tget 0 b.rng.esMap k ^^^ (BitVec.ofNat 32 (k / 2 * 0x01010101))


/-- CMD staging entries in use (RNG_CMD_STAGED): the fetched descriptors, and those that an outstanding fetch read has asked for, whose entries
are taken when the read goes out (DESIGN CHOICE, log 131). -/
def cmdStaged (b : Block) : Nat :=
  (enabledRings b tCMD).foldl (fun a n => a + (ring b n).fetched.length + (ring b n).asked) 0

/-- STATE of a ring (Table 3.20). -/
def RingState.code (s : RingState) : Nat :=
  match s with
  | .disabled => 0
  | .running => 1
  | .stopped => 2
  | .down => 3

/-- RNG_LINK_STATUS as source `src` reads it (Table 3.18): 0 H0, 1 H1, 2 the debug port, 3 a recorder snapshot. -/
def linkStatus (b : Block) (src : Nat) : Word :=
  regOf [(0, 1, b1 (hostUp b 0)), (1, 1, b1 (hostUp b 0 && (hostLink b 0).degraded)), (2, 1, b1 (hostUp b 1)),
    (3, 1, b1 (hostUp b 1 && (hostLink b 1).degraded)), (4, 1, b1 (src == 1)), (5, 1, b1 (decide (2 ≤ src)))]

/-- Registers of the RNG block. -/
def readRng (b : Block) (src off : Nat) : Word :=
  if off = 0 then linkStatus b src
  else if off = 0x8 then w32 b.rng.conflictCount
  else if off = 0xC then b.rng.conflictTarget
  else if off = 0x10 then w32 (cmdStaged b % 2048)
  else if 0x100 ≤ off ∧ off < 0x200 then esMapWord b ((off - 0x100) / 4)
  else if 0x200 ≤ off ∧ off < 0x280 then tget 0 b.rng.holdoff ((off - 0x200) / 4)
  else if 0x1000 ≤ off ∧ off < 0x3000 then
    let r := ring b ((off - 0x1000) / 0x40)
    match (off - 0x1000) % 0x40 with
    | 0x0 => r.baseLo
    | 0x4 => r.baseHi
    | 0x8 => putBit r.cfg 0 (r.state != .disabled)
    | 0xC => r.cfg2
    | 0x14 => regOf [(0, 17, r.mIdx), (17, 2, r.state.code), (20, 8, r.err)]
    | 0x1C => w32 r.count
    | 0x20 => w32 r.drops
    | _ => 0
  else 0

end Sys2Proof.Machine
end

