-- ==== Sys2Proof/Machine/SerCalc.lean ====
section
/-! DEFINITION. Serial ports: what their registers show, the parts of a sentence, the conversions of templates, and the checks of
section 0x08 (chapter 14). -/

namespace Sys2Proof.Machine

def serAt (b : Block) (p : Nat) : SerPort := tget {} b.ser.ports p

/-! Fields of the port and template records (Tables 14.4 and 14.5). -/

def spCfg (b : Block) (p : Nat) : Word := serPort b p 0
def serEn (b : Block) (p : Nat) : Bool := bit (spCfg b p) 0
def serRs485 (b : Block) (p : Nat) : Bool := bit (spCfg b p) 1
/-- 0 SENTENCE, 1 BYTES. -/
def serMode (b : Block) (p : Nat) : Nat := fld (spCfg b p) 3 2
def serReqCsum (b : Block) (p : Nat) : Bool := bit (spCfg b p) 9
def serRawEn (b : Block) (p : Nat) : Bool := bit (spCfg b p) 10
def serRawAll (b : Block) (p : Nat) : Bool := bit (spCfg b p) 11
def serRawRing (b : Block) (p : Nat) : Nat := fld (spCfg b p) 12 7
/-- Ticks of one character: start bit, data, parity and stop bits of DIV / 16 ticks each (R444). -/
def serCharT (b : Block) (p : Nat) : Nat :=
  let g := spCfg b p
  let bits := 1 + (if bit g 5 then 8 else 7) + (if fld g 6 2 = 0 then 0 else 1) + (if bit g 8 then 2 else 1)
  ceilDiv (bits * fld (serPort b p 1) 0 20) 16

def tplEn (b : Block) (t : Nat) : Bool := bit (serTpl b t 0) 0
/-- Source of a template: 0 a port, 1 a stream, and its number. -/
def tplSrc (b : Block) (t : Nat) : Nat × Nat := (fld (serTpl b t 0) 1 1, fld (serTpl b t 0) 2 5)
/-- Address pattern of a template: up to the first 0x00 (R450). -/
def tplPattern (b : Block) (t : Nat) : List Nat :=
  let lo := serTpl b t 1
  let hi := serTpl b t 2
  ([fld lo 0 8, fld lo 8 8, fld lo 16 8, fld lo 24 8, fld hi 0 8, fld hi 8 8] : List Nat).takeWhile (· != 0)
def tplFld (b : Block) (t k : Nat) : Word := serTpl b t (3 + k)

/-! Registers (Table 14.3). -/

/-- A port has had a good sentence or chunk within 2 s. -/
def serReceiving (b : Block) (p : Nat) : Bool :=
  match (serAt b p).goodAt with
  | some t => decide (b.tb < t + 200000000)
  | none => false

/-- Registers of the SER block. Templates and ring take a sentence at the command that ends it; the bytes of the one still in reception lie below the
commands and are a free value (R447; log 174). -/
def readSer (b : Block) (off : Nat) : Word :=
  if off = 0 then wordOfFn fun p => decide (p < 24) && serReceiving b p
  else if 0x100 ≤ off ∧ off < 0x400 then
    let p := (off - 0x100) / 0x20
    let r := (off - 0x100) % 0x20
    let x := serAt b p
    if r < 0x10 then serPort b p (r / 4)
    else if r = 0x10 then 
      regOf [(0, 1, b1 (serReceiving b p)), (1, 1, b1 x.tx.isSome), (2, 11, if serEn b p then Sys2Proof.Config.serialBytes p b.tb % 1025 else 0)]
    else if r = 0x14 then regOf [(0, 16, x.good), (16, 16, x.talker)]
    else if r = 0x18 then regOf [(0, 8, x.framing), (8, 8, x.csum), (16, 8, x.format), (24, 8, x.bufDrop)]
    else x.latch
  else if 0x1000 ≤ off ∧ off < 0x2000 then
    let t := (off - 0x1000) / 0x40
    let r := (off - 0x1000) % 0x40
    let x := tplAt b t
    if r < 0x2C then serTpl b t (r / 4)
    else if r = 0x2C then regOf [(0, 1, b1 x.valid), (8, 8, x.conv), (16, 16, x.count)]
    else if r = 0x30 then loW x.rx
    else if r = 0x34 then hiW x.rx
    else 0
  else 0

/-! Sentences (R445, R446). -/

def chCR : Byte := 13
def chLF : Byte := 10
def chSTAR : Byte := 42
def chCOMMA : Byte := 44
def chBACK : Byte := 92
def isStart (c : Byte) : Bool := c == 36 || c == 33
def isDigit (c : Byte) : Bool := decide (48 ≤ c.toNat) && decide (c.toNat ≤ 57)
def digitOf (c : Byte) : Nat := c.toNat - 48

/-- Value of a hexadecimal digit. -/
def hexOf (c : Byte) : Option Nat :=
  let n := c.toNat
  if 48 ≤ n ∧ n ≤ 57 then some (n - 48) else if 65 ≤ n ∧ n ≤ 70 then some (n - 55) else if 97 ≤ n ∧ n ≤ 102 then some (n - 87) else none

/-- How a text with an optional check sum stands: none present, matching, or not matching. -/
inductive CsumState where
  | absent | good | bad
  deriving DecidableEq, Repr

/-- The check sum after the first "*" of a text, over everything before it (R445). -/
def csumState (t : List Byte) : CsumState :=
  let body := t.takeWhile (· != chSTAR)
  match t.drop body.length with
  | [] => .absent
  | [_, h, l] =>
    match hexOf h, hexOf l with
    | some x, some y => if 16 * x + y = (xorSum body).toNat then .good else .bad
    | _, _ => .bad
  | _ => .bad

/-- A line in its parts: the text of its tag block, and its sentence from the start character on. Characters before both are skipped. -/
def splitLine (l : List Byte) : Option (List Byte) × List Byte :=
  let l := l.dropWhile fun c => !(isStart c || c == chBACK)
  match l with
  | [] => (none, [])
  | c :: r =>
    if c = chBACK then
      let tag := r.takeWhile (· != chBACK)
      match r.drop tag.length with
      | [] => (none, r.dropWhile fun c => !isStart c)
      | _ :: s => (some tag, s.dropWhile fun c => !isStart c)
    else (none, l)

/-- Text of a sentence between its start character and CR LF. -/
def sentenceText (s : List Byte) : List Byte := (s.drop 1).takeWhile (· != chCR)
/-- The sentence ends with CR LF and nothing stands behind. -/
def sentenceEnds (s : List Byte) : Bool := (s.dropWhile (· != chCR)) == [chCR, chLF]
/-- Fields of a sentence: the address is field 0 (R450). -/
def sentenceFields (s : List Byte) : List (List Byte) :=
  ((sentenceText s).takeWhile (· != chSTAR)).splitOn chCOMMA
def sentenceAddr (s : List Byte) : List Byte := (sentenceFields s).headD []

/-- A sentence has the form of R445: at most 82 characters, CR LF at its end, an address of 2 to 6 characters ended by a comma. -/
def sentenceForm (s : List Byte) : Bool :=
  let a := (sentenceAddr s).length
  decide (s.length ≤ 82) && sentenceEnds s && decide (2 ≤ a) && decide (a ≤ 6) && decide (2 ≤ (sentenceFields s).length)

/-- Checks 1 to 3 of Table 14.1: 0 FRAMING, 1 CSUM, 2 FORMAT as the bits of SER_PORT_LATCH. -/
def sentenceFail (framing reqCsum : Bool) (tag : Option (List Byte)) (s : List Byte) : Option Nat :=
  if framing then some 0
  else if !sentenceForm s then some 2
  else
    let c := csumState (sentenceText s)
    let tagBad := match tag with
      | some t => csumState t != .good
      | none => false
    if tagBad || c == .bad || (c == .absent && reqCsum) then some 1 else none

/-- The talker filter of a port passes an address (R448). -/
def talkerPass (b : Block) (p : Nat) (addr : List Byte) : Bool :=
  let es := [serPort b p 2, serPort b p 3].flatMap fun w => [fld w 0 16, fld w 16 16]
  let a0 := (addr.headD 0).toNat
  let a1 := ((addr.drop 1).headD 0).toNat
  es.all (· == 0) || es.any fun e =>
    let e0 := e % 256
    let e1 := e / 256
    if e = 0 then false
    else if a0 = 80 then (e0 == 80 || e0 == 63) && e1 == 63
    else (e0 == 63 || e0 == a0) && (e1 == 63 || e1 == a1)

/-- A template takes a sentence with an address (R450). -/
def tplMatches (b : Block) (t : Nat) (src : Nat × Nat) (addr : List Byte) : Bool :=
  let pat := tplPattern b t
  tplEn b t && tplSrc b t == src && pat.length == addr.length &&
    (pat.zip addr).all fun x => x.1 == 63 || x.1 == x.2.toNat

/-! Conversions (Table 14.2, R451). -/

/-- The decimal number of digits; none when a character is no digit. -/
def digits (l : List Byte) : Option Nat :=
  if l.all isDigit then some (l.foldl (fun a c => 10 * a + digitOf c) 0) else none

/-- A number of digits before an optional point with digits behind it: both parts. -/
def pointParts (l : List Byte) : Option (List Byte × List Byte) :=
  let i := l.takeWhile (· != 46)
  match l.drop i.length with
  | [] => if i.all isDigit then some (i, []) else none
  | _ :: f => if i.all isDigit && f.all isDigit && !f.isEmpty then some (i, f) else none

/-- DECIMAL: rounded to nearest, ties to even. -/
def convDecimal (l : List Byte) : Option Word :=
  let c := l.headD 0
  let signed := c == 43 || c == 45
  match pointParts (if signed then l.drop 1 else l) with
  | some (i, f) =>
    if i.isEmpty then none else
    (digits (i ++ f)).map fun n => (fOfRat (c == 45) n (10 ^ f.length)).v
  | none => none

/-- Nearest integer of n / d, ties to even. -/
def nearDiv (n d : Nat) : Nat :=
  let q := n / d
  let r := 2 * (n % d)
  if r < d then q else if d < r then q + 1 else q + q % 2

/-- LAT and LON: `w` digits of degrees, two of minutes, and a hemisphere letter; a result in 10^-7 degree. -/
def convAngle (w top : Nat) (pos neg : Byte) (l h : List Byte) : Option Word :=
  match pointParts l with
  | some (i, f) =>
    let deg := (digits (i.take w)).getD 0
    let min := (digits (i.drop w)).getD 0
    if f.isEmpty ∨ i.length ≠ w + 2 ∨ top < deg ∨ 60 ≤ min ∨ (h ≠ [pos] ∧ h ≠ [neg]) then none
    else
      let frac := nearDiv ((digits f).getD 0 * 10000000) (10 ^ f.length)
      let v := nearDiv (deg * 600000000 + min * 10000000 + frac) 60
      some (if h = [neg] then w32i (-(v : Int)) else w32 v)
  | none => none

/-- TIME: milliseconds of the day; digits beyond ms are dropped. -/
def convTime (l : List Byte) : Option Word :=
  match pointParts l with
  | some (i, f) =>
    let hh := (digits (i.take 2)).getD 0
    let mm := (digits ((i.drop 2).take 2)).getD 0
    let ss := (digits (i.drop 4)).getD 0
    if i.length ≠ 6 ∨ 24 ≤ hh ∨ 60 ≤ mm ∨ 60 ≤ ss then none
    else some (w32 (hh * 3600000 + mm * 60000 + ss * 1000 + (digits ((f ++ [48, 48, 48]).take 3)).getD 0))
  | none => none

/-- One field of a template converted from the fields of a sentence; none when its text does not convert. -/
def convField (w : Word) (fs : List (List Byte)) : Option Word :=
  if !bit w 9 then none else
  let n := fld w 0 6
  let l := fs.getD n []
  let h := fs.getD (n + 1) []
  if l.isEmpty then none else
  match fld w 6 3 with
  | 0 => convDecimal l
  | 1 => convAngle 2 90 78 83 l h
  | 2 => convAngle 3 180 69 87 l h
  | 3 => convTime l
  | 4 => if l.length = 1 then some (w32 (l.headD 0).toNat) else none
  | _ => none

/-! Checks of admission (R455). -/

def serPortOk (b : Block) (p : Nat) : Bool :=
  let g := spCfg b p
  let r := serPort b p 1
  secReach b 8 (4 * p + 4) && fld r 20 12 == 0 && (!bit g 0 || (decide (fld g 3 2 ≤ 1) && decide (fld g 6 2 ≤ 2) &&
    decide (1736 ≤ fld r 0 20) && (serMode b p != 1 || decide (1 ≤ fld g 27 5))))

def serTplOk (b : Block) (t : Nat) : Bool :=
  let g := serTpl b t 0
  let (kind, n) := tplSrc b t
  secReach b 8 (108 + 12 * t) && fld g 7 25 == 0 && fld (serTpl b t 2) 16 16 == 0 && serTpl b t 11 == 0 &&
    ((List.range 8).all fun k => fld (tplFld b t k) 10 22 == 0) && (!bit g 0 ||
    (if kind = 0 then decide (n < 24) && serEn b n && serMode b n == 0 else decide (n < 16) && bit (strCfg b n 0) 0) &&
    (List.range 8).all fun k =>
      let w := tplFld b t k
      !bit w 9 || (decide (1 ≤ fld w 0 6) && decide (fld w 6 3 ≤ 4)))

/-- STRUCTURE of section 0x08: the DETAIL of the first record that breaks a rule. -/
def serCheck (b : Block) : Option Nat :=
  match (List.range 24).find? (fun p => !serPortOk b p) with
  | some p => some p
  | none => ((List.range 64).find? fun t => !serTplOk b t).map (0x100 + ·)

end Sys2Proof.Machine
end

