-- ==== Sys2Proof/Machine/TimCalc.lean ====
section
/-! DEFINITION. Registers of the TIM block (Table 13.6) and the checks of section 0x01 (R441). -/

namespace Sys2Proof.Machine

/-- A PPS input: 0 A, 1 B. -/
def ppsIn (b : Block) (i : Nat) : PpsIn := if i = 0 then b.tim.ppsA else b.tim.ppsB

/-- TIM_STATUS (Table 13.7). -/
def timStatus (b : Block) : Word :=
  regOf [(0, 1, b1 b.tim.extRef), (1, 1, b1 b.tim.refQualified), (2, 2, b.tim.sel), (4, 1, b1 b.tim.vtValid),
    (5, 1, b1 b.tim.slewing), (6, 1, b1 b.tim.ppsA.ok), (7, 1, b1 b.tim.ppsB.ok)]

/-- Visible words of a captured clock: seconds, the upper seconds with FRAC, and nanoseconds. -/
def clkWord (c i : Nat) : Word :=
  if i = 0 then w32 (c / (1000000000 * 2 ^ 32))
  else if i = 1 then regOf [(0, 16, c / (1000000000 * 2 ^ 32) / 2 ^ 32), (16, 16, c % 2 ^ 32 / 2 ^ 16)]
  else w32 (c % (1000000000 * 2 ^ 32) / 2 ^ 32)

/-- Registers of the TIM block. -/
def readTim (b : Block) (off : Nat) : Word :=
  let t := b.tim
  if off = 0x0 then timStatus b
  else if off = 0x4 then timCfg b
  else if off = 0x8 then timDomCfg b 0
  else if off = 0xC then timDomCfg b 1
  else if off = 0x10 then timPpsOutCfg b 0
  else if off = 0x14 then timPpsOutCfg b 1
  else if off = 0x18 then t.latch
  else if off = 0x20 then loW b.tb
  else if off = 0x24 then hiW b.tb
  else if off = 0x28 then loW t.inc0
  else if off = 0x2C then hiW t.inc0
  else if off = 0x30 then loW t.inc1
  else if off = 0x34 then hiW t.inc1
  else if off = 0x38 then loW t.vtInc
  else if off = 0x3C then hiW t.vtInc
  else if off = 0x50 then t.setSecLo
  else if off = 0x54 then t.setSecHi
  else if off = 0x58 then t.setNsec
  else if off = 0x60 then loW t.applyTick
  else if off = 0x64 then hiW t.applyTick
  else if off = 0x80 then loW t.snap.tb
  else if off = 0x84 then hiW t.snap.tb
  else if 0x88 ≤ off ∧ off < 0x94 then clkWord t.snap.vt ((off - 0x88) / 4)
  else if 0x94 ≤ off ∧ off < 0xA0 then clkWord t.snap.sc0 ((off - 0x94) / 4)
  else if 0xA0 ≤ off ∧ off < 0xAC then clkWord t.snap.sc1 ((off - 0xA0) / 4)
  else if 0xC0 ≤ off ∧ off < 0x100 then
    let p := ppsIn b ((off - 0xC0) / 0x20)
    let r := (off - 0xC0) % 0x20
    if r = 0x0 then loW p.tb
    else if r = 0x4 then hiW p.tb
    else if r = 0x8 then w32 p.vtSec
    else if r = 0xC then w32 p.vtNsec
    else if r = 0x10 then w32 p.sc0Nsec
    else if r = 0x14 then w32 p.sc1Nsec
    else if r = 0x18 then w32 p.count
    else 0
  else if 0x1000 ≤ off ∧ off < 0x1400 then
    let n := (off - 0x1000) / 0x10
    let r := (off - 0x1000) % 0x10
    if r = 0 then ttCfg b n else if r = 4 then ttPhase b n else if r = 8 then w32 (tget 0 t.ttCount n) else 0
  else 0

/-- STRUCTURE of section 0x01: DETAIL 0 for the first record, 0x0100 + n for a trigger. -/
def timCheck (b : Block) : Option Nat :=
  let c := timCfg b
  let domOk := fun d => fld d 13 19 == 0 && (!bit d 0 || decide (fld d 1 8 ≤ 239))
  let ppsOk := fun p => fld p 27 5 == 0 && (!bit p 0 || (decide (fld p 1 2 ≤ 2) && decide (1 ≤ fld p 4 9) && decide (fld p 4 9 ≤ 500) &&
    decide (fld p 13 14 ≤ 10000)))
  let d0 := timDomCfg b 0
  let d1 := timDomCfg b 1
  let same := bit d0 0 && bit d1 0 && fld d0 1 11 == fld d1 1 11
  let ok := secReach b 1 16 && decide (1 ≤ fld c 2 10) && decide (fld c 2 10 ≤ 1000) && decide (fld c 12 10 ≤ 600) && decide (fld c 22 2 ≤ 2) &&
    fld c 24 8 == 0 && domOk d0 && domOk d1 && !same && ppsOk (timPpsOutCfg b 0) && ppsOk (timPpsOutCfg b 1) &&
    (List.range 11).all fun i => cfgW b 1 (5 + i) == 0
  let ttOk := fun n => secReach b 1 (18 + 2 * n) && fld (ttCfg b n) 27 5 == 0 && fld (ttPhase b n) 26 6 == 0 &&
    (!ttEn b n || (decide (10 ≤ fld (ttCfg b n) 1 26) && decide (fld (ttCfg b n) 1 26 ≤ 60000000) &&
      decide (fld (ttPhase b n) 0 26 < fld (ttCfg b n) 1 26)))
  if !ok then some 0 else ((List.range 64).find? fun n => !ttOk n).map (0x100 + ·)

end Sys2Proof.Machine
end

