-- ==== Sys2Proof/Machine/RegRead.lean ====
section
/-! DEFINITION. Reading the set-up window: the GLB block, and the register at any offset (R4 to R6, R14, R51, R75, R563, R564). -/

namespace Sys2Proof.Machine

/-- Code of a shadow state (Table 2.11). -/
def ShadowState.code (s : ShadowState) : Nat :=
  match s with
  | .empty => 0
  | .loading => 1
  | .checking => 2
  | .admitted => 3
  | .rejected => 4
  | .pending => 5

/-- IMAGE_CRC and SAFETY_CRC of a bank that holds an image; 0 otherwise. -/
def Bank.crc (k : Bank) : Word := if k.present then imgCrc k.mem else 0
def Bank.safCrc (k : Bank) : Word := if k.present then imgSafetyCrc k.mem else 0

/-- GLB_START_STATUS (Table 2.9). -/
def startStatus (b : Block) : Word :=
  let g := b.glb
  regOf [(0, 4, g.phase), (4, 1, b1 b.tim.extRef), (5, 1, b1 g.seedOld), (6, 1, b1 (b.dsp.state == 2)),
    (7, 1, b1 (g.started && !g.active)), (8, 1, b1 g.marginLow), (9, 1, b1 g.selectorBad)]

/-- GLB_CFG_STATUS (Table 2.11). -/
def cfgStatus (b : Block) : Word :=
  let g := b.glb
  regOf [(0, 3, g.shadow.code), (3, 1, b1 g.shadowBank.confirmed), (4, 1, b1 g.active), (5, 1, b1 g.activeBank.confirmed), (6, 1, b1 g.key),
    (7, 1, b1 g.confirmLock), (8, 2, g.confirmFails), (10, 1, g.owner), (11, 1, b1 g.busyRefused), (12, 1, b1 g.cmdErr), (13, 1, g.bank)]

/-- Registers of the GLB block (Tables 0.2 to 0.4 and 2.8 to 2.12). -/
def readGlb (b : Block) (off : Nat) : Word :=
  let g := b.glb
  match off with
  | 0x00 => 0x4D5A0192
  | 0x04 => 0x01000100
  | 0x08 => loW Sys2Proof.Config.serial.toNat
  | 0x0C => hiW Sys2Proof.Config.serial.toNat
  | 0x20 => startStatus b
  | 0x24 => g.selftest
  | 0x40 => g.addrLo
  | 0x44 => g.addrHi
  | 0x48 => g.len
  | 0x50 => cfgStatus b
  | 0x54 => g.reject
  | 0x60 => g.activeBank.crc
  | 0x64 => g.activeBank.safCrc
  | 0x68 => g.shadowBank.crc
  | 0x6C => g.shadowBank.safCrc
  | 0x70 => loW g.switchTick
  | 0x74 => hiW g.switchTick
  | _ => 0

/-- The word that the registers' units hold at an offset, reserved bits of the bank's words included. -/
def rawReg (b : Block) (src off : Nat) : Word :=
  let r := off % 0x10000
  if off % 4 ≠ 0 ∨ (0x10000 ≤ off ∧ !b.glb.ready) then 0 else
  match off / 0x10000 with
  | 0x0 => readGlb b r
  | 0x1 => readRng b src r
  | 0x2 => readTim b r
  | 0x3 => readChn b r
  | 0x4 => readSafety b r
  | 0x5 => readLpe b r
  | 0x6 => readDpe b r
  | 0x7 => readCan b r
  | 0x8 => readEth b r
  | 0x9 => readSer b r
  | 0xA => readPtn b r
  | 0xB => readFlt b r
  | 0xC => readRec b r
  | 0xD => readDsp b r
  | 0xE => readSec b r
  | 0xF => readPrf b r
  | _ => 0

/-- The register at an offset, without any effect of the read, as source `src` reads it: 0 H0, 1 H1, 2 the debug port, 3 a recorder
snapshot. Reserved bits read 0, whatever the bank holds there (R14). -/
def readReg (b : Block) (src off : Nat) : Word := rawReg b src off &&& definedBits b off

/-- The low word of a 64-bit register stands at this offset (R13, R564). -/
def isLow64 (off : Nat) : Bool :=
  let r := off % 0x10000
  let arr := fun (base stride n at' : Nat) => decide (base ≤ r) && decide (r < base + stride * n) && (r - base) % stride == at'
  match off / 0x10000 with
  | 0x0 => r == 0x08 || r == 0x40 || r == 0x70
  | 0x1 => arr 0x1000 0x40 128 0
  | 0x2 => [0x20, 0x28, 0x30, 0x38, 0x40, 0x48, 0x50, 0x60, 0x80, 0x88, 0x94, 0xA0, 0xC0, 0xE0].contains r
  | 0x4 => arr 0x2000 0x20 32 0x14
  | 0x6 => r == 0x30
  | 0x8 => arr 0x0100 0x40 4 0x0C
  | 0x9 => arr 0x1000 0x40 64 0x30
  | 0xA => r == 0x18 || r == 0x20 || arr 0x0100 8 16 0
  | 0xB => r == 0x20 || arr 0x4000 0x100 32 0x18
  | 0xD => arr 0x0100 0x20 8 0x04 || arr 0x0100 0x20 8 0x0C
  | 0xF => r == 0x08 || arr 0x0100 0x10 8 8 || r == 0xF000 || arr 0xF010 8 8 0
  | _ => false

/-- The high word of a 64-bit register stands at this offset. -/
def isHigh64 (off : Nat) : Bool := decide (4 ≤ off) && isLow64 (off - 4)

end Sys2Proof.Machine
end

