-- ==== Sys2Proof/Machine/Event.lean ====
section
/-! DEFINITION. Firing an event source (R38, R107, R110), the recorder's snapshots (R495, R496), performance counters (R485), and what
leaves the module. -/

namespace Sys2Proof.Machine

/-- The module sets bits of the W1C register at `off` at this tick: a clear of the same tick leaves them set (R16). -/
def markSet (off : Nat) (bits : Word) (b : Block) : Block := { b with fresh := (off, bits) :: b.fresh }

/-- `markSet` for one bit. -/
def markBit (off i : Nat) (b : Block) : Block := markSet off (BitVec.ofNat 32 (2 ^ i)) b

/-- Bits of the W1C register at `off` that the module has set at this tick. -/
def freshBits (b : Block) (off : Nat) : Word := b.fresh.foldl (fun w p => if p.1 = off then w ||| p.2 else w) 0

/-- Send something out of the module. -/
def emit (o : Output) (b : Block) : Block := { b with out := o :: b.out }

/-- The next free value, and the module that has taken it (log 1). -/
def takeFree (b : Block) : Word × Block := (Sys2Proof.Config.freeWord b.free, { b with free := b.free + 1 })

/-! Rings and links. -/

def modRng (f : Rng → Rng) (b : Block) : Block := { b with rng := f b.rng }
def setRing (n : Nat) (r : Ring) (b : Block) : Block := modRng (fun g => { g with rings := tset {} g.rings n r }) b
def modRing (n : Nat) (f : Ring → Ring) (b : Block) : Block := setRing n (f (ring b n)) b
def modLink (l : Nat) (f : HostLink → HostLink) (b : Block) : Block := { b with links := tmod {} b.links l f }

/-- Entries of the event staging area of one ring (R107). -/
def evtArea (b : Block) : Nat := if (enabledRings b tEVT).length ≤ 1 then 512 else 256

def esVec (b : Block) (src : Nat) : Nat := fld (esMapWord b (src / 4)) (8 * (src % 4)) 5
def esDeliver (b : Block) (src link : Nat) : Bool := bit (esMapWord b (src / 4)) (8 * (src % 4) + 6 + link)

/-- Add a firing to the staged events of a ring (R38, R107): into a staged event of the same source, into the overflow event, as a
new entry, or as the overflow event. -/
def stageEvt (area tb src : Nat) (detail : Word) (l : List Evt) : List Evt :=
  if l.any (fun e => !e.overflow && e.src == src) then
    l.map fun e => if !e.overflow && e.src == src then { e with repeats := sat16 e.repeats 1, last := tb } else e
  else if l.any (fun e => e.overflow) then
    l.map fun e => if e.overflow then { e with merged := sat32 e.merged 1, last := tb } else e
  else
    l ++ [{ src := src, overflow := decide (area ≤ l.length + 1), detail := detail, first := tb, last := tb,
            merged := if area ≤ l.length + 1 then 1 else 0 }]

/-- The EVT ring of a link that is RUNNING, if any (R110). -/
def evtRing (b : Block) (link : Nat) : Option Nat :=
  (List.range 128).find? fun n => (ring b n).kind == tEVT && (ring b n).link == link && (ring b n).state == .running

/-- Stage a firing for the EVT ring of one link when its DELIVER bit is set (R110). -/
def stageFor (src : Nat) (detail : Word) (link : Nat) (b : Block) : Block :=
  if esDeliver b src link then
    match evtRing b link with
    | some n => modRing n (fun r => { r with evts := stageEvt (evtArea b) b.tb src detail r.evts }) b
    | none => b
  else b

/-- Count an occurrence of a performance event (R485, Table 15.9); `wild` is the ARG that counts every object. -/
def perf (ev arg wild : Nat) (b : Block) : Block :=
  if !b.glb.active || isFenced b .counters then b else
  let cnt := (List.range 8).foldl (fun t k =>
      let c := cntCfg b k
      if fld c 0 4 == ev && (fld c 16 16 == arg || fld c 16 16 == wild) then tmod 0 t k (fun n => (n + 1) % 2 ^ 64) else t)
    b.prf.cnt
  { b with prf := { b.prf with cnt := cnt } }

/-! Clocks (R414). -/

/-- 2^-32 ns in a second. -/
def unitsPerSecond : Nat := 1000000000 * 2 ^ 32
def clkSec (c : Nat) : Nat := c / unitsPerSecond % 2 ^ 48
def clkNs (c : Nat) : Nat := c % unitsPerSecond / 2 ^ 32
/-- The upper 16 bits of the fraction (R414: FRAC). -/
def clkFrac (c : Nat) : Nat := c % 2 ^ 32 / 2 ^ 16

/-! The recorder's snapshots. -/

/-- Byte STATE of a record (Table 16.1). -/
def recState (b : Block) : Nat := b.ptn.role + 4 * b.glb.bank + 8 * b1 b.glb.active

/-- The recorder takes snapshots: it is not fenced and the power-down sequence has not begun (R505, R537). -/
def recTakes (b : Block) : Bool := !b.recorder.logicFenced && b.sec.downAt.isNone

/-- Hold a snapshot of register values (R496). -/
def holdSnapshot (kind trigger : Nat) (detail : Word) (vals : List Word) (b : Block) : Block :=
  if recTakes b then
    { b with recorder := { b.recorder with held := b.recorder.held ++
      [{ kind := kind, trigger := trigger, tick := b.tb, vtSec := clkSec b.tim.vt % 2 ^ 32, vtNsec := clkNs b.tim.vt,
         vtValid := b.tim.vtValid, state := recState b, detail := detail, vals := vals, crc := bankCrc b }] } }
  else b

/-- The values of a trigger's list, read as a snapshot reads them (R496). -/
def trgValues (b : Block) (t : Nat) : List Word :=
  (List.range (fld (trgCfg b t) 8 6)).map fun i => readReg b 3 (fld (trgReg b t i) 0 20)

/-- A trigger has fired: count it from 0, and at firing k with k mod N = 0 take a snapshot or merge into the held one (R495, R496). The second
component says that it merged, with the MISSED of the held snapshot. -/
def fireTrigger (t : Nat) (detail : Word) (b : Block) : Block × Option Nat :=
  if !recTakes b then (b, none) else
  let k := tget 0 b.recorder.fired t
  let b := { b with recorder := { b.recorder with fired := tset 0 b.recorder.fired t (k + 1) } }
  if k % max 1 (fld (trgArg b t) 8 16) ≠ 0 then (b, none) else
  match b.recorder.held.find? (fun s => s.kind == 1 && s.trigger == t) with
  | some s =>
    let m := sat16 s.missed 1
    (markBit 0xC0014 0 { b with recorder := { b.recorder with
        held := b.recorder.held.map (fun s => if s.kind == 1 && s.trigger == t then { s with missed := m } else s)
        latch := putBit b.recorder.latch 0 true
        missed := tmod 0 b.recorder.missed t (fun k => sat16 k 1) } }, some m)
  | none => (holdSnapshot 1 t detail (trgValues b t) b, none)

/-- The triggers of KIND EVENT on a source (R495). -/
def eventTriggers (b : Block) (src : Nat) : List Nat :=
  if b.glb.active then
    (List.range 32).filter fun t =>
      bit (trgCfg b t) 0 && fld (trgCfg b t) 1 2 == 1 && fld (trgArg b t) 0 8 == src
  else []

/-- Latch, count and stage one firing (R110, R485). -/
def fireBase (src : Nat) (detail : Word) (b : Block) : Block :=
  let latches := tmod {} b.flt.latches src
    (fun l => if l.set then { l with repeats := sat16 l.repeats 1 } else { l with set := true })
  let b := { b with flt := { b.flt with latches := latches } }
  let b := { b with dsp := { b.dsp with drillSeen := b.dsp.drillSeen || src == 213 } }
  stageFor src detail 1 (stageFor src detail 0 (perf 1 src 0x10000 b))

/-- Fire an event source: latch, count, stage, and let the recorder's triggers see it. A merge into a held snapshot fires ES240
(R496); `fuel` bounds how far such firings chain (log 13). -/
def fireFuel : Nat → Nat → Word → Block → Block
  | 0, src, detail, b => fireBase src detail b
  | fuel + 1, src, detail, b =>
    (eventTriggers b src).foldl (fun b t =>
      match fireTrigger t detail b with
      | (b, some m) => fireFuel fuel 240 (regOf [(0, 5, t), (16, 16, m)]) b
      | (b, none) => b) (fireBase src detail b)

/-- Event source `src` fires with DETAIL. -/
def fire (src : Nat) (detail : Word) (b : Block) : Block := fireFuel 3 src detail b

/-- Fire a trigger that is not on an event source, and ES240 when it merges. -/
def fireTriggerOf (t : Nat) (b : Block) : Block :=
  match fireTrigger t 0 b with
  | (b, some m) => fire 240 (regOf [(0, 5, t), (16, 16, m)]) b
  | (b, none) => b

/-- Fire when a condition holds. -/
def fireIf (c : Bool) (src : Nat) (detail : Word) (b : Block) : Block := if c then fire src detail b else b

end Sys2Proof.Machine
end

