-- ==== Sys2Proof/Machine/Tim.lean ====
section
/-! DEFINITION. The time unit (R412 to R428): the tick of the clocks, the discipline writes, the 10 MHz reference and the PPS ports. -/

namespace Sys2Proof.Machine

def modTim (f : Tim → Tim) (b : Block) : Block := { b with tim := f b.tim }

/-- Bits of TIM_LATCH (Table 13.6). -/
def tlIncErr : Nat := 0
def tlRefused : Nat := 1
def tlHoldExpired : Nat := 2
def tlRefLost : Nat := 3

/-- Set a bit of TIM_LATCH; ES198 fires when it becomes set (Table 13.5). -/
def timLatch (i : Nat) (b : Block) : Block :=
  let b := markBit 0x20018 i b
  if bit b.tim.latch i then b
  else fire 198 (BitVec.ofNat 32 (2 ^ i)) (modTim (fun t => { t with latch := putBit t.latch i true }) b)

/-- The increments of R415: 0 INC0, 1 INC1, 2 VT_INC. -/
def Tim.incOf (t : Tim) (k : Nat) : Nat := if k = 0 then t.inc0 else if k = 1 then t.inc1 else t.vtInc
def Tim.setInc (t : Tim) (k v : Nat) : Tim :=
  if k = 0 then { t with inc0 := v } else if k = 1 then { t with inc1 := v } else { t with vtInc := v }
def Tim.sc (t : Tim) (k : Nat) : Nat := if k = 0 then t.sc0 else t.sc1
def Tim.setSc (t : Tim) (k v : Nat) : Tim := if k = 0 then { t with sc0 := v } else { t with sc1 := v }

/-- Clocks wrap with their 48-bit seconds (R414). -/
def clkMod : Nat := 2 ^ 48 * unitsPerSecond
def clkAdd (c : Nat) (d : Int) : Nat := (((c : Int) + d) % (clkMod : Int)).toNat

/-- STEP of R417 in units of 2^-32 ns. -/
def slewStep (b : Block) : Nat := slewPpm b * 10 * 2 ^ 32 / 1000000

/-- DETAIL of ES193. -/
def selDetail (t : Tim) : Word := regOf [(0, 2, t.sel), (2, 1, b1 t.slewing)]

/-- A clock at an earlier tick, by how it has run since; beyond what is held, by its present increment (log 33). -/
def clkAt (past : List ClkSeg) (now rate tb t : Nat) : Nat :=
  match past.find? fun x => decide (x.from' ≤ t) with
  | some x => clkAdd x.v (((t - x.from') * x.rate : Nat) : Int)
  | none => clkAdd now (-(((tb - t) * rate : Nat) : Int))

/-- A clock has moved at tick `tb`: a new stretch begins where it has not gained what it gained before. -/
def clkPast (past : List ClkSeg) (tb old new : Nat) : List ClkSeg :=
  let seg : ClkSeg := { from' := tb, v := new, rate := clkAdd new (-(old : Int)) }
  match past with
  | x :: _ => if clkAdd x.v (((tb - x.from') * x.rate : Nat) : Int) = new then past else (seg :: past).take 64
  | [] => [seg]

/-- Vessel time at an earlier tick. -/
def vtAt (b : Block) (t : Nat) : Nat :=
  let m := b.tim
  clkAt m.vtPast m.vt (if m.sel = 2 then m.vtInc else m.incOf m.sel) b.tb t

/-- Shadow clock k at an earlier tick. -/
def scAt (b : Block) (k t : Nat) : Nat :=
  let m := b.tim
  clkAt (if k = 0 then m.sc0Past else m.sc1Past) (m.sc k) (m.incOf k) b.tb t

/-- The place of a schedule point at this tick has not passed: the seed boundary (rank 0), the safety scan (1), the DP cycle boundary (2), and
trigger n (3 + n) take effect in the order of R425. -/
def pointOpen (rank : Nat) (b : Block) : Bool := !b.tim.point.any fun p => p.1 == b.tb && decide (rank ≤ p.2)

/-- A schedule point takes effect; one whose place has passed has no effect any more (DESIGN CHOICE, log 172). -/
def atPoint (rank : Nat) (f : Block → Block) (b : Block) : Block :=
  if !pointOpen rank b then b
  else f (modTim (fun t => { t with point := some (b.tb, rank) }) b)

/-- Set or clear VT_VALID; ES192 fires at each change (R418). -/
def setVtValid (v : Bool) (cause : Nat) (b : Block) : Block :=
  fireIf (b.tim.vtValid != v) 192 (regOf [(0, 1, b1 v), (1, 2, cause)]) (modTim (fun t => { t with vtValid := v }) b)

/-- Set or clear SLEWING; ES193 fires at each change (R417). -/
def setSlewing (v : Bool) (b : Block) : Block :=
  let c := b.tim.slewing != v
  let b := modTim (fun t => { t with slewing := v }) b
  fireIf c 193 (selDetail b.tim) b

/-- One captured write takes effect at the tick after its capture (R415 to R418). SET_TIME and SNAP act on the clocks and are
taken up by `timTick`. -/
def timApply (a : TimAct) (b : Block) : Block :=
  match a with
  | .inc k v =>
    modTim (fun t => { t.setInc k v with holdFrom := if t.sel = k then b.tb else t.holdFrom }) b
  | .stepBy k ns => modTim (fun t => t.setSc k (clkAdd (t.sc k) (ns * ((2 ^ 32 : Nat) : Int)))) b
  | .sel v =>
    if b.tim.sel = v then b else
    modTim (fun t => { t with sel := v, vtInc := if v = 2 then t.incOf t.sel else t.vtInc, holdFrom := b.tb }) b
  | .setValid => setVtValid true 0 (modTim (fun t => { t with holdFrom := b.tb }) b)
  | .clrValid => setVtValid false 0 b
  | .setTime _ _ => b
  | .snap => b

/-- The value SET_TIME loads at this tick, if one was captured. -/
def timLoad (l : List TimAct) : Option Nat :=
  l.foldl (fun r a => match a with
    | .setTime s n => some (s * unitsPerSecond + n * 2 ^ 32)
    | _ => r) none

/-- Vessel time at this tick: its new value and SLEWING (the table of R417). `d` is formed before the increments. -/
def vtNext (b : Block) (d : Int) : Nat × Bool :=
  let t := b.tim
  let step := slewStep b
  if t.sel = 2 then (clkAdd t.vt t.vtInc, false)
  else if !t.vtValid then (clkAdd (t.sc t.sel) (t.incOf t.sel), false)
  else if d.natAbs ≤ step then (clkAdd (t.sc t.sel) (t.incOf t.sel), false)
  else (clkAdd t.vt ((t.incOf t.sel : Int) + (if d < 0 then -(step : Int) else (step : Int))), true)

/-! PPS ports: input and output 0 is A, 1 is B. -/

def modPpsIn (i : Nat) (f : PpsIn → PpsIn) (b : Block) : Block :=
  modTim (fun t => if i = 0 then { t with ppsA := f t.ppsA } else { t with ppsB := f t.ppsB }) b
def ppsOut (b : Block) (i : Nat) : PpsOut := if i = 0 then b.tim.outA else b.tim.outB
def modPpsOut (i : Nat) (f : PpsOut → PpsOut) (b : Block) : Block :=
  modTim (fun t => if i = 0 then { t with outA := f t.outA } else { t with outB := f t.outB }) b


/-- A PPS output may be high: enabled, and not gated off (R428). -/
def ppsOutOpen (b : Block) (i : Nat) : Bool :=
  let c := timPpsOutCfg b i
  bit c 0 && !(bit c 3 && fld c 1 2 == 0 && !b.tim.vtValid)

/-- PPS_OUT_FALL: WIDTH has passed since the rise, or the output may not be high (R428). -/
def ppsOutFall (i : Nat) (b : Block) : Block :=
  if (ppsOut b i).level && (decide ((ppsOut b i).fallAt ≤ b.tb) || !ppsOutOpen b i) then
    emit (.pin 1 i false) (modPpsOut i (fun o => { o with level := false }) b)
  else b

/-- An output that may not be high any more falls at once (R428). -/
def ppsGate (b : Block) : Block :=
  ([0, 1] : List Nat).foldl (fun b i => if ppsOutOpen b i then b else ppsOutFall i b) b

/-- The time unit at tick `tb`: the captured writes take effect, D is formed from the stepped clocks, the clocks advance, one ES193 shows a change
of SEL, of SLEWING or of both, and SNAP captures the clocks (R414 to R420). -/
def timTick (b : Block) : Block :=
  let acts := b.tim.acts
  let sel := b.tim.sel
  let b := modTim (fun t => { t with acts := [] }) b
  let b := acts.foldl (fun b a => timApply a b) b
  let d : Int := (b.tim.sc b.tim.sel : Int) - (b.tim.vt : Int)
  let (v, sl) := vtNext b d
  let v := (timLoad acts).getD v
  let changed := b.tim.sel != sel || b.tim.slewing != sl
  let b := modTim (fun t =>
    let s0 := clkAdd t.sc0 t.inc0
    let s1 := clkAdd t.sc1 t.inc1
    { t with sc0 := s0, sc1 := s1, vt := v, slewing := sl, diff := d, vtPast := clkPast t.vtPast b.tb t.vt v
             sc0Past := clkPast t.sc0Past b.tb t.sc0 s0, sc1Past := clkPast t.sc1Past b.tb t.sc1 s1 }) b
  let b := ppsGate (fireIf changed 193 (selDetail b.tim) b)
  if acts.contains .snap then
    modTim (fun t => { t with snap := { tb := b.tb, vt := t.vt, sc0 := t.sc0, sc1 := t.sc1 } }) b
  else b

/-- One idle tick: the count advances by exactly 1 (R412), the clocks with it (log 4), and the monitors that CLR names are cleared (R484). -/
def idleTick (b : Block) : Block :=
  let b := timTick { b with tb := (b.tb + 1) % 2 ^ 64, fresh := [] }
  if b.prf.clears.isEmpty then b else
  { b with prf := { b.prf with
      mons := if isFenced b .monitors then b.prf.mons else b.prf.clears.foldl (fun t m => tset {} t m {}) b.prf.mons, clears := [] } }

/-- SLEW_COMPLETE: at this tick vessel time is within STEP of the selected shadow clock, follows it exactly and stops slewing (R417). The tick
itself does so (`timTick`); a module that slews although D of this tick is within STEP is put right. -/
def slewComplete (b : Block) : Block :=
  let t := b.tim
  if t.slewing && t.sel != 2 && decide (t.diff.natAbs ≤ slewStep b) then
    setSlewing false (modTim (fun t => { t with vt := t.sc t.sel }) b)
  else b

/-! Discipline writes (R415 to R420). -/

/-- A source may discipline: no restriction, or it is DISC_LINK, or it is the debug port (R419). -/
def mayDiscipline (src : Nat) (b : Block) : Bool :=
  !(bit (timCfg b) 0) || src == fld (timCfg b) 1 1 || src == 2

/-- Bounds of an increment: 9.99 ns to 10.01 ns (R415). -/
def incMin : Nat := 0x00000009FD70A3D7
def incMax : Nat := 0x0000000A028F5C28

/-- A committed 64-bit write of TIM_INC0, TIM_INC1 or TIM_VT_INC (R415). -/
def timIncWrite (src k v : Nat) (b : Block) : Block :=
  if !mayDiscipline src b then timLatch tlRefused b
  else if v < incMin || incMax < v then timLatch tlIncErr b
  else modTim (fun t => { t with applyTick := b.tb, acts := t.acts ++ [.inc k v] }) b

/-- A committed 64-bit write of TIM_STEP0 or TIM_STEP1: a signed number of nanoseconds (R416). -/
def timStepWrite (src k v : Nat) (b : Block) : Block :=
  if !mayDiscipline src b then timLatch tlRefused b
  else
    let ns : Int := if v < 2 ^ 63 then (v : Int) else (v : Int) - ((2 ^ 64 : Nat) : Int)
    modTim (fun t => { t with applyTick := b.tb, acts := t.acts ++ [.stepBy k ns] }) b

/-- A write of the TIM_VT_SET registers (R418, R419): 0 seconds (both words), 1 nanoseconds. -/
def timVtSetWrite (src which v : Nat) (b : Block) : Block :=
  if !mayDiscipline src b then timLatch tlRefused b
  else if which = 0 then modTim (fun t => { t with setSecLo := loW v, setSecHi := hiW v &&& 0xFFFF#32 }) b
  else modTim (fun t => { t with setNsec := w32 v }) b

/-- Seconds and nanoseconds to be loaded. -/
def Tim.setSec (t : Tim) : Nat := t.setSecLo.toNat + 2 ^ 32 * fld t.setSecHi 0 16

/-- A write of TIM_VT_CTRL acts in the order of R419. -/
def timCtrlWrite (src : Nat) (v : Word) (b : Block) : Block :=
  let snap (b : Block) : Block :=
    if bit v 6 then modTim (fun t => { t with acts := t.acts ++ [.snap] }) b else b
  if !mayDiscipline src b then
    snap (if fld v 0 6 ≠ 0 then timLatch tlRefused b else b)
  else
    let selNew := fld v 0 2
    let selActs := bit v 2 && selNew != 3
    let b1' := if bit v 2 && selNew == 3 then timLatch tlRefused b else b
    let b2 := if selActs then modTim (fun t => { t with applyTick := b.tb, acts := t.acts ++ [.sel selNew] }) b1' else b1'
    let selIs := if selActs then selNew else b.tim.sel
    let b3 :=
      if bit v 3 then
        if !b.tim.vtValid && selIs == 2 && decide (b.tim.setNsec.toNat ≤ 999999999) then
          modTim (fun t => { t with applyTick := b.tb, acts := t.acts ++ [.setTime t.setSec t.setNsec.toNat] }) b2
        else timLatch tlRefused b2
      else b2
    let b4 :=
      if bit v 5 then modTim (fun t => { t with applyTick := b.tb, acts := t.acts ++ [.clrValid] }) b3
      else if bit v 4 then modTim (fun t => { t with applyTick := b.tb, acts := t.acts ++ [.setValid] }) b3
      else b3
    snap b4

/-- DISC_HOLD_EXPIRY: the interval of R418 has passed. -/
def discHoldExpiry (b : Block) : Block :=
  if b.tim.vtValid && discHold b != 0 && decide (b.tim.holdFrom + discHold b * 100000000 ≤ b.tb) then
    ppsGate (setVtValid false 1 (timLatch tlHoldExpired b))
  else b

/-! The 10 MHz reference (R413). -/

/-- EXT_REF takes a value; ES194 fires at each change. -/
def setExtRef (v : Bool) (b : Block) : Block :=
  fireIf (b.tim.extRef != v) 194 (regOf [(0, 1, b1 v)]) (modTim (fun t => { t with extRef := v }) b)

/-- Ticks of good input that qualify the reference: 100 ms at start-up, 10 s after a loss (R413). -/
def refNeeds (t : Tim) : Nat := if t.refWasLost then 1000000000 else 10000000

/-- REF_QUALIFIED: the input has been good long enough and the timebase moves to it (R413). -/
def refQualified (b : Block) : Block :=
  if b.tb < b.tim.refFrom + refNeeds b.tim then b
  else setExtRef true (modTim (fun t => { t with refQualified := true }) b)

/-- REF_LOST: the input fails at this tick; a qualified reference is lost (R413). -/
def refLost (b : Block) : Block :=
  let had := b.tim.extRef || b.tim.refQualified
  let b := setExtRef false (modTim (fun t => { t with refQualified := false, refFrom := b.tb, refWasLost := t.refWasLost || had }) b)
  if had then timLatch tlRefLost b else b

/-! PPS ports (R427, R428). -/

/-- OK of an input takes a value: ES197 fires at a change, and PPSx_BAD latches when it is lost. -/
def setPpsOk (i : Nat) (v : Bool) (b : Block) : Block :=
  if (ppsIn b i).ok == v then b else
  let b := modPpsIn i (fun p => { p with ok := v }) b
  let b := if v then b else timLatch (4 + i) b
  fire 197 (regOf [(0, 1, i), (1, 1, b1 v)]) b

/-- A rising edge on a PPS input (R427). -/
def ppsInEdge (i : Nat) (b : Block) : Block :=
  let p := ppsIn b i
  let gap := b.tb - p.tb
  let inRange := p.good != 0 && decide (99980000 ≤ gap) && decide (gap ≤ 100020000)
  let good := if inRange then p.good + 1 else 1
  let t := b.tim
  let b := modPpsIn i (fun p => { p with
    tb := b.tb, vtSec := clkSec t.vt % 2 ^ 32, vtNsec := clkNs t.vt, sc0Nsec := clkNs t.sc0, sc1Nsec := clkNs t.sc1,
    count := wrap32 p.count 1, good := good }) b
  let b := fire (195 + i) (w32 (clkNs t.vt)) b
  if p.good != 0 && !inRange then setPpsOk i false b
  else if 3 ≤ good then setPpsOk i true b
  else b

/-- 150 000 000 ticks have passed without an edge (R427). -/
def ppsInTimeout (i : Nat) (b : Block) : Block :=
  if (ppsIn b i).ok && decide ((ppsIn b i).tb + 150000000 ≤ b.tb) then
    setPpsOk i false (modPpsIn i (fun p => { p with good := 0 }) b)
  else b

/-- A PPS output's source plus ADV has passed a whole second at this tick and not before (R428). -/
def ppsPasses (b : Block) (i : Nat) : Bool :=
  let c := timPpsOutCfg b i
  let src := fun (t : Nat) => if fld c 1 2 = 0 then vtAt b t else scAt b (fld c 1 2 - 1) t
  let sec := fun (t : Nat) => (src t + fld c 13 14 * 2 ^ 32) / unitsPerSecond
  b.tb != 0 && decide (sec (b.tb - 1) < sec b.tb)

/-- PPS_OUT_RISE: the source passes a whole second at this tick (R428). -/
def ppsOutRise (i : Nat) (b : Block) : Block :=
  if ppsPasses b i && ppsOutOpen b i && (ppsOut b i).riseAt != some b.tb then
    emit (.pin 1 i true)
      (modPpsOut i (fun o => { o with level := true, riseAt := some b.tb, fallAt := b.tb + fld (timPpsOutCfg b i) 4 9 * 100000 }) b)
  else b

/-- A clock in the 12-byte form of R440: 6 bytes of seconds, 4 of nanoseconds, 2 of FRAC. -/
def clkBytes (c : Nat) : List Byte := leBytes 6 (clkSec c) ++ leBytes 4 (clkNs c) ++ leBytes 2 (clkFrac c)

/-- The reply of the time-unit snapshot: 48 bytes (R440). -/
def timSnapshotBytes (b : Block) : List Byte :=
  leBytes 8 b.tb ++ clkBytes b.tim.vt ++ clkBytes b.tim.sc0 ++ clkBytes b.tim.sc1 ++ leBytes 4 0

/-- When a bank comes into force while none was before, SEL takes SEL_INIT (R417). -/
def timBankFirst (b : Block) : Block :=
  let v := fld (timCfg b) 22 2
  if b.tim.sel = v then b
  else
    let b := modTim (fun t => { t with sel := v, vtInc := if v = 2 then t.incOf t.sel else t.vtInc, holdFrom := b.tb }) b
    fire 193 (selDetail b.tim) b

end Sys2Proof.Machine
end

