-- ==== Sys2Proof/Machine/Base.lean ====
section
/-! DEFINITION. Updates of the units' records, completing a descriptor, status codes and roles. -/

namespace Sys2Proof.Machine

/-- Update the descriptor with index `idx` that a ring holds. -/
def modDesc (n idx : Nat) (f : Desc → Desc) (b : Block) : Block :=
  modRing n (fun r => { r with fetched := r.fetched.map fun d => if d.idx = idx then f d else d }) b

/-- A descriptor will be written back with this, unless it already has its status. -/
def complete (n idx : Nat) (d : Done) (b : Block) : Block :=
  modDesc n idx (fun x => if x.done.isNone then { x with done := some d } else x) b

/-- Complete a descriptor with a status and a result at this tick. -/
def completeWith (n idx status : Nat) (result : Word) (b : Block) : Block :=
  complete n idx { status := status, result := result, tick := b.tb } b

/-- Complete a command for which the spec states no RESULT, a refused one or one that acts once: RESULT is a free value (log 1). -/
def refuse (n idx status : Nat) (b : Block) : Block :=
  let (v, b) := takeFree b
  completeWith n idx status v b

def modGlb (f : Glb → Glb) (b : Block) : Block := { b with glb := f b.glb }
def modPtn (f : Ptn → Ptn) (b : Block) : Block := { b with ptn := f b.ptn }
def modSec (f : Sec → Sec) (b : Block) : Block := { b with sec := f b.sec }
def modFlt (f : Flt → Flt) (b : Block) : Block := { b with flt := f b.flt }
def modRec (f : Rec → Rec) (b : Block) : Block := { b with recorder := f b.recorder }
def modDsp (f : Dsp → Dsp) (b : Block) : Block := { b with dsp := f b.dsp }
def modGrowth (f : Growth → Growth) (b : Block) : Block := { b with growth := f b.growth }
def modPrf (f : Prf → Prf) (b : Block) : Block := { b with prf := f b.prf }
def modEth (f : Eth → Eth) (b : Block) : Block := { b with eth := f b.eth }

/-- Status codes of Table 3.6. -/
def stOK : Nat := 0x00
def stSUPERSEDED : Nat := 0x01
def stOVERRULED : Nat := 0x02
def stCONFLICT_SAFER : Nat := 0x03
def stFORCED : Nat := 0x04
def stCANCELLED : Nat := 0x05
def stSENT_CANCEL_LATE : Nat := 0x06
def stPARTIAL : Nat := 0x07
def stLAUNCH_LATE : Nat := 0x08
def stBAD_OPCODE : Nat := 0x10
def stBAD_TARGET : Nat := 0x11
def stBAD_VALUE : Nat := 0x12
def stPRIORITY_LOW : Nat := 0x13
def stROLE : Nat := 0x14
def stDMA : Nat := 0x15
def stBUF_SMALL : Nat := 0x16
def stTX_FAILED : Nat := 0x17
def stABANDONED : Nat := 0x18

/-- Roles. -/
def rActive : Nat := 0
def rStandby : Nat := 1
def rIsolated : Nat := 2
/-- The fetched descriptor of a ring with an index. -/
def descAt (b : Block) (n idx : Nat) : Option Desc := (ring b n).fetched.find? fun d => d.idx == idx

/-- Complete a BUFFERED command: the reply is truncated to LEN, and RESULT holds its length (Table 3.14). -/
def completeReply (n idx : Nat) (bytes : List Byte) (b : Block) : Block :=
  let len := match descAt b n idx with
    | some d => fld (wAt d.w 4) 16 16
    | none => 0
  complete n idx { status := stOK, result := w32 bytes.length, tick := b.tb, reply := bytes.take len } b

def modTarget (k : Nat) (f : Target → Target) (b : Block) : Block :=
  modRng (fun g => { g with targets := tmod {} g.targets k f }) b

/-- A candidate as a cycle that starts at tick `t` finds it: an output written at that very tick counts from the next cycle on, as R39's example
shows and R102 says of orders. -/
def Cand.settled (t : Nat) (c : Cand) : Option Cand := if c.at' = t then c.before.map fun v => { c with val := v } else some c

/-- A target as a cycle that starts at tick `t` finds it (R39, R102). -/
def Target.settled (t : Nat) (x : Target) : Target := { x with cands := x.cands.filterMap (Cand.settled t) }

/-- An engine source's output stands as its candidate (R101). -/
def setCand (k src prio : Nat) (v : Word) (b : Block) : Block :=
  modTarget k (fun t =>
    let old := ((t.cands.find? fun c => c.src == src).bind (Cand.settled b.tb)).map (·.val)
    { t with cands := t.cands.filter (fun c => c.src != src) ++ [{ src := src, prio := prio, val := v, at' := b.tb, before := old }] }) b

/-- An engine source withdraws its candidate. -/
def dropCand (k src : Nat) (b : Block) : Block :=
  modTarget k (fun t => { t with cands := t.cands.filter fun c => c.src != src }) b

/-- Bytes of the MRX area in use. -/
def mrxUsed (b : Block) : Nat :=
  (enabledRings b tMRX).foldl (fun a n => a + ((ring b n).frames.map fun f => f.body.length).foldl (· + ·) 0) 0

/-- A received frame that does not fit is dropped, and counted on the ring it was routed to if that ring is RUNNING (R105, R396). -/
def dropMrx (n : Nat) (b : Block) : Block :=
  let r := ring b n
  if r.kind ≠ tMRX ∨ r.state ≠ .running then b
  else perf 3 n 0x7F (modRing n (fun r => { r with drops := sat32 r.drops 1, dropsSince := sat16 r.dropsSince 1 }) b)

/-- Stage a received frame for an MRX ring: a ring that is not RUNNING takes none; one that does not fit is dropped (R105, R396). -/
def stageMrx (n : Nat) (f : RxFrame) (b : Block) : Block :=
  let r := ring b n
  if r.kind ≠ tMRX ∨ r.state ≠ .running then b
  else if mrxUsed b + f.body.length ≤ 131072 then modRing n (fun r => { r with frames := r.frames ++ [f] }) b
  else dropMrx n b

/-! MTX descriptors (Table 3.11). -/

def mtxBus (d : Desc) : Nat := fld (wAt d.w 3) 28 4
def mtxPort (d : Desc) : Nat := fld (wAt d.w 3) 20 8
def mtxObject (d : Desc) : Nat := fld (wAt d.w 3) 0 7
def mtxLaunch (d : Desc) : Nat := join64 (wAt d.w 4) (wAt d.w 5)

/-- The payload of an MTX descriptor once it has been read. -/
def mtxPayload (d : Desc) : Option (List Byte) :=
  match d.buf with
  | .data bs => some (bs.take (fld (wAt d.w 2) 0 16))
  | _ => none

/-- The descriptor of an MTX ring that is next to be handed to its bus: the oldest that is neither done nor handed over (R108). -/
def mtxNext (b : Block) (n : Nat) : Option Desc :=
  if (ring b n).kind = tMTX then (ring b n).fetched.find? fun d => d.done.isNone && !d.handed else none

/-- Status of a frame that has been sent (R108). -/
def mtxSent (late : Bool) : Nat := if late then stLAUNCH_LATE else stOK

/-- The sequence counters written into an object or datagram: entry and BYTE (R370, Table 11.19). -/
def seqEntries (b : Block) (bus port obj : Nat) : List (Nat × Nat) :=
  ((List.range 64).filter fun k =>
    let w := ptnSeqObj b k
    bit w 31 && fld w 0 2 == bus && fld w 2 4 == port && fld w 6 7 == obj).map fun k => (k, fld (ptnSeqObj b k) 13 6)

/-- Every counter of an object advances after a transmission (R370). -/
def seqAdvance (bus port obj : Nat) (b : Block) : Block :=
  modPtn (fun p => { p with txSeqs := (seqEntries b bus port obj).foldl (fun t x => tmod 0 t x.1 fun k => (k + 1) % 0x10000) p.txSeqs }) b

end Sys2Proof.Machine
end

