-- ==== Sys2Proof/Machine/ChnBase.lean ====
section
/-! DEFINITION. A channel's status bits and its front-end state: what every change of them does (R138 to R151, R170, R171). -/

namespace Sys2Proof.Machine

def modChn (f : Chn → Chn) (b : Block) : Block := { b with chn := f b.chn }
def modChan (n : Nat) (f : Chan → Chan) (b : Block) : Block := modChn (fun c => { c with chans := tmod {} c.chans n f }) b
def modGroup (g : Nat) (f : Group → Group) (b : Block) : Block := modChn (fun c => { c with groups := tmod {} c.groups g f }) b
def modImage (i : Nat) (f : Image → Image) (b : Block) : Block := modChn (fun c => { c with images := tmod {} c.images i f }) b
def modHart (n : Nat) (f : Hart → Hart) (b : Block) : Block := modChan n (fun c => { c with hart := f c.hart }) b

/-- Group of a channel (R8). -/
def grpOf (n : Nat) : Nat := n / 24

/-- HART event of a channel (R178). -/
def hartEvent (n cause : Nat) (b : Block) : Block := fire (19 + 4 * grpOf n) (regOf [(0, 8, n), (8, 4, cause)]) b

/-- Report a change of OUT_STATUS (R178, cause 5), of a channel with HART_EN = 1 alone (DESIGN CHOICE, log 168). -/
def hartOut (n : Nat) (b : Block) : Block :=
  let v := outStatusOf b n
  if v = (chanAt b n).hart.outStatus then b
  else
    let b := modHart n (fun h => { h with outStatus := v }) b
    if chnHartEn b n then hartEvent n 5 b else b

/-- Set or clear status bits: a bit of CHN_CH_LATCH that becomes set raises the group's channel event with the newly set bits [18:4]
(R151). -/
def setStBits (n : Nat) (bits : Word) (v : Bool) (b : Block) : Block :=
  let c := chanAt b n
  let c' := { c with st := if v then c.st ||| bits else c.st &&& ~~~bits, latch := if v then c.latch ||| bits else c.latch }
  let new := c'.latch &&& ~~~c.latch
  let b := modChan n (fun _ => c') b
  let b := if v then markSet (0x31014 + 0x20 * n) bits b else b
  let b := fireIf (new != 0) (16 + 4 * grpOf n) (regOf [(0, 8, n), (8, 15, fld new 4 15)]) b
  hartOut n b

/-- Set or clear status bit `i` of Table 4.18. -/
def setSt (n i : Nat) (v : Bool) (b : Block) : Block :=
  if (chanAt b n).stBit i == v then b else setStBits n (BitVec.ofNat 32 (2 ^ i)) v b

/-- Reply of a pass-through transaction: RESULT, response code, device status, count and data (R175). -/
def hartReplyBytes (result resp dev : Nat) (data : List Byte) : List Byte :=
  leBytes 1 result ++ leBytes 1 resp ++ leBytes 1 dev ++ leBytes 1 data.length ++ data

/-- End a pass-through transaction with a RESULT and no reply. -/
def hartEnd (t : HartTrans) (result : Nat) (b : Block) : Block :=
  if t.kind = 3 then completeReply t.ring t.idx (hartReplyBytes result 0 0 []) b else b

/-- The modem of a channel goes OFF: transactions in flight and waiting are aborted (R170). -/
def hartOff (n : Nat) (b : Block) : Block :=
  let h := (chanAt b n).hart
  let ts := (match h.flight with
    | some t => [t]
    | none => []) ++ h.queue
  let b := modHart n (fun h => { h with state := 0, flight := none, queue := [], pollDue := false, due48 := false, fails := 0 }) b
  let b := if h.state = 3 then hartEvent n 7 b else b
  ts.foldl (fun b t => hartEnd t 4 b) b

/-- The HART tile is fenced: every modem goes OFF, and pass-through completes with OFFLINE (Table 15.3). -/
def hartFence (b : Block) : Block :=
  (b.chn.chans.filter fun p => p.2.hart.state != 0).foldl (fun b p =>
    let h := (chanAt b p.1).hart
    let ts := (match h.flight with
      | some t => [t]
      | none => []) ++ h.queue
    let b := modHart p.1 (fun h => { h with state := 0, flight := none, queue := [], pollDue := false, due48 := false, fails := 0 }) b
    let b := if h.state = 3 then hartEvent p.1 7 b else b
    ts.foldl (fun b t => hartEnd t 5 b) b) b

/-- The modem of a channel that enters SERVE with HART_EN = 1 searches (Table 5.7). The first poll of a state goes out one POLL_PERIOD after the
entry into it, in SEARCH, LOST and after BURST alike (DESIGN CHOICE, log 165). -/
def hartSearch (n : Nat) (b : Block) : Block :=
  if isFenced b .hart then b else
  modHart n (fun h => { h with state := 1, pollAt := b.tb + hartPeriod b n, fails := 0 }) b

/-- The modem of a channel whose HART_EN a new bank clears goes OFF: its target has ceased to exist (R567, Table 5.7). -/
def hartDrop (n : Nat) (b : Block) : Block :=
  let h := (chanAt b n).hart
  let ts := (match h.flight with
    | some t => [t]
    | none => []) ++ h.queue
  let b := hartOff n (modHart n (fun h => { h with flight := none, queue := [] }) b)
  ts.foldl (fun b t => if t.kind = 3 then completeWith t.ring t.idx stBAD_TARGET 0 b else b) b

/-- The front end of a channel takes a state of Table 4.8. Its protective bits keep their values, for the rules that clear them name no state
(R123, R125, R127 to R129, R134, R135); RESTART_HELD ends with the HOLD. -/
def setFe (n v : Nat) (b : Block) : Block :=
  let old := (chanAt b n).fe
  if old = v then b else
  let b := modChan n (fun c => { c with
    fe := v
    firsts := if v = 2 ∨ v = 3 then c.firsts ++ [b.tb] else c.firsts
    restart := c.restart || v == 0 || v == 5
    testAt := if v = 1 ∨ v = 6 then b.tb else c.testAt }) b
  let b := if old = 3 then hartOff n b else b
  let b := if v = 3 && chnHartEn b n then hartSearch n b else b
  let b := if v = 0 then setSt n 14 true b else if old = 0 then setSt n 14 false b else b
  let b := if v = 2 || v = 0 || v = 5 then setSt n 17 false b else b
  let b := if v = 3 && chnMode b n == 7 then setStBits n 0x00003000 false b else b
  hartOut n b

/-- Fence event of a channel (Table 4.14). -/
def fenceEvent (n : Nat) (v : Bool) (b : Block) : Block := fire (17 + 4 * grpOf n) (regOf [(0, 8, n), (8, 1, b1 v)]) b

/-- A fence is applied to a channel (R147). -/
def chnFence (n : Nat) (b : Block) : Block := fenceEvent n true (setFe n 5 b)

/-- The first event of R142: the partner is heard reporting a role other than Active, or has sent DEPART. -/
def partnerLeft (b : Block) : Bool := b.ptn.partnerKnown && (b.ptn.partner.departed || (b.ptn.heard && b.ptn.partner.role != 0))

/-- The first event ends the window of R142 for good. -/
def listenStop (b : Block) : Block := if b.chn.listen && partnerLeft b then modChn (fun c => { c with listen := false }) b else b

/-- The role changes (R140, R142): a module that becomes Active in overlap mode keeps its inputs in LISTEN for the window. RESTART_HOLD has no
effect at a role change: an episode that ended in LISTEN before it is forgotten (R145). -/
def chnRole (old new : Nat) (b : Block) : Block :=
  if new = 0 ∧ old ≠ 0 then
    listenStop (modChn (fun c => { c with
      listen := overlapMode b
      listenEnd := b.tb + max (overlapW b) 600000
      chans := tmap {} (fun x => if x.fe = 2 then { x with restart := false } else x) c.chans }) b)
  else if new ≠ 0 then modChn (fun c => { c with listen := false }) b
  else b

end Sys2Proof.Machine
end

