-- ==== Sys2Proof/Machine/SafBase.lean ====
section
/-! DEFINITION. The safety engine's latches and its state (R198, R202, R206, R209). -/

namespace Sys2Proof.Machine

def modSaf (f : Saf → Saf) (b : Block) : Block := { b with saf := f b.saf }
def modPair (p : Nat) (f : SafPair → SafPair) (b : Block) : Block := modSaf (fun s => { s with pairs := tmod {} s.pairs p f }) b
def modPort (n : Nat) (f : SafPort → SafPort) (b : Block) : Block := modSaf (fun s => { s with ports := tmod {} s.ports n f }) b
def modFn (k : Nat) (f : SafFn → SafFn) (b : Block) : Block := modSaf (fun s => { s with fns := tmod {} s.fns k f }) b
def modConn (c : Nat) (f : UslConn → UslConn) (b : Block) : Block := modSaf (fun s => { s with conns := tmod {} s.conns c f }) b

/-- A function trips: cause, index and stamp; ES049 fires (R182, R198). -/
def tripFn (f cause src tick : Nat) (b : Block) : Block :=
  if (fnAt b f).tripped then b else
  fire 49 (regOf [(0, 5, f), (8, 4, cause), (16, 8, src)])
    (modFn f (fun x => { x with tripped := true, cause := cause, src := src, trips := sat16 x.trips 1, tick := tick, setAt := b.tb }) b)

/-- Every function trips. -/
def tripAll (cause : Nat) (b : Block) : Block := (List.range 32).foldl (fun b f => tripFn f cause 0 b.tb b) b

/-- A function's trip latch clears: ES050 (R200). -/
def clearFn (f : Nat) (b : Block) : Block :=
  fire 50 (regOf [(0, 5, f)]) (modFn f (fun x => { x with tripped := false }) b)

/-- Turn the output of a port off. -/
def portOff (n : Nat) (b : Block) : Block :=
  if (portAt b n).out then emit (.pin 0 n false) (modPort n (fun x => { x with out := false }) b) else b

/-- Test pulses run only in RUN (R187): an open window goes with it. -/
def SafCh.quiet (c : SafCh) : SafCh := { c with pulse := none, kind := 0, offSeen := false }

/-- Every open test window goes: RUN ends, or another safety section comes into force (R187, R188). -/
def pulsesOff (b : Block) : Block :=
  modSaf (fun s => { s with
    pairs := tmap {} (fun x => { x with a := x.a.quiet, b := x.b.quiet }) s.pairs
    ports := tmap {} (fun x => { x with ch := x.ch.quiet }) s.ports }) b

/-- Turn every safety output off: SDO commands and port outputs (R206). Outside RUN the safety section does not execute, and no feedback of this
change is followed. -/
def safOutputsOff (b : Block) : Block :=
  (List.range 4).foldl (fun b n => portOff n b) (modSaf (fun s => { s with
    pairs := tmap {} (fun x => if x.cmd then { x with cmd := false, cmdAt := b.tb, cmdSent := true, fbSeen := true, fbBad := none }
      else { x with cmdSent := true, fbSeen := true, fbBad := none }) s.pairs }) (pulsesOff b))

/-- The engine takes a state: ES048; every state except RUN holds every latch tripped and every output off (R206). -/
def setEngine (v : Nat) (b : Block) : Block :=
  let b := if v = 2 then b else safOutputsOff (tripAll (if v = 3 then 8 else 7) b)
  if b.saf.engine = v then b else fire 48 (regOf [(0, 2, v)]) (modSaf (fun s => { s with engine := v }) b)

/-- The state the bank in force gives the engine (R74, R206). -/
def safRefresh (b : Block) : Block :=
  if b.saf.engine = 3 then b
  else if !b.glb.active then setEngine 0 b
  else if b.glb.activeBank.confirmed then setEngine 2 b
  else setEngine 1 b

/-- A fault inside the safety engine (R206). -/
def safFail (b : Block) : Block := setEngine 3 b

/-- A fault latch of a pair for a cause of Table 6.10: the first one stands; its event fires (R198, R209). -/
def latchPair (p cause tick : Nat) (slot : Nat) (b : Block) : Block :=
  let old := (pairAt b p).fault
  let b := modPair p (fun x => { x with seen := true }) b
  if old then b else
  let b := modPair p (fun x => { x with
    fault := true, cause := cause, faultTick := tick, setAt := b.tb, bothSafe := false
    foreignSlot := if cause = 4 ∨ cause = 5 then slot else x.foreignSlot }) b
  if cause = 1 then fire 52 (regOf [(0, 8, p)]) b
  else if cause ≤ 5 then fire 53 (regOf [(0, 8, p), (8, 4, cause), (12, 6, slot)]) b
  else if cause ≤ 9 then fire 54 (regOf [(0, 8, p), (8, 4, cause)]) b
  else if cause ≤ 11 then fire 55 (regOf [(0, 8, p), (8, 4, cause)]) b
  else b

/-- A fault latch of a port. -/
def latchPort (n cause tick : Nat) (slot : Nat) (b : Block) : Block :=
  let old := (portAt b n).fault
  let b := modPort n (fun x => { x with seen := true }) b
  if old then b else
  let b := modPort n (fun x => { x with fault := true, cause := cause, faultTick := tick, setAt := b.tb, bothSafe := false }) b
  if cause = 1 then fire 52 (regOf [(0, 8, 0x30 + n)]) b
  else fire 53 (regOf [(0, 8, 0x30 + n), (8, 4, cause), (12, 6, slot)]) b

/-- A pair's or a port's fault latch clears: ES056. -/
def clearPair (p : Nat) (b : Block) : Block :=
  fire 56 (regOf [(0, 8, p)]) (modPair p (fun x => { x with fault := false, cause := 0, bothSafe := false }) b)
def clearPort (n : Nat) (b : Block) : Block :=
  fire 56 (regOf [(0, 8, 0x30 + n)]) (modPort n (fun x => { x with fault := false, cause := 0, bothSafe := false }) b)

/-- Every fault latch clears. -/
def clearFaults (b : Block) : Block :=
  let b := (List.range 24).foldl (fun b p => if (pairAt b p).fault then clearPair p b else b) b
  (List.range 4).foldl (fun b n => if (portAt b n).fault then clearPort n b else b) b

/-- Every trip latch is set with cause BANK (R202). -/
def tripBank (b : Block) : Block :=
  (List.range 32).foldl (fun b f => modFn f (fun x => { x with cause := 6, src := 0, setAt := b.tb }) (tripFn f 6 0 b.tb b)) b

/-- What of a pair's state the pair's type in force does not have goes (R210). -/
def fitPair (p : Nat) (b : Block) : Block :=
  let t := spType b p
  modPair p (fun x =>
    if t = 0 then {} else
    { x with
      demand := x.demand && t == 1, press := if t = 3 then x.press else none, pressed := x.pressed && t == 3
      cmd := x.cmd && t == 2, fb := x.fb && t == 2 && spFb b p }) b

/-- A port that the bank in force does not use has no state, and its output is off (Table 6.5, R210). -/
def fitPort (n : Nat) (b : Block) : Block := if scMode b n = 0 then modPort n (fun _ => {}) (portOff n b) else b

/-- A bank comes into force, or goes out of force: with another SAFETY_CRC every trip latch is set with cause BANK and every fault
latch is clear (R202). -/
def safBank (oldCrc : Option Word) (b : Block) : Block :=
  let b := if oldCrc = some (bankSafCrc b) then b else pulsesOff (clearFaults (tripBank b))
  let b := (List.range 24).foldl (fun b p => modPair p (fun x => { x with maxK := 0 }) (fitPair p b)) b
  safRefresh ((List.range 4).foldl (fun b n => fitPort n b) b)

end Sys2Proof.Machine
end

