-- ==== Sys2Proof/Machine/CanBase.lean ====
section
/-! DEFINITION. CAN: updates, latches, error state, read locks, and pending frames that end unsent (R394, R403 to R409). -/

namespace Sys2Proof.Machine

def modCan (f : Can → Can) (b : Block) : Block := { b with can := f b.can }
def modCtl (c : Nat) (f : CanCtl → CanCtl) (b : Block) : Block := modCan (fun x => { x with ctls := tmod {} x.ctls c f }) b
def modObj (o : Nat) (f : CanObj → CanObj) (b : Block) : Block := modCan (fun x => { x with objs := tmod {} x.objs o f }) b

/-- Bits of CAN_CTL_LATCH. -/
def clSTATE : Nat := 0
def clALONE : Nat := 1
def clRECOVERED : Nat := 2
def clOVERRUN : Nat := 3
def clCANCEL : Nat := 4
def clLOCK : Nat := 5
def clTDC : Nat := 6
def clUNMATCHED : Nat := 7

/-- Set a bit of CAN_CTL_LATCH; the status source fires when it becomes set (R409). -/
def canLatch (c i obj : Nat) (b : Block) : Block :=
  let old := (ctlAt b c).latch
  let b := markBit (0x70134 + 0x40 * c) i (modCtl c (fun x => { x with latch := putBit x.latch i true }) b)
  fireIf (!bit old i) (160 + c) (regOf [(0, 8, 2 ^ i), (8, 2, (ctlAt b c).state), (16, 7, if i = clOVERRUN then obj % 128 else 0)]) b

/-- STATE of a controller. -/
def setCtlState (c v : Nat) (b : Block) : Block :=
  if (ctlAt b c).state = v then b else canLatch c clSTATE 0 (modCtl c (fun x => { x with state := v }) b)

/-- A pending frame ends unsent: its descriptor gets a status; one without a descriptor counts as discarded (R403). -/
def dropPend (o status : Nat) (b : Block) : Block :=
  match (objAt b o).pend with
  | none => b
  | some p =>
    let b := modObj o (fun x => { x with pend := none }) b
    match p.mtx with
    | some (n, idx) => completeWith n idx status 0 b
    | none => modObj o (fun x => { x with events := sat16 x.events 1 }) b

/-- The frame that waits behind an attempt ends, and counts as discarded (R401, R403). -/
def CanObj.dropNext (x : CanObj) : CanObj :=
  match x.pend with
  | some p => { x with pend := some { p with next := none }, events := sat16 x.events (b1 p.next.isSome) }
  | none => x

/-- Every object of a controller that holds a pending frame. -/
def ctlPending (b : Block) (c : Nat) : List Nat :=
  (b.can.objs.filter fun p => p.1 / 128 == c && p.2.pend.isSome).map (·.1)

/-- End every pending frame of a controller; `inArb` says whether those in arbitration end as well. -/
def dropPending (c : Nat) (inArb : Bool) (b : Block) : Block :=
  (ctlPending b c).foldl (fun b o =>
    match (objAt b o).pend with
    | some p => if inArb ∨ p.inArb.isNone then dropPend o stTX_FAILED b else b
    | none => b) b

/-- Frames of stopped objects that wait for arbitration end (R403). -/
def canSweep (b : Block) : Block :=
  (b.can.objs.filter fun p => p.2.pend.isSome).foldl (fun b p =>
    match (objAt b p.1).pend with
    | some x => if x.inArb.isNone ∧ objStopped b p.1 then dropPend p.1 stTX_FAILED b else b
    | none => b) b

/-- Unlock an object: a full shadow moves into the main buffer, and a frame of this tick then replaces it (R394). -/
def objUnlock (o : Nat) (b : Block) : Block :=
  modObj o (fun x => { x with locked := none, main := x.newest, shadow := none, third := none }) b

/-- The locks of a ring that stops, is reset or goes down are released (R408). -/
def releaseLocks (n : Nat) (b : Block) : Block :=
  (b.can.objs.filter fun p => match p.2.locked with | some (r, _) => r == n | none => false).foldl (fun b p => objUnlock p.1 b) b

/-- A fence on a controller: it drives nothing and receives nothing (R389). -/
def canFence (c : Nat) (b : Block) : Block :=
  let b := setCtlState c 3 (dropPending c true b)
  modCtl c (fun x => { x with monitor := false, recovering := false, caught := [] }) b

/-- The role leaves Active: pending frames that are not in an attempt end, and so does a frame that waits for the end of an attempt
(R389, R403). -/
def canRole (old new : Nat) (b : Block) : Block :=
  if old = 0 ∧ new ≠ 0 then
    (List.range 16).foldl (fun b c =>
      (ctlPending b c).foldl (fun b o => modObj o CanObj.dropNext b) (dropPending c false b)) b
  else b

end Sys2Proof.Machine
end

