-- ==== Sys2Proof/Machine/Resolve.lean ====
section
/-! DEFINITION. The resolution of a target's value (R102), and the fields of transmit objects and datagrams that engines write. -/

namespace Sys2Proof.Machine

/-- How the values of a target compare (R102): binary32 numbers, headings along the shorter arc (R344), or unsigned words. -/
inductive ValKind where
  | real | arc | word
  deriving DecidableEq, Repr

/-- What the bank gives a writable value target. -/
structure TInfo where
  kind : ValKind := .word
  safe : Word := 0
  hostMin : Nat := 0
  initial : Word := 0
  deriving DecidableEq, Repr

/-- Signed value of a word in the kind of its target. -/
def valInt (k : ValKind) (v : Word) : Int :=
  match k with
  | .real => fInt v
  | .arc => fInt v
  | .word => v.toNat

/-- Distance of two values: for a heading in degrees along the shorter arc (R344). -/
def valDist (k : ValKind) (a s : Word) : Nat :=
  let d := (valInt k a - valInt k s).natAbs
  if k = .arc then min d (360 * 2 ^ 150 - d) else d

/-- The value in `vs` with the least distance from S; on a tie, the lower value (R102). -/
def saferValue (k : ValKind) (s : Word) : List Word → Word
  | [] => s
  | v :: vs =>
    vs.foldl (fun a c =>
      let da := valDist k a s
      let dc := valDist k c s
      if dc < da ∨ (dc = da ∧ valInt k c < valInt k a) then c else a) v

/-- What one resolution finds (R102). -/
structure Resolution where
  value : Word
  /-- Highest priority among the candidates; none without a candidate. -/
  top : Option Nat := none
  conflict : Bool := false
  deriving DecidableEq, Repr

/-- Resolve a target (R102). -/
def resolution (t : Target) (info : TInfo) : Resolution :=
  let cs := t.orders.map (fun o => (o.prio, o.val)) ++ t.cands.map (fun c => (c.prio, c.val))
  match cs with
  | [] => { value := t.inForce }
  | c :: _ =>
    let p := cs.foldl (fun m x => max m x.1) c.1
    let top := (cs.filter fun x => x.1 == p).map (·.2)
    match top with
    | [] => { value := t.inForce }
    | v :: vs =>
      if vs.all fun x => decide (valInt info.kind x = valInt info.kind v) then { value := v, top := some p }
      else { value := saferValue info.kind info.safe top, top := some p, conflict := true }

/-! Engine target words (Tables 8.2 and 8.11). -/

def tgKind (w : Word) : Nat := fld w 0 4
def tgA (w : Word) : Nat := fld w 4 8
def tgB (w : Word) : Nat := fld w 12 7
def tgByte (w : Word) : Nat := fld w 19 6
def tgFmt (w : Word) : Nat := fld w 25 3
def tgBig (w : Word) : Bool := bit w 28

/-- Key in the target table of the field or DP input that a target word names: above every host address. -/
def engKey (w : Word) : Nat :=
  if tgKind w = 1 then targetKey 1 (tgA w) 0 else if tgKind w = 4 then 2 ^ 37 + tgA w else 2 ^ 36 + fld w 0 25

/-- Target words of the loops and thrusters of the bank in force that name an object or datagram. -/
def engWords (b : Block) (kind a i : Nat) : List Word :=
  let loops := (lpeList b).map fun c => lpeW b c 7
  let thrs := ((List.range 24).filter fun n => bit (thrW b n 0) 2).flatMap fun n => [thrW b n 14, thrW b n 15]
  (loops ++ thrs).filter fun w => tgKind w == kind && tgA w == a && tgB w == i

/-- The same, one word for each field. -/
def engFields (b : Block) (kind a i : Nat) : List Word :=
  (engWords b kind a i).foldl (fun l w => if l.any fun x => engKey x == engKey w then l else l ++ [w]) []

/-- Least and greatest value of an integer format. -/
def fmtRange (f : Nat) : Int × Int :=
  if f = 0 then (-32768, 32767) else if f = 1 then (0, 65535) else if f = 2 then (-2147483648, 2147483647)
  else if f = 3 then (0, 4294967295) else if f = 5 then (-128, 127) else (0, 255)

/-- A value in the format of a field: rounded to the nearest integer, ties to even, and saturating; binary32 unchanged (Table 8.2). -/
def fmtBytes (f : Nat) (big : Bool) (v : Word) : List Byte :=
  let n : Nat := if f = 4 then v.toNat else
    let x := max (fmtRange f).1 (min (fmtRange f).2 (fToInt v))
    (x % ((2 ^ (8 * fmtLen f) : Nat) : Int)).toNat
  let bs := leBytes (fmtLen f) n
  if big then bs.reverse else bs

/-- Bytes put into a list from a position on; those beyond its end are lost. -/
def overlay (l : List Byte) (p : Nat) (bs : List Byte) : List Byte := (l.take p ++ bs ++ l.drop (p + bs.length)).take l.length

/-- Data with the values in force of its fields (R401). A field on which nothing has resolved keeps the bank's template (log 30). -/
def putFields (b : Block) (base : Nat) (ws : List Word) (l : List Byte) : List Byte :=
  ws.foldl (fun l w =>
    let t := targetAt b (engKey w)
    if t.decided then overlay l (base + tgByte w) (fmtBytes (tgFmt w) (tgBig w) t.inForce) else l) l

/-- The TX_SEQ fields of an object or datagram, written last (R370, R401). -/
def putSeq (b : Block) (bus port obj base : Nat) (l : List Byte) : List Byte :=
  (seqEntries b bus port obj).foldl (fun l x => overlay l (base + x.2) (leBytes 2 (tget 0 b.ptn.txSeqs x.1))) l

/-- A field or DP input resolves (R102). No S is stated for it: at a conflict a free value takes its place (log 31). -/
def resolveEng (addr : Nat) (w : Word) (b : Block) : Block :=
  let k := engKey w
  let t := targetAt b k
  let r := resolution (t.settled b.tb) { kind := .real, safe := Sys2Proof.Config.freeWord b.free }
  let b := modTarget k (fun t => { t with inForce := r.value, decided := t.decided || r.top.isSome, resolved := b.tb + 1 }) b
  if r.conflict then
    fire 4 (w32 addr) (perf 15 0 0 (modRng (fun g => { g with
      conflictCount := sat32 g.conflictCount 1, conflictTarget := w32 addr }) { b with free := b.free + 1 }))
  else b

end Sys2Proof.Machine
end

