-- ==== Sys2Proof/Machine/Can.lean ====
section
/-! DEFINITION. CAN transmission, errors, locks and reads of objects (R398, R401 to R408), and the Safe Layer frames a connection hands
to an object. -/

namespace Sys2Proof.Machine

/-- FLAGS of an MRX descriptor of BUS 1 (R399): a frame no object takes, or one taken while OVERRUN was set. -/
def fUNMATCHED : Nat := 2
def fOVERRUN : Nat := 4

/-! Error state. -/

/-- STATE follows the counts (R405): error-active, error-passive, bus-off. At bus-off every pending frame ends (R406). -/
def canErrState (c : Nat) (b : Block) : Block :=
  let x := ctlAt b c
  if 2 ≤ x.state then b
  else if 256 ≤ x.tec then
    let b := setCtlState c 2 (modCtl c (fun x => { x with busOff := sat8 x.busOff 1, recovering := ctlAutoRec b c }) b)
    dropPending c true b
  else setCtlState c (if 128 ≤ x.tec ∨ 128 ≤ x.recc then 1 else 0) b

/-! Frames to send. -/

/-- The object in arbitration or transmission. -/
def inArbObj (b : Block) (c : Nat) : Option Nat :=
  (ctlPending b c).find? fun o => match (objAt b o).pend with | some p => p.inArb.isSome | none => false

/-- A frame of a CYCLIC or USL object becomes pending: it replaces one that has not started arbitration, and waits behind one that
has (R401). -/
def pendFrame (o : Nat) (f : CanFrame) (b : Block) : Block :=
  match (objAt b o).pend with
  | none => modObj o (fun x => { x with pend := some { frame := f } }) b
  | some p =>
    if p.inArb.isNone then modObj o (fun x => { x with pend := some { p with frame := f }, events := sat16 x.events 1 }) b
    else modObj o (fun x => { x with pend := some { p with next := some f }, events := sat16 x.events (b1 p.next.isSome) }) b

/-- Header words of an object's own frames (Tables 12.2 and 12.14). -/
def objHeader (b : Block) (o : Nat) : Word × Word :=
  let g := objCfg b o
  (regOf [(0, 30, fld (canObj b o 1) 0 30)], regOf [(0, 4, fld g 4 4), (4, 1, fld g 8 1), (5, 1, fld g 9 1), (7, 1, fld g 14 1)])

/-- The assembly of a CYCLIC object (R401). -/
def canAssemble (o : Nat) (b : Block) : Block :=
  let b := modObj o (fun x => { x with due := [] }) b
  if !objMaySend b o then b else
  let fresh := (engFields b 2 (o / 128) (o % 128)).any fun w => (targetAt b (engKey w)).decided
  if (objAt b o).hush && !fresh then b else
  let b := modObj o (fun x => { x with hush := false }) b
  let (id, ctl) := objHeader b o
  let data := putSeq b 1 (o / 128) (o % 128) 0 (putFields b 0 (engFields b 2 (o / 128) (o % 128)) (objTpl b o))
  pendFrame o { id := id, ctl := ctl, data := data } b

/-- A Safe Layer frame is handed to an object (R215): bytes 28 to 31 are 0. -/
def canSendUsl (o : Nat) (bytes : List Byte) (b : Block) : Block :=
  if !objMaySend b o then b else
  let (id, ctl) := objHeader b o
  pendFrame o { id := id, ctl := ctl, data := bytes ++ [0, 0, 0, 0] } b

/-- What the checks of an MTX descriptor for CAN find (Table 12.3). -/
def canMtxCheck (b : Block) (d : Desc) (bytes : List Byte) : Option Nat :=
  let c := mtxPort d
  let o := 128 * c + mtxObject d
  if 15 < c ∨ !ctlEn b c ∨ !objEn b o ∨ !objTx b o ∨ objMode b o ≠ 0 then some stBAD_TARGET
  else if bytes.length < 8 ∨ bytes.length ≠ fld (wAt d.w 2) 0 16 ∨ !frameOk (ctlFd b c) (frameOf bytes) then some stBAD_VALUE
  else if !isActive b then some stROLE
  else none

/-- CAN_LAUNCH: the next descriptor of an MTX ring reaches its HOST object, at its launch tick or after its fetch (R108, R402). -/
def canLaunch (n : Nat) (b : Block) : Block :=
  match mtxNext b n with
  | none => b
  | some d =>
    match mtxPayload d with
    | none => b
    | some bytes =>
      let o := 128 * mtxPort d + mtxObject d
      if mtxBus d ≠ 1 ∨ (!d.late ∧ b.tb < mtxLaunch d) then b
      else if !isActive b ∨ objStopped b o ∨ (ctlAt b (o / 128)).state = 3 then completeWith n d.idx stTX_FAILED 0 b
      else if (objAt b o).pend.isSome then b
      else
        let f := frameOf bytes
        let f := { f with data := putSeq b 1 (o / 128) (o % 128) 0 f.data }
        modObj o (fun x => { x with pend := some { frame := f, mtx := some (n, d.idx), late := d.late } })
          (modDesc n d.idx (fun d => { d with handed := true }) b)

/-- The place of a frame in arbitration (R403): its bits in the order of the bus. -/
def arbKey (f : CanFrame) : Nat :=
  if f.ide then ((f.ident / 2 ^ 18 * 2 + 1) * 2 + 1) * 2 ^ 19 + f.ident % 2 ^ 18 * 2 + b1 f.rtr
  else (f.ident * 2 + b1 f.rtr) * 2 * 2 ^ 19

/-- CAN_MODE_CHANGE: at bus idle the controller takes the mode of the role (R389). -/
def canModeChange (c : Nat) (b : Block) : Block :=
  if 2 ≤ (ctlAt b c).state ∨ (inArbObj b c).isSome then b
  else modCtl c (fun x => { x with monitor := !isActive b }) b

/-- CAN_ATTEMPT_START: at bus idle the controller takes the mode of the role, and the pending frame that arbitration prefers starts (R389,
R403). -/
def canAttemptStart (c : Nat) (b : Block) : Block :=
  let b := canModeChange c (canSweep b)
  let x := ctlAt b c
  if 2 ≤ x.state ∨ x.monitor ∨ ctlHolding b c ∨ (inArbObj b c).isSome then b else
  let best := (ctlPending b c).foldl (fun (a : Option (Nat × Nat)) o =>
    match (objAt b o).pend with
    | none => a
    | some p =>
      match a with
      | none => some (arbKey p.frame, o)
      | some (k, _) => if arbKey p.frame < k then some (arbKey p.frame, o) else a) none
  match best with
  | none => b
  | some (_, o) => modObj o (fun x => { x with pend := x.pend.map fun p => { p with inArb := some b.tb } }) b

/-- The frame that waited for the end of an attempt becomes pending in its place (R401). -/
def promote (o : Nat) (next : Option CanFrame) (b : Block) : Block :=
  match next with
  | none => modObj o (fun x => { x with pend := none }) b
  | some f => modObj o (fun x => { x with pend := some { frame := { f with data := putSeq b 1 (o / 128) (o % 128) 0 f.data } } }) b

/-- A transmitter measures its delay in an FD frame with BRS; edges earlier than TDCF ticks do not count (R391). -/
def tdcMeasured (b : Block) (c tdcv : Nat) (f : CanFrame) : Bool := ctlTdcEn b c && f.fdf && f.brs && decide (ctlTdcf b c ≤ tdcv)

/-- The delay measured exceeds 127 ticks: a bit error with LEC 7 (R391). -/
def tdcOver (b : Block) (c tdcv : Nat) (f : CanFrame) : Bool := tdcMeasured b c tdcv f && decide (127 < tdcv)

/-- TDCV as measured (R391). What the bit comparisons at the secondary sample point TDCV + TDCO find is an operand of the attempt: bits
lie below the commands. -/
def measureTdc (c tdcv : Nat) (f : CanFrame) (b : Block) : Block :=
  if tdcMeasured b c tdcv f then modCtl c (fun x => { x with tdcv := min 127 tdcv }) b else b

/-- The counts after an error of the controller's own attempt (R405). -/
def txError (c : Nat) (e : CanFailure) (b : Block) : Block :=
  let free := e.exempt ∨ (e.lec = 3 ∧ (ctlAt b c).state = 1 ∧ !e.dominant)
  let b := modCtl c (fun x => { x with
    lec := e.lec, errs := sat16 x.errs 1
    tec := min 511 (x.tec + (if free then 0 else 8) + 8 * e.eights)
    ackRun := if e.lec = 3 then sat8 x.ackRun 1 else x.ackRun }) b
  let b := if e.lec = 7 then canLatch c clTDC 0 b else b
  if e.lec = 3 ∧ 16 ≤ (ctlAt b c).ackRun ∧ !(ctlAt b c).alone then
    canLatch c clALONE 0 (modCtl c (fun x => { x with alone := true }) b)
  else b

/-- CAN_ATTEMPT_FAILED: the attempt loses arbitration or meets an error; the frame is retried or ends (R403, R404). A delay beyond 127
ticks is the error LEC 7, and nothing else is (R391). -/
def canAttemptFailed (c : Nat) (e : CanFailure) (tdcv : Nat) (b : Block) : Block :=
  match inArbObj b c with
  | none => b
  | some o =>
    match (objAt b o).pend with
    | none => b
    | some p =>
      if !e.lost && e.lec == 7 && !tdcOver b c tdcv p.frame then b else
      let e := if tdcOver b c tdcv p.frame then { e with lec := 7 } else e
      let b := if e.lost then b else txError c e (measureTdc c tdcv p.frame b)
      let b :=
        if p.cancel then dropPend o stCANCELLED b
        else if p.frame.oneShot ∨ objStopped b o ∨ !isActive b then
          match p.next with
          | some f => promote o (some f) (dropPend o stTX_FAILED b)
          | none => dropPend o stTX_FAILED b
        else match p.next with
          | some f => promote o (some f) (dropPend o stTX_FAILED b)
          | none => modObj o (fun x => { x with pend := some { p with inArb := none } }) b
      canErrState c b

/-- CAN_TX_COMPLETE: the attempt of a controller succeeds (R400, R404, R405). `tdcv` is the delay its transmitter has measured; beyond 127
ticks it is a bit error (R391). -/
def canTxComplete (c tdcv : Nat) (b : Block) : Block :=
  match inArbObj b c with
  | none => b
  | some o =>
    match (objAt b o).pend with
    | none => b
    | some p =>
      if tdcOver b c tdcv p.frame then canAttemptFailed c { lost := false, lec := 7, dominant := true, exempt := false, eights := 0 } tdcv b else
      let sof := p.inArb.getD b.tb
      let b := emit (.can c (o % 128) (p.frame.withEsi ((ctlAt b c).state == 1)).bytes) (perf 8 c 0x1F b)
      let b := modCtl c (fun x => { x with tx := wrap32 x.tx 1, tec := x.tec - 1, ackRun := 0 }) (measureTdc c tdcv p.frame b)
      let b := canErrState c b
      let b := modObj o (fun x => { x with sent := some { frame := p.frame, tick := sof } }) b
      let b := promote o p.next (seqAdvance 1 c (o % 128) b)
      match p.mtx with
      | none => b
      | some (n, idx) =>
        let b := complete n idx { status := if p.cancel then stSENT_CANCEL_LATE else mtxSent p.late, tick := sof } b
        if p.cancel then canLatch c clCANCEL 0 (modCtl c (fun x => { x with lateCancels := sat8 x.lateCancels 1 }) b) else b

/-- ERROR_FRAME_DETECTED: an error while another node's frame is received; `one` and `eights` are the steps ISO 11898-1 adds to REC. In bus
monitoring mode the counters stay (R389, R405). -/
def canErrorFrame (c lec : Nat) (one : Bool) (eights : Nat) (b : Block) : Block :=
  let x := ctlAt b c
  if 2 ≤ x.state then b else
  canErrState c (modCtl c (fun x => { x with
    lec := lec, errs := sat16 x.errs 1
    recc := if x.monitor then x.recc else min 255 (x.recc + b1 one + 8 * eights) }) b)

/-- A write of RECOVER (R406). -/
def canRecover (c : Nat) (b : Block) : Block :=
  if (ctlAt b c).state = 2 then modCtl c (fun x => { x with recovering := true }) b else b

/-- RECOVERED: 128 occurrences of 11 recessive bits have passed (R406). -/
def canRecovered (c : Nat) (b : Block) : Block :=
  let x := ctlAt b c
  if x.state = 2 ∧ x.recovering then
    canLatch c clRECOVERED 0 (setCtlState c 0 (modCtl c (fun x => { x with recovering := false, tec := 0, recc := 0 }) b))
  else b

/-- CLR_COUNTS: clears 0x20 to 0x2C (Table 12.7). -/
def canClrCounts (c : Nat) (b : Block) : Block :=
  modCtl c (fun x => { x with rx := 0, tx := 0, catchDrops := 0, unmatched := 0, errs := 0, busOff := 0, lateCancels := 0 }) b

/-- A cancel reaches the controller for a frame that was handed over (Table 12.4). -/
def canCancel (n idx : Nat) (b : Block) : Block :=
  match b.can.objs.find? fun x => match x.2.pend with | some p => p.mtx == some (n, idx) | none => false with
  | none => b
  | some (o, x) =>
    match x.pend with
    | none => b
    | some p =>
      if p.inArb.isNone then dropPend o stCANCELLED b
      else modObj o (fun x => { x with pend := some { p with cancel := true } }) b

/-- LOCK of a receive object: none when another ring holds it (R394, R408). -/
def canLock (o n : Nat) (v : Word) (b : Block) : Option Block :=
  match (objAt b o).locked with
  | some (r, _) =>
    if r ≠ n then none
    else some (if v = 0 then objUnlock o b else b)
  | none => some (if v = 0 then b else modObj o (fun x => { x with locked := some (n, b.tb) }) b)

/-- The reply of a DATA read, and the module after it: the read returns OVERRUN and clears it (R394, Table 12.6). -/
def canData (o : Nat) (b : Block) : List Byte × Block :=
  let x := objAt b o
  let t := if objTx b o then x.sent else x.main
  let f := (t.getD {}).frame
  (wordBytes f.id ++ wordBytes f.ctl ++ leBytes 8 (t.getD {}).tick ++ wordBytes (objStatus b o) ++ [0, 0, 0, 0] ++ f.data,
   modObj o (fun x => { x with overrun := false }) b)

/-- LOCK_TMO: a lock has been held for 100 ms (R408). -/
def canLockTmo (o : Nat) (b : Block) : Block :=
  match (objAt b o).locked with
  | some (_, t) => if b.tb < t + 10000000 then b else canLatch (o / 128) clLOCK o (objUnlock o b)
  | none => b

/-- The records of a controller are the same in two configurations (R407). -/
def ctlSame (old new : Block) (c : Nat) : Bool :=
  (List.range 6).all (fun i => canCtl old c i == canCtl new c i) &&
    (List.range 128).all fun o => (List.range 3).all fun i => canObj old (128 * c + o) i == canObj new (128 * c + o) i

/-- A bank comes into force or goes out of force: a controller whose records change stops and starts afresh (R407). -/
def canBank (old : Block) (b : Block) : Block :=
  (List.range 16).foldl (fun b c =>
    if ctlSame old b c ∧ ctlEn b c then b else
    let b := dropPending c true b
    let b := modCan (fun x => { x with objs := x.objs.filter fun p => p.1 / 128 != c }) b
    let b := modCtl c (fun x => { x with
      monitor := ctlEn b c && !isActive b && !isFenced b (.can c), alone := false, recovering := false, lec := 0, tec := 0, recc := 0, ackRun := 0
      tdcv := 0, caught := [] }) b
    setCtlState c (if ctlEn b c && !isFenced b (.can c) then 0 else 3) b) b

/-- Frames of the catch buffer go to CATCH_RING while it takes them (R397, R399). -/
def canDrainN : Nat → Nat → Block → Block
  | 0, _, b => b
  | k + 1, c, b =>
    let n := ctlCatchRing b c
    match (ctlAt b c).caught with
    | [] => b
    | x :: xs =>
      if (ring b n).state = .running ∧ (ring b n).kind = tMRX ∧ mrxUsed b + 8 + x.frame.data.length ≤ 131072 then
        canDrainN k c (modCtl c (fun y => { y with caught := xs })
          (stageMrx n { bus := 1, port := c, obj := x.obj.getD 0, time := x.tick, body := x.frame.bytes
                        flags := 1 + if x.obj.any fun o => (objAt b (128 * c + o)).overrun then fOVERRUN else 0 } b))
      else b

/-- Every catch buffer drains. -/
def canDrain (b : Block) : Block := b.can.ctls.foldl (fun b p => canDrainN 16 p.1 b) b

/-- A controller stages a frame: the catch buffer drains first, and a frame it cannot drain for want of room leaves none for this one (R105,
R397; log 171). -/
def canStage (c n : Nat) (f : RxFrame) (b : Block) : Block :=
  let b := canDrainN 16 c b
  let wait := ring b (ctlCatchRing b c)
  if (ctlAt b c).caught ≠ [] ∧ wait.state = .running ∧ wait.kind = tMRX then dropMrx n b else stageMrx n f b

/-- The catch buffer takes a frame, and drains before and after (R397). -/
def canCatch (c : Nat) (obj : Option Nat) (f : CanFrame) (b : Block) : Block :=
  let b := canDrainN 16 c b
  let n := (ctlAt b c).caught.length
  if 16 ≤ n then fire (144 + c) (regOf [(0, 5, n), (8, 1, 1)]) (modCtl c (fun x => { x with catchDrops := sat16 x.catchDrops 1 }) b)
  else
    canDrainN 16 c (fire (144 + c) (regOf [(0, 5, n + 1)])
      (modCtl c (fun x => { x with caught := x.caught ++ [{ frame := f, obj := obj, tick := b.tb }] }) b))

/-- A receive object takes a frame (R394): one of the tick of the lock is stored first and the lock then applies to it; one that finds the
shadow full waits for the end of its tick, for an unlock at the same tick goes first. -/
def objTake (o : Nat) (f : CanFrame) (b : Block) : Block :=
  let t : CanTaken := { frame := f, tick := b.tb }
  modObj o (fun x =>
    if x.locked.all fun l => l.2 == b.tb then { x with main := some t }
    else if x.shadow.isNone then { x with shadow := some t }
    else { x with third := some t }) b

/-- A tick ends: frames that found the shadow full overwrite it (R394). -/
def overrunTick (b : Block) : Block :=
  (b.can.objs.filter fun p => p.2.third.isSome).foldl (fun b p =>
    canLatch (p.1 / 128) clOVERRUN p.1
      (modObj p.1 (fun x => { x with shadow := x.third, third := none, overrun := true, events := sat16 x.events 1 }) b)) b

/-- The counts at a valid frame from another node (R405). REC above 127 falls to a value ISO 11898-1 leaves within 119 to 127. -/
def rxGood (c : Nat) (b : Block) : Block :=
  let x := ctlAt b c
  let (r, b) := if x.monitor then (x.recc, b)
    else if 127 < x.recc then
      let (v, b) := takeFree b
      (119 + v.toNat % 9, b)
    else (x.recc - 1, b)
  canErrState c (modCtl c (fun x => { x with rx := wrap32 x.rx 1, ackRun := 0, alone := false, recc := r }) b)

end Sys2Proof.Machine
end

