-- ==== Sys2Proof/Machine/LpeBase.lean ====
section
/-! DEFINITION. Loop contexts: their states, output candidates, fail actions, lanes, and what a role, a bank or a fence does to them
(R242, R249, R250, R253, R259). -/

namespace Sys2Proof.Machine

def modLpe (f : Lpe → Lpe) (b : Block) : Block := { b with lpe := f b.lpe }
def modCtx (c : Nat) (f : LpeCtx → LpeCtx) (b : Block) : Block := modLpe (fun l => { l with ctxs := tmod {} l.ctxs c f }) b
def modSlot (s : Nat) (f : TuneSlot → TuneSlot) (b : Block) : Block := modLpe (fun l => { l with slots := tmod {} l.slots s f }) b

/-- A context takes a state of Table 8.14: ES080, and ES081 on entry into and exit from HOLD_PV (R259, R271). -/
def setCtxState (c v : Nat) (b : Block) : Block :=
  let old := (ctxAt b c).state
  if old = v then b else
  let b := fire 80 (regOf [(0, 8, c), (8, 4, v)]) (modCtx c (fun x => { x with state := v }) b)
  if v = 4 then fire 81 (regOf [(0, 8, c), (8, 1, 1)]) b
  else if old = 4 then fire 81 (regOf [(0, 8, c)]) b
  else b

/-- Source number of a DP engine candidate (loops are 0 to 255). -/
def dpSrc (n : Nat) : Nat := 1000 + n

/-- Write an output as the candidate of source `src` on the target a word names (R101, R253). `loop` tells a loop's priority from the DP
engine's. -/
def writeTarget (w : Word) (src : Nat) (loop : Bool) (v : Word) (b : Block) : Block :=
  let a := tgA w
  let i := tgB w
  match tgKind w with
  | 1 => setCand (engKey w) src (chnLoopPrio b a) v b
  | 2 => setCand (engKey w) src (if loop then objLoopPrio b (128 * a + i) else objDpPrio b (128 * a + i)) v b
  | 3 => modCtx a (fun x => { x with casc := some v }) b
  | 4 => setCand (engKey w) src 0 v b
  | 5 => setCand (engKey w) src (fld (tdCfg b a i) (if loop then 12 else 15) 3) v b
  | _ => b

/-- Withdraw that candidate. -/
def dropTarget (w : Word) (src : Nat) (b : Block) : Block :=
  match tgKind w with
  | 0 => b
  | 3 => modCtx (tgA w) (fun x => { x with casc := none }) b
  | _ => dropCand (engKey w) src b

def writeOut (c : Nat) (v : Word) (b : Block) : Block := writeTarget (lpeOut b c) c true v b
def dropOut (c : Nat) (b : Block) : Block := dropTarget (lpeOut b c) c b

/-- FAIL_ACTION (R259). -/
def applyFail (c : Nat) (b : Block) : Block :=
  match lpeFail b c with
  | 1 => writeOut c (lpeOutMin b c) b
  | 2 => writeOut c (lpeOutMax b c) b
  | 3 => dropOut c b
  | _ => b

/-- A context enters FAILED; its FAIL_ACTION follows at its next instant (R250, Table 15.1). While the engine does not evaluate it stays IDLE
(R242). -/
def failCtx (c : Nat) (b : Block) : Block :=
  let b := modCtx c (fun x => { x with ready := none, run := none, failed := true, failAt := if x.failed then x.failAt else none }) b
  if lpeOn b then setCtxState c 6 b else b

/-- A tune slot takes a state: ES083 (R264). -/
def setSlotState (s v reason : Nat) (b : Block) : Block :=
  let l := (tuneAt b s).loop
  let b := modSlot s (fun x => if v = 0 then {} else { x with state := v, reason := reason }) b
  fire 83 (regOf [(0, 8, l), (8, 2, s), (10, 2, v), (12, 4, reason)]) b

/-- A running tune fails; a relay that has begun leaves through u0 at the next evaluation (R264). -/
def failTune (s reason : Nat) (b : Block) : Block :=
  let t := tuneAt b s
  if t.state ≠ 1 then b else
  setSlotState s 3 reason (if t.begun then modCtx t.loop (fun x => { x with exit := some t.u0 }) b else b)

/-- Slots of the four that run. -/
def runningTunes (b : Block) : List Nat := (List.range 4).filter fun s => (tuneAt b s).state == 1

/-- The running tune of a loop. -/
def tuneOf (b : Block) (c : Nat) : Option Nat := (runningTunes b).find? fun s => (tuneAt b s).loop == c

/-- What a context starts from (R258). -/
def freshCtx (x : LpeCtx) : LpeCtx := { state := x.state, overruns := x.overruns, failed := x.failed }

/-- A context becomes IDLE: it holds no candidate, and its registers keep what the last evaluation left (R242). -/
def idleCtx (c : Nat) (b : Block) : Block :=
  setCtxState c 1 (modCtx c (fun x => { x with
    first := true, soft := true, track := true, exit := none, evalAt := none, ready := none, run := none, casc := none
    accept := none }) (dropOut c b))

/-- The role changes (R242, R264 reason 6); a context that has failed is in FAILED while the module is Active (R250). -/
def lpeRole (old new : Nat) (b : Block) : Block :=
  if old = 0 ∧ new ≠ 0 then
    (lpeList b).foldl (fun b c => idleCtx c b) ((runningTunes b).foldl (fun b s => failTune s 6 b) b)
  else if old ≠ 0 ∧ new = 0 ∧ lpeOn b then
    (lpeList b).foldl (fun b c => if (ctxAt b c).failed then setCtxState c 6 b else b) b
  else b

/-- A context of the bank in force runs on a logical lane (R249, R250). -/
def laneUsed (b : Block) (l : Nat) : Bool := (lpeList b).any fun c => lpeLane b c == l

/-- The logical lane on a physical lane: the one the bank uses, where a lane it leaves unused stands there too (R249, R250). -/
def laneOn (b : Block) (p : Nat) : Option Nat :=
  let on := (List.range 16).filter fun l => lanePhys b l == some p
  (on.find? (laneUsed b)).or on.head?

/-- Spares that carry no lane and are not fenced. -/
def freeSpares (b : Block) : List Nat := ([16, 17] : List Nat).filter fun p => !isFenced b (.loopLane p) && (laneOn b p).isNone

/-- A physical lane is fenced: the instance that runs on it is abandoned, and its writes are discarded (R249, R250). -/
def laneFence (p : Nat) (b : Block) : Block :=
  match laneOn b p with
  | none => fire 85 (regOf [(0, 5, p)]) b
  | some l =>
    let b := modLpe (fun x => { x with laneMoves := satAdd 4095 x.laneMoves 1, laneEnd := tset 0 x.laneEnd l b.tb }) b
    let b := ((lpeList b).filter fun c => lpeLane b c == l).foldl (fun b c => modCtx c (fun x => { x with run := none }) b) b
    match (freeSpares b).head? with
    | some s => fire 85 (regOf [(0, 5, p), (8, 4, l), (12, 1, 1)]) (modLpe (fun x => { x with moved := tset 0 x.moved l (s + 1) }) b)
    | none =>
      let b := fire 85 (regOf [(0, 5, p), (8, 4, l)]) (modLpe (fun x => { x with moved := tset 0 x.moved l (p + 129) }) b)
      ((lpeList b).filter fun c => lpeLane b c == l).foldl (fun b c => failCtx c b) b

/-- SAFE of a row group of the context array (Table 15.3; which contexts a row group holds is the unit's, log 15). -/
def safeLoops (g : Nat) (b : Block) : Block :=
  ((lpeList b).filter fun c => Sys2Proof.Config.rowGroup c == g).foldl (fun b c => failCtx c b) b

/-- SAFE of the lane that a margin has run out on (Table 15.7). -/
def safeLoopLane (p : Nat) (b : Block) : Block :=
  ((lpeList b).filter fun c => lanePhys b (lpeLane b c) == some p).foldl (fun b c => failCtx c b) b

/-- The lane map of a bank: a logical lane whose own lane is fenced takes the lowest free spare, or the lowest lane the bank leaves unused
(R247, R249, R250). -/
def laneMap (b : Block) : Block :=
  let used := (List.range 16).filter (laneUsed b)
  let b := modLpe (fun x => { x with moved := [] }) b
  (used.filter fun l => isFenced b (.loopLane l)).foldl (fun b l =>
    let spare := (freeSpares b).head?
    let other := (List.range 16).find? fun p => !used.contains p && !isFenced b (.loopLane p) &&
      (used.all fun m => m == p || lanePhys b m != some p)
    modLpe (fun x => { x with moved := tset 0 x.moved l (match spare.or other with | some p => p + 1 | none => l + 129) }) b) b

/-- A context of the bank before stays as it is (R69): CARRY, the same process-value source and the same output target. -/
def lpeCarried (old b : Block) (c : Nat) : Bool :=
  b.glb.active && secCarry b.glb.activeBank.mem 4 && old.glb.active && lpeEn old c && lpeEn b c &&
    lpePvSrc old c == lpePvSrc b c && lpeOut old c == lpeOut b c

/-- A context that a bank does not carry starts anew (R258). -/
def startCtx (c : Nat) (b : Block) : Block := modCtx c (fun x => { freshCtx x with failed := false }) b

/-- A context that a bank carries (R69): it keeps its integrator, its ramp and the u0 of a tune that has ended (R264), and its cascade input where
the bank carries the loop above too; the instance that runs is abandoned (R68). -/
def carryCtx (old : Block) (c : Nat) (b : Block) : Block :=
  let above := lpeCarried old b (skA (lpeSpSrc b c))
  let b := modCtx c (fun x => { x with
    carried := true, accept := none, ready := none, run := none, failed := false, st := x.st &&& 0x7FE0#32
    casc := if above then x.casc else none }) b
  if (ctxAt b c).state = 6 then setCtxState c 1 b else b

/-- A bank comes into force or goes out of force (R69, R242, R258, R264 reason 7). A carried context keeps its integrator, its ramp, SP and MODE;
the gains and RAMP return to the bank's (R265). -/
def lpeBank (old : Block) (b : Block) : Block :=
  let b := (runningTunes b).foldl (fun b s => failTune s 7 b) b
  let b := modLpe (fun x => { x with laneEnd := [] }) (laneMap b)
  (List.range 256).foldl (fun b c =>
    if !(b.glb.active && lpeEn b c) then
      (if (ctxAt b c).state = 0 then b else modCtx c (fun _ => {}) (setCtxState c 0 b))
    else
      let keep := lpeCarried old b c
      let fields := if keep then [2, 3, 4, 6] else [0, 1, 2, 3, 4, 6]
      let b := fields.foldl (fun b f => modTarget (targetKey 2 c f) (fun t => { t with inForce := lpeBankField b c f }) b) b
      let b := if keep then carryCtx old c b else startCtx c b
      if (lanePhys b (lpeLane b c)).isNone then failCtx c b
      else if keep then b else setCtxState c 1 b) b

end Sys2Proof.Machine
end

