-- ==== Sys2Proof/Machine/DpBase.lean ====
section
/-! DEFINITION. DP engine: updates, sample buffers, DP_STATE, and what a role or a bank does to it (R277, R281, R306, R312, R343). -/

namespace Sys2Proof.Machine

def modDp (f : Dp → Dp) (b : Block) : Block := { b with dp := f b.dp }
def modDpSlot (s : Nat) (f : DpSlot → DpSlot) (b : Block) : Block := modDp (fun d => { d with slots := tmod {} d.slots s f }) b
def modThr (n : Nat) (f : DpThr → DpThr) (b : Block) : Block := modDp (fun d => { d with thrs := tmod {} d.thrs n f }) b
def modGrp (g : Nat) (f : DpResult → DpResult) (b : Block) : Block := modDp (fun d => { d with grps := tmod {} d.grps g f }) b

/-! Samples. -/

/-- Nanoseconds of the day of a clock. -/
def dayNs (c : Nat) : Nat := clkSec c % 86400 * 1000000000 + clkNs c

/-- Field k of a sensor as it stands in its source: its value, and whether it is good (R275). -/
def slotField (b : Block) (s k : Nat) : Num × Bool :=
  let w := snField b s k
  if skKind w = 0 then (f0, true) else
  match srcRaw b w with
  | none => (f0, false)
  | some x =>
    if snType b s = 0 ∧ k < 2 then (num x.bits, true) else
    match x.num with
    | none => (f0, false)
    | some y =>
      let v := ((num y).mul (num (snScale b s k))).add (num (snOffset b s k))
      (v, fLe (snMin b s k) v.v && fLe v.v (snMax b s k))

/-- The sample that a sensor's source now shows, with its receive and arrival ticks (R277). -/
def slotSample (b : Block) (s rx arr : Nat) : DpSample :=
  let fs := (List.range 3).map (slotField b s)
  let t := if snOwn b s then (srcRaw b (snTime b s)).map fun x => x.bits.toNat else none
  let tOk : Bool := match t with
    | some x => decide (x ≤ 86399999)
    | none => !snOwn b s
  { rx := rx, arr := arr, v := fs.map (·.1.v), sat := fs.any (·.1.sat), good := (fs.all (·.2)) && tOk, tSensor := if tOk then t else none, vtDay := dayNs (vtAt b rx) }

/-- A sample enters a sensor's buffer; the oldest one makes room (R281). -/
def slotPush (s rx arr : Nat) (b : Block) : Block :=
  let x := slotSample b s rx arr
  modDpSlot s (fun y =>
    let full := decide (snDepth s ≤ y.buf.length)
    { y with buf := (if full then y.buf.drop 1 else y.buf) ++ [x], aLast := some arr, overwrites := sat8 y.overwrites (b1 full) }) b

/-- A source unit has a new sample received at `rx` and arrived at `arr`: every enabled sensor that reads it takes one (R275, R277, R451). -/
def dpFeed (unit : Nat × Nat) (rx arr : Nat) (b : Block) : Block :=
  if !dpOn b then b else
  ((List.range 28).filter fun s => snEn b s && srcUnit (snField b s 0) == unit).foldl (fun b s => slotPush s rx arr b) b

/-- A channel's entry for instant `t` has been written: a sensor whose F0 and F1 entries for it are both there takes a sample (Table 9.3). -/
def dpFeedChan (n t : Nat) (b : Block) : Block :=
  if !dpOn b then b else
  ((List.range 28).filter fun s =>
    let w0 := snField b s 0
    let w1 := snField b s 1
    snEn b s && skKind w0 == 1 && (skA w0 == n || (skKind w1 == 1 && skA w1 == n)) && (chanAt b (skA w0)).cur.tick == t &&
      (skKind w1 != 1 || (chanAt b (skA w1)).cur.tick == t)).foldl (fun b s => slotPush s t b.tb b) b

/-! The engine's state. -/

/-- DP_STATE changes: ES128 with a cause (R345). -/
def setDpState (v cause : Nat) (b : Block) : Block :=
  if b.dp.state = v then b else
  fire 128 (regOf [(0, 2, v), (2, 3, cause)]) (modDp (fun d => { d with state := v, fresh := v == 3 }) b)

/-- EST_STATE changes: ES129 (R321). -/
def setEst (v : Nat) (b : Block) : Block :=
  if b.dp.est = v then b else fire 129 (regOf [(0, 2, v)]) (modDp (fun d => { d with est := v }) b)

/-- Withdraw the candidates of one thruster. -/
def dropThr (n : Nat) (b : Block) : Block := dropTarget (thOut b n 1) (dpSrc n) (dropTarget (thOut b n 0) (dpSrc n) b)

/-- Withdraw every thruster's candidates. -/
def dropThrs (b : Block) : Block := (thrusters b).foldl (fun b n => modThr n (fun x => { x with heldB := false }) (dropThr n b)) b

/-- FUSION_MODE in force takes a value: ES116 (R292, R309). -/
def setFusion (v cause : Nat) (b : Block) : Block :=
  let b := modTarget (targetKey 3 0x20 0) (fun t => { t with inForce := w32 v }) b
  if b.dp.mode = v then b else
  fire 116 (regOf [(0, 1, v), (1, 3, cause)])
    (modDp (fun d => { d with mode := v, alignedFrom := if v = 0 then some b.tb else none, missed := [] }) b)

/-- STATE of a sensor follows its causes: ES112 at a change (R297, R309). -/
def slotShow (s : Nat) (b : Block) : Block :=
  let v := slotState b s
  let old := (dpSlot b s).state
  fireIf (old != v) 112 (regOf [(0, 5, s), (8, 3, v)]) (modDpSlot s (fun x => { x with state := v }) b)

/-- KN and KE for an origin (R283). -/
def originScale (lat : Word) : Word × Word :=
  let rad := ((fOfInt lat.toInt).mul fPi).div (num 0x4ED693A4)
  let s := num (Sys2Proof.Config.sinF rad.v)
  let c := num (Sys2Proof.Config.cosF rad.v)
  let a := num 0x4AC2A532
  let e2 := num 0x3BDB5C88
  let w := f1.sub ((e2.mul s).mul s)
  let rw := w.sqrt
  let k := fPi.div (num 0x4ED693A4)
  ((((a.mul (f1.sub e2)).div (w.mul rw)).mul k).v, (((a.div rw).mul c).mul k).v)

/-- The origin takes a value (R283). -/
def setOrigin (lat lon : Word) (b : Block) : Block :=
  let (kn, ke) := originScale lat
  modDp (fun d => { d with lat0 := lat, lon0 := lon, kn := kn, ke := ke }) b

/-- Intake starts afresh (R306): empty buffers, trackers restarted. Counters stay. -/
def freshSlot (x : DpSlot) : DpSlot :=
  { overwrites := x.overwrites, accepted := x.accepted, lateCount := x.lateCount, faults := x.faults, tqEntries := x.tqEntries
    voteOuts := x.voteOuts, noHdg := x.noHdg, state := x.state }

/-- A sensor starts afresh: without a sample it is in DROPOUT (R293; log 97). -/
def slotFresh (s : Nat) (b : Block) : Block := slotShow s (modDpSlot s (fun x => { freshSlot x with dropout := snEn b s }) b)

/-- Every sensor starts afresh. -/
def slotsFresh (b : Block) : Block := (List.range 28).foldl (fun b s => slotFresh s b) b

/-- A thruster is not available any more: ES132 (R329). -/
def thrLost (n : Nat) (b : Block) : Block :=
  if (dpThr b n).avail then
    fire 132 (regOf [(0, 5, n), (8, 1, 0)]) (modThr n (fun x => { x with avail := false, prev := 0, fx := 0, fy := 0 }) b)
  else b

/-- VERDICT of a group, or 0x20 for the intact solve, changes: ES133. -/
def verdictEvent (g old new : Nat) (b : Block) : Block := fireIf (old != new) 133 (regOf [(0, 6, g), (8, 3, new)]) b

/-- The consequence results and CONSEQ go: ES133 and ES134 (R345). -/
def verdictsGo (b : Block) : Block :=
  let old := b.dp
  let b := modDp (fun d => { d with grps := [], intact := {}, conseq := false, conseqClear := 0 }) b
  let b := (List.range 32).foldl (fun b g => verdictEvent g (tget {} old.grps g).verdict 0 b) b
  fireIf old.conseq 134 0 (verdictEvent 0x20 old.intact.verdict 0 b)

/-- The engine stops (R312). Commands that wait for a boundary stay with their rings. -/
def dpStop (cause : Nat) (b : Block) : Block :=
  let b := verdictsGo ((List.range 24).foldl (fun b n => thrLost n b) (dropThrs b))
  let b := setEst 0 (setDpState 0 cause b)
  let clear := fun (x : DpThr) => { x with avail := false, side := false, prev := 0, fx := 0, fy := 0 }
  modDp (fun d => { d with
    thrs := tmap {} clear d.thrs
    x := [], p := [], drTime := 0, rejRun := 0, predHold := false, hat := [], hdgAge := 0, sp := [], integ := [], tau := [], ach := [], res := []
    achs := [], seed := [], sat := 0, numSat := false, windOn := false, fw := [], tauCa := [], resumed := false
    resume := none, fresh := false, cycle := {}, outAt := none, goodSince := none, alignedFrom := none, missed := []
    shiftN := 0, shiftE := 0, spHeres := d.spActs ++ d.spHeres, spActs := [] }) b

/-- Previous command of a thruster for the seed, packed. -/
def thrStep (b : Block) (n : Nat) : Num := ((thFwd b n).max (thRev b n)).div (fOfNat 32767)

/-- The 640 bytes of Table 10.10 for the state as it stands. -/
def dpSeedNow (b : Block) : List Byte :=
  let valid := 2 ≤ b.dp.state
  let flags := regOf [(0, 2, b.dp.state), (2, 2, b.dp.est), (4, 1, b1 (posJoy b)), (5, 1, b1 (hdgJoy b)), (6, 1, b1 valid)]
  leBytes 8 b.dp.tf ++ wordBytes flags ++ leBytes 2 (min 65535 b.dp.drTime) ++ [0, 0] ++ bytesOf ((List.range 15).map (wAt b.dp.x)) ++
    ((List.range 15).flatMap fun i => bytesOf (((List.range 15).filter (i ≤ ·)).map fun j => wAt (b.dp.p.getD i []) j)) ++
    bytesOf ((List.range 3).map (wAt b.dp.integ)) ++ bytesOf ((List.range 3).map (wAt b.dp.sp)) ++ bytesOf [b.dp.lat0, b.dp.lon0] ++
    ((List.range 24).flatMap fun n => leBytes 2 (if thEn b n then packVal' (num (dpThr b n).prev) (thrStep b n) else 0)) ++
    wordBytes (wordOfFn fun n => decide (n < 24) && (dpThr b n).side)
where packVal' (x step : Num) : Nat :=
  let n := fToInt (x.div step).v
  ((max (-32767) (min 32767 n)) % 65536).toNat

/-- The state as it stands becomes what the seed record shows, until a cycle completes (R27, R341). -/
def dpSeedTake (b : Block) : Block := modDp (fun d => { d with seed := dpSeedNow b }) b

/-- The engine starts: no estimate exists (Table 10.1), intake starts afresh (R306), the mode is latest-value (R292), and the fields have the bank's values. -/
def dpStart (cause fusion : Nat) (b : Block) : Block :=
  let b := (dpFields b).foldl (fun b p => modTarget (targetKey 3 p.1 p.2) (fun t => { t with inForce := dpBankField b p.1 p.2 }) b) b
  let b := setOrigin (dpIn b 3) (dpIn b 4) (setFusion 1 fusion (slotsFresh b))
  dpSeedTake (setDpState 1 cause b)

/-- The role changes (R312). -/
def dpRole (old new : Nat) (b : Block) : Block :=
  if !dpHas b then b
  else if new = 0 ∧ old ≠ 0 then dpStart 2 2 b
  else if old = 0 ∧ new ≠ 0 then dpStop 4 b
  else b

/-- The DP state carries across a switch (R343). -/
def dpCarried (old b : Block) : Bool := dpHas b && secCarry b.glb.activeBank.mem 5 && dpHas old && old.ptn.role == 0

/-- A bank comes into force or goes out of force (R292, R343). -/
def dpBank (old : Block) (b : Block) : Block :=
  let b := modDp (fun d => { d with records := 0, cycles := 0, notDone := 0, overruns := 0, cycle := {} }) b
  if dpCarried old b then
    let keep := [(0x40, 3), (0x40, 4), (0x40, 5)]
    let b := ((dpFields b).filter fun p => !keep.contains p && p.1 < 0x40).foldl (fun b p =>
      if p = (0x20, 0) then b else modTarget (targetKey 3 p.1 p.2) (fun t => { t with inForce := dpBankField b p.1 p.2 }) b) b
    let b := ((List.range 24).filter fun n => !thEn b n).foldl (fun b n => thrLost n b) (slotsFresh b)
    modDp (fun d => { d with alignedFrom := if d.mode = 0 then some b.tb else none, missed := [] }) b
  else
    let b := modDp (fun d => { d with slots := tmap {} (fun x => { state := x.state }) d.slots }) (dpStop 3 b)
    if dpHas b then
      if b.ptn.role = 0 then dpStart 3 3 b
      else
        let b := (dpFields b).foldl (fun b p => modTarget (targetKey 3 p.1 p.2) (fun t => { t with inForce := dpBankField b p.1 p.2 }) b) b
        setOrigin (dpIn b 3) (dpIn b 4) (setFusion 1 3 (slotsFresh b))
    else slotsFresh b

/-- SAFE of the DP engine (Table 15.3): it takes place at the next boundary. -/
def dpSafe (b : Block) : Block := if b.dp.safe = 0 then modDp (fun d => { d with safe := 1 }) b else b

/-- Physical lane that a logical solver lane stands on. -/
def solverLane (b : Block) (l : Nat) : Nat :=
  let v := tget 0 b.dp.solverMap l
  if v = 0 then l else v - 1

/-- Physical lane of a logical solver lane, of `lu` in use (R338); none where it is fenced and no other was left for it. -/
def solverPhys (b : Block) (lu l : Nat) : Option Nat :=
  let p := solverLane b l
  if l < lu ∧ !isFenced b (.solverLane p) then some p else none

/-- Physical solver lanes that none of `lu` logical lanes stands on and that are not fenced, the spare first. -/
def solverFree (b : Block) (lu : Nat) : List Nat :=
  (List.range 9).reverse.filter fun p => !isFenced b (.solverLane p) && (List.range lu).all fun l => solverLane b l != p

/-- A logical solver lane moves to the first lane that is free, if one is (R338). -/
def solverMove (lu l : Nat) (b : Block) : Block :=
  match (solverFree b lu).head? with
  | some q => modDp (fun d => { d with solverMap := tset 0 d.solverMap l (q + 1) }) b
  | none => b

/-- At the start of the solves of a cycle, a logical lane that stands on a fenced lane moves to one that is free (R338; log 154). -/
def solverRemap (b : Block) : Block :=
  (List.range (solverLu b)).foldl (fun b l => if (solverPhys b (solverLu b) l).isNone then solverMove (solverLu b) l b else b) b

/-- The intact solve that runs on a fenced lane is abandoned: it runs its length anew on the lane that its logical lane has moved to; with no lane
left it is not done again, so that nothing is delivered and no group is solved in this cycle (R338; log 154). -/
def intactAgain (p : Nat) (b : Block) : Block :=
  let c := b.dp.cycle
  if p = c.intactPhys ∧ c.stage = 5 ∧ b.tb < c.endAt then
    modDp (fun d => { d with cycle := match solverPhys b c.lu 0 with
      | some q => { c with endAt := b.tb + c.intactDur, intactPhys := q }
      | none => { c with endAt := b.tb, deliver := false, lu := 0 } }) b
  else b

/-- The consequence solves that run on a fenced lane are abandoned, and their groups are the next ones of their logical lane (R338). -/
def groupsAgain (p : Nat) (b : Block) : Block :=
  modDp (fun d =>
    let c := d.cycle
    let gone := c.runs.filter fun r => r.phys == p
    { d with cycle := { c with
      runs := c.runs.filter fun r => r.phys != p
      todo := gone.map (·.g) ++ c.todo
      laneEnd := gone.foldl (fun t r => tset 0 t r.lane b.tb) c.laneEnd } }) b

/-- The logical lane on a physical solver lane, of those that the cycle uses, or that the next one will. -/
def solverOn (b : Block) (p : Nat) : Option Nat :=
  let lu := if b.dp.cycle.stage = 5 then b.dp.cycle.lu else min 8 (solverLu b + 1)
  (List.range lu).find? fun l => solverLane b l == p

/-- A solver lane is fenced (R338): ES136. Its logical lane moves, and the solve that was running there starts again. -/
def solverFence (p : Nat) (b : Block) : Block :=
  let fenced := countOf (fun q => isFenced b (.solverLane q)) (List.range 9)
  let lu := if b.dp.cycle.stage = 5 then b.dp.cycle.lu else min 8 (solverLu b + 1)
  let b := match solverOn b p with
    | some l => solverMove lu l b
    | none => b
  fire 136 (regOf [(0, 4, p), (8, 1, b1 (fenced ≤ 1))]) (groupsAgain p (intactAgain p b))

end Sys2Proof.Machine
end

