-- ==== Sys2Proof/Machine/EthBase.lean ====
section
/-! DEFINITION. Ethernet: updates, latches, sending, and what a role or a fence does to the networks (R423, R430, R437). -/

namespace Sys2Proof.Machine

def modNet (n : Nat) (f : Net → Net) (b : Block) : Block := modEth (fun e => { e with nets := tmod {} e.nets n f }) b
def modStream (j : Nat) (f : Stream → Stream) (b : Block) : Block := modEth (fun e => { e with streams := tmod {} e.streams j f }) b
def modTd (k : Nat) (f : Datagram → Datagram) (b : Block) : Block := modEth (fun e => { e with tds := tmod {} e.tds k f }) b

/-- Bits of ETH_NET_LATCH. -/
def nlLINK : Nat := 0
def nlWRONG : Nat := 1
def nlOVF : Nat := 2
def nlFIFO : Nat := 3
def nlFRAGMENT : Nat := 4

/-- Set a bit of ETH_NET_LATCH; the source of the network fires when it becomes set (R439). -/
def netLatch (n i : Nat) (b : Block) : Block :=
  let old := (netAt b n).latch
  let b := markBit (0x80124 + 0x40 * n) i (modNet n (fun x => { x with latch := putBit x.latch i true }) b)
  fireIf (!bit old i) (176 + n) (regOf [(0, 5, 2 ^ i), (5, 1, b1 (lanUp b n 0)), (6, 1, b1 (lanUp b n 1))]) b

/-! Sending. -/

/-- A frame leaves on the LANs that carry frames, with its trailer (R430). -/
def ethSend (n : Nat) (f : List Byte) (b : Block) : Block :=
  let lans := lansUp b n
  let body := f ++ List.replicate (60 - f.length) 0
  let seq := (netAt b n).seqNr
  if netSingle b n then lans.foldl (fun b l => emit (.eth n l body) b) b
  else
    let b := lans.foldl (fun b l => emit (.eth n l (body ++ rctBytes seq l (lsduSize body))) b) b
    modNet n (fun x => { x with seqNr := (x.seqNr + 1) % 65536 }) b

/-- A frame of the module's own whose bytes the standards fix leaves on the LANs that carry frames. -/
def ethSendOwn (n kind arg : Nat) (b : Block) : Block :=
  let seq := (netAt b n).seqNr
  let b := (lansUp b n).foldl (fun b l => emit (.ethOwn n l kind arg seq) b) b
  if netSingle b n then b else modNet n (fun x => { x with seqNr := (x.seqNr + 1) % 65536 }) b

/-- Membership reports of groups (R437). -/
def igmpReports (n : Nat) (gs : List Nat) (b : Block) : Block := gs.foldl (fun b g => ethSendOwn n 1 g b) b

/-- LANs that would carry a host frame: a PTP message of a domain uses its domain's LAN alone (R423). -/
def ethTxLans (b : Block) (n : Nat) (ptp : Option (Nat × Bool)) : List Nat :=
  match ptp with
  | some (k, _) => ([fld (timDomCfg b k) 11 1]).filter (lanUp b n)
  | none => lansUp b n

/-- Frames of a network that no LAN carries any more, or that a safety force stops, end unsent (R196, R434). -/
def ethFlush (n : Nat) (b : Block) : Block :=
  let (gone, kept) := (netAt b n).txq.partition fun x => (ethTxLans b n x.ptp).isEmpty || !netEn b n || (x.ptp.isNone && moduleForce b)
  gone.foldl (fun b x => completeWith x.ring x.idx stTX_FAILED 0 b) (modNet n (fun y => { y with txq := kept }) b)

/-- A fence on a port drops its link (Table 15.3). -/
def ethFence (p : Nat) (b : Block) : Block :=
  let n := p / 2
  ethFlush n (netLatch n nlLINK (modNet n (fun x => if p % 2 = 0 then { x with upA := false } else { x with upB := false }) b))

/-- Frames of host software that were fetched and not handed over end as the role leaves Active, but for PTP messages (R423, R434). -/
def ethFailMtx (b : Block) : Block :=
  (enabledRings b tMTX).foldl (fun b r =>
    ((ring b r).fetched.filter fun d => mtxBus d == 2 && d.done.isNone && !d.handed &&
      (mtxPayload d).any fun f => (ptpDomain b (mtxPort d) 2 f).isNone).foldl (fun b d => completeWith r d.idx stTX_FAILED 0 b) b) b

/-- A module that becomes Active reports its groups; one that leaves Active sends no frame and no datagram that still waits (R434, R437, R438). -/
def ethRole (old new : Nat) (b : Block) : Block :=
  if old ≠ 0 ∧ new = 0 ∧ !moduleForce b then (List.range 4).foldl (fun b n => if netEn b n then igmpReports n (netGroups b n) b else b) b
  else if old = 0 ∧ new ≠ 0 then ethFailMtx <| modEth (fun e => { e with tds := tmap {} (fun x => { x with waiting := none, due := [] }) e.tds }) b
  else b

end Sys2Proof.Machine
end

