-- ==== Sys2Proof/Machine/RingBase.lean ====
section
/-! DEFINITION. Rings that go down, with their link or alone, and what they take with them (R79, R83, R101, R114). -/

namespace Sys2Proof.Machine

/-- Ring error codes (Table 3.13). -/
def erCFG_INVALID : Nat := 1
def erDB_RANGE : Nat := 2
def erOWN_ERR : Nat := 3
def erFETCH_DMA : Nat := 4
def erWB_DMA : Nat := 5
def erLINK_DOWN : Nat := 6

def linkUp (b : Block) (l : Nat) : Bool := (hostLink b l).up && !isFenced b (.hostLink l)

/-! Orders (R101). -/

/-- Withdraw every standing order, and forget the waiting commands, of a ring. -/
def withdrawRing (n : Nat) (b : Block) : Block :=
  modRng (fun g => { g with targets := tmap {} (fun t => { t with
    orders := t.orders.filter fun o => o.ring != n
    superseded := t.superseded.filter fun x => x.1 != n
    releases := t.releases.filter fun x => x.1 != n }) g.targets }) b

/-- Staged outbound entries beyond the first `keep` are discarded and counted: images and frames on the ring, completion entries on
their CMD rings (Table 3.3). -/
def discardStaged (keep n : Nat) (b : Block) : Block :=
  let r := ring b n
  let lost := r.cpls.drop keep
  let b := modRing n (fun r => { r with
    drops := sat32 r.drops ((r.imgs.length - keep) + (r.frames.length - keep))
    evts := r.evts.take keep, imgs := r.imgs.take keep, frames := r.frames.take keep, cpls := r.cpls.take keep }) b
  lost.foldl (fun b c => modRing c.ring (fun r => { r with drops := sat32 r.drops 1 }) b) b

/-- The number that stands for the ring of a descriptor that is no longer held. -/
def noRing : Nat := 128

/-- What units still hold for descriptors of a ring that keeps none: it goes on without a descriptor to complete. -/
def detachRing (n : Nat) (b : Block) : Block :=
  let far := fun (r : Nat) => if r = n then noRing else r
  let hart := fun (t : HartTrans) => { t with ring := far t.ring }
  let canO := fun (x : CanObj) => { x with pend := x.pend.map fun p => { p with mtx := p.mtx.map fun m => (far m.1, m.2) } }
  let net := fun (x : Net) => { x with txq := x.txq.map fun t => { t with ring := far t.ring } }
  let ser := fun (x : SerPort) => { x with tx := x.tx.map fun t => (far t.1, t.2) }
  let chan := fun (c : Chan) => { c with acks := c.acks.map (fun a => (far a.1, a.2)), hart := { c.hart with flight := c.hart.flight.map hart, queue := c.hart.queue.map hart } }
  { b with
    can := { b.can with objs := tmap {} canO b.can.objs }
    eth := { b.eth with nets := tmap {} net b.eth.nets }
    ser := { b.ser with ports := tmap {} ser b.ser.ports }
    chn := { b.chn with chans := tmap {} chan b.chn.chans }
    dp := { b.dp with
      readmits := b.dp.readmits.map fun x => (far x.1, x.2)
      reOrigins := b.dp.reOrigins.map fun x => (far x.1, x.2)
      spHeres := b.dp.spHeres.map (fun x => (far x.1, x.2))
      spActs := b.dp.spActs.map fun x => (far x.1, x.2) }
    ptn := { b.ptn with handover := b.ptn.handover.map fun h => { h with ring := far h.ring } } }

/-- A command asks for a CPL entry (Table 3.7). -/
def cmdCpl (d : Desc) : Bool := bit (wAt d.w 4) 8

/-- CPL entries that commands of a ring will never get once the ring holds them no longer (R105). -/
def cplLost (r : Ring) : Nat := if r.kind = tCMD then countOf cmdCpl r.fetched else 0

/-- The entries that commands have reserved on a CPL ring that leaves RUNNING are free again, and those commands get none (R105). -/
def unreserve (c : Nat) (b : Block) : Block :=
  modRng (fun g => { g with rings := tmap {} (fun r => { r with
    fetched := r.fetched.map fun d => if d.cplTo = some c then { d with cplTo := none } else d }) g.rings }) b

/-- A ring enters DOWN (Table 3.3, R114): MTX frames it has fetched still go to their bus, and the CPL entries of the commands it discards
count as not made (R105). A RESET that still waits in STOPPED is forgotten, and the ring stays DOWN until another (DESIGN CHOICE, log 128). -/
def ringDown (n : Nat) (b : Block) : Block :=
  let r := ring b n
  if r.state = .disabled ∨ r.state = .down then b else
  let b := if r.kind = tCMD then releaseLocks n (withdrawRing n b) else b
  let b := discardStaged 0 n b
  let b := if r.kind = tCPL then unreserve n b else b
  let b := if r.kind = tMTX then b else detachRing n b
  modRing n (fun r => { r with
    state := .down, asked := 0, blocked := none, drops := sat32 r.drops (cplLost r), fetched := if r.kind = tMTX then r.fetched else [], resetting := false, err := if r.err = 0 then erLINK_DOWN else r.err }) b

/-- The ring returns to DISABLED (Table 3.3); its registers keep what software wrote, with EN clear. -/
def ringDisable (n : Nat) (b : Block) : Block :=
  modRing n (fun r => { baseLo := r.baseLo, baseHi := r.baseHi, cfg := putBit r.cfg 0 false, cfg2 := r.cfg2, count := r.count,
                        drops := r.drops, imgSeq := r.imgSeq }) (detachRing n b)

/-- A reset that waits for write-backs is done once none is outstanding (R83). -/
def ringSettle (n : Nat) (b : Block) : Block :=
  if (ring b n).resetting && (ring b n).fetched.isEmpty then ringDisable n b else b

/-! Links (R79, R566). -/

def fireLink (l : Nat) (b : Block) : Block :=
  fire 6 (regOf [(0, 1, l), (1, 1, b1 (hostLink b l).up), (2, 1, b1 ((hostLink b l).up && (hostLink b l).degraded))]) b

/-- A host link goes down: every ring bound to it enters DOWN (R79). -/
def linkDown (l : Nat) (b : Block) : Block :=
  if !(hostLink b l).up then b else
  let b := fireLink l (modLink l (fun h => { h with up := false }) b)
  (List.range 128).foldl (fun b n => if (ring b n).link = l then ringDown n b else b) b

end Sys2Proof.Machine
end

