-- ==== Sys2Proof/Machine/SerBase.lean ====
section
/-! DEFINITION. Serial ports: updates, latches, and a payload that ends unsent (R453, R454). -/

namespace Sys2Proof.Machine

def modSer (f : Ser → Ser) (b : Block) : Block := { b with ser := f b.ser }
def modSerPort (p : Nat) (f : SerPort → SerPort) (b : Block) : Block := modSer (fun s => { s with ports := tmod {} s.ports p f }) b

/-- Set a bit of SER_PORT_LATCH; the source of the port fires when it becomes set (R454). -/
def serLatch (p i : Nat) (b : Block) : Block :=
  let old := (serAt b p).latch
  let b := markBit (0x9011C + 0x20 * p) i (modSerPort p (fun x => { x with latch := putBit x.latch i true }) b)
  fireIf (!bit old i) (184 + p / 3) (regOf [(0, 5, p), (8, 4, 2 ^ i)]) b

/-- A port stops sending: from its first start bit until one character time after its last stop bit it has heard nothing (R444). -/
def serTxEnds (p start : Nat) (b : Block) : Block :=
  modSerPort p (fun x => { x with tx := none, quietFrom := start, quiet := b.tb + serCharT b p }) b

/-- A payload in transmission ends unsent. -/
def serDropTx (p : Nat) (b : Block) : Block :=
  match (serAt b p).tx with
  | none => b
  | some (n, idx, start, _) => completeWith n idx stTX_FAILED 0 (serTxEnds p start b)

end Sys2Proof.Machine
end

