-- ==== Sys2Proof/Machine/Hooks.lean ====
section
/-! DEFINITION. What a change of role, a fence or a safe reaction does in each unit. -/

namespace Sys2Proof.Machine

/-- The running waveform is broken off at the end of its frame (R514, R518). -/
def dspBreak (b : Block) : Block :=
  if b.dsp.state = 1 ∨ b.dsp.state = 2 then modDsp (fun d => { d with stopAsked := true }) b else b

/-- A fence of the display driver: DIRTY is set and it stops, after compensation when a waveform runs (R518). Until step 3 of the start nothing is
written to MRAM (R51). -/
def dspFence (b : Block) : Block :=
  if b.dsp.state = 1 ∨ b.dsp.state = 2 then dspBreak b
  else modDsp (fun d => { d with state := 3, dirty := d.dirty || b.glb.mramOk }) b

/-- A fence of a tile of the recorder: its logic tile discards the held snapshots, counted as lost (R505). -/
def recFence (tile : Nat) (b : Block) : Block :=
  if tile ≠ 0 then b else
  let n := b.recorder.held.foldl (fun a s => a + (if 22 < s.vals.length then 2 else 1)) 0
  let b := modRec (fun r => { r with logicFenced := true, held := [], lost := sat16 r.lost n }) b
  if n = 0 then b else fire 242 (regOf [(0, 2, 3)]) (markBit 0xC0014 1 (modRec (fun r => { r with latch := putBit r.latch 1 true }) b))

/-- Every unit takes up a change of role. -/
def unitsOnRole (old new : Nat) (b : Block) : Block :=
  ethRole old new (dpRole old new (lpeRole old new (canRole old new (chnRole old new b))))

/-- A fence is applied to a unit (Table 15.3). -/
def unitsOnFence (u : FUnit) (b : Block) : Block :=
  match u with
  | .channel n => chnFence n b
  | .can c => canFence c b
  | .eth p => ethFence p b
  | .ser p => serDropTx p b
  | .loopLane p => laneFence p b
  | .solverLane p => solverFence p b
  | .hostLink l => linkDown l b
  | .hart => hartFence b
  | .recorder t => recFence t b
  | .display => dspFence b
  | .partner k =>
    let l := if k = 0 then b.ptn.k0 else b.ptn.k1
    fireIf l.up 209 (regOf [(0, 1, k), (1, 1, b1 l.live)]) b
  | _ => b

/-- SAFE is applied to a function (Table 15.3). -/
def unitsOnSafe (u : UnitReaction) (b : Block) : Block :=
  match u with
  | .safeLoops g => safeLoops g b
  | .safeLoopLane p => safeLoopLane p b
  | .safeDp => dpSafe b
  | .safeImage i => modImage i (fun x => { x with stopped := true }) b
  | _ => b

end Sys2Proof.Machine
end

