-- ==== Sys2Proof/Machine/Ops.lean ====
section
/-! DEFINITION. Shared operations: cancelling a switch or a handover, the power state, the role and the isolation of the module. -/

namespace Sys2Proof.Machine

/-- Before its boundary a pending switch is cancelled, and the shadow bank returns to ADMITTED (R70). -/
def cancelSwitch (b : Block) : Block :=
  modGlb (fun g => if g.shadow = .pending ∧ g.switchAt.all (fun t => decide (b.tb < t)) then { g with shadow := .admitted, switchAt := none } else g) b

/-- The planned handover of the Active module ends: it is cancelled for a reason of ES212, and its command is written back with
RESULT 0 (R372). -/
def cancelHandover (reason : Nat) (b : Block) : Block :=
  match b.ptn.handover with
  | none => b
  | some h =>
    fire 212 (regOf [(0, 2, 3), (4, 4, reason)])
      (completeWith h.ring h.idx stOK 0 (modPtn (fun p => { p with handover := none, overlap := none }) b))

/-- The power state that Table 17.6 gives while the supply is qualified. -/
def wantedPower (b : Block) : Nat :=
  if !b.glb.ready || b.ptn.role == 0 then 0
  else if b.ptn.role == 1 && b.ptn.handoverIn.isSome then 0 else 1

/-- The power state takes a value; ES250 fires at each change (R534). On leaving Hold for Run, also by way of Ride-through, the wake test
starts (R535). -/
def setPower (v : Nat) (b : Block) : Block :=
  if b.sec.power = v then b else
  let old := b.sec.power
  fire 250 (regOf [(0, 2, v), (2, 2, old)])
    (modSec (fun s => { s with power := v, waking := s.waking || ((old == 1 || old == 2 && s.before == 1) && v == 0) }) b)

/-- Run or Hold follows the role (R533); Ride-through and Off stay. -/
def updatePower (b : Block) : Block := if 2 ≤ b.sec.power then b else setPower (wantedPower b) b

/-- The role changes (R355, R386): its cause, ES208, what each unit does, and the messages of a departure (R356). -/
def setRole (role cause : Nat) (b : Block) : Block :=
  let old := b.ptn.role
  let was := b.ptn.role == 0
  let b := if was && role != 0 then cancelHandover 4 b else b
  let b := modPtn (fun p => { p with
    role := role, cause := cause,
    activeSince := if role = 0 then (if was then p.activeSince else b.tb) else 0,
    ageFrom := if was && role != 0 then b.tb else p.ageFrom,
    drillDone := if role = 0 then 0 else p.drillDone,
    eA := if was && role = 0 then p.eA else none,
    eS := if role = 1 then b.tb else p.eS,
    grantsSent := if role = 1 then 0 else p.grantsSent,
    sole := if role = 0 then p.sole else false,
    granting := if role = 1 then p.granting else false }) b
  let b := if role = 0 then modDsp (fun d => { d with drillSeen := false }) b else b
  let b := fireIf (old != role) 208 (regOf [(0, 2, role), (2, 4, cause)]) b
  let b := if role = 2 then cancelSwitch b else b
  let b := unitsOnRole old role b
  let b := if role = 2 && old != 2 && paired b then
      modPtn (fun p => { p with departLeft := 3, departAt := b.tb + 1000 }) b else b
  updatePower b

/-- The module isolates itself for a fault source: outputs safe, role Isolated with cause FAULT (Table 15.1, Table 11.4). -/
def isolate (source : Nat) (b : Block) : Block :=
  if b.flt.isolated then b else
  let b := modFlt (fun f => { f with isolated := true }) b
  fire 227 (regOf [(0, 6, source)]) (setRole 2 11 b)

end Sys2Proof.Machine
end

