-- ==== Sys2Proof/Machine/Fault.lean ====
section
/-! DEFINITION. The fault collector: detection, records, merging, reactions, fences and force bits (R457 to R469). -/

namespace Sys2Proof.Machine

/-- A location code from its fields. -/
def locOf (domain engine tile lane cluster cell : Nat) : Word :=
  regOf [(29, 3, domain), (25, 4, engine), (19, 6, tile), (14, 5, lane), (8, 6, cluster), (0, 8, cell)]

/-- The tiles, lanes and clusters that Table 1.3 names for a unit: the number of tiles; per tile the lanes (none where the level does not exist,
so that the field holds all ones), whether all ones in LANE has a meaning of its own, and the clusters. -/
structure LocShape where
  tiles : Nat
  lanes : Nat → Option Nat
  shared : Nat → Bool := fun _ => false
  clusters : Nat → Nat := fun _ => 63

/-- Table 1.3: the units and their lower levels; none for an engine code that the table does not list. -/
def locShape (domain engine : Nat) : Option LocShape :=
  match domain, engine with
  | 0, 0 => some { tiles := 2, lanes := fun _ => none, clusters := fun t => if t = 0 then 4 else 63 }
  | 0, 1 => some { tiles := 1, lanes := fun _ => some 2, clusters := fun _ => 3 }
  | 1, 0 => some { tiles := 2, lanes := fun t => if t = 1 then some 24 else none, clusters := fun _ => 8 }
  | 1, 1 => some { tiles := 8, lanes := fun _ => some 24, clusters := fun _ => 4 }
  | 1, 2 => some { tiles := 3, lanes := fun t => some (if t = 0 then 16 else if t = 1 then 24 else 8), clusters := fun _ => 3 }
  | 2, 0 => some { tiles := 2, lanes := fun t => if t = 0 then some 18 else none, clusters := fun t => if t = 0 then 5 else 63 }
  | 2, 1 => some { tiles := 2, lanes := fun _ => none }
  | 2, 2 => some { tiles := 2, lanes := fun _ => none }
  | 2, 3 => some { tiles := 2, lanes := fun t => if t = 0 then some 9 else none, clusters := fun t => if t = 0 then 5 else 63 }
  | 3, 0 => some { tiles := 2, lanes := fun _ => some 31 }
  | 4, 0 => some { tiles := 1, lanes := fun _ => some 31 }
  | 4, 1 => some { tiles := 2, lanes := fun t => if t = 0 then some 2 else none, shared := fun t => t == 0 }
  | 4, 2 => some { tiles := 1, lanes := fun _ => none }
  | 5, e => if e < 7 then some { tiles := 2, lanes := fun _ => none } else none
  | _, _ => none

/-- A location code that the collector may report (R31, R32): its unit stands in Table 1.3, and below a field of all ones that only means that the
fault is located no finer, every field holds all ones too. 0xFFFF_FFFF is the module; DOMAIN 0b110 is never reported. -/
def locOk (l : Word) : Bool :=
  let cell := fld l 0 8
  let endsAt := fun (from' : Nat) => fld l 0 from' == 2 ^ from' - 1
  if locDomain l = 7 then l == 0xFFFFFFFF#32
  else if locDomain l = 6 then false
  else if locEngine l = 0xF then endsAt 25
  else match locShape (locDomain l) (locEngine l) with
  | none => false
  | some s =>
    if locTile l = 0x3F then endsAt 19
    else decide (locTile l < s.tiles) &&
      (let below := if locCluster l = 0x3F then cell == 0xFF else decide (locCluster l < s.clusters (locTile l))
       match s.lanes (locTile l) with
       | none => locLane l == 0x1F && below
       | some n =>
         if locLane l = 0x1F then (if s.shared (locTile l) then below else endsAt 14) else decide (locLane l < n) && below)

/-- The reaction by unit of Table 15.3, with R458 for a location that no unit of the table contains. -/
def unitAt (l : Word) : UnitReaction :=
  let t := locTile l
  let n := locLane l
  match locDomain l, locEngine l with
  | 0, 1 => if n < 2 then .fence (.hostLink n) else .isolate
  | 1, 0 => if t = 1 then .fence .hart else .isolate
  | 1, 1 => if t < 8 ∧ n < 24 then .fence (.channel (24 * t + n)) else .isolate
  | 1, 2 =>
    if t = 0 ∧ n < 16 then .fence (.can n)
    else if t = 1 ∧ n < 24 then .fence (.ser n)
    else if t = 2 ∧ n < 8 then .fence (.eth n)
    else .isolate
  | 2, 0 => if t = 0 ∧ n < 18 then .fence (.loopLane n) else if t = 1 then .safeLoops (locCluster l) else .isolate
  | 2, 1 => .safeDp
  | 2, 2 => .safeDp
  | 2, 3 => if t = 0 ∧ n < 9 then .fence (.solverLane n) else if t = 1 then .safeDp else .isolate
  | 4, 1 => if t = 0 ∧ n < 2 then .fence (.partner n) else .isolate
  | 5, 1 => .fence .monitors
  | 5, 2 => .fence .counters
  | 5, 3 => .fence .growth
  | 5, 4 => .fence (.recorder (if t = 1 then 1 else 0))
  | 5, 5 => .fence .display
  | _, _ => .isolate

/-- The reaction to MARGIN_OUT of an activity (Table 15.7): its code and its unit. -/
def marginReaction (act : Nat) (l : Word) : Nat × UnitReaction :=
  if act < 2 then (3, .isolate)
  else if 0x100 ≤ act ∧ act < 0x200 then (2, .safeLoopLane (locLane l))
  else if 0x200 ≤ act ∧ act < 0x300 then (2, .safeDp)
  else if 0x400 ≤ act then (2, .safeImage (act - 0x400))
  else (0, .isolate)

/-- Class of a source (Table 15.2). -/
def srcClass (s : Nat) : Nat :=
  if s ≤ 4 then 0 else if s ≤ 7 then 1 else if s ≤ 0xB then 2 else if s ≤ 0xD then 3
  else if s ≤ 0x10 then 4 else if s ≤ 0x14 then 5 else if s ≤ 0x16 then 6 else 7

/-- Sources that are persistent at every occurrence (Table 15.2). -/
def srcAlways (s : Nat) : Bool := [0x01, 0x04, 0x09, 0x0B, 0x0E, 0x0F, 0x10, 0x12, 0x15, 0x16, 0x17].contains s

/-- Sources that Table 15.2 lists. -/
def srcListed (s : Nat) : Bool := decide (1 ≤ s) && decide (s ≤ 0x17)

/-- Reaction code of a source before R458: 0 CORRECT, 1 FENCE, 2 SAFE, 3 ISOLATE (Table 15.2). -/
def srcReaction (s : Nat) (persistent : Bool) (act : Nat) (l : Word) : Nat :=
  if [0x01, 0x15, 0x16, 0x17].contains s then 3
  else if [0x04, 0x09, 0x0D, 0x0E, 0x0F, 0x10].contains s then 1
  else if [0x05, 0x06, 0x0C].contains s then (if persistent then 1 else 0)
  else if s = 0x07 then (if persistent then 3 else 0)
  else if s = 0x12 then (marginReaction act l).1
  else 0

/-- The unit a reaction of a fault applies to. -/
def unitFor (s act : Nat) (l : Word) : UnitReaction := if s = 0x12 then (marginReaction act l).2 else unitAt l

/-- The logical lane of a physical loop lane would find no spare: its fence is reported as a function safe state (R250). -/
def lastLane (b : Block) (p : Nat) : Bool := !isFenced b (.loopLane p) && (laneOn b p).isSome && (freeSpares b).isEmpty

/-- A reaction code after R458: FENCE of a location without a fencable unit is SAFE, SAFE of a unit without a safe state is
ISOLATE; a fence that would take the second host link isolates (Table 15.3); and the fence of a loop lane that has no spare left is SAFE, the state
in which its contexts enter FAILED (R250; so is SAFE of a loop lane in a merged record, DEDUCED, log 137). -/
def effReaction (b : Block) (r : Nat) (u : UnitReaction) : Nat :=
  if r = 1 ∨ r = 2 then
    match u with
    | .fence (.hostLink i) => if isFenced b (.hostLink (1 - i)) then 3 else if r = 2 then 3 else 1
    | .fence (.loopLane p) => if r = 2 ∨ lastLane b p then 2 else 1
    | .fence _ => if r = 2 then 3 else 1
    | .isolate => 3
    | _ => 2
  else r

/-- Apply a fence once: the unit joins the fenced ones, it is counted, and ES225 fires with its location (R33). -/
def applyFence (u : FUnit) (l : Word) (b : Block) : Block :=
  if isFenced b u then b else
  let lane := match u with
    | .loopLane p => laneOn b p
    | .solverLane p => solverOn b p
    | _ => none
  unitsOnFence u (fire 225 l (modFlt (fun f => { f with
    fenced := f.fenced ++ [u], fences := sat8 f.fences 1, notes := { unit := u, at' := b.tb, lane := lane } :: f.notes }) b))

/-- Apply a reaction of the record at one fault's location (R462). -/
def applyReaction (r source act : Nat) (l : Word) (b : Block) : Block :=
  let u := unitFor source act l
  match effReaction b r u with
  | 0 => b
  | 1 => match u with
    | .fence f => applyFence f l b
    | _ => b
  | 2 => match u with
    | .fence f => applyFence f l b
    | _ => unitsOnSafe u b
  | _ => isolate source (if locDomain l = 3 then safFail b else b)

/-- Record slot to use next: the slots are used in turn, and then that of the oldest closed record; an open one is never taken (R463). -/
def nextSlot (f : Flt) : Nat :=
  let start := if f.recs.isEmpty then 0 else f.newest + 1
  let turn := (List.range 16).map fun i => (start + i) % 16
  match turn.find? fun s => !(tget {} f.recs s).used with
  | some s => s
  | none =>
    let age := fun s => (f.seq + 0x10000 - (tget {} f.recs s).seq) % 0x10000
    (turn.filter fun s => !(tget {} f.recs s).isOpen).foldl (fun (best : Option Nat) s =>
      match best with
      | some t => if age t < age s then some s else best
      | none => some s) none |>.getD (start % 16)

/-- Slot of the open record of a domain. -/
def openSlot (f : Flt) (domain : Nat) : Option Nat :=
  (List.range 16).find? fun s => (tget {} f.recs s).isOpen && locDomain (tget {} f.recs s).loc == domain

/-- LAST_LOCATION of a record that has just opened (R461). -/
def firstLastLoc (source : Nat) (act : Nat) : Word := if source = 0x11 ∨ source = 0x12 then w32 (act % 0x10000) else 0

/-- Open a record (R461): ES224 fires. -/
def openRecord (source act : Nat) (l : Word) (persistent forced : Bool) (r : Nat) (b : Block) : Block :=
  let s := nextSlot b.flt
  let seq := (b.flt.seq + 1) % 0x10000
  let x : FaultRec := {
    source := source, cls := srcClass source, reaction := r, persistent := persistent, forced := forced,
    isOpen := true, loc := l, first := b.tb, last := b.tb, seq := seq, lastLoc := firstLastLoc source act, used := true,
    members := [⟨source, l, persistent, act⟩] }
  let b := modFlt (fun f => { f with recs := tset {} f.recs s x, newest := s, seq := seq }) b
  fire 224 (regOf [(0, 6, source), (6, 2, r), (8, 4, s), (12, 3, locDomain l), (15, 1, b1 forced)]) b

/-- Merge a fault into the open record of its domain (R462): ES226 fires. A merge into a record at ISOLATE is only counted. -/
def mergeRecord (s source act : Nat) (l : Word) (persistent forced : Bool) (r : Nat) (b : Block) : Block :=
  let x := tget {} b.flt.recs s
  let x' := { x with merges := sat8 x.merges 1 }
  let x'' := if x.reaction = 3 then x' else { x' with
    lastSource := source, lastLoc := l, last := b.tb
    reaction := max x.reaction r, persistent := x.persistent || persistent, forced := x.forced || forced,
    members := x.members ++ [⟨source, l, persistent, act⟩] }
  let b := modFlt (fun f => { f with recs := tset {} f.recs s x'', merges := sat8 f.merges 1 }) b
  fire 226 (regOf [(0, 4, s), (4, 6, source), (10, 8, x'.merges)]) b

/-- A fault of the record has become persistent (R462). -/
def raiseRecord (s source : Nat) (l : Word) (r : Nat) (b : Block) : Block :=
  let x := tget {} b.flt.recs s
  let x' := { x with
    reaction := max x.reaction r, persistent := true,
    members := x.members.map fun m => if m.source = source ∧ m.loc = l then { m with persistent := true } else m }
  modFlt (fun f => { f with recs := tset {} f.recs s x' }) b

/-- Apply the record's reaction at every fault of it (R462). -/
def applyRecord (s : Nat) (b : Block) : Block :=
  let x := tget {} b.flt.recs s
  x.members.foldl (fun b m => applyReaction x.reaction m.source m.act m.loc b) b

/-- A record closes (Table 15.4): ES234, and CORRECT ones are counted. -/
def closeRecord (s : Nat) (b : Block) : Block :=
  let x := tget {} b.flt.recs s
  let b := modFlt (fun f => { f with
    recs := tset {} f.recs s { x with isOpen := false, last := b.tb },
    corrected := if x.reaction = 0 then sat16 f.corrected 1 else f.corrected }) b
  fire 234 (regOf [(0, 4, s), (4, 2, x.reaction)]) b

/-- An image that is no longer produced: the handling of its fault ends at once, and with the last of such faults the record closes (Table 15.1). -/
def imageClose (s : Nat) (b : Block) : Block :=
  let x := tget {} b.flt.recs s
  let image := fun (m : FaultMember) => match unitFor m.source m.act m.loc with
    | .safeImage _ => true
    | _ => false
  if x.isOpen && x.reaction == 2 && x.members.all image then closeRecord s b else b

/-- A fault reaches the collector: a member of the open record becomes persistent, or the fault merges, or a record opens; then the
record's reaction applies (R461, R462). A credit mismatch is a new one each time. A record whose faults all stop an image closes at once (Table 15.1). -/
def report (source : Nat) (l : Word) (persistent forced : Bool) (act : Nat) (b : Block) : Block :=
  let r := effReaction b (srcReaction source persistent act l) (unitFor source act l)
  let b := if srcReaction source persistent act l = 0 then perf 6 0 0 b else b
  match openSlot b.flt (locDomain l) with
  | none =>
    let s := nextSlot b.flt
    imageClose s (applyRecord s (openRecord source act l persistent forced r b))
  | some s =>
    let x := tget {} b.flt.recs s
    if x.reaction = 3 then mergeRecord s source act l persistent forced r b
    else if persistent && !srcAlways source && source != 7 && x.members.any (fun m => m.source == source && m.loc == l && !m.persistent) then
      applyRecord s (raiseRecord s source l r b)
    else applyRecord s (mergeRecord s source act l persistent forced r b)

/-- What an MRAM_UE does in the area in which it lies (R465, R504, R507). -/
def mramArea (info : FaultInfo) (b : Block) : Block :=
  match info with
  | .seedSlot i => modPtn (fun p => if i.val = 0 then { p with slot0 := none, nextSlot := 0 } else { p with slot1 := none, nextSlot := 1 }) b
  | .selector i => modGlb (fun g => if i.val = 0 then { g with selA := none } else { g with selB := none }) b
  | .activeBank => modGlb (fun g => g.setBank g.bank { g.activeBank with readable := false }) b
  | .shadowBank =>
    modGlb (fun g => { g.setBank g.shadowNo { g.shadowBank with readable := false } with shadow := .empty, owned := false, switchAt := none, growthStep := none })
      b
  | .growthMark k => modGrowth (fun g =>
      let g := { g with marks := tmod {} g.marks k (fun m => { m with valid := false }) }
      match (if k % 16 = 15 then ringRebuilt g (k / 16) else none) with
      | some m => { g with marks := tset {} g.marks k m }
      | none => g) b
  | .sapwood i =>
    fire 242 (regOf [(0, 2, 2)]) (markBit 0xC0014 1 (modRec (fun r => { r with
      sap := tmod {} r.sap i (fun x => { x with bad := true }), lost := sat16 r.lost 1, latch := putBit r.latch 1 true }) b))
  | .heartwood i =>
    fire 242 (regOf [(0, 2, 2), (2, 1, 1)]) (markBit 0xC0014 1 (modRec (fun r => { r with
      hw := tmod {} r.hw i (fun x => { x with bad := true }), lost := sat16 r.lost 1, latch := putBit r.latch 1 true }) b))
  | .displayStore => modDsp (fun d => { d with dirty := d.dirty || b.glb.mramOk }) b
  | _ => b

/-- A third credit mismatch of one path within 1 000 000 000 ticks is persistent (Table 15.2). -/
def creditPersistent (l : Word) (b : Block) : Bool × Block :=
  let log := (l, b.tb) :: b.flt.creditLog.filter (fun p => decide (b.tb < p.2 + 1000000000))
  (decide (3 ≤ countOf (fun p => p.1 == l) log), modFlt (fun f => { f with creditLog := log }) b)

/-- The staging area of the ring engine that a location names: its row groups taken as the areas of Table 1.4 in their order, 0 CMD, 1 CPL, 2 TLM,
3 EVT, 4 MRX, 5 MTX, 6 RRD (PRESUMED, log 136). -/
def stagingArea (l : Word) : Option Nat :=
  if locDomain l = 0 ∧ locEngine l = 0 ∧ locTile l = 1 ∧ locCluster l < 7 then some (locCluster l) else none

/-- The fetched descriptors of a ring that stand in staging and have not gone on to their unit are discarded: they are never written back, and the
module index passes over them; a command among them with CPL = 1 counts as without its entry (R105; log 136). -/
def dropStagedDescs (n : Nat) (b : Block) : Block :=
  let stays := fun (d : Desc) => d.handed || d.started || d.done.isSome
  let lost := (ring b n).fetched.filter fun d => !stays d
  let noCpl := if (ring b n).kind = tCMD then countOf cmdCpl lost else 0
  modRing n (fun r => { r with
    fetched := r.fetched.filter stays, mIdx := (r.mIdx + lost.length) % 131072, drops := sat32 r.drops noCpl }) b

/-- The staged entries of a module-to-host ring are discarded; a STOPPED one then has nothing left to write (Table 3.3, R35). -/
def dropStaged (n : Nat) (b : Block) : Block :=
  let b := discardStaged 0 n b
  if (ring b n).state = .stopped then ringSettle n (modRing n (fun r => { r with fetched := [] }) b) else b

/-- A credit path is reset to its full credit and the entries it holds are discarded (R35). Credits are worked out from what staging holds, so that
empty staging has full credit. -/
def creditReset (l : Word) (b : Block) : Block :=
  let each := fun (f : Nat → Block → Block) (kind : Nat) (b : Block) =>
    (List.range 128).foldl (fun b n => if (ring b n).kind = kind ∧ (ring b n).state ≠ .disabled then f n b else b) b
  match stagingArea l with
  | some 0 => each dropStagedDescs 0 b
  | some 1 => each dropStaged tCPL b
  | some 2 => each dropStaged tTLM b
  | some 3 => each dropStaged tEVT b
  | some 4 => each dropStaged tMRX b
  | some 5 => each dropStagedDescs tMTX b
  | some _ => each dropStagedDescs tRRD b
  | none => b

/-- A checker reports a fault of a listed source (R461, R464, R465). -/
def fault (source : Nat) (l : Word) (persistent forced : Bool) (info : FaultInfo) (b : Block) : Block :=
  let act := match info with
    | .activity i => i
    | _ => 0
  let (pc, b) := if source = 7 then creditPersistent l b else (false, b)
  let p := persistent || srcAlways source || pc
  let b := if source = 8 then modFlt (fun f => { f with
      sramCorrected := sat16 f.sramCorrected 1,
      sramStuck := if info = .stuck then sat8 f.sramStuck 1 else f.sramStuck }) b else b
  let b := if source = 0xA then modFlt (fun f => { f with mramCorrected := sat16 f.mramCorrected 1 }) b else b
  let b := if source = 9 ∨ source = 0xB then
      fire 229 (regOf [(0, 1, if source = 9 then 0 else 1), (8, 24, fld l 8 24)]) b else b
  let b := if source = 0x16 then modSaf (fun s => { s with supplyOk := false }) b else b
  let b := if source = 3 then cancelSwitch b else b
  let b := if source = 7 then creditReset l b else b
  let b := if source = 0xB then mramArea info (modFlt (fun f => { f with mramUe := sat8 f.mramUe 1 }) b) else b
  report source l p forced act b

/-- A fault of the spec's own steps (no force, no extra information). -/
def faultPlain (source : Nat) (l : Word) (b : Block) : Block := fault source l false false .plain b

/-! Force bits (R467, R468). -/

/-- The force bit of a source. -/
def forceBit (f : Flt) (s : Nat) : Bool := if s < 32 then bit f.forceLo s else bit f.forceHi (s - 32)

/-- A field of the location pattern matches: all ones match any value. -/
def fieldMatches (pat l : Word) (lo len : Nat) : Bool :=
  fld pat lo len == 2 ^ len - 1 || fld pat lo len == fld l lo len

/-- The location pattern matches (R467); for sources 0x11 to 0x14 it holds an activity index. -/
def forceMatches (f : Flt) (s : Nat) (l : Word) (act : Nat) : Bool :=
  if 0x11 ≤ s ∧ s ≤ 0x14 then fld f.forceLoc 0 16 == 0xFFFF || fld f.forceLoc 0 16 == act
  else fieldMatches f.forceLoc l 29 3 && fieldMatches f.forceLoc l 25 4 && fieldMatches f.forceLoc l 19 6 &&
    fieldMatches f.forceLoc l 14 5 && fieldMatches f.forceLoc l 8 6 && fieldMatches f.forceLoc l 0 8

/-- A force is armed for a source at a location (R467); never in the safety domain nor for sources 0x15 and 0x16 (R469). -/
def forceArmed (f : Flt) (s : Nat) (l : Word) (act : Nat) : Bool :=
  s != 0x15 && s != 0x16 && locDomain l != 3 && forceBit f s && forceMatches f s l act &&
    (f.forceMode == 2 || (f.forceMode == 1 && !f.spent.contains s))

/-- A forced check fails: the force is spent under ONCE, the injection is counted, and ES235 fires (R467). -/
def injectForce (s : Nat) (b : Block) : Block :=
  fire 235 (regOf [(0, 6, s)]) (modFlt (fun f => { f with
    spent := if f.forceMode = 1 then s :: f.spent else f.spent, injected := (f.injected + 1) % 0x10000 }) b)

/-- FAULT_DETECTED: a checker reports a fault; `forced` when a force bit made the check fail. A forced report without an armed
force is no report. Codes that Table 15.2 does not list are never reported (R459), nor are locations outside Table 1.3 (R31, R32), nor is a mismatch of credits
but at the audit of a seed boundary (R35). -/
def faultDetected (source : Nat) (l : Word) (persistent forced : Bool) (info : FaultInfo) (b : Block) : Block :=
  if !srcListed source || !locOk l || (source == 7 && b.tb % 1000000 != 0) then b else
  let act := match info with
    | .activity i => i
    | _ => 0
  if forced then
    if forceArmed b.flt source l act then
      fault source l persistent true info (injectForce source b)
    else b
  else fault source l persistent false info b

/-! When handling has ended (Table 15.1). -/

/-- Ticks from a write on an output target until the output has reached its safe state: the frame wait, frame and apply of Table 6.6, with the
settling of an AO; for a field of an object or a datagram, the first transmission after the write, or none where nothing is sent. -/
def outputSettled (b : Block) (w : Word) (t : Nat) : Bool :=
  let o := 128 * tgA w + tgB w
  match tgKind w with
  | 1 => decide (t + (if chnMode b (tgA w) = 3 then 100900 else 900) ≤ b.tb)
  | 2 => !(isActive b && objEn b o && objTx b o && !objStopped b o) || (objAt b o).sent.any fun x => decide (t ≤ x.tick)
  | 5 => !isActive b || (tdAt b (32 * tgA w + tgB w)).sentAt.any fun x => decide (t ≤ x)
  | _ => true

/-- The context in FAILED has applied its FAIL_ACTION, and its output has followed. -/
def ctxSettled (b : Block) (c : Nat) : Bool :=
  !lpeOn b || (ctxAt b c).state != 6 || (ctxAt b c).failAt.any fun t => outputSettled b (lpeOut b c) t

/-- DP has written its safe values, and its outputs have followed. -/
def dpSettled (b : Block) : Bool :=
  !dpOn b || (decide (2 ≤ b.dp.safe) && (thrusters b).all fun n => outputSettled b (thOut b n 0) (b.dp.safe - 2))

/-- The fence of a unit has been applied; for a lane, the spare has taken its first instance or 1 000 ticks have passed, and without a spare its
contexts are safe. -/
def fenceSettled (b : Block) (u : FUnit) : Bool :=
  isFenced b u &&
    match b.flt.notes.find? fun x => x.unit == u with
    | none => true
    | some x =>
      match u, x.lane with
      | .loopLane _, some l =>
        if (lanePhys b l).isNone then (laneCtx b l).all (ctxSettled b)
        else decide (x.at' + 1000 ≤ b.tb) || decide (x.at' < tget 0 b.lpe.laneEnd l) || (laneCtx b l).any fun c => (ctxAt b c).run.isSome
      | .solverLane _, some l =>
        decide (x.at' + 1000 ≤ b.tb) || decide (b.dp.cycle.stage = 5 ∧ b.dp.cycle.intactPhys = solverLane b l ∧ b.tb < b.dp.cycle.endAt) ||
          b.dp.cycle.runs.any fun r => r.lane == l
      | _, _ => true

/-- The handling of one fault of a record with reaction `r` has ended (Table 15.1). -/
def memberDone (b : Block) (r : Nat) (m : FaultMember) : Bool :=
  if r = 0 then
    match m.source == 0x0C, unitAt m.loc with
    | true, .fence (.channel n) =>
      !(chanAt b n).stBit 19 && (chanAt b n).devRetry.all fun t => decide (t + 1000000 ≤ b.tb)
    | _, _ => true
  else
    match unitFor m.source m.act m.loc with
    | .fence u => fenceSettled b u
    | .safeLoops g => ((lpeList b).filter fun c => Sys2Proof.Config.rowGroup c == g).all (ctxSettled b)
    | .safeLoopLane p => ((lpeList b).filter fun c => lanePhys b (lpeLane b c) == some p).all (ctxSettled b)
    | .safeDp => dpSettled b
    | .safeImage _ => true
    | .isolate => false

/-- FAULT_HANDLING_END: the handling of every fault of a domain's open record has ended, and the record closes, unless its reaction is
ISOLATE (Table 15.1, R462). While a fault of it is still in handling, nothing closes. -/
def faultHandlingEnd (domain : Nat) (b : Block) : Block :=
  match openSlot b.flt domain with
  | none => b
  | some s =>
    let x := tget {} b.flt.recs s
    if x.reaction = 3 ∨ !x.members.all (memberDone b x.reaction) then b else closeRecord s b

/-- Force writes take effect in Factory and Open, and at debug level Full (R468). -/
def forceAllowed (b : Block) : Bool := b.sec.lifecycle ≤ 1 || b.sec.level == 2

/-- FORCE_WRITE: a write to the force registers (R467, R468): 0 LO, 1 HI, 2 LOC, 3 MODE. An accepted write arms every set bit
again while MODE is ONCE. -/
def forceWrite (which : Nat) (v : Word) (b : Block) : Block :=
  if !forceAllowed b then markBit 0xB0030 0 (modFlt (fun f => { f with forceRefused := true }) b)
  else if which = 3 ∧ fld v 0 2 = 3 then markBit 0xB0030 0 (modFlt (fun f => { f with forceRefused := true }) b)
  else modFlt (fun f =>
    let f := if which = 0 then { f with forceLo := v &&& ~~~ 0x00600000#32 } else if which = 1 then { f with forceHi := v }
      else if which = 2 then { f with forceLoc := v } else { f with forceMode := fld v 0 2 }
    { f with spent := [] }) b

/-- The force registers become 0 when the lifecycle becomes Sealed or Retired, and at a fall from Full in Sealed (R527, R532). -/
def clearForces (b : Block) : Block :=
  modFlt (fun f => { f with forceLo := 0, forceHi := 0, forceMode := 0, spent := [] }) b

/-- SCRUB_PASS_END: a full pass over the SRAM (0) or the MRAM (1) ends with a number of corrected words (R464). -/
def scrubPassEnd (area corrected : Nat) (b : Block) : Block :=
  fire 228 (regOf [(0, 1, area), (16, 16, satAdd 0xFFFF 0 corrected)])
    (modFlt (fun f => if area = 0 then { f with sramPass := b.tb } else { f with mramPass := b.tb }) b)

end Sys2Proof.Machine
end

