-- ==== Sys2Proof/Machine/Growth.lean ====
section
/-! DEFINITION. The growth-ring monitor, the monitors and the timing of instances (R471 to R485, R555, R556). -/

namespace Sys2Proof.Machine

/-! Monitors (R483, R484). -/

/-- Bin of a value (R483). -/
def monBin (x lo hi : Word) : Nat :=
  if fLt x lo then 0 else if fLe hi x then 63
  else min 63 (fFloor (((fOfNat 64).mul ((num x).sub (num lo))).div ((num hi).sub (num lo))).v).toNat

/-- A monitor takes one value; none is a value that is not valid (R483). -/
def monTake (m : Nat) (x : Option Word) (b : Block) : Block :=
  if isFenced b .monitors || !b.glb.active then b else
  modPrf (fun p => { p with mons := tmod {} p.mons m (fun y =>
    match x with
    | none => { y with invalid := sat32 y.invalid 1 }
    | some v =>
      { y with
        min := if y.count = 0 ∨ fLt v y.min then v else y.min
        max := if y.count = 0 ∨ fLt y.max v then v else y.max
        count := (y.count + 1) % 2 ^ 64
        bins := tmod 0 y.bins (monBin v (monLo b m) (monHi b m)) (fun n => sat16 n 1) }) }) b

/-- The enabled monitors of a KIND whose INDEX is `i`. -/
def monsOf (b : Block) (kind i : Nat) : List Nat :=
  (List.range 32).filter fun m => bit (monCfg b m) 0 && fld (monCfg b m) 1 4 == kind && fld (monSrc b m) 0 16 == i

/-- Every monitor of a KIND and INDEX takes a value. -/
def monAll (kind i : Nat) (x : Word) (b : Block) : Block := (monsOf b kind i).foldl (fun b m => monTake m (some x) b) b

/-- CLR: the statistics of a monitor are cleared at the next tick, after what this tick still samples (R484). -/
def monClear (m : Nat) (b : Block) : Block :=
  if isFenced b .monitors then b else modPrf (fun p => { p with clears := p.clears ++ [m] }) b

/-! Instances (R23, R473). -/

def modSite (s : Nat) (f : Site → Site) (b : Block) : Block :=
  modGrowth (fun g => { g with sites := tmod {} g.sites s f }) b

/-- An instance of an activity starts (R485). -/
def instanceStart (a : Nat) (b : Block) : Block := perf 4 a 0x10000 b

/-- An instance is skipped or late: an overrun is counted and reported (R23). -/
def overrun (a : Nat) (l : Word) (b : Block) : Block := faultPlain 0x02 l (perf 5 a 0x10000 b)

/-- An instance has ended on a site after a real duration: its ratio to D_cur, the histogram, and REPLICA with the raised k when it
took longer than D_cur (R473, R483 KIND 8). -/
def instanceEnd (a s dur : Nat) (b : Block) : Block :=
  let d := dCurAt b a s
  let b := monAll 8 a (fOfNat dur).v b
  if isFenced b .growth || d == 0 || !b.glb.mramOk then b else
  let bin := min 31 (32 * dur / d)
  let rho := fOfRat false dur d
  let b := modSite s (fun x => { x with
    hist := tmod 0 x.hist bin (fun n => sat16 n 1)
    rhoMax := if fLt x.rhoMax rho.v then rho.v else x.rhoMax
    near := if 28 * d ≤ 32 * dur then sat32 x.near 1 else x.near
    exceed := if d < dur then sat32 x.exceed 1 else x.exceed
    k := if d < dur then ceilDiv (x.k * dur) d else x.k }) b
  if d < dur then
    fire 231 (regOf [(0, 6, s)]) (fault 0x13 (siteLoc s) false false (.activity a) b)
  else b

/-! Trim (R479, R480, R555, R556). -/

/-- A trim step as a 4-bit two's complement number. -/
def trim4 (t : Int) : Nat := (t % 16).toNat

/-- TRIM_REQ on the carrier management port (Table 18.6). -/
def trimFrame (t : Int) (seq : Nat) : List Byte :=
  let x : List Byte := [0x54, BitVec.ofInt 8 t, BitVec.ofNat 8 seq]
  x ++ [crc8 0x07 x]

/-- Send TRIM_REQ for the step in force with the standing sequence. -/
def trimSend (b : Block) : Block :=
  emit (.carrier (trimFrame b.growth.trimReq b.growth.trimSeq)) (modGrowth (fun g => { g with trimSent := b.tb }) b)

/-- A new request for a trim step: ES232 fires and TRIM_REQ is sent with the next sequence (R479, R556). -/
def trimRequest (t : Int) (b : Block) : Block :=
  let b := modGrowth (fun g => { g with
    trimReq := t, trimPending := true, trimAt := b.tb, trimRaised := false, trimEcho := false,
    trimSeq := (g.trimSeq + 1) % 256, quietSince := none }) b
  let b := fire 232 (regOf [(0, 4, trim4 t), (4, 4, trim4 b.growth.trimApplied)]) b
  trimSend b

/-- The standing step is requested again at step 1 of Table 2.1: no new request, so ES232 does not fire (R479, R556; DEDUCED, log 48). -/
def trimRepeat (b : Block) : Block :=
  trimSend (modGrowth (fun g => { g with
    trimPending := true, trimAt := b.tb, trimRaised := false, trimEcho := false, trimSeq := (g.trimSeq + 1) % 256 }) b)

/-- TRIM_REQ_REPEAT: 20 ms without an echo of the sequence (R556). -/
def trimReqRepeat (b : Block) : Block :=
  if !b.growth.trimEcho && decide (b.growth.trimSent + 2000000 ≤ b.tb) then trimSend b else b

/-- Recompute the margin (R481). -/
def marginRefresh (b : Block) : Block :=
  if isFenced b .growth then b else
  let m := marginOf b
  modGrowth (fun g => { g with margin := m.1, marginAct := m.2 }) b

/-- TRIM_ACK: a frame of the carrier names the step it has applied (R556). A frame of another form or with a failing CRC is
discarded (R555). A fenced growth-ring monitor keeps its figures and its request (Table 15.3). -/
def trimAck (bytes : List Byte) (b : Block) : Block :=
  match bytes with
  | [k, t, q, c] =>
    if k = 0x41 ∧ c = crc8 0x07 [k, t, q] then
      let old := b.growth.trimApplied
      let v := t.toInt
      let b := modGrowth (fun g => { g with trimEcho := g.trimEcho || q.toNat == g.trimSeq }) b
      if isFenced b .growth then b else
      let b := modGrowth (fun g => { g with
        trimApplied := v
        trimPending := g.trimPending && decide (v ≠ g.trimReq) }) b
      if v = old then b else marginRefresh b
    else b
  | _ => b

/-- TRIM: the applied step differs from the request 10 ms after it (R479). -/
def trimFault (b : Block) : Block :=
  let g := b.growth
  if g.trimApplied ≠ g.trimReq ∧ !g.trimRaised ∧ g.trimAt + 1000000 ≤ b.tb ∧ !isFenced b .growth then
    fault 0x14 (siteLoc (carrierSite b (worstAct b) (dCurAt b (worstAct b)))) false false (.activity (worstAct b)) (modGrowth (fun g => { g with trimRaised := true }) b)
  else b

/-- Step up under R479, at most once per 100 ms. -/
def trimUp (b : Block) : Block :=
  let g := b.growth
  let due : Bool := match g.lastUp with
    | none => true
    | some t => decide (t + 10000000 ≤ b.tb)
  if decide (g.trimReq < 6) && due && b.glb.growthStep.isNone then
    trimRequest (g.trimReq + 1) (modGrowth (fun g => { g with lastUp := some b.tb }) b)
  else b

/-- TRIM_STEP_DOWN: 24 h within 0.80 of every budget (R479). -/
def trimStepDown (b : Block) : Block :=
  match b.growth.quietSince with
  | some t =>
    if t + 8640000000000 ≤ b.tb ∧ -4 < b.growth.trimReq ∧ !isFenced b .growth ∧ b.glb.growthStep.isNone then
      modGrowth (fun g => { g with afterDown := true }) (trimRequest (b.growth.trimReq - 1) b)
    else b
  | none => b

/-! Margin state (R478). -/

/-- The margin state changes: ES230 fires. -/
def setMarginState (v act : Nat) (b : Block) : Block :=
  if b.growth.state = v then b
  else fire 230 (regOf [(0, 2, v), (16, 16, act)]) (modGrowth (fun g => { g with state := v }) b)

/-- Since when each activity's D_cur has exceeded its budget. -/
def overNow (b : Block) : Tab Nat :=
  (activities b).foldl (fun t a =>
    if actFits b (dCur b) a then t
    else tset 0 t a (if tget 0 b.growth.exceed a = 0 then b.tb + 1 else tget 0 b.growth.exceed a)) []

/-- The state of R478 is worked out after a measurement; OUT is entered by MARGIN_OUT alone. -/
def marginStep (b : Block) : Block :=
  let exceed := overNow b
  let b := modGrowth (fun g => { g with exceed := exceed, outRaised := g.outRaised.filter fun a => tget 0 exceed a != 0 }) b
  let low := (activities b).find? fun a => !actFits b (dProj b) a
  if !exceed.isEmpty then b else
  match low with
  | none => setMarginState 0 (worstAct b) b
  | some a =>
    if b.growth.state = 1 then b
    else fault 0x11 (siteLoc (carrierSite b a (dProjAt b b.growth.trimApplied a))) false false (.activity a) (setMarginState 1 a b)

/-- MARGIN_OUT: the D_cur of an activity has exceeded its budget for 10 ms (R478). -/
def marginOut (a : Nat) (b : Block) : Block :=
  let t := tget 0 b.growth.exceed a
  if t ≠ 0 ∧ t + 1000000 ≤ b.tb + 1 ∧ !b.growth.outRaised.contains a ∧ !isFenced b .growth then
    let b := setMarginState 2 a (modGrowth (fun g => { g with outRaised := a :: g.outRaised }) b)
    fault 0x12 (siteLoc (carrierSite b a (dCurAt b a))) true false (.activity a) b
  else b

/-! Measurements (R471). -/

/-- One site takes a working reading. What the growth area keeps of it is written only once MRAM may be (R51). -/
def takeReading (mram : Bool) (tb : Nat) (t : Int) (r : Nat) (x : Site) : Site :=
  let x := { x with window := (tb, r) :: x.window.filter (fun p => decide (tb < p.1 + 10000000)) }
  if mram then { x with obsRing := tmod 0 x.obsRing (trimKey t) (max r), obsMark := tmod 0 x.obsMark (trimKey t) (max r) } else x

/-- REPLICA_MEASUREMENT: every 10 000 ticks the working replicas are timed; the margin state and the trim follow (R471, R478, R479). -/
def replicaMeasurement (readings : List Nat) (b : Block) : Block :=
  if b.tb % 10000 ≠ 0 ∨ isFenced b .growth then b else
  let b := (List.range 33).foldl (fun b s =>
    let r := readings.getD s 0
    monAll 9 s (fOfNat r).v (modSite s (takeReading b.glb.mramOk b.tb b.growth.trimApplied r) b)) b
  if !b.glb.active then b else
  let b := marginStep b
  let hot := (activities b).any fun a => decide (9 * budget b a < 10 * dCur b a)
  let quiet := (activities b).all fun a => decide (10 * dProj b a ≤ 8 * budget b a)
  let b := modGrowth (fun g => { g with quietSince := if quiet then some (g.quietSince.getD b.tb) else none }) b
  if hot || b.growth.state == 1 then trimUp b else b

/-- BARK_MEASUREMENT: every second the bark replicas are timed and the ageing ratios formed (R471). -/
def barkMeasurement (barks : List Nat) (b : Block) : Block :=
  if b.tb % 100000000 ≠ 0 ∨ isFenced b .growth ∨ !b.glb.mramOk then b else
  (List.range 33).foldl (fun b s =>
    match (siteAt b s).window.head? with
    | none => b
    | some (_, w) =>
      let g := (fOfNat w).div (fOfNat (barks.getD s 0))
      modSite s (fun x => { x with
        gHour := ((num x.gHour).add g).v, gHourN := x.gHourN + 1,
        gMax := if fLt x.gMax g.v then g.v else x.gMax }) b) b

/-! Age, marks and rings (R474, R475, R482). -/

/-- An hour of service ends: its mean joins the running mark. -/
def closeHour (x : Site) : Site :=
  if x.gHourN = 0 then x
  else
    { x with
      gMark := ((num x.gMark).add ((num x.gHour).div (fOfNat x.gHourN))).v, gMarkN := x.gMarkN + 1,
      gHour := 0, gHourN := 0 }

/-- AGE_SAVE: 0.1 h of powered time has passed (R474). -/
def ageSave (b : Block) : Block :=
  if b.tb % 36000000000 ≠ 0 ∨ b.tb = 0 ∨ isFenced b .growth ∨ !b.glb.mramOk then b else
  let b := modGrowth (fun g => { g with age := wrap32 g.age 1 }) b
  if b.growth.age % 10 = 0 then (List.range 33).foldl (fun b s => modSite s closeHour b) b else b

/-- What a mark stores of a site (Table 15.8). -/
def markEntry (t : Int) (x : Site) : SiteEntry :=
  { gMean := if x.gMarkN = 0 then 0 else ((num x.gMark).div (fOfNat x.gMarkN)).v
    gMax := x.gMax, sObsMax := (fOfNat (tget 0 x.obsMark (trimKey t))).v, k := (fOfRat false x.k 1024).v
    rhoMax := x.rhoMax, near := x.near, exceed := x.exceed }

/-- Start the next mark of a site. -/
def nextMark (x : Site) : Site :=
  { x with gMark := 0, gMarkN := 0, gMax := 0, obsMark := [], rhoMax := 0, near := 0, exceed := 0 }

/-- Start the next ring of a site. -/
def nextRing (x : Site) : Site := { x with obsPrev := x.obsRing, obsRing := [], hist := [] }

/-- The ring record of a site from the marks of the ring (log 20). -/
def ringEntry (es : List SiteEntry) (t : Int) (x : Site) : SiteEntry :=
  ringEntryOf es (fOfNat (tget 0 x.obsRing (trimKey t))).v (fOfRat false x.k 1024).v

/-- The points of the fit of a site: age in 0.1 h and g (R475). -/
def fitPoints (b : Block) (s : Nat) : List (Nat × Word) :=
  let ring := 1 + (b.growth.closed - 1) / 12
  let keys := (List.range 31).filterMap (fun r => if r = 0 then none else some (markKey r 15)) ++
    (List.range 12).map (markKey ring)
  let pts := keys.filterMap fun k =>
    let m := tget {} b.growth.marks k
    if m.valid then some (m.endAge, (tget {} m.sites s).gMean) else none
  pts.filter fun p => fLt (Sys2Proof.Config.ringZero s) p.2

/-- Whether a list of points spans at least two mark periods (R475). -/
def fitSpans (ps : List (Nat × Word)) : Bool :=
  match ps with
  | [] => false
  | p :: _ =>
    let lo := ps.foldl (fun m q => min m q.1) p.1
    let hi := ps.foldl (fun m q => max m q.1) p.1
    decide (3 ≤ ps.length) && decide (lo + 14610 ≤ hi)

/-- The fit of a site (R475): A, n and whether the linear rule holds. -/
def fitSite (b : Block) (s : Nat) : Word × Word × Bool :=
  let ps := fitPoints b s
  let g0 := num (Sys2Proof.Config.ringZero s)
  if fitSpans ps then
    let xy := ps.map fun p =>
      (num (Sys2Proof.Config.lnF (ageYears p.1).v), num (Sys2Proof.Config.lnF ((num p.2).sub g0).v))
    let n := fOfNat ps.length
    let sx := numSum (xy.map (·.1))
    let sy := numSum (xy.map (·.2))
    let sxy := numSum (xy.map fun p => p.1.mul p.2)
    let sxx := numSum (xy.map fun p => p.1.mul p.1)
    let slope := ((n.mul sxy).sub (sx.mul sy)).div ((n.mul sxx).sub (sx.mul sx))
    let lnA := (sy.sub (slope.mul sx)).div n
    (Sys2Proof.Config.expF lnA.v, (Num.clamp (num 0x3DCCCCCD) f1 slope).v, false)
  else
    match ps with
    | [] => (0, 0x3F800000, true)
    | p :: _ =>
      let gm := ps.foldl (fun a q => if fLt a q.2 then q.2 else a) g0.v
      let last := ps.foldl (fun m q => max m q.1) p.1
      ((((num gm).sub g0).div (ageYears last)).v, 0x3F800000, true)

/-- Every site is fitted again. -/
def fitAll (b : Block) : Block :=
  (List.range 33).foldl (fun b s =>
    let f := fitSite b s
    modSite s (fun x => { x with fitA := f.1, fitN := f.2.1, linear := f.2.2 }) b) b

/-- The entries of every site under a function of the site number. -/
def entriesOf (f : Nat → SiteEntry) : Tab SiteEntry :=
  (List.range 33).foldl (fun t s => tset {} t s (f s)) []

/-- MARK_CLOSE: 730.5 h have passed since the last mark; the twelfth mark writes the ring record (R474, R475, R482). -/
def markClose (b : Block) : Block :=
  let g := b.growth
  if g.age % 7305 ≠ 0 ∨ g.age / 7305 ≤ g.closed ∨ isFenced b .growth ∨ !b.glb.mramOk then b else
  let i := g.age / 7305 - 1
  let ring := 1 + i / 12
  let mark := i % 12
  let rec0 : MarkRec := {
    startAge := g.age - 7305, endAge := g.age, trim := g.trimApplied, valid := true,
    sites := entriesOf fun s => markEntry g.trimApplied (siteAt b s) }
  let b := modGrowth (fun g => { g with closed := g.age / 7305, marks := tset {} g.marks (markKey ring mark) rec0 }) b
  let b := fire 233 (regOf [(0, 5, ring), (5, 4, mark)]) b
  let b := (List.range 33).foldl (fun b s => modSite s nextMark b) b
  let b := fitAll b
  let b := if mark = 11 then
      let ms := (List.range 12).map fun m => tget {} b.growth.marks (markKey ring m)
      let rr : MarkRec := {
        startAge := g.age - 87660, endAge := g.age, trim := g.trimApplied, valid := true,
        sites := entriesOf fun s => ringEntry ((ms.filter (·.valid)).map fun m => tget {} m.sites s) g.trimApplied (siteAt b s) }
      let b := if ring < 31 then
          fire 233 (regOf [(0, 5, ring), (5, 4, 0xF), (9, 1, 1)])
            (modGrowth (fun g => { g with marks := tset {} g.marks (markKey ring 15) rr }) b)
        else b
      (List.range 33).foldl (fun b s => modSite s nextRing b) b
    else b
  let b := marginRefresh b
  if b.growth.afterDown then
    let b := modGrowth (fun g => { g with afterDown := false }) b
    if (activities b).any fun a => decide (9 * budget b a < 10 * dProj b a) then trimUp b else b
  else b

end Sys2Proof.Machine
end

