-- ==== Sys2Proof/Machine/Recorder.lean ====
section
/-! DEFINITION. The recorder (R491 to R505). -/

namespace Sys2Proof.Machine

/-- Data words of a part of a snapshot: 22 a record (R497). -/
def partVals (s : Snapshot) (part : Nat) : List Word := (s.vals.drop (22 * part)).take 22

def partCount (s : Snapshot) : Nat := if 22 < s.vals.length then 2 else 1

/-- Order of KIND among records of one tick: START, SEAL, TRIGGER (R498). -/
def kindRank (k : Nat) : Nat := if k = 2 then 0 else if k = 3 then 1 else 2

/-- One held snapshot is written before another (R498). -/
def snapBefore (a c : Snapshot) : Bool :=
  if a.tick ≠ c.tick then decide (a.tick < c.tick)
  else if kindRank a.kind ≠ kindRank c.kind then decide (kindRank a.kind < kindRank c.kind)
  else decide (a.trigger < c.trigger)

/-- Position of the held snapshot that is written next. -/
def nextHeld (l : List Snapshot) : Option Nat :=
  (List.range l.length).find? fun i =>
    match l[i]? with
    | none => false
    | some s => (List.range l.length).all fun j =>
        match l[j]? with
        | none => true
        | some c => decide (i = j) || snapBefore s c || (!snapBefore c s && decide (i < j))

/-- The record of a part (Table 16.1). -/
def recordOf (s : Snapshot) (part seq : Nat) : Record :=
  { seqA := seq, seqB := seq, kind := s.kind, trigger := if s.kind = 1 then s.trigger else 0xFF
    part := part + 16 * partCount s, count := (partVals s part).length, tick := s.tick
    vtSec := s.vtSec, vtNsec := s.vtNsec + 2 ^ 30 * b1 s.vtValid, missed := s.missed, state := s.state, detail := s.detail
    data := partVals s part, crc := s.crc }

/-- The 128 bytes of a record (Table 16.1); a record with an uncorrectable word as R504 delivers it. -/
def recordBytes (r : Record) : List Byte :=
  if r.bad then leBytes 124 0 ++ leBytes 4 0xFFFFFFFF
  else
    leBytes 4 r.seqA ++ leBytes 1 r.kind ++ leBytes 1 r.trigger ++ leBytes 1 r.part ++ leBytes 1 r.count ++ leBytes 8 r.tick ++
      leBytes 4 r.vtSec ++ leBytes 4 r.vtNsec ++ leBytes 2 r.missed ++ leBytes 1 r.state ++ leBytes 1 0 ++ wordBytes r.detail ++
      (List.range 22).flatMap (fun i => wordBytes (wAt r.data i)) ++ wordBytes r.crc ++ leBytes 4 r.seqB

/-- A record that has been written whole or in part exists (R502). -/
def recordExists (r : Record) : Bool := r.seqA != 0 || r.seqB != 0

/-- Write one record to sapwood and to heartwood (R500, R501). -/
def writeRecord (sap : Bool) (x : Record) (b : Block) : Block :=
  let r := b.recorder
  let b := if sap then modRec (fun r => { r with
      sap := tset {} r.sap r.sapNext x, sapNext := (r.sapNext + 1) % 32768 }) b else b
  if hwOpen r then
    let b := modRec (fun r => { r with hw := tset {} r.hw r.hwCount x, hwCount := r.hwCount + 1 }) b
    if b.recorder.hwCount = 4096 then
      fire 241 0 (markBit 0xC0014 3 (modRec (fun r => { r with latch := putBit r.latch 3 true }) b))
    else b
  else b

/-- RECORD_WRITTEN: the recorder writes the next part of the next held snapshot (R492, R498). -/
def recordWritten (b : Block) : Block :=
  if b.recorder.logicFenced || !b.glb.mramOk then b else
  match nextHeld b.recorder.held with
  | none => b
  | some i =>
    match b.recorder.held[i]? with
    | none => b
    | some s =>
      let b := if s.opens then modRec (fun r => { r with hwOpened := true }) b else b
      let sap := b.sec.lifecycle != 3 || s.kind == 3
      let seq := if b.recorder.seq = 2 ^ 32 - 1 then 1 else b.recorder.seq + 1
      let done := decide (s.written + 1 = partCount s)
      let b := modRec (fun r => { r with
        held := if done then r.held.eraseIdx i else r.held.set i { s with written := s.written + 1 }
        written := if done && s.kind == 1 then tmod 0 r.written s.trigger (fun n => (n + 1) % 0x10000) else r.written }) b
      if sap || hwOpen b.recorder then
        writeRecord sap (recordOf s s.written seq) (modRec (fun r => { r with seq := seq }) b)
      else b

/-- A record is lost: it is counted, LOST latches, and ES242 fires with its cause (R503 to R505). -/
def recordLost (cause hw : Nat) (b : Block) : Block :=
  fire 242 (regOf [(0, 2, cause), (2, 1, hw)])
    (markBit 0xC0014 1 (modRec (fun r => { r with lost := sat16 r.lost 1, latch := putBit r.latch 1 true }) b))

/-- The START record's snapshot at Ready (R499). -/
def startSnapshot (b : Block) : Block :=
  holdSnapshot 2 0xFF 0 ([0x20, 0x24, 0x50, 0xA0000, 0x40000, 0xB0000, 0xF0018, 0xF001C].map (readReg b 3)) b

/-- The snapshot of a lifecycle action (R499, R527); the first seal opens heartwood (R501). -/
def sealSnapshot (opens : Bool) (b : Block) : Block :=
  let b' := holdSnapshot 3 0xFF 0 ([0x60, 0x64, 0x8, 0xC, 0x4, 0xF0018].map (readReg b 3)) b
  if opens then modRec (fun r => { r with held := r.held.map fun s =>
    if s.kind == 3 && s.tick == b.tb then { s with opens := true } else s }) b'
  else b'

/-- Whether a trigger is of KIND HOST in the bank in force (Table 16.4). -/
def hostTrigger (b : Block) (t : Nat) : Bool :=
  b.glb.active && decide (t < 32) && bit (trgCfg b t) 0 && fld (trgCfg b t) 1 2 == 3

/-- The triggers of KIND TIME on a time trigger. -/
def timeTriggers (b : Block) (tt : Nat) : List Nat :=
  if b.glb.active then
    (List.range 32).filter fun t => bit (trgCfg b t) 0 && fld (trgCfg b t) 1 2 == 2 && fld (trgArg b t) 0 8 == tt
  else []

/-- The records an RRD request delivers: area 0 heartwood, 1 sapwood (R95, R502, R505, Table 3.12). -/
def rrdRecords (b : Block) (area first count : Nat) : List Record :=
  if b.recorder.mramFenced then [] else
  let size := if area = 1 then 32768 else 4096
  let t := if area = 1 then b.recorder.sap else b.recorder.hw
  ((List.range (min count (size - first))).map fun i => tget {} t (first + i)).takeWhile recordExists

end Sys2Proof.Machine
end

