-- ==== Sys2Proof/Machine/Display.lean ====
section
/-! DEFINITION. The status display (R506 to R518). -/

namespace Sys2Proof.Machine

def dlInterrupted : Nat := 0
def dlRailsLost : Nat := 1
def dlTempBad : Nat := 2
def dlBandChg : Nat := 3

def dspLatch (i : Nat) (b : Block) : Block := markBit 0xD0018 i (modDsp (fun d => { d with latch := putBit d.latch i true }) b)

/-- Mask of a waveform of a band as a number, frame 0 in bit 0. -/
def bandMask (v : Block) (k : Nat) (dark : Bool) : Nat :=
  if dark then join64 (dspBand v k 1) (dspBand v k 2) else join64 (dspBand v k 3) (dspBand v k 4)

/-- Length of a waveform of a band. -/
def bandLen (v : Block) (k : Nat) (dark : Bool) : Nat := fld (dspBand v k 0) (if dark then 6 else 13) 7

/-- Drive frame `j` of the running waveform: positive polarity when `j` is even (R510); in the compensating phase a waveform is
active while its imbalance has the opposite sign (R514). -/
def driveFrame (j : Nat) (b : Block) : Block :=
  let d := b.dsp
  let pos := j % 2 == 0
  let sgn : Int := if pos then 1 else -1
  let act := fun (mask : Nat) (imb : Int) =>
    if d.compensating then decide (imb * sgn < 0) else mask.testBit j
  let ad := act d.maskDark d.imbDark
  let al := act d.maskLight d.imbLight
  let b := modDsp (fun d => { d with
    frame := j, frameAt := b.tb
    imbDark := if ad then d.imbDark + sgn else d.imbDark
    imbLight := if al then d.imbLight + sgn else d.imbLight }) b
  emit (.display pos (if ad then d.toDark else []) (if al then d.toLight else [])) b

/-- Start a waveform with the present band of a configuration view (R510, R513): the segments of TO_DARK and TO_LIGHT, and SHOWN once
it has ended. DIRTY is set before the first frame (R507). -/
def startWave (v : Block) (state phase : Nat) (dark light next : Tab Word) (frames : Nat) (b : Block) : Block :=
  let k := b.dsp.bandNow
  driveFrame 0 (modDsp (fun d => { d with
    state := state, phase := phase, dirty := true, band := k, toDark := dark, toLight := light, next := next
    frames := frames, frameT := fld (dspBand v k 0) 0 5 * 100000
    maskDark := bandMask v k true, maskLight := bandMask v k false
    imbDark := 0, imbLight := 0, compensating := false, stopAsked := false }) b)

/-- The driver is idle and may start a waveform: rails in range, not in Ride-through, power-down not begun (R509, R514, R537). -/
def dspFree (b : Block) : Bool :=
  b.dsp.state == 0 && b.dsp.railsOk && decide (b.sec.power < 2) && b.sec.downAt.isNone && !isFenced b .display

/-- Segments that an update drives dark or light (R509). -/
def wantsDark (b : Block) (s : Nat) : Bool := bit (dspSeg b s) 0 && segTarget b s && !segBit b.dsp.shown s
def wantsLight (b : Block) (s : Nat) : Bool := bit (dspSeg b s) 0 && !segTarget b s && segBit b.dsp.shown s

/-- UPDATE_GAP seconds have passed since the previous update ended (R509). -/
def gapOver (b : Block) : Bool := b.dsp.lastEnd.all fun t => decide (t + fld (dspCfg b) 7 8 * 1000000 ≤ b.tb)

/-- DISPLAY_UPDATE_START: an update starts (R509). -/
def displayUpdateStart (b : Block) : Block :=
  let changes := (List.range 384).any fun s => wantsDark b s || wantsLight b s
  if b.glb.active && bit (dspCfg b) 0 && dspFree b && b.dsp.wanted.isNone && changes && gapOver b then
    let k := b.dsp.bandNow
    startWave b 1 0 (segWords (wantsDark b)) (segWords (wantsLight b))
      (segWords fun s => if bit (dspSeg b s) 0 then segTarget b s else segBit b.dsp.shown s)
      (max (bandLen b k true) (bandLen b k false)) b
  else b

/-- Segments enabled in any bank held in the configuration store (R517). -/
def segInAnyBank (b : Block) (s : Nat) : Bool :=
  (b.glb.bank0.present && bit (secWord b.glb.bank0.mem 0xA (1140 + s)) 0) ||
    (b.glb.bank1.present && bit (secWord b.glb.bank1.mem 0xA (1140 + s)) 0)

/-- FULL_REFRESH: a refresh that has been asked for starts with its light phase (R512, R517). -/
def fullRefresh (b : Block) : Block :=
  match b.dsp.wanted, dspView b with
  | some c, some v =>
    if dspFree b then
      let b := modDsp (fun d => { d with wanted := none, cause := c }) b
      let b := fire 246 (regOf [(0, 1, 1), (1, 3, c)]) b
      startWave v 2 1 [] (segWords (segInAnyBank b)) [] (bandLen v b.dsp.bandNow false) b
    else b
  | _, _ => b

/-- The dark phase of a full refresh (R517). -/
def darkPhase (b : Block) : Block :=
  match dspView b with
  | none => modDsp (fun d => { d with state := 0, phase := 0 }) b
  | some v =>
    let dark := segWords fun s => bit (dspSeg b s) 0 && segTarget b s
    startWave v 2 2 dark [] dark (bandLen v b.dsp.bandNow true) b

/-- A waveform has ended whole: SHOWN is written and DIRTY cleared (R507). -/
def endWave (b : Block) : Block :=
  let d := b.dsp
  if d.state = 2 ∧ d.phase = 1 then darkPhase b
  else
    let b := modDsp (fun d => { d with
      shown := d.next, dirty := false, phase := 0, toDark := [], toLight := []
      state := 0, lastEnd := if d.state = 1 then some b.tb else d.lastEnd
      updates := if d.state = 1 then (d.updates + 1) % 0x10000 else d.updates
      refreshes := if d.state = 2 then sat8 d.refreshes 1 else d.refreshes
      refreshFrom := if d.state = 2 then b.tb else d.refreshFrom }) b
    if d.state = 2 then fire 246 (regOf [(1, 3, d.cause)]) b else b

/-- The compensating phase has ended: the panel is discharged, INTERRUPTED latches and ES243 fires; a fenced driver stops (R514,
R518). -/
def endCompensation (b : Block) : Block :=
  let d := b.dsp
  let b := modDsp (fun d => { d with
    state := if isFenced b .display then 3 else 0, phase := 0, compensating := false, stopAsked := false
    lastEnd := if d.state = 1 then some b.tb else d.lastEnd
    toDark := [], toLight := [], dirty := true, interrupted := sat8 d.interrupted 1
    latch := putBit d.latch dlInterrupted true, wanted := some (d.wanted.getD 1) }) b
  let b := fire 243 (regOf [(0, 6, d.compFrame)]) (markBit 0xD0018 dlInterrupted b)
  if d.state = 2 then fire 246 (regOf [(1, 3, d.cause)]) b else b

/-- DISPLAY_FRAME: the current frame ends; the next one begins, or the waveform or its compensation ends (R510, R514). -/
def displayFrame (b : Block) : Block :=
  let d := b.dsp
  if (d.state = 1 ∨ d.state = 2) ∧ d.frameAt + d.frameT ≤ b.tb then
    let j := d.frame + 1
    if d.compensating then
      if d.imbDark = 0 ∧ d.imbLight = 0 then endCompensation b else driveFrame j b
    else if d.stopAsked then
      let b := modDsp (fun d => { d with compensating := true, compFrame := j }) b
      if d.imbDark = 0 ∧ d.imbLight = 0 then endCompensation b else driveFrame j b
    else if j < d.frames then driveFrame j b
    else endWave b
  else b

/-- REFRESH_PERIOD: hours of powered time have passed (R517). -/
def refreshPeriod (b : Block) : Block :=
  let h := fld (dspCfg b) 15 8
  if h ≠ 0 ∧ b.dsp.refreshFrom + h * 360000000000 ≤ b.tb ∧ b.dsp.wanted.isNone then
    modDsp (fun d => { d with wanted := some 4, refreshFrom := b.tb }) b
  else b

/-- A REFRESH command (R519). -/
def refreshAsked (b : Block) : Block := modDsp (fun d => { d with wanted := some (d.wanted.getD 3) }) b

/-- The band takes a value; a change during a waveform latches BAND_CHG and fires ES244 (R513). -/
def setBand (k : Nat) (b : Block) : Block :=
  let d := b.dsp
  let b := modDsp (fun d => { d with bandNow := k }) b
  if k ≠ d.bandNow ∧ (d.state = 1 ∨ d.state = 2) ∧ k ≠ d.band then
    fire 244 (regOf [(0, 3, d.band), (3, 3, k)]) (dspLatch dlBandChg b)
  else b

/-- THERMISTOR_READ: the panel temperature in 0.1 °C; none from an open or shorted thermistor (R513). -/
def thermistorRead (t : Option Int) (b : Block) : Block :=
  if b.tb % 10000000 ≠ 0 then b else
  match dspView b with
  | none =>
    match t with
    | some v => modDsp (fun d => { d with temp := v, tempOk := decide (-400 ≤ v) && decide (v ≤ 850) }) b
    | none => dspLatch dlTempBad (modDsp (fun d => { d with tempOk := false }) b)
  | some w =>
    match t with
    | some v =>
      if -400 ≤ v ∧ v ≤ 850 then
        let k := if b.dsp.tempOk then bandNext w b.dsp.bandNow v else bandOf w v
        setBand k (modDsp (fun d => { d with temp := v, tempOk := true }) b)
      else setBand (fld (dspCfg w) 23 3) (dspLatch dlTempBad (modDsp (fun d => { d with temp := v, tempOk := false }) b))
    | none => setBand (fld (dspCfg w) 23 3) (dspLatch dlTempBad (modDsp (fun d => { d with tempOk := false }) b))

/-- RAIL_CHECK: the +15 V rail, the magnitude of the −15 V rail and the magnitude of VCOM (which lies at or below 0 V) in mV (R516). -/
def railCheck (p n vcom : Nat) (b : Block) : Block :=
  if b.tb % 100000 ≠ 0 then b else
  let ok := decide (14250 ≤ p) && decide (p ≤ 15750) && decide (14250 ≤ n) && decide (n ≤ 15750) && decide (vcom ≤ 3000)
  let was := b.dsp.railsOk
  let running := b.dsp.state = 1 ∨ b.dsp.state = 2
  let b := modDsp (fun d => { d with railP := p / 20, railN := n / 20, vcom := vcom / 10, railsOk := ok }) b
  if ok = was then b
  else if ok then fire 245 1 b
  else
    let st := b.dsp.state
    let cause := b.dsp.cause
    let b := dspLatch dlRailsLost (modDsp (fun d => { d with wanted := some (d.wanted.getD 2) }) b)
    let b := fire 245 0 b
    if running then
      let b := modDsp (fun d => { d with
        state := if isFenced b .display then 3 else 0, phase := 0, compensating := false, stopAsked := false
        lastEnd := if st = 1 then some b.tb else d.lastEnd
        toDark := [], toLight := [] }) b
      if st = 2 then fire 246 (regOf [(1, 3, cause)]) b else b
    else b

/-- HEARTBEAT: the status bit toggles every HB_PERIOD seconds; it is 0 while HB_PERIOD is 0 (R506). -/
def heartbeat (b : Block) : Block :=
  let h := fld (dspCfg b) 1 6
  if h = 0 then modDsp (fun d => { d with heartbeat := false }) b
  else if b.dsp.hbAt + h * 100000000 ≤ b.tb then modDsp (fun d => { d with heartbeat := !d.heartbeat, hbAt := b.tb }) b
  else b

end Sys2Proof.Machine
end

