-- ==== Sys2Proof/Machine/Security.lean ====
section
/-! DEFINITION. Lifecycle actions, debug levels and power states (R523 to R542). -/

namespace Sys2Proof.Machine

/-- Refusal codes of Table 17.3. -/
def rfKEY : Nat := 0x01
def rfTIMEOUT : Nat := 0x02
def rfVALUE : Nat := 0x03
def rfLIFECYCLE : Nat := 0x04
def rfBANK : Nat := 0x05
def rfROLE : Nat := 0x06
def rfPOWER : Nat := 0x07
def rfBUSY : Nat := 0x08
def rfPOLICY : Nat := 0x09
def rfSOURCE : Nat := 0x0A
def rfMALFORMED : Nat := 0x0B
def rfLOCK : Nat := 0x0C

/-- An action or a raise is refused (R526); a third VALUE in a row sets LC_LOCK (R525). -/
def secRefuse (code : Nat) (b : Block) : Block :=
  let fails := if code = rfVALUE then min 3 (b.sec.valueFails + 1) else 0
  fire 251 (w32 code) (markBit 0xE0014 0 (modSec (fun s => { s with
    refuse := code, latch := putBit s.latch 0 true, valueFails := fails, lcLock := s.lcLock || fails == 3 }) b))

/-- The debug level takes a value: ES249 fires at a change; a fall from Full in Sealed clears the forces (R532). -/
def setLevel (v source : Nat) (b : Block) : Block :=
  let old := b.sec.level
  if old = v then b else
  let b := modSec (fun s => { s with level := v }) b
  let b := if old = 2 && b.sec.lifecycle == 2 then clearForces b else b
  fire 249 (regOf [(0, 2, v), (2, 2, source)]) b

/-- ACTIVE_CONFIRMED. -/
def activeConfirmed (b : Block) : Bool := b.glb.active && b.glb.activeBank.confirmed

/-- The value that Table 17.2 asks for, of an action: 1 SEAL, 2 UNSEAL, 3 RETIRE. -/
def secValue (act : Nat) (b : Block) : Word :=
  let serial := loW Sys2Proof.Config.serial.toNat
  if act = 1 then bankCrc b
  else if act = 2 then (if b.glb.active then bankCrc b else serial)
  else serial

/-- The refusal of an action (0 OPEN, 1 SEAL, 2 UNSEAL, 3 RETIRE) from a source (0 H0, 1 H1, 2 the debug port), in the order of the
codes (R525, Table 17.2, Table 17.3; log 21). -/
def secCheck (act src : Nat) (b : Block) : Option Nat :=
  let s := b.sec
  let typed := act ≠ 0
  firstSome [
    failIf (typed && (!b.glb.key || s.typed.isNone)) rfKEY,
    failIf (typed && decide (s.typedAt + 6000000000 ≤ b.tb)) rfTIMEOUT,
    failIf (typed && decide (s.typed ≠ some (secValue act b))) rfVALUE,
    failIf (if act = 0 then s.lifecycle != 0 else if act = 1 then s.lifecycle != 1 else if act = 2 then s.lifecycle != 2
      else s.lifecycle != 1 && s.lifecycle != 2) rfLIFECYCLE,
    failIf (act == 1 && !activeConfirmed b) rfBANK,
    failIf (act == 3 && (b.ptn.role == 0 || (paired b && b.ptn.heard))) rfROLE,
    failIf (decide (2 ≤ s.power)) rfPOWER,
    failIf (typed && (b.glb.shadow == .loading || b.glb.shadow == .checking || b.glb.shadow == .pending)) rfBUSY,
    failIf (act == 2 && !bit s.policy 3) rfPOLICY,
    failIf (if act = 0 then !(src == 2 && s.level == 2) else src == 2 && s.level != 2) rfSOURCE,
    failIf (typed && s.lcLock) rfLOCK]

/-- An action takes effect (R527, R528). -/
def secAct (act : Nat) (b : Block) : Block :=
  let b := sealSnapshot (act == 1 && !b.recorder.hwOpened && b.recorder.held.all fun s => !s.opens) b
  let lc := if act = 0 then 1 else if act = 1 then 2 else if act = 2 then 1 else 3
  let b := modSec (fun s => { s with
    lifecycle := lc, lcA := some lc, lcB := some lc, valueFails := 0, typed := none
    seals := if act = 1 then sat8 s.seals 1 else s.seals
    unseals := if act = 2 then sat8 s.unseals 1 else s.unseals }) b
  let b := cancelSwitch (setLevel 0 3 b)
  let b := if 2 ≤ lc then clearForces b else b
  let b := if act = 3 then
      modPtn (fun p => { p with slot0 := none, slot1 := none, capturing := none, commit := none })
        (modGlb (fun g => { g with
          active := false, bank0 := {}, bank1 := {}, selA := none, selB := none, shadow := .empty, selPassed := false }) b)
    else b
  fire 248 (regOf [(0, 2, lc), (2, 2, act)]) b

/-- DBG_SET (R532). -/
def dbgSet (src lvl : Nat) (b : Block) : Block :=
  let s := b.sec
  if lvl ≤ s.level then setLevel lvl src b
  else
    match firstSome [
      failIf (s.lifecycle == 2 && !b.glb.key && !(lvl == 1 && bit s.policy 0)) rfKEY,
      failIf (decide (2 ≤ s.power)) rfPOWER,
      failIf (s.lifecycle == 2 && lvl == 2 && !bit s.policy 1) rfPOLICY,
      failIf (src != 2 && !bit s.policy 2) rfSOURCE,
      failIf (lvl == 3) rfMALFORMED] with
    | some c => secRefuse c b
    | none => setLevel lvl src b

/-- A lifecycle action as commanded. -/
def secAction (act src : Nat) (b : Block) : Block :=
  match secCheck act src b with
  | some c => secRefuse c b
  | none => secAct act b

/-- A write to SEC_CTRL (Table 17.14): exactly one action bit, or only DBG_SET. -/
def secCtrlWrite (src : Nat) (v : Word) (b : Block) : Block :=
  match fld v 0 5 with
  | 1 => secAction 0 src b
  | 2 => secAction 1 src b
  | 4 => secAction 2 src b
  | 8 => secAction 3 src b
  | 16 => dbgSet src (fld v 5 2) b
  | _ => secRefuse rfMALFORMED b

/-- A write to SEC_CONFIRM: the typed value is kept while the key is asserted (R525). -/
def secConfirmWrite (v : Word) (b : Block) : Block :=
  modSec (fun s => { s with typed := if b.glb.key then some v else none, typedAt := b.tb }) b

/-- What a release of the key does here (R525, R532). -/
def secKeyReleased (b : Block) : Block :=
  let b := modSec (fun s => { s with typed := none, lcLock := false, valueFails := 0 }) b
  if b.sec.lifecycle == 2 && !(b.sec.level == 1 && bit b.sec.policy 0) then setLevel 0 3 b else b

/-! Power (R533 to R537). -/

/-- LOGIC_FEED_LOST: with both lost the module enters Ride-through (R534). Before step 3 of start-up, while nothing may be written to MRAM, that ends
start-up at once, and the non-volatile contents stay as they are (R51). -/
def logicFeedLost (i : Nat) (b : Block) : Block :=
  let b := modSec (fun s => if i = 0 then { s with feedA := false } else { s with feedB := false }) b
  if !b.sec.feedA && !b.sec.feedB && !b.glb.mramOk then setPower 3 (modGlb (fun g => { g with start := none }) b)
  else if !b.sec.feedA && !b.sec.feedB && decide (b.sec.power < 2) then
    let b := modSec (fun s => { s with
      before := s.power, rideFrom := b.tb, lastLoss := b.growth.age, latch := putBit s.latch 1 true }) b
    dspBreak (setPower 2 (markBit 0xE0014 1 b))
  else b

/-- LOGIC_FEED_RESTORED: Ride-through ends when it has not led to the power-down sequence (R534, R536). -/
def logicFeedRestored (i : Nat) (b : Block) : Block :=
  let b := modSec (fun s => if i = 0 then { s with feedA := true } else { s with feedB := true }) b
  if b.sec.power = 2 && b.sec.downAt.isNone then
    setPower (wantedPower b) (modSec (fun s => { s with survived := sat8 s.survived 1, chargedAt := some (b.tb + 15000000) }) b)
  else b

/-- The power-down sequence starts (R537): no further seed, snapshot or frame; the role leaves Active or Standby. Table 11.4 names no
cause for this, so ROLE_CAUSE is a free value (log 1). -/
def powerDown (b : Block) : Block :=
  let b := modSec (fun s => { s with downAt := some b.tb, powerDowns := sat8 s.powerDowns 1 }) b
  let b := modPtn (fun p => { p with capturing := none }) b
  if b.ptn.role = 2 then b else
  let (c, b) := takeFree b
  setRole 2 (fld c 0 4) b

/-- RIDE_THROUGH_TIMEOUT: 20 ms have passed since entry (R536). -/
def rideThroughTimeout (b : Block) : Block :=
  if b.sec.power = 2 ∧ b.sec.downAt.isNone ∧ b.sec.rideFrom + 2000000 ≤ b.tb then powerDown b else b

/-- HOLDUP_RESERVE: the store falls to 0.40 J, given in mJ (R536). -/
def holdupReserve (mj : Nat) (b : Block) : Block :=
  if 400 < mj then b else
  let b := modSec (fun s => { s with holdupMj := mj }) b
  if b.sec.power = 2 ∧ b.sec.downAt.isNone then powerDown b else b

/-- HOLDUP_LOW: the store falls below 1.6 J in Run or Hold (R560). -/
def holdupLow (mj : Nat) (b : Block) : Block :=
  if b.sec.power < 2 ∧ mj < 1600 then
    fire 253 (regOf [(0, 12, mj)]) (modSec (fun s => { s with
      holdupMj := mj, chargedAt := s.chargedAt.filter fun t => decide (b.tb < t) }) b)
  else b

/-- The first seed after Ready takes the place of one found from before power-up (R53). -/
def dropOldSeeds (b : Block) : Block :=
  if b.glb.oldSeeds then
    modPtn (fun p => { p with slot0 := none, slot1 := none }) (modGlb (fun g => { g with oldSeeds := false }) b)
  else b

/-- The commit in progress completes: the captured seed stands in its slot (R382). -/
def commitFinish (b : Block) : Block :=
  match b.ptn.commit with
  | none => b
  | some k =>
    modPtn (fun p =>
      let s := some (if p.commitPrev then p.buffer1 else p.buffer)
      if k = 0 then { p with commit := none, slot0 := s } else { p with commit := none, slot1 := s }) (dropOldSeeds b)

/-- POWER_OFF: the power-down sequence has ended (R537); a compensating phase and the commit in progress are completed first (R382). -/
def powerOff (b : Block) : Block :=
  if b.sec.downAt.isSome ∧ !(b.dsp.state = 1 ∨ b.dsp.state = 2) ∧ b.sec.power = 2 then setPower 3 (commitFinish b) else b

/-- WAKE_TEST: the gated tiles have been tested on leaving Hold; every location that failed is given. A failing lane is fenced, ES252
fires and WAKE_FENCE latches (R535). -/
def wakeTest (fails : List Word) (b : Block) : Block :=
  if !b.sec.waking then b else
  let b := modSec (fun s => { s with waking := false }) b
  (fails.filter locOk).foldl (fun b l =>
    let b := fault 0x05 l true false .plain b
    match unitAt l with
    | .fence _ => fire 252 (regOf [(14, 18, fld l 14 18)]) (markBit 0xE0014 2 (modSec (fun s => { s with latch := putBit s.latch 2 true }) b))
    | _ => b) b

end Sys2Proof.Machine
end

