-- ==== Sys2Proof/Machine/TargetInfo.lean ====
section
/-! DEFINITION. The writable value targets of the bank in force: safe value, minimum host priority, initial value, range and cycle
(R101 to R104, R150, R270, R308, R344, R408, R508, R568). -/

namespace Sys2Proof.Machine

/-- CLASS, INDEX and FIELD of a target key. -/
def keyClass (k : Nat) : Nat := k / 2 ^ 24
def keyIndex (k : Nat) : Nat := k / 2 ^ 8 % 2 ^ 16
def keyField (k : Nat) : Nat := k % 2 ^ 8

/-- A target of CLASS 0x03: its safe value is the ramped setpoint for SP_N, SP_E and SP_HDG, ENABLE_SAFE for DP_ENABLE, 1 for SELECT and
GROUP_EN, else 0 (Tables 9.10 and 10.13). -/
def dpTarget (b : Block) (i f : Nat) : TInfo :=
  let isSp := i == 0x40 && decide (3 ≤ f) && decide (f ≤ 5)
  let safe : Word :=
    if isSp then wAt b.dp.sp (f - 3)
    else if i = 0x40 then (if f = 0 then w32 (fld (ctlW b 0) 1 1) else 0)
    else if i = 0x20 then 0 else 1
  { kind := if i = 0x40 ∧ f = 5 then .arc else if i = 0x40 ∧ 3 ≤ f then .real else .word
    safe := safe, hostMin := fld (ctlW b 0) 5 3, initial := if isSp then safe else dpBankField b i f }

/-- The writable value target with an address, if the bank in force defines it. -/
def targetInfo (b : Block) (k : Nat) : Option TInfo :=
  let i := keyIndex k
  let f := keyField k
  if !b.glb.active then none
  else match keyClass k with
  | 1 =>
    if i < 192 ∧ f = 0 ∧ (chnMode b i = 3 ∨ chnMode b i = 5) then
      some { kind := if chnMode b i = 3 then .real else .word, safe := chnS b i, hostMin := chnHostMin b i, initial := chnS b i }
    else none
  | 2 =>
    if i < 256 ∧ lpeEn b i ∧ (f ≤ 4 ∨ f = 6) then
      some { kind := if f = 1 then .word else .real
             safe := if f = 0 then lpeSpSafe b i else if f = 1 then 0 else lpeBankField b i f
             hostMin := lpeHostMin b i, initial := lpeBankField b i f }
    else none
  | 3 => if (dpFields b).contains (i, f) then some (dpTarget b i f) else none
  | 4 =>
    if i < 2048 ∧ f = 2 ∧ objEn b i ∧ objTx b i ∧ objMode b i ≤ 1 then
      some { safe := 0, hostMin := objHostMin b i, initial := 1 }
    else none
  | 0xA => if i < 12 ∧ f = 0 then some { safe := 0, hostMin := fld (dspCfg b) 26 3, initial := 0 } else none
  | _ => none

/-- A value lies within the range of a target. -/
def targetOk (b : Block) (k : Nat) (v : Word) : Bool :=
  let i := keyIndex k
  let f := keyField k
  let flag := decide (v.toNat ≤ 1)
  match keyClass k with
  | 1 => if chnMode b i = 3 then fIn 0 0x41C00000 v else flag
  | 2 =>
    if f = 0 then fIn (lpeSpMin b i) (lpeSpMax b i) v
    else if f = 1 then decide (v.toNat ≤ 2)
    else finite v && fLe 0 v
  | 3 =>
    if i = 0x40 ∧ f = 5 then finite v && fLe 0 v && fLt v 0x43B40000
    else if i = 0x40 ∧ 3 ≤ f then finite v
    else if 0xC0 ≤ i then flag && (v == 0 || grpMask b (i - 0xC0) != 0)
    else flag
  | 4 => flag
  | _ => true

/-- A safety force or a fence decides the target (rows 1 and 3 of Table 1.7). -/
def targetForced (b : Block) (k : Nat) : Bool :=
  let i := keyIndex k
  match keyClass k with
  | 1 => safForces b k || isFenced b (.channel i)
  | 2 => (lanePhys b (lpeLane b i)).isNone
  | 4 => objForced b i || isFenced b (.can (i / 128))
  | 0xA => isFenced b .display
  | _ => false

/-- Between B and H of a planned handover, and in its overlap window, the outputs hold what the handover seed gives them: no channel resolves
(R371, R373). -/
def outputsHeld (b : Block) : Bool := b.ptn.overlap.isSome || b.ptn.handover.any fun h => h.captured

/-- This tick starts a cycle of the target (R102, R244, R344, R408, R508). -/
def targetCycle (b : Block) (k : Nat) : Bool :=
  let i := keyIndex k
  match keyClass k with
  | 1 => b.tb % 400 == 0 && !outputsHeld b
  | 2 => lpeOn b && !enginesHeld b && isInstant b (lpeTrig b i) (lpeDivider b i)
  | 3 => dpOn b && !enginesHeld b && b.tb % 2000000 == 0
  | 4 => if objMode b i = 1 then isInstant b (objTrig b i) (objDiv b i) else b.tb % 10000 == 0
  | 0xA => b.tb % 1000000 == 0
  | _ => false

/-- Every writable value target of the bank in force. -/
def allTargets (b : Block) : List Nat :=
  if !b.glb.active then [] else
  (List.range 192).map (fun n => targetKey 1 n 0) ++
    (lpeList b).flatMap (fun c => ([0, 1, 2, 3, 4, 6] : List Nat).map fun f => targetKey 2 c f) ++
    (dpFields b).map (fun p => targetKey 3 p.1 p.2) ++
    (List.range 2048).map (fun o => targetKey 4 o 2) ++ (List.range 12).map fun j => targetKey 0xA j 0

end Sys2Proof.Machine
end

