-- ==== Sys2Proof/Machine/Rings.lean ====
section
/-! DEFINITION. Ring states, fetching, write-back, vectors, links, host orders and their resolution (R76 to R114, R566 to R568). -/

namespace Sys2Proof.Machine

def ringMod : Nat := 131072

/-! Vectors (R112). -/

def vecAt (b : Block) (l v : Nat) : Vec := tget {} (hostLink b l).vecs v
def modVec (l v : Nat) (f : Vec → Vec) (b : Block) : Block := modLink l (fun h => { h with vecs := tmod {} h.vecs v f }) b
/-- Holdoff of a vector in ticks. -/
def holdoffT (b : Block) (v : Nat) : Nat := fld (tget 0 b.rng.holdoff v) 0 16 * 100

/-- Send the message of a vector, or set its pending bit while it is masked; a sent message starts the holdoff. -/
def sendVec (l v : Nat) (b : Block) : Block :=
  if (vecAt b l v).masked then modVec l v (fun x => { x with pending := true, merged := false }) b
  else
    let h := holdoffT b v
    emit (.msix l v) (modVec l v (fun x => { x with
      pending := false, merged := false, holdEnd := if h = 0 then none else some (b.tb + h) }) b)

/-- Request a vector on a link: during the holdoff the request merges (R112). -/
def requestVec (l v : Nat) (b : Block) : Block :=
  if !linkUp b l then b else
  match (vecAt b l v).holdEnd with
  | some t => if b.tb < t then modVec l v (fun x => { x with merged := true }) b else sendVec l v b
  | none => sendVec l v b

/-- MSIX_HOLDOFF_END: the holdoff of a vector ends and a merged message is sent (R112). -/
def msixHoldoffEnd (l v : Nat) (b : Block) : Block :=
  match (vecAt b l v).holdEnd with
  | some t =>
    if b.tb < t then b
    else
      let m := (vecAt b l v).merged
      let b := modVec l v (fun x => { x with holdEnd := none, merged := false }) b
      if m then sendVec l v b else b
  | none => b

/-- VECTOR_UNMASK: host software unmasks a vector; a pending message is sent (R112). -/
def vectorUnmask (l v : Nat) (b : Block) : Block :=
  if 32 ≤ v then b else
  let p := (vecAt b l v).pending
  let b := modVec l v (fun x => { x with masked := false }) b
  if p && linkUp b l then sendVec l v b else b

/-! Ring states (R83). -/

/-- Commands that a stopping ring has fetched and not resolved are written back with ABANDONED (Table 3.3). -/
def abandonCommands (n : Nat) (b : Block) : Block :=
  (ring b n).fetched.foldl (fun b d => if d.done.isNone then refuse n d.idx stABANDONED b else b) b

/-- Staged entries that a ring keeps when it stops: one for each empty descriptor it has fetched, but none of a CPL ring, whose entries are
discarded and counted as soon as it leaves RUNNING (Table 3.3, R105). -/
def keptStaged (r : Ring) : Nat := if r.kind = tEVT ∨ r.kind = tTLM ∨ r.kind = tMRX then r.fetched.length else 0

/-- A ring enters STOPPED: by STOP (err 0) or through an error, which raises ES005 (R83, R114). The empty descriptors of a CPL ring, for which
nothing is left to write, stay in host memory as they are (DESIGN CHOICE, log 129). An outstanding fetch read is forgotten: what it brings, or
its failure, changes nothing any more (DESIGN CHOICE, log 164). -/
def ringStop (n err : Nat) (b : Block) : Block :=
  let r := ring b n
  if r.state ≠ .running then b else
  let b := modRing n (fun r => { r with
    state := .stopped, asked := 0, blocked := none, err := if r.err = 0 then err else r.err
    fetched := if r.kind = tCPL then [] else r.fetched }) b
  let b := if r.kind = tCPL then unreserve n b else b
  let b := if r.kind = tCMD then releaseLocks n (withdrawRing n (abandonCommands n b)) else b
  let b := discardStaged (keptStaged r) n b
  if err = 0 then b else fire 5 (regOf [(0, 7, n), (7, 1, r.link), (8, 8, err)]) b

/-- An error of a ring: it stops a RUNNING ring; a STOPPED ring that has none yet keeps it as its first (R90, R106, R114). -/
def ringError (n err : Nat) (b : Block) : Block :=
  if (ring b n).state = .stopped then modRing n (fun r => { r with err := if r.err = 0 then err else r.err }) b
  else ringStop n err b

/-- RESET, or EN = 0 (R82, R83). -/
def ringReset (n : Nat) (b : Block) : Block :=
  match (ring b n).state with
  | .disabled => modRing n (fun r => { r with err := 0 }) b
  | .down => ringDisable n b
  | .stopped => ringSettle n (modRing n (fun r => { r with resetting := true }) b)
  | .running => ringSettle n (modRing n (fun r => { r with resetting := true }) (ringStop n 0 b))

/-! Fetching (R85 to R88, R105, R109). -/

/-- Descriptors that a usable doorbell covers and that have not been fetched or asked for: none when a later doorbell lies behind what has been
fetched (R85, R87). -/
def ringAvail (r : Ring) : Nat := (r.hUse + ringMod - r.mIdx) % ringMod - (r.fIdx + ringMod - r.mIdx) % ringMod

/-- Bytes that a read through a link may ask for: at most 256, and never more than the max read request size (Table 3.1). -/
def readCap (b : Block) (l : Nat) : Nat := min 256 (hostLink b l).maxRead

/-- Reads of at most `cap` bytes that `n` bytes take. -/
def readCount (cap n : Nat) : Nat := (n + cap - 1) / cap

/-- Issue reads `i` to `i + k - 1` of the `n` bytes at an address, each of at most `cap` bytes. -/
def readsFrom (link addr cap n k i : Nat) (b : Block) : Block :=
  (List.range k).foldl (fun b j => emit (.hostRead link (addr + cap * (i + j)) (min cap (n - cap * (i + j)))) b) b

/-- CMD entries that a ring may still take: 16 of its own, and a share of the rest, while the 1 024 hold out: a ring enabled when others
have taken them waits until some are free (R88, R105). -/
def cmdCredit (b : Block) (n : Nat) : Nat :=
  let rings := enabledRings b tCMD
  let used := fun m => (ring b m).fetched.length + (ring b m).asked
  let shared := rings.foldl (fun a m => a + (used m - 16)) 0
  min ((16 - used n) + (1024 - 16 * rings.length - shared)) (1024 - cmdStaged b)

/-- Bytes that a descriptor takes in the MTX area; a payload longer than the area is never staged (log 41). -/
def mtxRoom (d : Desc) : Nat :=
  let n := fld (wAt d.w 2) 0 16
  if 49152 < n then 0 else n
/-- Records that an RRD descriptor may be given: COUNT, at most 128 (Table 3.12, log 42). -/
def rrdCount (d : Desc) : Nat := min 128 (fld (wAt d.w 4) 0 16)

/-- Bytes of the MTX area in use. -/
def mtxUsed (b : Block) : Nat :=
  (enabledRings b tMTX).foldl (fun a n =>
    let ds := (ring b n).fetched.filter fun d => d.done.isNone || (ring b n).state != .down
    a + (ds.map mtxRoom).foldl (· + ·) 0) 0
/-- Bytes of the RRD area in use. -/
def rrdUsed (b : Block) : Nat :=
  (enabledRings b tRRD).foldl (fun a n => a + ((ring b n).fetched.map fun d => 128 * rrdCount d).foldl (· + ·) 0) 0
/-- CPL entries in use: staged, and reserved by fetched commands. -/
def cplUsed (b : Block) : Nat :=
  (List.range 128).foldl (fun a n => a + (ring b n).cpls.length + countOf (fun d => d.cplTo.isSome) (ring b n).fetched) 0
/-- A ring's completions go to a CPL ring on the same link that is RUNNING (R105). -/
def cplTarget (b : Block) (n : Nat) : Bool :=
  let c := (ring b n).cplRing
  (ring b c).kind == tCPL && (ring b c).state == .running && (ring b c).link == (ring b n).link

/-- The credit for one more descriptor (R88, R105). -/
def creditFor (b : Block) (n : Nat) (d : Desc) : Bool :=
  let r := ring b n
  if r.kind = tCMD then !(cmdCpl d && cplTarget b n && decide (512 ≤ cplUsed b))
  else if r.kind = tMTX then decide (mtxUsed b + mtxRoom d ≤ 49152)
  else if r.kind = tRRD then decide (rrdUsed b + 128 * rrdCount d ≤ 16384)
  else true

/-- A descriptor that was read and left in host memory is not read again before its credit exists. -/
def unblocked (b : Block) (n : Nat) : Bool :=
  match (ring b n).blocked with
  | some d => creditFor b n d
  | none => true

/-- Entries staged for a module-to-host ring. -/
def ringStaged (r : Ring) : Nat := r.cpls.length + r.evts.length + r.imgs.length + r.frames.length

/-- How many descriptors a ring's next fetch read asks for; 0 when it has no fetch work (R87, R88, R109). -/
def fetchWork (b : Block) (n : Nat) : Nat :=
  let r := ring b n
  if r.state ≠ .running ∨ r.asked ≠ 0 ∨ !linkUp b r.link ∨ !unblocked b n then 0 else
  let room := r.size - r.fIdx % r.size
  let most := min (min (min 8 (readCap b r.link / 32)) (ringAvail r)) room
  if r.kind = tCMD then min most (cmdCredit b n)
  else if r.kind = tMTX then (if mtxUsed b < 49152 then most else 0)
  else if r.kind = tRRD then (if rrdUsed b < 16384 then most else 0)
  else if r.fetched.isEmpty then min most (ringStaged r)
  else 0

/-- Class of a ring in the fetch order: CMD by PRIO 0 to 7, MTX 8, RRD 9, EVT 10, CPL 11, TLM 12, MRX 13. -/
def fetchClass (r : Ring) : Nat :=
  if r.kind = tCMD then r.prio else if r.kind = tMTX then 8 else if r.kind = tRRD then 9 else if r.kind = tEVT then 10
  else if r.kind = tCPL then 11 else if r.kind = tTLM then 12 else 13

/-- The next ring of a class with work, round robin. -/
def nextOfClass (b : Block) (c : Nat) : Option Nat :=
  let last := tget 0 b.rng.rrLast c
  ((List.range 128).map fun i => (last + i) % 128).find? fun n => fetchClass (ring b n) == c && decide (0 < fetchWork b n)

/-- The ring that fetches next: the two orders of R109 alternate whenever both have work. Before the first fetch read the spec names neither order
as the next: the module-to-host order starts (DESIGN CHOICE, log 163). -/
def nextFetch (b : Block) : Option (Nat × Bool) :=
  let a := ([7, 6, 5, 4, 3, 2, 1, 0, 8, 9] : List Nat).findSome? (nextOfClass b)
  let c := ([10, 11, 12, 13] : List Nat).findSome? (nextOfClass b)
  match a, c with
  | none, none => none
  | some n, none => some (n, false)
  | none, some n => some (n, true)
  | some n, some m => if b.rng.lastInbound then some (n, false) else some (m, true)

/-- Base address of a ring in host memory. -/
def Ring.base (r : Ring) : Nat := join64 r.baseLo r.baseHi

/-- Issue one fetch read. -/
def issueFetch (n : Nat) (second : Bool) (b : Block) : Block :=
  let k := fetchWork b n
  let r := ring b n
  let b := modRing n (fun r => { r with asked := k, blocked := none }) b
  let b := modRng (fun g => { g with lastInbound := second, rrLast := tset 0 g.rrLast (fetchClass r) ((n + 1) % 128) }) b
  emit (.hostRead r.link (r.base + 32 * (r.fIdx % r.size)) (32 * k)) b

/-- Issue the fetch reads of every ring with work, in the order of R109. -/
def pumpN : Nat → Block → Block
  | 0, b => b
  | k + 1, b =>
    match nextFetch b with
    | none => b
    | some (n, second) => pumpN k (issueFetch n second b)

/-- Doorbells become usable 2 ticks after their capture (R24). -/
def bellsRing (b : Block) : Block :=
  b.rng.rings.foldl (fun b p =>
    if p.2.bells.isEmpty then b else
    let rest := p.2.bells.dropWhile fun x => decide (x.1 + 2 ≤ b.tb)
    let due := p.2.bells.takeWhile fun x => decide (x.1 + 2 ≤ b.tb)
    modRing p.1 (fun r => { r with bells := rest, hUse := (due.getLast?.map (·.2)).getD r.hUse }) b) b

/-- The ring engine at a tick: doorbells become usable, and a fetch read goes out for every ring that has fetch work (R24, R109). -/
def ringTick (b : Block) : Block :=
  let b := bellsRing b
  if b.rng.rings.all (fun p => fetchWork b p.1 == 0) then b else pumpN 128 b

/-! Registers of the ring engine (R81, R82, R85). -/

/-- IMAGE_LEN of an image of the bank in force, worked out by the image layout. -/
def ringImageOk (len : Nat → Nat) (b : Block) (n : Nat) : Bool :=
  let r := ring b n
  let others := (enabledRings b tTLM).filter fun m => m != n
  let sum := (others.map fun m => (ring b m).depth * len (ring b m).image).foldl (· + ·) 0
  b.glb.active && decide (r.image < 64) && imgEn b r.image && decide (1 ≤ r.depth) &&
    decide (sum + r.depth * len r.image ≤ 262144)

/-- The conditions of R81. -/
def ringEnableOk (len : Nat → Nat) (b : Block) (n : Nat) : Bool :=
  let r := ring b n
  decide (r.kind ≤ 6) && decide (4 ≤ r.log2) && decide (r.log2 ≤ 16) && fld r.baseLo 0 12 == 0 &&
    (r.kind != tCMD || decide ((enabledRings b tCMD).length < 32)) &&
    (r.kind != tEVT || !(enabledRings b tEVT).any fun m => (ring b m).link == r.link) &&
    (r.kind != tTLM || ringImageOk len b n)

/-- A write to RNG_RING_CFG (R81, R82); `len` gives the length of an image. Enabled on a link that is down, the ring goes DOWN (R79). -/
def ringCfgWrite (len : Nat → Nat) (n : Nat) (v : Word) (b : Block) : Block :=
  if (ring b n).state ≠ .disabled then (if bit v 0 then b else ringReset n b)
  else
    let b := modRing n (fun r => { r with cfg := v }) b
    if !bit v 0 then b
    else if ringEnableOk len b n then
      let b := modRing n (fun r => { r with
        state := .running, err := 0, hIdx := 0, hUse := 0, bells := [], mIdx := 0, fIdx := 0, asked := 0, blocked := none, count := 0, drops := 0, dropsSince := 0
        imgSeq := 0, fetched := [], cancels := [], resetting := false }) b
      if linkUp b (ring b n).link then b else ringDown n b
    else modRing n (fun r => { r with err := erCFG_INVALID }) b

/-- A write to RNG_RING_CTRL: STOP and RESET. -/
def ringCtrlWrite (n : Nat) (v : Word) (b : Block) : Block :=
  if bit v 1 then ringReset n b else if bit v 0 then ringStop n 0 b else b

/-- A doorbell (R85): captured at this tick, it serves the fetches 2 ticks later (R24). -/
def ringDoorbell (n : Nat) (v : Word) (b : Block) : Block :=
  let r := ring b n
  let h := fld v 0 17
  let b := perf 14 n 0x7F b
  if r.state ≠ .running ∨ h = r.hIdx then b
  else if r.size < (h + ringMod - r.mIdx) % ringMod then ringStop n erDB_RANGE b
  else modRing n (fun r => { r with hIdx := h, bells := r.bells ++ [(b.tb, h)] }) b

/-! Write-back (R89 to R95). -/

/-- Control word DW7 of a write-back (Table 3.5). -/
def wbControl (w7 : Word) (status seq : Nat) : Word :=
  regOf [(0, 16, seq), (16, 8, status), (29, 1, b1 (decide (0x10 ≤ status))), (30, 1, b1 (bit w7 30))]

/-- What one write-back consists of: buffer address and data, DW0 to DW6, the status, and the vector. -/
structure WriteBack where
  addr : Nat := 0
  data : List Byte := []
  dw : List Word := []
  status : Nat := 0
  vec : Option Nat := none
  deriving DecidableEq, Repr

/-- What a word that host software wrote comes back as: its fields marked 0 as 0, the others unchanged (R91). -/
def zeroed (w keep : Word) : Word := w &&& keep

/-- The write-back that the oldest fetched descriptor of a ring is ready for. -/
def wbReady (b : Block) (n : Nat) : Option WriteBack :=
  let r := ring b n
  match r.fetched.head? with
  | none => none
  | some d =>
    let w := fun i => wAt d.w i
    let vec := if r.vecEn then some r.vec else none
    let addr := join64 (w 0) (w 1)
    if r.kind = tCMD then
      d.done.map fun x =>
        { addr := join64 (w 2) (w 3), data := x.reply
          dw := [w 0, w 1, w 2, w 3, zeroed (w 4) 0xFFFF01FF, x.result, loW x.tick], status := x.status, vec := vec }
    else if r.kind = tMTX then
      d.done.map fun x =>
        { dw := [w 0, w 1, regOf [(0, 16, fld (w 2) 0 16)], zeroed (w 3) 0xFFF0007F, loW x.tick, hiW x.tick, w 6], status := x.status, vec := vec }
    else if r.kind = tRRD then
      d.done.map fun x =>
        { addr := addr, data := x.reply
          dw := [w 0, w 1, zeroed (w 2) 0x00FFFFFF, w 3, regOf [(0, 16, fld (w 4) 0 16), (16, 16, x.delivered)], w 5, 0], status := x.status
          vec := vec }
    else if r.kind = tCPL then
      r.cpls.head?.map fun c =>
        { dw := [c.tag, regOf [(0, 16, c.slot), (16, 7, c.ring)], c.result, loW c.tick, hiW c.tick, 0, 0], status := c.status
          vec := vec }
    else if r.kind = tEVT then
      r.evts.head?.map fun e =>
        { dw := [regOf [(0, 8, e.src), (8, 1, b1 e.overflow), (16, 16, e.repeats)], e.detail, loW e.first, hiW e.first,
            loW e.last, hiW e.last, w32 e.merged]
          vec := some (esVec b e.src) }
    else if r.kind = tTLM then
      r.imgs.head?.map fun i =>
        let len := fld (w 2) 0 24
        let small := decide (len < i.body.length)
        { addr := addr, data := if small then [] else i.body
          dw := [w 0, w 1, regOf [(0, 24, len), (24, 8, i.image)], w32 i.seq, loW i.tick, hiW i.tick, w32 i.body.length]
          status := if small then stBUF_SMALL else stOK, vec := vec }
    else
      r.frames.head?.map fun f =>
        let len := fld (w 2) 0 16
        { addr := addr, data := f.body.take len
          dw := [w 0, w 1, regOf [(0, 16, len), (16, 16, f.body.length)],
            regOf [(28, 4, f.bus), (20, 8, f.port), (0, 7, f.obj)], loW f.time, hiW f.time,
            regOf [(0, 16, r.dropsSince), (16, 8, f.flags)]]
          status := if len < f.body.length then stBUF_SMALL else stOK, vec := vec }

/-- The CPL entry of a command that has been written back: staged on the ring that has stayed RUNNING since the command reserved it, or counted
as not made (R105). -/
def wbCpl (n : Nat) (d : Desc) (status : Nat) (b : Block) : Block :=
  if !bit (wAt d.w 4) 8 then b else
  match d.cplTo, d.done with
  | some c, some x =>
    modRing c (fun r => { r with cpls := r.cpls ++ [{
      tag := wAt d.w 0, slot := d.idx % (ring b n).size, ring := n, result := x.result, tick := x.tick, status := status
      irq := false }] }) b
  | _, _ => modRing n (fun r => { r with drops := sat32 r.drops 1 }) b

/-- The spec states a TIME only for a frame that was sent: on an MTX descriptor that comes back otherwise it is a free value (log 1). -/
def wbTime (n : Nat) (x : WriteBack) (b : Block) : WriteBack × Block :=
  if (ring b n).kind = tMTX ∧ x.status ≠ stOK ∧ x.status ≠ stLAUNCH_LATE ∧ x.status ≠ stSENT_CANCEL_LATE then
    let (lo, b) := takeFree b
    let (hi, b) := takeFree b
    ({ x with dw := x.dw.take 4 ++ [lo, hi] ++ x.dw.drop 6 }, b)
  else (x, b)

/-- Write bytes to host memory, in writes of at most 256 bytes (Table 3.1). -/
def writesTo (link addr : Nat) (bs : List Byte) (b : Block) : Block :=
  (List.range (readCount 256 bs.length)).foldl (fun b j => emit (.hostWrite link (addr + 256 * j) ((bs.drop (256 * j)).take 256)) b) b

/-- DESCRIPTOR_WRITEBACK: the oldest fetched descriptor of a ring is written back when it is ready (R89). One whose own write fails stays the
oldest of its STOPPED ring, so that a later write-back can write it (R90; DESIGN CHOICE, log 162). -/
def descriptorWriteback (n : Nat) (res : WbResult) (b : Block) : Block :=
  let r := ring b n
  if (r.state ≠ .running ∧ r.state ≠ .stopped) ∨ !linkUp b r.link then b else
  match wbReady b n, r.fetched.head? with
  | some x, some d =>
    if res = .descriptorFailed then ringError n erWB_DMA b
    else
      let (x, b) := wbTime n x b
      let bad := res = .bufferFailed ∧ x.data ≠ []
      let status := if bad then stDMA else x.status
      let seq := (r.count + 1) % 2 ^ 32
      let slot := r.base + 32 * (d.idx % r.size)
      let b := if bad then b else writesTo r.link x.addr x.data b
      let b := emit (.hostWrite r.link slot (bytesOf x.dw)) b
      let b := emit (.hostWrite r.link (slot + 28) (wordBytes (wbControl (wAt d.w 7) status (seq % 0x10000)))) b
      let b := modRing n (fun r => { r with
        count := seq, mIdx := (r.mIdx + 1) % ringMod, fetched := r.fetched.drop 1
        cpls := if r.kind = tCPL then r.cpls.drop 1 else r.cpls
        evts := if r.kind = tEVT then r.evts.drop 1 else r.evts
        imgs := if r.kind = tTLM then r.imgs.drop 1 else r.imgs
        frames := if r.kind = tMRX then r.frames.drop 1 else r.frames
        dropsSince := if r.kind = tMRX then 0 else r.dropsSince }) b
      let b := perf 2 n 0x7F b
      let b := match x.vec with
        | some v => if bit (wAt d.w 7) 30 then requestVec r.link v b else b
        | none => b
      let b := if r.kind = tCMD then wbCpl n d status b else b
      ringSettle n b
  | _, _ => b

/-! Links (R78, R79, R565, R566). -/

/-- A host link comes up (R565); a fenced port stays down (Table 15.3). -/
def linkCameUp (l : Nat) (degraded : Bool) (b : Block) : Block :=
  if (hostLink b l).up ∨ isFenced b (.hostLink l) ∨ b.glb.phase < 2 then b
  else fireLink l (modLink l (fun h => { h with up := true, degraded := degraded }) b)

/-- LINK_RETRAIN: an up link retrains (R78). -/
def linkRetrain (l : Nat) (degraded : Bool) (b : Block) : Block :=
  if (hostLink b l).up ∧ (hostLink b l).degraded ≠ degraded then
    fireLink l (modLink l (fun h => { h with degraded := degraded }) b)
  else b

/-! Standing orders (R101 to R104, R567). -/

/-- Place a standing order: a later WRITE of the same ring replaces the earlier one. -/
def placeOrder (k n idx : Nat) (v : Word) (b : Block) : Block :=
  let prio := (ring b n).prio
  modDesc n idx (fun d => { d with started := true }) (modTarget k (fun t =>
    let old := t.orders.filterMap fun o => if o.ring = n then o.waits.map (fun i => (n, i)) else none
    { t with
      orders := t.orders.filter (fun o => o.ring != n) ++ [{ ring := n, prio := prio, val := v, waits := some idx }]
      superseded := t.superseded ++ old }) b)

/-- Withdraw the standing order of a ring by RELEASE. -/
def releaseOrder (k n idx : Nat) (b : Block) : Block :=
  modDesc n idx (fun d => { d with started := true }) (modTarget k (fun t =>
    let old := t.orders.filterMap fun o => if o.ring = n then o.waits.map (fun i => (n, i)) else none
    { t with
      orders := t.orders.filter (fun o => o.ring != n)
      superseded := t.superseded ++ old, releases := t.releases ++ [(n, idx)] }) b)

/-- Status of a host order at its first resolution (R104). -/
def orderStatus (forced : Bool) (r : Resolution) (o : Order) : Nat :=
  if forced then stFORCED
  else if r.top ≠ some o.prio then stOVERRULED
  else if r.conflict then stCONFLICT_SAFER
  else stOK

/-- TARGET_RESOLVE: a target resolves at the start of a cycle, once (R102, R104). -/
def resolveTarget (k : Nat) (b : Block) : Block :=
  match targetInfo b k with
  | none => b
  | some info =>
    let t := targetAt b k
    if t.resolved = b.tb + 1 then b else
    let r := resolution (t.settled b.tb) info
    let forced := targetForced b k
    let b := modTarget k (fun t => { t with
      inForce := r.value, decided := t.decided || r.top.isSome, superseded := [], releases := [], resolved := b.tb + 1
      orders := t.orders.map fun o => { o with waits := none } }) b
    let b := if r.conflict then
        fire 4 (w32 k) (perf 15 0 0 (modRng (fun g => { g with
          conflictCount := sat32 g.conflictCount 1, conflictTarget := w32 k }) b))
      else b
    let b := t.orders.foldl (fun b o =>
      match o.waits with
      | some i => completeWith o.ring i (orderStatus forced r o) r.value b
      | none => b) b
    let b := t.superseded.foldl (fun b x => completeWith x.1 x.2 stSUPERSEDED r.value b) b
    t.releases.foldl (fun b x => completeWith x.1 x.2 stOK r.value b) b

/-- TARGET_RESOLVE as commanded: at the start of one of the target's cycles. Frames of an object that becomes silent end (R408). -/
def targetResolve (k : Nat) (b : Block) : Block :=
  if targetCycle b k then (if k / 2 ^ 24 = 4 then canSweep (resolveTarget k b) else resolveTarget k b) else b

/-- The target ceases to exist, or its orders no longer fit: commands that wait are written back (R567). -/
def withdrawOrder (k : Nat) (o : Order) (status : Nat) (b : Block) : Block :=
  let b := match o.waits with
    | some i => completeWith o.ring i status 0 b
    | none => b
  modTarget k (fun t => { t with orders := t.orders.filter fun x => x.ring != o.ring }) b

/-- Host orders at a bank switch, or when no bank is in force any more (R567). Engine candidates go, but for those of a source that the bank
carries (R69), which keep the value in force of the field or DP input that they name as well. -/
def refitOrders (keep : Nat → Bool) (b : Block) : Block :=
  b.rng.targets.foldl (fun b p =>
    let k := p.1
    match targetInfo b k with
    | none =>
      let b := p.2.orders.foldl (fun b o => withdrawOrder k o stBAD_TARGET b) b
      let b := p.2.superseded.foldl (fun b x => completeWith x.1 x.2 stBAD_TARGET 0 b) b
      let b := p.2.releases.foldl (fun b x => completeWith x.1 x.2 stBAD_TARGET 0 b) b
      modTarget k (fun t =>
        let cs := t.cands.filter fun c => keep c.src
        if k < 2 ^ 36 ∨ cs.isEmpty then {} else { t with cands := cs }) b
    | some info =>
      let b := p.2.orders.foldl (fun b o =>
        if o.prio < info.hostMin then withdrawOrder k o stPRIORITY_LOW b
        else if !targetOk b k o.val then withdrawOrder k o stBAD_VALUE b
        else b) b
      modTarget k (fun t => { t with cands := t.cands.filter fun c => keep c.src }) b) b

/-- Every target takes its initial value (R103). -/
def initTargets (b : Block) : Block :=
  (allTargets b).foldl (fun b k =>
    match targetInfo b k with
    | some i => modTarget k (fun t => { t with inForce := i.initial }) b
    | none => b) b

end Sys2Proof.Machine
end

