-- ==== Sys2Proof/Machine/Chn.lean ====
section
/-! DEFINITION. Front ends and groups: frames, protective functions, field supply, fences and retests (chapter 4). -/

namespace Sys2Proof.Machine

/-- Target key of a channel's VALUE. -/
def chnKey (n : Nat) : Nat := targetKey 1 n 0

/-- Fault location of a cluster of a channel's front end (Table 1.3). -/
def chnLoc (n cluster : Nat) : Word := locOf 1 1 (n / 24) (n % 24) cluster 0xFF

/-- |x - y| exceeds a limit, in binary32. -/
def offBy (x y lim : Word) : Bool := fLt lim ((num x).sub (num y)).abs.v

/-- Constants in binary32 mA and A. -/
def mA01 : Word := 0x3DCCCCCD
def mA02 : Word := 0x3E4CCCCD
def mA05 : Word := 0x3F000000
def mA1 : Word := 0x3F800000
def mA25 : Word := 0x41C80000
def mA035 : Word := 0x3EB33333
def amp5m : Word := 0x3BA3D70A

/-- What an output carries through the overlap window of a planned handover at the frame boundary of this tick (R373): an AO its share of
the seed's value, a DO its seed state. -/
def overlapDrive (b : Block) (n : Nat) (o : Overlap) : Word :=
  let v := tget 0 o.vals n
  if chnMode b n ≠ 3 then v else
  let w := overlapW b
  let t := min w (b.tb / 400 * 400 - o.start)
  let f := fOfRat false (if o.former then w - t else t) w
  (f.mul (num v)).v

/-- The value the module sends to an output in SERVE: the safe value under a safety force, else the value in force (Table 1.7). -/
def chnResolved (b : Block) (n : Nat) : Word :=
  if chnMode b n = 8 then (if sdoOn b n then 1 else 0)
  else if safForces b (chnKey n) then chnS b n
  else
    match b.ptn.overlap with
    | some o => overlapDrive b n o
    | none => (targetAt b (chnKey n)).inForce

/-- The output a front end drives (Tables 4.8 and 4.10, R130, R143). -/
def chnDrive (b : Block) (n : Nat) : Word :=
  let c := chanAt b n
  if !isOut (chnMode b n) then 0
  else if c.fe = 3 then chnResolved b n
  else if c.fe = 4 then
    if c.stBit 9 || c.stBit 14 then 0
    else if safForces b (chnKey n) then chnS b n
    else if chnMode b n = 3 then chnS b n
    else 0
  else 0

/-- R142 keeps an input channel in LISTEN: neither of the two events that end the window has come. -/
def keepListen (b : Block) (n : Nat) : Bool :=
  let m := chnMode b n
  b.chn.listen && (isAI m || m == 4 || m == 6)

/-- The transitions of Table 4.9 that a frame boundary takes for one channel. A fence still stands over a front end that has gone OFF in RETEST.
An output that has been OFF, FENCED or without frames since it last served is held when it next enters SERVE (R145). A cause of HOLD that still
stands keeps an output out of SERVE (DEDUCED, log 141). -/
def feStep (n : Nat) (b : Block) : Block :=
  let c := chanAt b n
  let m := chnMode b n
  let active := isActive b && b.glb.active && (!isOut m || b.ptn.takeover.isNone)
  let alone := b.ptn.role == 2 && b.glb.active && !paired b && b.chn.served && isOut m
  if c.fe = 0 then (if isFenced b (.channel n) then setFe n 5 b else b)
  else if c.fe = 2 then
    if active && m != 0 && !keepListen b n then
      if isOut m && c.restart && chnRestartHold b n then setFe n 4 (setSt n 17 true b)
      else if isOut m && holdCause c then setFe n 4 b
      else setFe n 3 (modChan n (fun c => { c with restart := false }) b)
    else if alone then setFe n 4 b
    else b
  else if c.fe = 3 ∨ c.fe = 4 then
    if !active then (if alone then setFe n 4 b else setFe n 2 b)
    else if c.fe = 3 then (if isOut m && holdCause c then setFe n 4 b else b)
    else if isOut m && holdCause c then b
    else setFe n 3 b
  else b

/-- A cause of HOLD that has just arisen puts a channel in SERVE into HOLD (Table 4.9). -/
def feCause (n : Nat) (b : Block) : Block :=
  if (chanAt b n).fe = 3 ∧ holdCause (chanAt b n) then setFe n 4 b else b

/-- RESTART_ACK takes effect at the frame boundary, and is written back (R145, R150). Outside a restart hold it clears the flag of a hold to
come; the spec does not say what it does there (DESIGN CHOICE, log 140). -/
def feAck (n : Nat) (b : Block) : Block :=
  match (chanAt b n).acks with
  | [] => b
  | acks =>
    let b := setSt n 17 false (modChan n (fun c => { c with acks := [], restart := false }) b)
    let status := if targetForced b (chnKey n) then stFORCED else stOK
    acks.foldl (fun b a => completeWith a.1 a.2 status (targetAt b (chnKey n)).inForce b) b

/-- The command in force of a DO or SDO is ON (R135, R137). -/
def outOn (b : Block) (n : Nat) : Bool := if chnMode b n = 8 then sdoOn b n else (targetAt b (chnKey n)).inForce != 0

/-- A DO or SDO in overload with RETRY = 0: once its command has been OFF for a frame and turns ON, it leaves HOLD (R135, R137). -/
def feOverload (n : Nat) (b : Block) : Block :=
  let c := chanAt b n
  if c.stBit 8 && !chnRetry b n then
    if !outOn b n then modChan n (fun c => { c with overOff := true }) b
    else if c.overOff && !c.stBit 9 then setSt n 8 false (modChan n (fun c => { c with overOff := false }) b)
    else b
  else b

/-- The tick at which the front ends apply the commands of the frames that start at tick `t`: within 100 ticks after their end (R39, log 52). -/
def frameApply (t : Nat) : Nat := t + 400 + Sys2Proof.Config.applyTicks t % 101

/-- A frame with a command leaves for the front end (R39). -/
def sendFrame (n : Nat) (v : Word) (b : Block) : Block :=
  modChan n (fun c => { c with
    cmds := (frameApply b.tb, v) :: c.cmds.take 1
    applied := match c.cmds with
      | _ :: x :: _ => x.2
      | _ => c.applied }) b

/-- The front end takes its output away by itself (Table 4.9, R135). -/
def cutOutput (n : Nat) (b : Block) : Block := modChan n (fun c => { c with applied := 0, cmds := [] }) b

/-- What the logic side does for a channel before its frame leaves: resolution, restart acknowledge, overload (R102, R145). -/
def frameReady (n : Nat) (b : Block) : Block :=
  feOverload n (feAck n (if (chnMode b n = 3 ∨ chnMode b n = 5) ∧ outputsHeld b = false then resolveTarget (chnKey n) b else b))

/-- One channel at a frame boundary: what is ready, the front end's state, and the command the frame carries. -/
def frameChannel (n : Nat) (b : Block) : Block :=
  let fe := (chanAt b n).fe
  let b := feStep n (frameReady n b)
  let b := modChan n (fun c => { c with feBefore := if c.fe = fe then none else some fe }) b
  let b := setSt n 18 (isOut (chnMode b n) && safForces b (chnKey n)) b
  sendFrame n (chnDrive b n) b

/-- One channel at a frame boundary of the freeze: its front end holds its last command, and only a transition that takes the output back
acts (R26, Table 4.9). -/
def frameFrozen (n : Nat) (b : Block) : Block :=
  let fe := (chanAt b n).fe
  if fe ≠ 3 ∧ fe ≠ 4 then b else
  let b' := feStep n b
  if (chanAt b' n).fe = fe ∨ (chanAt b' n).fe = 3 then b else sendFrame n (chnDrive b' n) b'

/-- The frames that start now take the pairs' commands that the last scan has left: their front ends apply them as any command (R39, R195). -/
def sdoFrame (b : Block) : Block :=
  if b.tb ≤ b.saf.scanEnd then b else
  modSaf (fun s => { s with pairs := tmap {} (fun x =>
    if x.cmdSent then x else { x with cmdSent := true, cmdAt := frameApply b.tb }) s.pairs }) b

/-- A valid frame of a lost channel ends the loss; the samples of its gap count as OFF still (R186). -/
def gapEnd (n : Nat) (b : Block) : Block :=
  if !b.saf.lost.contains n then b else
  modSaf (fun s => { s with lost := s.lost.filter fun m => m != n, ended := s.ended ++ [(n, b.tb)] }) b

/-- COUPLER_FRAME_BOUNDARY: at a multiple of 400 ticks a frame period starts for every channel (R39, R102, R139). -/
def couplerFrameBoundary (b : Block) : Block :=
  if b.tb % 400 ≠ 0 then b
  else if b.freeze.isSome then (List.range 192).foldl (fun b n => frameFrozen n b) b
  else
    let b := listenStop (if isActive b && b.glb.active then modChn (fun c => { c with served := true }) b else b)
    sdoFrame ((List.range 192).foldl (fun b n => frameChannel n b) b)

/-- FOLDBACK clears when the limiter stays out of limit for 1 ms after a release (R123). -/
def foldbackWatch (n : Nat) (limited : Bool) (b : Block) : Block :=
  match (chanAt b n).foldRelease with
  | none => b
  | some t =>
    if limited then modChan n (fun c => { c with foldRelease := some b.tb }) b
    else if t + 100000 ≤ b.tb then setSt n 7 false (modChan n (fun c => { c with foldRelease := none }) b)
    else b

/-- Whether a PI input counts an edge: a pulse of at least 8 µs high and low is counted, one shorter than 2 µs never; between the two the
spec says neither (R136, log 145). -/
def edgeCounts (e : PiEdge) : Bool :=
  if 800 ≤ e.high ∧ 800 ≤ e.low then true
  else if e.high < 200 ∨ e.low < 200 then false
  else Sys2Proof.Config.pulseCounted e.high e.low

/-- The state in force of a DI follows its classified state (R159, R161). -/
def diFollow (n : Nat) (b : Block) : Block :=
  let c := chanAt b n
  if c.cls = c.on then b else modChan n (fun c => { c with on := c.cls, changes := (b.tb :: c.changes).take 64 }) b

/-- A digital input is classified (R131, R159): DEBOUNCE = 0 makes the classification take effect at once. -/
def diClassify (n : Nat) (b : Block) : Block :=
  let c := chanAt b n
  let m := chnMode b n
  if (m = 4 ∨ m = 6 ∨ m = 7) ∧ (c.fe = 2 ∨ c.fe = 3 ∨ c.fe = 4) then
    let on := diClass (chnType b n) c.meas c.cls
    let b := if on = c.cls then b else modChan n (fun c => { c with cls := on, clsAt := b.tb }) b
    if m ≠ 6 ∧ chnDebounce b n = 0 then diFollow n b else b
  else b

/-- The front end discards the newest command frame, and the content of the frame before stays in use (R118): its command, and its mode and
switches, so that a front end that the frame would have taken from LISTEN into its mode, or back, stays where it was. -/
def dropFrame (n : Nat) (b : Block) : Block :=
  match (chanAt b n).cmds with
  | x :: xs =>
    if b.tb < x.1 then
      let c := chanAt b n
      let b := modChan n (fun c => { c with cmds := xs, feBefore := none }) b
      match c.feBefore with
      | some v => if (v = 2 ∧ (c.fe = 3 ∨ c.fe = 4)) ∨ (c.fe = 2 ∧ (v = 3 ∨ v = 4)) then setFe n v b else b
      | none => b
    else b
  | [] => b

/-- FIELD_FRAME_RECEIVE: a field-side frame, or none when its CRC fails (R118, R147). -/
def fieldFrameReceive (n : Nat) (frame : Option FieldFrame) (b : Block) : Block :=
  if 192 ≤ n then b else
  match frame with
  | none =>
    let b := modChan n (fun c => { c with
      errCount := sat16 c.errCount 1, errRun := sat16 c.errRun 1, errLongest := max c.errLongest (sat16 c.errRun 1) }) b
    setSt n 16 true b
  | some f =>
    let counted := if chnMode b n = 6 then (f.edges.filter edgeCounts).map PiEdge.stamp else []
    let b := modChan n (fun c => { c with
      errRun := 0, load := f.load, limited := f.limited
      meas := if c.fe = 2 then listenCurrent (chnMode b n) (chnType b n) f.meas else f.meas
      edges := wrap32 c.edges counted.length, stamps := (counted.reverse ++ c.stamps).take 8 }) b
    let b := diClassify n (if f.cmdBad then dropFrame n b else b)
    let b := gapEnd n b
    let b := foldbackWatch n f.limited (setSt n 16 false b)
    if (chanAt b n).fe = 0 ∧ (groupAt b (grpOf n)).converters ∧ !isFenced b (.channel n) then setFe n 1 b else b

/-- FE_WATCHDOG: 25 frame periods without a valid command frame (Table 4.9). -/
def feWatchdog (n : Nat) (b : Block) : Block :=
  let c := chanAt b n
  if c.fe = 3 ∨ c.fe = 4 then cutOutput n (modChan n (fun c => { c with restart := true }) (setFe n 2 b)) else b

/-- The check of a channel's self-test that an armed force makes fail: its source and location (R467). -/
def selfTestForce (b : Block) (n : Nat) : Option (Nat × Word) :=
  [(0x0C, chnLoc n 0), (0x0C, chnLoc n 1), (0x0C, chnLoc n 2), (0x0D, chnLoc n 3)].find? fun p => forceArmed b.flt p.1 p.2 0

/-- A self-test that fails by a force: the force is injected; in INIT the fault is reported and fences the channel, in RETEST the channel
stays fenced (R148, R467). -/
def selfTestForced (n : Nat) (p : Nat × Word) (b : Block) : Block :=
  if (chanAt b n).fe = 6 then setFe n 5 (injectForce p.1 b)
  else fault p.1 p.2 true true .plain (injectForce p.1 b)

/-- FE_SELF_TEST_END: the self-test of INIT or RETEST ends (Table 4.9, R148). A failure in INIT is a front-end fault that fences the channel
(R147, Table 15.2), located at the converter (DESIGN CHOICE, log 146). -/
def feSelfTestEnd (n : Nat) (pass : Bool) (b : Block) : Block :=
  let c := chanAt b n
  match (if c.fe = 1 ∨ c.fe = 6 then selfTestForce b n else none) with
  | some p => selfTestForced n p b
  | none =>
  if c.fe = 1 then
    if pass then setFe n 2 b else fault 0x0C (chnLoc n 0) true false .plain b
  else if c.fe = 6 then
    if pass then
      setFe n 2 (fenceEvent n false (modFlt (fun f => { f with fenced := f.fenced.filter fun u => u != .channel n }) b))
    else setFe n 5 b
  else b

/-- RETEST: the self-test of a fenced channel starts (R148). -/
def chnRetest (n : Nat) (b : Block) : Block := if (chanAt b n).fe = 5 then setFe n 6 b else b

/-- CLR_LINKERR clears CHN_CH_LINKERR (R152). A run of discarded frames that goes on keeps its length (DESIGN CHOICE, log 159). -/
def chnClrLinkerr (n : Nat) (b : Block) : Block := modChan n (fun c => { c with errCount := 0, errLongest := 0 }) b

/-- FOLDBACK: the limiter has been held at 30 mA for 1 ms (R123). -/
def foldback (n : Nat) (b : Block) : Block :=
  let c := chanAt b n
  if isAI (chnMode b n) && c.fe == 3 && c.limited then
    setSt n 7 true (modChan n (fun c => { c with foldAt := b.tb, foldRelease := none }) b)
  else b

/-- FOLDBACK_RETRY: 1 s of fold-back has passed; the limit is released (R123). -/
def foldbackRetry (n : Nat) (b : Block) : Block :=
  let c := chanAt b n
  if c.stBit 7 && c.foldRelease.isNone && decide (c.foldAt + 100000000 ≤ b.tb) then
    modChan n (fun c => { c with foldRelease := some b.tb }) b
  else b

/-- COMPLIANCE: a shortfall has lasted 10 ms, or the current has stayed within 0.1 mA of the command for 10 ms (R127, R128). -/
def compliance (n : Nat) (b : Block) : Block :=
  let c := chanAt b n
  let cmd := appliedOf b n
  if chnMode b n ≠ 3 ∨ (c.fe ≠ 3 ∧ c.fe ≠ 4) then b
  else if c.fe = 3 ∧ fLt mA02 ((num cmd).sub (num c.meas)).v then setSt n 10 true b
  else if !offBy c.meas cmd mA01 then setStBits n 0x00000C00 false b
  else b

/-- OPEN_LOAD: an open-load condition has lasted 10 ms, or a DO has carried 5 mA again for 10 ms (R128, Table 4.7). -/
def openLoad (n : Nat) (b : Block) : Block :=
  let c := chanAt b n
  if !chnOpenDet b n ∨ c.fe ≠ 3 then b
  else if chnMode b n = 3 then
    if fLe mA1 (appliedOf b n) && fLt c.meas mA01 then setStBits n 0x00000C00 true b else b
  else if chnMode b n = 5 ∧ appliedOf b n = 1 then setSt n 11 (fLt c.load amp5m) b
  else b

/-- A shortfall stands: COMPLIANCE is set and the current is still more than 0.2 mA below the command (R127). -/
def inShortfall (b : Block) (n : Nat) : Bool :=
  (chanAt b n).stBit 10 && fLt mA02 ((num (appliedOf b n)).sub (num (chanAt b n).meas)).v

/-- DEVIATION: outside a shortfall the current differs from the command by more than 0.5 mA for 10 ms (R129). Within 10 ms of the retry, a window
that ends before its close tick (R10), the fault is persistent. An armed force at the output stage makes this check fail (R467). -/
def deviation (n : Nat) (b : Block) : Block :=
  let c := chanAt b n
  let armed := forceArmed b.flt 0x0C (chnLoc n 1) 0
  if chnMode b n = 3 ∧ c.fe = 3 ∧ (armed ∨ (!inShortfall b n ∧ offBy c.meas (appliedOf b n) mA05)) then
    let again := match c.devRetry with
      | some t => decide (b.tb < t + 1000000)
      | none => false
    let b := modChan n (fun c => { c with devAt := b.tb, devRetry := none }) b
    let b := feCause n (setSt n 19 true (if armed then injectForce 0x0C b else b))
    fault 0x0C (chnLoc n 1) again armed .plain b
  else b

/-- DEVIATION_RETRY: after 100 ms in HOLD the command is applied once more (R129). -/
def deviationRetry (n : Nat) (b : Block) : Block :=
  let c := chanAt b n
  if c.fe = 4 ∧ c.stBit 19 ∧ c.devAt + 10000000 ≤ b.tb then
    let b := setSt n 19 false (modChan n (fun c => { c with devRetry := some b.tb }) b)
    if holdCause (chanAt b n) then b else setFe n 3 b
  else b

/-- OVERLOAD: the switch has been in current limit for 1 ms (R135). -/
def overload (n : Nat) (b : Block) : Block :=
  let c := chanAt b n
  if (chnMode b n = 5 ∨ chnMode b n = 8) ∧ c.fe = 3 ∧ c.limited then
    cutOutput n (feCause n (setSt n 8 true (modChan n (fun c => { c with overAt := b.tb, overOff := false }) b)))
  else b

/-- OVERLOAD_RETRY: with RETRY = 1 the front end tries again after 1 s while its command is ON (R135, R137). -/
def overloadRetry (n : Nat) (b : Block) : Block :=
  let c := chanAt b n
  if c.stBit 8 ∧ chnRetry b n ∧ !c.stBit 9 ∧ c.overAt + 100000000 ≤ b.tb ∧ outOn b n = true then
    setSt n 8 false b
  else b

/-- THERMAL: an output stage crosses its limit, or cools below its reset temperature; of a DO it acts as an overload (Tables 4.4 and
4.10, R135). -/
def thermal (n : Nat) (hot : Bool) (b : Block) : Block :=
  let c := chanAt b n
  if !hot then setSt n 9 false b
  else if isOut (chnMode b n) ∧ (c.fe = 3 ∨ c.fe = 4) then
      let b := cutOutput n (setSt n 9 true b)
      let b := if chnMode b n = 3 then b
        else setSt n 8 true (modChan n (fun c => { c with overAt := b.tb, overOff := false }) b)
      feCause n b
  else b

/-- Inputs that wire-break detection watches: DI of type 1 or 3, PI, and SDI while it listens (R132, R136, R141). -/
def wbModes (m ty fe : Nat) : Bool := (m == 4 && ty != 2) || m == 6 || (m == 7 && fe == 2)

/-- WIRE_BREAK: a band of Table 4.6 has persisted for 10 ms and becomes status, or clears (R132). -/
def wireBreak (n : Nat) (b : Block) : Block :=
  let c := chanAt b n
  let m := chnMode b n
  if !wbModes m (chnType b n) c.fe || !chnWb b n || !(c.fe == 2 || c.fe == 3 || c.fe == 4) then b
  else if c.cls then setStBits n 0x00003000 false b
  else if fLt c.meas mA02 then setSt n 12 true b
  else if fLt c.meas mA035 then setSt n 13 true b
  else if fLe c.meas mA1 then setStBits n 0x00003000 false b
  else setSt n 13 true b

/-- COUPLER_LOSS: no valid frame in either direction for 1 s (R147). -/
def couplerLoss (n : Nat) (b : Block) : Block :=
  if 192 ≤ n ∨ (chanAt b n).fe = 5 then b else fault 0x0D (chnLoc n 3) true false .plain b

/-! Field supply (R145, R146, R149). -/

/-- Set bits of CHN_GRP_LATCH; the group event carries the bits that become set. -/
def groupLatch (g : Nat) (bits : Word) (b : Block) : Block :=
  let x := groupAt b g
  let new := bits &&& ~~~x.latch
  fireIf (new != 0) (18 + 4 * g) new (markSet (0x3010C + 0x10 * g) bits (modGroup g (fun x => { x with latch := x.latch ||| bits }) b))

/-- FIELD_FEED_LOST: a feed has been below 16.0 V for 1 ms; `volts` in units of 50 mV. -/
def fieldFeedLost (g feed volts : Nat) (b : Block) : Block :=
  let x := groupAt b g
  let ok := if feed = 0 then x.okA else x.okB
  if 8 ≤ g ∨ !ok ∨ 320 ≤ volts then b else
  let b := modGroup g (fun x =>
    if feed = 0 then { x with okA := false, voltA := volts } else { x with okB := false, voltB := volts }) b
  let y := groupAt b g
  if y.okA ∨ y.okB then groupLatch g (if feed = 0 then 1 else 2) b
  else
    let b := modGroup g (fun x => { x with fieldLost := true, converters := false }) b
    let b := (chansOf g).foldl (fun b n => setSt n 15 true b) b
    groupLatch g (if feed = 0 then 5 else 6) b

/-- FIELD_FEED_RESTORED: a feed has been at or above 17.0 V for 10 ms; the converters are enabled, and every front end that is OFF passes
through INIT. -/
def fieldFeedRestored (g feed volts : Nat) (b : Block) : Block :=
  let x := groupAt b g
  let ok := if feed = 0 then x.okA else x.okB
  if 8 ≤ g ∨ ok ∨ volts < 340 then b else
  let b := modGroup g (fun x =>
    if feed = 0 then { x with okA := true, voltA := volts, fieldLost := false, converters := true }
    else { x with okB := true, voltB := volts, fieldLost := false, converters := true }) b
  if x.converters then b else
  (chansOf g).foldl (fun b n =>
    let b := setSt n 15 false b
    if (chanAt b n).fe = 0 then setFe n 1 b else b) b

/-- FE_POWER_OFF: a front end's isolated supply leaves its range, or 10 ms have passed since its converter was disabled (Table 4.9). -/
def fePowerOff (n : Nat) (b : Block) : Block :=
  if 192 ≤ n ∨ (chanAt b n).fe = 5 then b
  else cutOutput n (setFe n 0 b)

/-- OVERCURRENT: the feed currents in mA as they have stood for 100 ms (R149). -/
def overcurrent (g curA curB : Nat) (b : Block) : Block :=
  if 8 ≤ g then b else
  let exceed := decide (6000 < curA + curB)
  let b := modGroup g (fun x => { x with curA := curA, curB := curB, overcurrent := exceed }) b
  if exceed then groupLatch g 8 b else b

/-- LISTEN_WINDOW_END: the window of R142 ends. -/
def listenWindowEnd (b : Block) : Block :=
  if b.chn.listen ∧ b.chn.listenEnd ≤ b.tb then modChn (fun c => { c with listen := false }) b else b

/-- What a bank switch does to the channels (R144, R153, R179): changed front ends pass through INIT (not for the
bank of the start: R144 is about a switch), and counts of the bank restart.
`old` shows the module under the bank before. A detection that the new bank no longer makes on a channel leaves no status (R128, R132), and a
changed HART_EN takes effect (R170, Table 5.7). A channel whose mode, type or supply setting changes loses every status bit of its old mode but
THERMAL, which its stage clears (DESIGN CHOICE, log 158). -/
def chnSwitch (old : Block) (b : Block) : Block :=
  let b := (List.range 192).foldl (fun b n =>
    let mask : Word := 0x7F
    let changed := (chnCfg b n &&& mask) != (chnCfg old n &&& mask)
    let b := modHart n (fun h => { h with errors := 0 }) b
    let b := if fld (chnHartCfg b n) 20 12 = 0 then modHart n (fun h => { h with disRun := 0, agreeRun := 0, disagree := false }) b else b
    let b := if chnHartEn old n && !chnHartEn b n then hartDrop n b
      else if chnHartEn b n && !chnHartEn old n && (chanAt b n).fe == 3 then hartSearch n b
      else b
    let gone : Word := (if changed then 0x000A0DF0 else 0) ||| (if changed || !chnWb b n then 0x00003000 else 0) |||
      (if changed || !chnOpenDet b n then 0x00000800 else 0)
    let b := setStBits n gone false b
    let b := if smpEn b n then b else modChan n (fun c => { c with cur := {}, prev := {} }) b
    let fe := (chanAt b n).fe
    if b.glb.ready ∧ changed = true ∧ (fe = 2 ∨ fe = 3 ∨ fe = 4) then setFe n 1 b else b) b
  modChn (fun c => { c with images := [], chans := tmap {} (fun x => { x with due := none }) c.chans }) b

end Sys2Proof.Machine
end

