-- ==== Sys2Proof/Machine/Sample.lean ====
section
/-! DEFINITION. Sample instants and the channel value table (R153 to R163). -/

namespace Sys2Proof.Machine

/-- Fault location of the channel scheduler for a group. -/
def schedLoc (g : Nat) : Word := locOf 1 0 0 0x1F g 0xFF

/-- One sample instant of a channel: the status at T is kept for the entry; an outstanding write is skipped (R23, R154, R156). -/
def sampleInstant (n : Nat) (b : Block) : Block :=
  if !smpEn b n then b else
  if !isInstant b (smpTrig b n) (smpDiv b n) then b else
  if (chanAt b n).due.isSome then
    overrun 0 (schedLoc (grpOf n)) (modChn (fun c => { c with skipSamples := sat16 c.skipSamples 1 }) b)
  else
    let st := fld (chnStatus b n) 0 20
    modChan n (fun c => { c with due := some b.tb, dueSt := st }) b

/-- The sample of instant `t` is the first one after an entry into SERVE or LISTEN (R158). -/
def Chan.firstSample (c : Chan) (t : Nat) : Bool := c.firsts.any fun e => decide (e < t)

/-- The entries into SERVE or LISTEN that await their first sample once that of instant `t` is written. -/
def Chan.firstsAfter (c : Chan) (t : Nat) : List Nat := c.firsts.filter fun e => decide (t ≤ e)

/-- y of R158 for the sample of instant `t`. -/
def iirNext (b : Block) (n t : Nat) (x : Word) : Word :=
  let c := chanAt b n
  let k := iirK b n
  if k = 0 ∨ c.firstSample t then x
  else ((num c.y).add (((num x).sub (num c.y)).mul (num (w32 ((127 - k) * 2 ^ 23))))).v

/-- LO and HI of a value against the clipped thresholds (R124). -/
def loHi (b : Block) (n : Nat) (y : Word) : Bool × Bool :=
  let lo := (Num.clamp (num 0) (num mA25) (num (chnLoThr b n))).v
  let hi := (Num.clamp (num 0) (num mA25) (num (chnHiThr b n))).v
  if fLt lo hi then (fLt y lo, fLt hi y) else (false, false)

/-- VALUE and AUX of DI and SDI at T: the state in force from the changes before T (Table 5.3). -/
def diAt (c : Chan) (t : Nat) (wb : Bool) : Word × Word :=
  let later := c.changes.takeWhile fun x => decide (t ≤ x)
  let on := if later.length % 2 = 0 then c.on else !c.on
  (if on && !wb then 1 else 0, loW ((c.changes.drop later.length).headD 0))

/-- VALUE and AUX of PI at T (Table 5.3): edges stamped before T. -/
def piAt (b : Block) (n : Nat) (c : Chan) (t : Nat) : Word × Word :=
  let past := c.stamps.filter fun s => decide (s < t)
  let count := (c.edges + 2 ^ 32 - (c.stamps.length - past.length)) % 2 ^ 32
  let from' := t - fld (chnFilter b n) 24 8 * 1000000
  match past with
  | x :: y :: _ => (w32 count, if from' ≤ y then w32 (x - y) else 0)
  | _ => (w32 count, 0)

/-- Write a channel's entry: the entry before it is kept (R160). -/
def putEntry (n t : Nat) (value aux : Word) (status : Nat) (b : Block) : Block :=
  modChan n (fun c => { c with
    due := none, dueLate := false, prev := c.cur
    cur := { value := value, aux := aux, status := status, seq := (c.cur.seq + 1) % 0x10000, tick := t } }) b

/-- A value write that the freeze has deferred waits for those of an earlier instant, or of the same tick and a lower trigger number (R29). -/
def writeFirst (b : Block) (n t : Nat) : Bool :=
  (chanAt b n).dueLate && b.chn.chans.any fun p => p.2.dueLate && p.2.due.any fun u => decide (64 * u + smpTrig b p.1 < 64 * t + smpTrig b n)

/-- SAMPLE_WRITE: the channel engine writes the sample of the outstanding instant. `x` is the window average in mA, of an AI that
listens at T in V (R141), of a DO or SDO the load current in A; `high` says that the voltage at A of a DO or SDO exceeds 11 V at T (R155 to R162). -/
def sampleWrite (n : Nat) (x : Word) (high : Bool) (b : Block) : Block :=
  let c := chanAt b n
  let m := chnMode b n
  match c.due with
  | none => b
  | some t =>
    if b.freeze.isSome || writeFirst b n t then b
    else
      let st := c.dueSt
      let fe := st % 8
      if fe = 0 ∨ fe = 1 ∨ fe = 5 ∨ fe = 6 ∨ m = 0 then putEntry n t 0 0 (st / 16 * 16 + fe) b
      else if isAI m ∨ m = 3 then
        let x := if fe = 2 then listenCurrent m 3 x else x
        let sat := isAI m && fLt mA25 x
        let x' := if sat then mA25 else x
        let y := iirNext b n t x'
        let valid := st / 8 % 2 == 1
        let (lo, hi) := if isAI m && valid then loHi b n y else (false, false)
        let b := modChan n (fun c => { c with y := y, firsts := c.firstsAfter t }) b
        let b := if isAI m then setSt n 6 sat (setSt n 5 hi (setSt n 4 lo b)) else b
        putEntry n t y 0 (if isAI m then st / 128 * 128 + b1 sat * 64 + b1 hi * 32 + b1 lo * 16 + st % 16 else st) b
      else
        let b := modChan n (fun c => { c with firsts := c.firstsAfter t }) b
        let (v, a) := if m = 5 ∨ m = 8 then (if high then 1 else 0, x) else if m = 6 then piAt b n c t else diAt c t (st / 0x1000 % 2 == 1)
        putEntry n t v a st b

/-- DI_DEBOUNCE: a classification has persisted for DEBOUNCE; the state in force follows it (R131, R159). -/
def diDebounce (n : Nat) (b : Block) : Block :=
  let c := chanAt b n
  let m := chnMode b n
  if (m = 4 ∨ m = 7) ∧ (c.fe = 2 ∨ c.fe = 3 ∨ c.fe = 4) ∧ c.clsAt + chnDebounce b n ≤ b.tb then diFollow n b else b

end Sys2Proof.Machine
end

