-- ==== Sys2Proof/Machine/Saf.lean ====
section
/-! DEFINITION. The safety engine: samples, scans, test pulses, resets and outputs (R180 to R209). -/

namespace Sys2Proof.Machine

/-- The raw classification of a channel at a sample tick: OFF when it is fenced or its data are lost (R186). -/
def rawOn (b : Block) (s : SafSample) (n : Nat) : Bool :=
  s.on.contains n && !s.missing.contains n && !isFenced b (.channel n) && !b.saf.lost.contains n

/-- A sample tick lies in the gap of a loss that has ended (R186). -/
def inGap (b : Block) (n t : Nat) : Bool := b.saf.ended.any fun g => g.1 == n && decide (t < g.2)

/-- A channel's classification at a sample tick has arrived, or counts as OFF for want of frames or for a fence (R186). -/
def heard (b : Block) (s : SafSample) (n : Nat) : Bool :=
  !s.missing.contains n || isFenced b (.channel n) || b.saf.lost.contains n || inGap b n s.tick

/-- A classification that counts: the state and its run of OFF. -/
def SafCh.take (c : SafCh) (t : Nat) (raw : Bool) : SafCh :=
  { c with
    on := raw
    offStart := if raw then none else match c.offStart with
      | some o => some o
      | none => some t }

/-- One classification of an input with a window of width `w` (R188, R189). The second component says that the window closed without
an OFF. -/
def inputSide (c : SafCh) (w t : Nat) (raw : Bool) : SafCh × Bool :=
  match c.pulse with
  | some ts =>
    if t < ts then (c.take t raw, false)
    else if t < ts + w then ({ c with offSeen := c.offSeen || !raw }, false)
    else (({ c with pulse := none, kind := 0, offSeen := false } : SafCh).take t raw, !c.offSeen)
  | none => (c.take t raw, false)

/-- The foreign slot of a run of OFF that ends at this classification (R190). -/
def foreignAt (b : Block) (own t : Nat) (old new : SafCh) : Option Nat :=
  match old.offStart with
  | some o => if new.on && new.offStart.isNone then foreignSlot b own o t else none
  | none => none

/-- What a read-back of an SDO channel shows (R191, R192): the side, STUCK or ON_FAIL, a test completed, a test abandoned. -/
def outputSide (x : SafPair) (c : SafCh) (w t : Nat) (raw : Bool) : SafCh × Bool × Bool × Bool :=
  match c.pulse with
  | none => ({ c with on := raw }, false, false, false)
  | some ts =>
    let changed := x.cmdSent && decide (ts ≤ x.cmdAt) && decide (x.cmdAt < ts + w)
    let abandoned := changed && (if c.kind = 2 then !x.cmd else x.cmd)
    let bad := decide (t + 100 = ts + w) && (if c.kind = 2 then raw else !raw && !abandoned)
    if t < ts + w then ({ c with on := raw }, bad, false, false)
    else ({ c with on := raw, pulse := none, kind := 0 }, bad, !abandoned, abandoned)

/-- Width of the running pulse of a side of an SDO pair. -/
def outWidth (b : Block) (p : Nat) (c : SafCh) : Nat := if c.kind = 3 then spTpn b p else spTpw b p

/-- The discrepancy check of a pair at a sample tick (R193). -/
def pairDisagree (p t : Nat) (b : Block) : Block :=
  let x := pairAt b p
  if x.a.on == x.b.on then modPair p (fun x => { x with t0 := none }) b
  else
    let k0 := if x.t0.isSome then x.k else 0
    let k := if t % 10000 = 0 then min 65535 (k0 + 1) else k0
    let b := modPair p (fun x => { x with t0 := some (x.t0.getD t), k := k, maxK := max x.maxK k }) b
    if spN b p ≤ k then latchPair p 1 t 0 b else b

/-- One side of an input pair at a sample tick; a classification that has not arrived changes nothing (R186). -/
def sideSample (b : Block) (s : SafSample) (n w : Nat) (c : SafCh) : SafCh × Bool :=
  if heard b s n then inputSide c w s.tick (rawOn b s n) else (c, false)

/-- Both sides of an input pair at a sample tick. The discrepancy check runs where both have a classification (log 150). -/
def pairInputs (p : Nat) (s : SafSample) (b : Block) : Block :=
  let t := s.tick
  let x := pairAt b p
  let (a, ma) := sideSample b s (spA b p) (spTpw b p) x.a
  let (c, mc) := sideSample b s (spB b p) (spTpw b p) x.b
  let fa := foreignAt b (2 * p) t x.a a
  let fc := foreignAt b (2 * p + 1) t x.b c
  let b := modPair p (fun x => { x with a := a, b := c }) b
  let b := if ma then latchPair p 2 t 0 b else b
  let b := if mc then latchPair p 3 t 0 b else b
  let b := match fa with
    | some m => latchPair p 4 t m b
    | none => b
  let b := match fc with
    | some m => latchPair p 5 t m b
    | none => b
  let b := if heard b s (spA b p) && heard b s (spB b p) then pairDisagree p t b else b
  let b := if isFenced b (.channel (spA b p)) || isFenced b (.channel (spB b p)) then latchPair p 12 t 0 b else b
  if !a.on && !c.on then modPair p (fun x => { x with bothSafe := x.bothSafe || x.fault }) b else b

/-- An SDI pair at a sample tick (R182, R183). -/
def sdiSample (p : Nat) (s : SafSample) (b : Block) : Block :=
  let b := pairInputs p s b
  let t := s.tick
  modPair p (fun x =>
    if x.a.on && x.b.on then
      let since := x.runSince.getD t
      { x with runSince := some since, demand := x.demand && decide (t < since + spFilter b p) }
    else { x with runSince := none, demand := true }) b

/-- Refuse a reset: ES051 (R199, R200). -/
def refuseReset (f reason : Nat) (b : Block) : Block := fire 51 (regOf [(0, 5, f), (8, 4, reason)]) b

/-- The functions whose reset source is `src`. -/
def fnsOfSrc (b : Block) (src : Nat) : List Nat := (List.range 32).filter fun f => fnSrc b f == src

/-- A RESET pair at a sample tick: the press and the reset demand (R199). Only a latched discrepancy suppresses the demand. The second component says that a demand falls. -/
def resetSample (p : Nat) (s : SafSample) (b : Block) : Block × Bool :=
  let b := pairInputs p s b
  let t := s.tick
  let x := pairAt b p
  let off := !x.a.on && !x.b.on
  let disc := x.fault && x.cause == 1
  let b := if disc && off then clearPair p b else b
  if x.a.on && x.b.on then
    (modPair p (fun x => { x with press := some (x.press.getD t), pressed := false }) b, false)
  else
    let b' := match x.press with
      | none => b
      | some q =>
        if q + 10000000 ≤ t ∧ t ≤ q + 500000000 then modPair p (fun x => { x with press := none, pressed := true }) b
        else (fnsOfSrc b p).foldl (fun b f => refuseReset f 3 b) (modPair p (fun x => { x with press := none }) b)
    let ok := (pairAt b' p).pressed && off
    (if off then modPair p (fun x => { x with pressed := false }) b' else b', ok && !disc)

/-- The feedback of an SDO pair at a sample tick (Table 6.4). -/
def feedbackSample (p : Nat) (s : SafSample) (b : Block) : Block :=
  if !spFb b p || !heard b s (spFbCh b p) then b else
  let t := s.tick
  let raw := rawOn b s (spFbCh b p)
  let x := pairAt b p
  let ok := raw == !x.cmd
  let ended := x.cmdSent && decide (x.cmdAt + spTf b p ≤ t)
  let late := ended && !x.fbSeen
  let bad := if ended && !ok then some (x.fbBad.getD t) else none
  let long := match bad with
    | some q => decide (q + 1000000 ≤ t)
    | none => false
  let b := modPair p (fun x => { x with
    fb := raw, fbSeen := x.fbSeen || (ok && x.cmdSent && decide (x.cmdAt ≤ t) && !ended) || late, fbBad := bad }) b
  if late || long then latchPair p 10 t 0 b else b

/-- The read-back of one side of an SDO pair at a sample tick; one that has not arrived shows nothing. -/
def readBack (b : Block) (s : SafSample) (p n : Nat) (x : SafPair) (c : SafCh) : SafCh × Bool × Bool × Bool :=
  if heard b s n then outputSide x c (outWidth b p c) s.tick (rawOn b s n) else (c, false, false, false)

/-- An SDO pair at a sample tick. -/
def sdoSample (p : Nat) (s : SafSample) (b : Block) : Block :=
  let t := s.tick
  let x := pairAt b p
  let (a, badA, doneA, abA) := readBack b s p (spA b p) x x.a
  let (c, badC, doneC, abC) := readBack b s p (spB b p) x x.b
  let b := modPair p (fun x => { x with
    a := a, b := c, completed := (x.completed + b1 doneA + b1 doneC) % 0x10000
    abandoned := (x.abandoned + b1 abA + b1 abC) % 0x10000 }) b
  let b := if badA then latchPair p (if x.a.kind = 2 then 6 else 8) t 0 b else b
  let b := if badC then latchPair p (if x.b.kind = 2 then 7 else 9) t 0 b else b
  let b := if isFenced b (.channel (spA b p)) || isFenced b (.channel (spB b p)) then latchPair p 12 t 0 b else b
  let b := feedbackSample p s b
  if !a.on && !c.on && (!spFb b p || (pairAt b p).fb) then modPair p (fun x => { x with bothSafe := x.bothSafe || x.fault }) b else b

/-- A port starts or stops demanding: ES057. -/
def portDemand (n : Nat) (v : Bool) (b : Block) : Block :=
  if (portAt b n).demand == v then b
  else fire 57 (regOf [(0, 2, n), (8, 1, b1 v)]) (modPort n (fun x => { x with demand := v }) b)

/-- A safety-chain port at a sample tick (Table 6.5). -/
def portSample (n : Nat) (s : SafSample) (b : Block) : Block :=
  let t := s.tick
  let x := portAt b n
  let raw := s.on.contains (192 + n)
  if s.missing.contains (192 + n) then b
  else if scMode b n = 1 then
    let (c, miss) := inputSide x.ch (scTpw b n) t raw
    let f := foreignAt b (48 + n) t x.ch c
    let b := modPort n (fun x => { x with ch := c }) b
    let b := if miss then latchPort n 2 t 0 b else b
    let b := match f with
      | some m => latchPort n 4 t m b
      | none => b
    let b := if c.on then b else modPort n (fun x => { x with bothSafe := x.bothSafe || x.fault }) b
    portDemand n (!c.on) b
  else if scMode b n = 2 then
    let c := x.ch.take t raw
    let ended := match c.pulse with
      | some ts => decide (ts + scTpw b n ≤ t)
      | none => false
    let c := if ended then { c with pulse := none, kind := 0 } else c
    let demand := match c.offStart with
      | some o => decide (o + scMask b n ≤ t)
      | none => false
    let b := modPort n (fun x => { x with ch := { c with on := !demand } }) b
    let b := if demand then modPort n (fun x => { x with bothSafe := x.bothSafe || x.fault }) b else b
    portDemand n demand b
  else b

/-- The discrepancy check of a paired chain, by its even port (R203). -/
def portDisagree (n t : Nat) (b : Block) : Block :=
  if n % 2 = 1 || !scPaired b n then b else
  let x := portAt b n
  if x.ch.on == (portAt b (n + 1)).ch.on then modPort n (fun x => { x with t0 := none }) b
  else
    let k0 := if x.t0.isSome then x.k else 0
    let k := if t % 10000 = 0 then min 65535 (k0 + 1) else k0
    let b := modPort n (fun x => { x with t0 := some (x.t0.getD t), k := k }) b
    if scN b n ≤ k then latchPort (n + 1) 1 t 0 (latchPort n 1 t 0 b) else b

/-- The stamp of a demand seen at a sample tick: a PASS port demands from the first sample of its run (Table 6.5). -/
def demandTick (b : Block) (tick : Nat) (d : Nat × Nat) : Nat :=
  if d.1 = 3 ∧ scMode b (d.2 - 0x30) = 2 then (portAt b (d.2 - 0x30)).ch.offStart.getD tick else tick

/-- Trip every function whose demand set demands (R182). -/
def tripDemands (tick : Nat) (b : Block) : Block :=
  (List.range 32).foldl (fun b f =>
    match fnDemanding b f with
    | some d => tripFn f d.1 d.2 (demandTick b tick d) b
    | none => b) b

/-- One pair at a sample tick, by its type. The second component says that a RESET pair's demand falls. -/
def pairSample (p : Nat) (s : SafSample) (b : Block) : Block × Bool :=
  let t := spType b p
  if t = 1 then (sdiSample p s b, false)
  else if t = 2 then (sdoSample p s b, false)
  else if t = 3 then resetSample p s b
  else (b, false)

/-- The sample ticks of the 100 µs before a tick (R186). -/
def gapTicks (t : Nat) : List Nat := (List.range 100).map fun i => nextMultiple 100 (t - 10000) + 100 * i

/-- A sample of a gap for one pair: the lost channel reads OFF, the pair's other channels keep the state they have (log 150). -/
def gapSample (b : Block) (p n t : Nat) : SafSample :=
  let x := pairAt b p
  let on := (if x.a.on then [spA b p] else []) ++ (if x.b.on then [spB b p] else []) ++ (if x.fb then [spFbCh b p] else [])
  { tick := t, on := on.filter (· != n) }

/-- The pair reads the channel: as one of its two, or as its feedback. -/
def pairReads (b : Block) (p n : Nat) : Bool :=
  spType b p != 0 && (spA b p == n || spB b p == n || (spType b p == 2 && spFb b p && spFbCh b p == n))

/-- The samples of a gap of 100 µs that scans have passed over count as OFF; those that wait for a scan count so there (R186). -/
def gapCount (n t : Nat) (b : Block) : Block :=
  ((gapTicks t).filter fun q => decide (q ≤ b.saf.scanned)).foldl (fun b q =>
    tripDemands q ((List.range 24).foldl (fun b p => if pairReads b p n then (pairSample p (gapSample b p n q) b).1 else b) b)) b

/-- What a scan has worked out: the block, the RESET pairs whose reset demand fell, the functions on which a new demand fell. -/
structure ScanAcc where
  b : Block
  resets : List Nat
  fresh : List Nat

/-- One sample tick for every pair and port, then the trips. -/
def scanSample (a : ScanAcc) (s : SafSample) : ScanAcc :=
  let before := wordOfFn (fnInput a.b)
  let (b, resets) := (List.range 24).foldl (fun (r : Block × List Nat) p =>
    let (b, ok) := pairSample p s r.1
    (b, if ok then r.2 ++ [p] else r.2)) (a.b, a.resets)
  let b := (List.range 4).foldl (fun b n => portSample n s b) b
  let b := (List.range 4).foldl (fun b n => portDisagree n s.tick b) b
  let fresh := (List.range 32).filter fun f => !bit before f && fnInput b f
  ⟨tripDemands s.tick b, resets, a.fresh ++ fresh⟩

/-- The engine may clear a function's trip latch (R200, step 2). -/
def mayClear (b : Block) (f : Nat) : Bool :=
  b.saf.engine == 2 && safActs b && (fnDemanding b f).isNone && !fnFaulted b f

/-- A reset demand for a function (R200). `fresh`: a new demand fell in the same scan, and it wins (Table 6.2). -/
def resetFn (fresh : Bool) (f : Nat) (b : Block) : Block :=
  let b := (List.range 24).foldl (fun b p =>
    let x := pairAt b p
    if (bit (fnDemand b f) p || bit (fnAction b f) p) && x.fault && !x.seen && x.bothSafe then clearPair p b else b) b
  let b := (List.range 4).foldl (fun b n =>
    let x := portAt b n
    if bit (fnDemand b f) (24 + n) && x.fault && !x.seen && x.bothSafe then clearPort n b else b) b
  if !(fnAt b f).tripped then b
  else if fresh then refuseReset f 1 b
  else if mayClear b f then clearFn f b
  else refuseReset f (if fnInput b f then 1 else if fnFaulted b f then 2 else 4) b

/-- The pair is held off or may be on (R184). -/
def sdoWanted (b : Block) (p : Nat) : Bool :=
  !((List.range 32).any fun f => (fnAt b f).tripped && bit (fnAction b f) p) && !moduleForce b && !(pairAt b p).fault &&
    b.saf.engine == 2 && safActs b

/-- The command of an SDO pair at the end of a scan; the start interlock of Table 6.4. -/
def sdoCommand (p : Nat) (b : Block) : Block :=
  let x := pairAt b p
  let want := sdoWanted b p
  if x.cmd == want then b
  else if want && spFb b p && !x.fb then latchPair p 11 b.tb 0 b
  else modPair p (fun x => { x with cmd := want, cmdSent := false, fbSeen := false, fbBad := none }) b

/-- The output of a port (Table 6.5). -/
def portWanted (b : Block) (n : Nat) : Bool :=
  let run := b.saf.engine == 2 && safActs b && !moduleForce b
  if scMode b n = 1 then run
  else if scMode b n = 2 then
    run && (portAt b n).ch.on && !((List.range 32).any fun f => (fnAt b f).tripped && bit (safScOutFn b n) f)
  else false

def portOutput (n : Nat) (b : Block) : Block :=
  let v := portWanted b n
  if (portAt b n).out == v then b else emit (.pin 0 n v) (modPort n (fun x => { x with out := v }) b)

/-- Safe Layer inputs take their state at a scan; ES069 fires at a change (R232, R238). -/
def scanInputs (b : Block) : Block :=
  (List.range 32).foldl (fun b k =>
    let v := uiState b k
    if tget false b.saf.uiRun k == v then b
    else fire 69 (regOf [(0, 5, k), (8, 1, b1 (!v))]) (modSaf (fun s => { s with uiRun := tset false s.uiRun k v }) b)) b

/-- The losses whose gap no scan has counted yet count now (R186). -/
def scanGaps (b : Block) : Block :=
  b.saf.gaps.foldl (fun b g => gapCount g.1 g.2 b) (modSaf (fun s => { s with gaps := [] }) b)

/-- The safety section of a confirmed bank at a scan (R182 to R201, R206). -/
def scanSection (samples : List SafSample) (b : Block) : Block × List Nat :=
  let b := modSaf (fun s => { s with
    pairs := tmap {} (fun x => { x with seen := false }) s.pairs, ports := tmap {} (fun x => { x with seen := false }) s.ports }) b
  let before := wordOfFn (fnInput b)
  let ⟨b, resets, fresh⟩ := samples.foldl scanSample ⟨scanGaps b, [], []⟩
  let b := tripDemands b.tb (scanInputs b)
  let fresh := fresh ++ (List.range 32).filter fun f => !bit before f && fnInput b f
  let srcs := resets ++ (b.saf.uiReset.filter fun k => tget false b.saf.uiRun k).map (0x40 + ·)
  let b := modSaf (fun s => { s with uiReset := [] }) b
  let b := srcs.foldl (fun b src => (fnsOfSrc b src).foldl (fun b f => resetFn (fresh.contains f) f b) b) b
  let b := (List.range 32).foldl (fun b f => if fnAuto b f && (fnAt b f).tripped && mayClear b f then clearFn f b else b) b
  let b := (List.range 24).foldl (fun b p => if spType b p = 2 then sdoCommand p b else b) b
  ((List.range 4).foldl (fun b n => portOutput n b) b, resets)

/-- The scan's work on its samples. Only in RUN does the safety section execute; in every other state the outputs are off, and the Safe Layer
inputs alone take their state (R74, R206, R232). -/
def scanBody (samples : List SafSample) (b : Block) : Block × List Nat :=
  if b.saf.engine = 2 then scanSection samples b
  else (modSaf (fun s => { s with gaps := [], uiReset := [] }) (scanInputs b), [])

/-- The command of an SDO pair that its front ends have applied before this tick (Table 6.2). -/
def sdoApplied (b : Block) (p : Nat) : Bool :=
  let x := pairAt b p
  if x.cmdSent && decide (x.cmdAt < b.tb) then x.cmd else !x.cmd

/-- A side of a pair pulses from this tick on: its front end times the pulse (R188, R191). -/
def pairPulse (p side k : Nat) (b : Block) : Block :=
  let n := if side = 0 then spA b p else spB b p
  let put := fun (c : SafCh) => { c with pulse := some b.tb, kind := k, offSeen := false }
  let w := if k = 1 then spTpw b p - 5000 else if k = 2 then spTpw b p else spTpn b p
  emit (.testPulse n b.tb (b.tb + w) (k == 3))
    (modPair p (fun x => if side = 0 then { x with a := put x.a } else { x with b := put x.b }) b)

/-- A port's output is switched off for the OFF-test pulse of its slot (R188, Table 6.5). -/
def portPulse (n : Nat) (b : Block) : Block :=
  emit (.testPulse (192 + n) b.tb (b.tb + (scTpw b n - 5000)) false)
    (modPort n (fun x => { x with ch := { x.ch with pulse := some b.tb, kind := 1, offSeen := false } }) b)

/-- TEST_PULSE_SLOT: the slot opens at this tick and its channel or port pulses (R187, R191, R192). An SDO channel that is ON since before
the period began takes the OFF-test, one that came ON in this period waits for the following one (Table 6.2; log 51). A PASS port pulses
while its output is on. -/
def testPulseSlot (s : Nat) (b : Block) : Block :=
  if safTpp b = 0 ∨ b.tb % safTpp b ≠ 50000 * s ∨ !safActs b ∨ b.saf.engine ≠ 2 then b
  else if s < 48 then
    let p := s / 2
    let n := if s % 2 = 0 then spA b p else spB b p
    let x := pairAt b p
    if (chanAt b n).fe ≠ 3 ∨ spType b p = 0 then b
    else if spType b p ≠ 2 then pairPulse p (s % 2) 1 b
    else if sdoApplied b p then (if !x.cmd || decide (x.cmdAt + 50000 * s < b.tb) then pairPulse p (s % 2) 2 b else b)
    else if spTpn b p ≠ 0 then pairPulse p (s % 2) 3 b
    else b
  else if s < 52 ∧ (scMode b (s - 48) = 1 ∨ (scMode b (s - 48) = 2 ∧ (portAt b (s - 48)).out)) then portPulse (s - 48) b
  else b

/-- A safety channel: an SDI or SDO channel, or the feedback channel of a pair. -/
def safetyChannel (b : Block) (n : Nat) : Bool :=
  chnMode b n == 7 || chnMode b n == 8 || (List.range 24).any fun p => pairReads b p n

/-- SAFETY_DATA_LOST: no valid frame from a safety channel for 100 µs; its samples of that time and from now on count as OFF (R186). -/
def safetyDataLost (n : Nat) (b : Block) : Block :=
  if safetyChannel b n ∧ !b.saf.lost.contains n then
    fire 59 (regOf [(0, 8, n)]) (modSaf (fun s => { s with lost := s.lost ++ [n], gaps := s.gaps ++ [(n, b.tb)] }) b)
  else b

/-- The latch image (R378). -/
def seedSafety (b : Block) : List Byte :=
  let fns := List.range 32
  wordBytes (readSaf b 0x10) ++ wordBytes (readSaf b 0x14) ++ fns.map (fun f => BitVec.ofNat 8 ((fnAt b f).cause % 16)) ++
    fns.map (fun f => BitVec.ofNat 8 (fnAt b f).src) ++
    (List.range 24).map (fun p => BitVec.ofNat 8 ((pairAt b p).cause % 16 + 16 * b1 (pairAt b p).bothSafe)) ++
    (List.range 4).map (fun n => BitVec.ofNat 8 ((portAt b n).cause % 16 + 16 * b1 (portAt b n).bothSafe))

end Sys2Proof.Machine
end

