-- ==== Sys2Proof/Machine/Usl.lean ====
section
/-! DEFINITION. Receiving Safe Layer frames: the checks, the sub-channels, the watchdogs (R212 to R232, R238). -/

namespace Sys2Proof.Machine

/-- Polynomial of the Safe Layer CRC (R216). -/
def uslPoly : Word := 0x741B8CD7

/-- The Safe Layer CRC seeded with an identity (R216). -/
def uslCrc (id : Word) (bytes : List Byte) : Word := crcMsb uslPoly id bytes

def getSub (c : UslConn) (s : Nat) : UslSub := if s = 0 then c.a else c.b
def modSub (c s : Nat) (f : UslSub → UslSub) (b : Block) : Block :=
  modConn c (fun x => if s = 0 then { x with a := f x.a } else { x with b := f x.b }) b

/-- Identity of a sub-channel. -/
def subId (b : Block) (c s : Nat) : Word := if s = 0 then cnIdA b c else cnIdB b c

/-- A sub-channel takes a state of Table 7.3: ES064 fires at a change. Entering SYNC starts the watchdog at `tick`. -/
def setSub (c s v cause tick : Nat) (b : Block) : Block :=
  let old := (getSub (connAt b c) s).state
  let b := modSub c s (fun x => { x with
    state := v, rejects := 0, hasRef := if v = 2 then x.hasRef else false
    deadline := if v = 1 then tick + cnPeriod b c else x.deadline }) b
  fireIf (old != v) 64 (regOf [(0, 5, c), (8, 2, v), (10, 3, cause), (13, 1, s)]) b

/-- The corruption monitor after a FORMAT or CRC failure (R229). -/
def uslCorrupt (c tick : Nat) (b : Block) : Block :=
  let again := match (connAt b c).corruptAt with
    | some t => decide (tick < t + cnCorrupt b c)
    | none => false
  let b := modConn c (fun x => { x with corruptAt := some tick }) b
  if again then
    [0, 1].foldl (fun b s => if subId b c s = 0 ∨ (getSub (connAt b c) s).state = 0 then b else setSub c s 3 4 tick b) b
  else b

/-- A frame as far as the checks read it. -/
structure UslFrame where
  role : Nat
  run : Bool
  seq : Nat
  connId : Word
  sec : Nat
  nsec : Nat
  runWord : Word
  resetWord : Word
  deriving DecidableEq, Repr

/-- The fields of Table 7.1. -/
def uslParse (x : List Byte) : UslFrame :=
  let flags := w32 (leAt x 1 1)
  { role := fld flags 0 2, run := bit flags 2, seq := leAt x 2 2, connId := w32 (leAt x 4 4), sec := leAt x 8 4, nsec := leAt x 12 4,
    runWord := w32 (leAt x 16 4), resetWord := w32 (leAt x 20 4) }

/-- The age A in ns (R225): the seconds difference modulo 2^32 as a signed number. -/
def uslAge (vt : Nat) (f : UslFrame) : Int :=
  let d := ((clkSec vt : Int) - f.sec) % ((2 ^ 32 : Nat) : Int)
  let ds : Int := if d < 2 ^ 31 then d else d - 2 ^ 32
  ds * 1000000000 + ((clkNs vt : Int) - f.nsec)

/-- The age in units of 100 µs, saturating at 24 bits with sign (Table 7.9). -/
def uslAgeField (a : Int) : Nat :=
  let u := a / 100000
  let u := if u < -(2 ^ 23) then -(2 ^ 23) else if 2 ^ 23 - 1 < u then 2 ^ 23 - 1 else u
  (u % 2 ^ 24).toNat

/-- A frame is accepted in RUN: its data, the watchdog, and the reset demands of the inputs that name the connection (R228, R232). -/
def uslAccept (c s tick : Nat) (f : UslFrame) (b : Block) : Block :=
  let prev := (getSub (connAt b c) s).resetWord
  let b := modSub c s (fun x => { x with
    hasRef := true, seq := f.seq, runWord := f.runWord, resetWord := f.resetWord, role := f.role, run := f.run, rejects := 0
    deadline := tick + cnPeriod b c }) b
  let b := modConn c (fun x => { x with lastSeq := f.seq }) b
  (List.range 32).foldl (fun b k =>
    let g := uiCfg b k
    let i := fld g 16 5
    if bit g 21 && (fld g 0 8 == c || fld g 8 8 == c) && (getSub (connAt b c) s).contributes && bit f.resetWord i && !bit prev i &&
        uiState b k then
      fire 70 (regOf [(0, 5, k)]) (modSaf (fun x => { x with uiReset := x.uiReset ++ [k] }) b)
    else b) b

/-- The frame becomes the reference of SYNC (R226). -/
def uslReference (c s : Nat) (f : UslFrame) (b : Block) : Block :=
  modSub c s (fun x => { x with hasRef := true, seq := f.seq, resetWord := f.resetWord }) b

/-- The watchdog of a sub-channel expires at its deadline: it is in SYNC from that tick on (R228). -/
def uslExpire (c s : Nat) (b : Block) : Block :=
  setSub c s 1 2 (getSub (connAt b c) s).deadline (modConn c (fun y => { y with timeouts := sat8 y.timeouts 1 }) b)

/-- Every expiry at or before a receive timestamp has happened before the frame of that timestamp (R228): the watchdog intervals since the
deadline, at most as many as TIMEOUTS can count. -/
def uslOverdue (c s tick : Nat) (b : Block) : Block :=
  let x := getSub (connAt b c) s
  if (x.state ≠ 1 ∧ x.state ≠ 2) ∨ tick < x.deadline then b else
  let n := if cnPeriod b c = 0 then 0 else (tick - x.deadline) / cnPeriod b c
  let b := modConn c (fun y => { y with timeouts := sat8 y.timeouts n }) (uslExpire c s b)
  modSub c s (fun y => { y with deadline := y.deadline + n * cnPeriod b c }) b

/-- Check 5: SEQ (R226, R227). -/
def uslSeq (c s tick : Nat) (f : UslFrame) (b : Block) : Block :=
  let b := uslOverdue c s tick b
  let x := getSub (connAt b c) s
  let d := (f.seq + 0x10000 - x.seq) % 0x10000
  if x.state = 1 then
    if !x.hasRef then uslReference c s f b
    else if d = 0 then b
    else if d = 1 then
      let b := modSub c s (fun x => { x with state := 2 }) b
      uslAccept c s tick f (fire 64 (regOf [(0, 5, c), (8, 2, 2), (10, 3, 1), (13, 1, s)]) b)
    else uslReference c s f b
  else if x.state = 2 then
    if d = 0 then b
    else if d ≤ cnSeqWin b c then uslAccept c s tick f (modConn c (fun y => { y with lost := sat16 y.lost (d - 1) }) b)
    else
      let b := fire 68 (regOf [(0, 5, c), (8, 1, s), (16, 16, f.seq)]) (modConn c (fun y => { y with errSeq := sat8 y.errSeq 1 }) b)
      if 2 ≤ x.rejects then
        uslReference c s f (setSub c s 1 3 tick (modConn c (fun y => { y with resyncs := sat8 y.resyncs 1 }) b))
      else modSub c s (fun y => { y with rejects := y.rejects + 1 }) b
  else b

/-- The checks of Table 7.4 in their order. -/
def uslCheck (c : Nat) (bytes : List Byte) (tick vt : Nat) (vtValid : Bool) (b : Block) : Block :=
  if !b.glb.active || !cnEn b c || cnTx b c || decide (24 ≤ c) then b else
  let fail := fun (format : Bool) (b : Block) =>
    uslCorrupt c tick (fire 65 (regOf [(0, 5, c), (8, 1, b1 format)]) (modConn c (fun x => { x with errCrc := sat8 x.errCrc 1 }) b))
  if bytes.length ≠ 28 ∨ leAt bytes 0 1 ≠ 0x11 then fail true b
  else
    let crc := w32 (leAt bytes 24 4)
    let body := bytes.take 24
    match ([0, 1].find? fun s => subId b c s != 0 && uslCrc (subId b c s) body == crc) with
    | none => fail false b
    | some s =>
      let f := uslParse bytes
      if f.connId ≠ subId b c s then
        fire 66 (regOf [(0, 5, c), (8, 1, s)]) (modConn c (fun x => { x with errIdent := sat8 x.errIdent 1 }) b)
      else
        let a := uslAge vt f
        if vtValid && decide (-(cnSkew b c * 100000 : Int) ≤ a) && decide (a < (cnAgeMax b c * 1000000 : Int)) then
          uslSeq c s tick f b
        else fire 67 (regOf [(0, 5, c), (8, 24, uslAgeField a)]) (modConn c (fun x => { x with errTime := sat8 x.errTime 1 }) b)

/-- USL_FRAME_RECEIVE: a frame arrives at a connection's endpoint; in a freeze window it waits (R224, R230). -/
def uslReceive (c : Nat) (bytes : List Byte) (b : Block) : Block :=
  if b.freeze.isSome then
    modSaf (fun s => { s with waiting := s.waiting ++ [{ conn := c, bytes := bytes, tick := b.tb, vt := b.tim.vt, vtValid := b.tim.vtValid }] }) b
  else uslCheck c bytes b.tb b.tim.vt b.tim.vtValid b

/-- The freeze ends: every waiting frame is checked in the order of its receive timestamp (R230). -/
def uslUnfreeze (b : Block) : Block :=
  let ws := sortTicks UslWaiting.tick b.saf.waiting
  ws.foldl (fun b w => uslCheck w.conn w.bytes w.tick w.vt w.vtValid b) (modSaf (fun s => { s with waiting := [] }) b)

/-- USL_WATCHDOG: no frame accepted within PERIOD_WD (R228). -/
def uslWatchdog (c s : Nat) (b : Block) : Block :=
  let x := getSub (connAt b c) s
  if b.freeze.isSome ∨ (x.state ≠ 1 ∧ x.state ≠ 2) ∨ b.tb < x.deadline then b
  else uslExpire c s b

/-- USL_FAILED_END: CORRUPT_WIN has passed without a failure (R229); a receiver is frozen state (R230). -/
def uslFailedEnd (c : Nat) (b : Block) : Block :=
  match (connAt b c).corruptAt with
  | none => b
  | some t =>
    if b.freeze.isSome ∨ b.tb < t + cnCorrupt b c then b else
    [0, 1].foldl (fun b s => if (getSub (connAt b c) s).state = 3 then setSub c s 1 5 b.tb b else b) b

/-- A bank comes into force or goes out of force: every connection starts anew (R217, R223). -/
def uslBank (b : Block) : Block :=
  (List.range 24).foldl (fun b c =>
    let rx := b.glb.active && cnEn b c && !cnTx b c
    let b := modConn c (fun x => { x with corruptAt := none, txSeq := 0, sent := false, lastEvent := none, delayed := false, resetLeft := [] }) b
    [0, 1].foldl (fun b s => setSub c s (if rx && subId b c s != 0 then 1 else 0) 0 b.tb b) b) b

end Sys2Proof.Machine
end

