-- ==== Sys2Proof/Machine/CanRx.lean ====
section
/-! DEFINITION. Receiving CAN frames (R393 to R399), and the send instants of CYCLIC objects (R401). -/

namespace Sys2Proof.Machine

/-- A receive object takes a frame: the Safe Layer of its connection, or its buffers, its MRX ring and the sensors that read it. -/
def objReceive (o : Nat) (f : CanFrame) (b : Block) : Block :=
  match connOf b 1 (o / 128) (o % 128) false with
  | some n => uslReceive n (if f.data.length = 32 then f.data.take 28 else f.data) b
  | none =>
    let b := objTake o f b
    let b := if !bit (objCfg b o) 22 then b else
      canStage (o / 128) (fld (objCfg b o) 15 7)
        { bus := 1, port := o / 128, obj := o % 128, time := b.tb, body := f.bytes
          flags := if (objAt b o).overrun || (objAt b o).third.isSome then fOVERRUN else 0 } b
    dpFeed (2, o) b.tb b.tb b

/-- CAN_FRAME_RECEIVE: a valid frame from another node becomes valid at this tick (R393, R397 to R400, R405). -/
def canFrameReceive (c : Nat) (frame : CanFrame) (b : Block) : Block :=
  let f : CanFrame := { id := frame.id &&& 0x7FFFFFFF, ctl := frame.ctl &&& 0x7F, data := frame.data }
  if 16 ≤ c ∨ !ctlEn b c ∨ 1 < (ctlAt b c).state ∨ isFenced b (.can c) ∨ (f.fdf ∧ !ctlFd b c) ∨
      f.data.length ≠ (if f.rtr then 0 else dlcLen f.fdf f.dlc) then b
  else
    let b := rxGood c (perf 7 c 0x1F b)
    let taker := canTaker b c f
    let usl := match taker with
      | some o => (connOf b 1 c o false).isSome
      | none => false
    let b := if canCatches b c f && !usl then canCatch c taker f b else b
    match taker with
    | some o => objReceive (128 * c + o) f b
    | none =>
      let b := canLatch c clUNMATCHED 0 (modCtl c (fun x => { x with unmatched := sat16 x.unmatched 1 }) b)
      if ctlDefaultEn b c then
        canStage c (ctlDefaultRing b c) { bus := 1, port := c, obj := 0, time := b.tb, flags := fUNMATCHED, body := f.bytes } b
      else b

/-- A send instant of a CYCLIC object: its fields resolve and it is assembled, or in a freeze deferred (R29, R401). A conflict on a field reports the
address of the object's data (R102; log 155). -/
def canInstant (o : Nat) (b : Block) : Block :=
  if !isActive b then b else
  let b := (engFields b 2 (o / 128) (o % 128)).foldl (fun b w => resolveEng (targetKey 4 o 0) w b) b
  if b.freeze.isSome then modObj o (fun x => { x with due := x.due ++ [b.tb] }) b else canAssemble o b

end Sys2Proof.Machine
end

