-- ==== Sys2Proof/Machine/Ser.lean ====
section
/-! DEFINITION. Serial ports: receiving sentences and chunks, templates, and transmission (R444 to R454). -/

namespace Sys2Proof.Machine

/-- A discarded sentence or character is counted in SER_PORT_ERRS and latched: 0 FRAMING, 1 CSUM, 2 FORMAT, 3 BUF_DROP. -/
def serError (p i : Nat) (b : Block) : Block :=
  serLatch p i (modSerPort p (fun x => { x with
    framing := if i = 0 then sat8 x.framing 1 else x.framing
    csum := if i = 1 then sat8 x.csum 1 else x.csum
    format := if i = 2 then sat8 x.format 1 else x.format
    bufDrop := if i = 3 then sat8 x.bufDrop 1 else x.bufDrop }) b)

/-- A port receives: enabled and not fenced (Table 15.3). -/
def serOpen (b : Block) (p : Nat) : Bool := decide (p < 24) && serEn b p && !isFenced b (.ser p)

/-- In RS-485 mode a port ignores a character of tick `t`: from its own first start bit until one character time after its last stop bit
(R444). -/
def serDeaf (b : Block) (p t : Nat) : Bool :=
  let x := serAt b p
  serRs485 b p && ((match x.tx with
    | some (_, _, start, _) => decide (start ≤ t)
    | none => false) || (decide (x.quietFrom ≤ t) && decide (t < x.quiet)))

/-- The port receives, and heard the character of tick `rx`. -/
def serHears (b : Block) (p rx : Nat) : Bool := serOpen b p && !serDeaf b p rx

/-- A template takes a sentence: all its fields at once (R451), and a sample for each sensor that reads it. -/
def tplTake (t rx arr : Nat) (s : List Byte) (b : Block) : Block :=
  let vs := (List.range 8).map fun k => convField (tplFld b t k) (sentenceFields s)
  let conv := (List.range 8).foldl (fun a k => if (vs.getD k none).isSome then a + 2 ^ k else a) 0
  let b := modSer (fun x => { x with tpls := tmod {} x.tpls t fun y =>
    { y with valid := true, conv := conv, vals := vs.map fun v => v.getD 0, count := (y.count + 1) % 0x10000, rx := rx } }) b
  dpFeed (3, t) rx arr b

/-- Every template that a sentence from a source matches takes it; the first component says that one did. -/
def tplOffer (src : Nat × Nat) (rx : Nat) (s : List Byte) (b : Block) : Bool × Block :=
  let ts := (List.range 64).filter fun t => tplMatches b t src (sentenceAddr s)
  (!ts.isEmpty, ts.foldl (fun b t => tplTake t rx (if src.1 = 1 then rx else b.tb) s b) b)

/-- The parts of a run of characters that start characters cut it into. -/
def cutStarts : List Byte → List (List Byte)
  | [] => []
  | c :: l =>
    match cutStarts l with
    | [] => [[c]]
    | p :: ps => if isStart (p.headD 0) then [c] :: p :: ps else (c :: p) :: ps

/-- The parts with the place of each in its line. -/
def partsAt : Nat → List (List Byte) → List (Nat × List Byte)
  | _, [] => []
  | k, p :: ps => (k, p) :: partsAt (k + p.length) ps

/-- Place in a line of the character with which its first sentence begins: a start character or the "\\" of a tag block. -/
def lineStart (line : List Byte) : Nat := line.length - (line.dropWhile fun c => !(isStart c || c == chBACK)).length

/-- A character between two places has a framing or parity error. -/
def badWithin (bad : List Nat) (lo hi : Nat) : Bool := bad.any fun i => decide (lo ≤ i) && decide (i < hi)

/-- The parts of a line of a port: sentences that an early start character ends, and the one that LF ends; whether a character of each has an
error, its tag block with the first (R446). -/
def lineParts (line : List Byte) (bad : List Nat) : List (Bool × List Byte) :=
  let s := (splitLine line).2
  let parts := partsAt (line.length - s.length) (cutStarts s)
  parts.mapIdx fun i x => (badWithin bad (if i = 0 then lineStart line else x.1) (x.1 + x.2.length), x.2)

/-- SENTENCE_RECEIVE: a line of a port ends with LF (R446 to R451): the characters the port heard, the receive tick, the places of those with a
framing or parity error, and whether it fits the port's buffer. A start character inside the line ends what stands before it. -/
def sentenceReceive (p : Nat) (line : List Byte) (rx : Nat) (bad : List Nat) (fits : Bool) (b : Block) : Block :=
  if !serHears b p rx ∨ serDeaf b p b.tb ∨ serMode b p ≠ 0 then b else
  let parts := lineParts line bad
  match parts.getLast? with
  | none => b
  | some (err, s) =>
    let b := parts.dropLast.foldl (fun b x => serError p (if x.1 then 0 else 2) b) b
    let tag := if parts.length = 1 then (splitLine line).1 else none
    if !fits ∨ 1024 < line.length then serError p 3 b else
    match sentenceFail err (serReqCsum b p) tag s with
    | some i => serError p i b
    | none =>
      if !talkerPass b p (sentenceAddr s) then modSerPort p (fun x => { x with talker := sat16 x.talker 1 }) b
      else
        let b := perf 11 p 0x1F (modSerPort p (fun x => { x with good := (x.good + 1) % 0x10000, goodAt := some b.tb }) b)
        let (taken, b) := tplOffer (0, p) rx s b
        if serRawEn b p ∧ (serRawAll b p ∨ taken) then
          stageMrx (serRawRing b p)
            { bus := 3, port := p, obj := 0, time := rx
              flags := b1 (csumState (sentenceText s) == .absent) + 2 * b1 tag.isSome, body := s } b
        else b

/-- SENTENCE_GAP: more than 20 character times pass within a sentence, which ends as FORMAT, also while the port itself sends (R446). -/
def sentenceGap (p : Nat) (b : Block) : Block :=
  if !serOpen b p ∨ serMode b p ≠ 0 then b else serError p 2 b

/-- CHUNK_END: a chunk of a port in BYTES mode ends (R452): the characters the port heard without error, how many had a framing or parity error,
and how many did not fit the buffer. -/
def chunkEnd (p : Nat) (bytes : List Byte) (rx bad dropped : Nat) (b : Block) : Block :=
  if !serHears b p rx ∨ serMode b p ≠ 1 then b else
  let most := if fld (spCfg b p) 19 8 = 0 then 256 else fld (spCfg b p) 19 8
  let b := (List.range (min 256 bad)).foldl (fun b _ => serError p 0 b) b
  let b := (List.range (min 256 dropped)).foldl (fun b _ => serError p 3 b) b
  let data := bytes.take most
  if data.isEmpty then b else
  let b := modSerPort p (fun x => { x with goodAt := some b.tb }) b
  if serRawEn b p then stageMrx (serRawRing b p) { bus := 3, port := p, obj := 0, time := rx, flags := 4, body := data } b else b

/-! Transmission (R453). -/

/-- What the checks of an MTX descriptor of BUS 3 find. -/
def serMtxCheck (b : Block) (d : Desc) (bytes : List Byte) : Option Nat :=
  let p := mtxPort d
  let len := fld (wAt d.w 2) 0 16
  if 23 < p ∨ !serEn b p then some stBAD_TARGET
  else if len = 0 ∨ 1024 < len ∨ bytes.length ≠ len ∨ mtxObject d ≠ 0 then some stBAD_VALUE
  else if !isActive b then some stROLE
  else none

/-- Why a port sends no payload: the port is disabled, the module is not Active, or a fence or a force applies (R453). -/
def serRefuses (b : Block) (p : Nat) : Option Nat :=
  if !serEn b p then some stBAD_TARGET
  else if !isActive b then some stROLE
  else if isFenced b (.ser p) ∨ moduleForce b then some stTX_FAILED
  else none

/-- A payload of the same port was fetched before and may go: frames of one port leave in the order of fetch. One whose launch tick is still to
come holds its own ring alone (R108, R453; log 173). -/
def serAhead (b : Block) (n : Nat) (d : Desc) : Bool :=
  (b.rng.mtxOrder.takeWhile fun x => x != (n, d.idx)).any fun x =>
    match descAt b x.1 x.2 with
    | some e => e.done.isNone && !e.handed && mtxBus e == 3 && mtxPort e == mtxPort d && (e.late || decide (mtxLaunch e ≤ b.tb))
    | none => false

/-- SERIAL_TRANSMIT: the next descriptor of an MTX ring reaches its port, at its launch tick or after its fetch; the first start bit
leaves at this tick. A port that still sends, or that has a payload to send before, takes nothing. -/
def serialTransmit (n : Nat) (b : Block) : Block :=
  match mtxNext b n with
  | none => b
  | some d =>
    match mtxPayload d with
    | none => b
    | some bytes =>
      let p := mtxPort d
      if mtxBus d ≠ 3 ∨ (!d.late ∧ b.tb < mtxLaunch d) then b
      else
        match serRefuses b p with
        | some st => completeWith n d.idx st 0 b
        | none =>
          if (serAt b p).tx.isSome ∨ serAhead b n d then b
          else
            emit (.serial p bytes) (modSerPort p (fun x => { x with tx := some (n, d.idx, b.tb, d.late) })
              (modDesc n d.idx (fun d => { d with handed := true }) b))

/-- SERIAL_TX_COMPLETE: the last character has left the port and the descriptor is written back. -/
def serialTxComplete (p : Nat) (b : Block) : Block :=
  match (serAt b p).tx with
  | none => b
  | some (n, idx, start, late) =>
    complete n idx { status := mtxSent late, tick := start } (serTxEnds p start b)

/-- A bank comes into force or goes out of force: a port whose record ends sends nothing more, and a template whose records change
starts afresh. -/
def serBank (old : Block) (b : Block) : Block :=
  let b := (List.range 24).foldl (fun b p => if serEn b p then b else serDropTx p b) b
  (List.range 64).foldl (fun b t =>
    if tplEn b t && (List.range 12).all fun i => serTpl old t i == serTpl b t i then b
    else modSer (fun x => { x with tpls := tset {} x.tpls t {} }) b) b

end Sys2Proof.Machine
end

