-- ==== Sys2Proof/Machine/Eth.lean ====
section
/-! DEFINITION. Ethernet: links, the duplicate check, the receive path, streams, host frames and transmit datagrams (R421 to R423, R429 to
R439). A frame is its bytes from the destination address on, without FCS. -/

namespace Sys2Proof.Machine

/-- PRP_SUPERVISION: an Active module sends supervision frames every 2 s (R430). -/
def prpSupervision (b : Block) : Block :=
  if b.tb % 200000000 ≠ 0 ∨ !isActive b ∨ moduleForce b then b else
  (List.range 4).foldl (fun b n => if netEn b n && !netSingle b n then ethSendOwn n 2 0 b else b) b

/-! Receiving. -/

/-- TIME of a PTP event message: the seconds and the nanoseconds of a domain's shadow clock at its timestamp (R422). -/
def ptpTime (b : Block) (k t : Nat) : Nat := clkSec (scAt b k t) % 2 ^ 32 * 2 ^ 32 + clkNs (scAt b k t)

/-- ES180 of a stream. -/
def streamEvent (j : Nat) (bad : Bool) (b : Block) : Block :=
  fire 180 (regOf [(0, 4, j), (8, 1, b1 (strAt b j).receiving), (9, 1, b1 bad)]) b

/-- The s field of a tag block. -/
def tagSource (tag : List Byte) : Option (List Byte) :=
  (((tag.takeWhile (· != chSTAR)).splitOn chCOMMA).find? fun x => x.take 2 == [115, 58]).map fun x => x.drop 2

/-- SFI of a stream. -/
def strSfi (b : Block) (j : Nat) : List Byte :=
  (wordBytes (strCfg b j 2)) ++ (wordBytes (strCfg b j 3)).take 2

/-- The lines of a datagram, each with its LF. -/
def linesOf : List Byte → List (List Byte)
  | [] => []
  | c :: l =>
    if c = chLF then [c] :: linesOf l
    else match linesOf l with
      | [] => [[c]]
      | x :: xs => (c :: x) :: xs

/-- One line of a datagram of a stream (R436 steps 2 to 4). -/
def streamLine (j rx : Nat) (line : List Byte) (b : Block) : Block :=
  let badLine := fun (b : Block) => modStream j (fun x => { x with bad := sat8 x.bad 1 }) b
  match splitLine line with
  | (none, _) => badLine b
  | (some tag, s) =>
    if csumState tag ≠ .good then badLine b
    else if bit (strCfg b j 0) 3 ∧ tagSource tag ≠ some (strSfi b j) then modStream j (fun x => { x with sfiRej := sat8 x.sfiRej 1 }) b
    else
      let s := (cutStarts s).getLastD []
      if (sentenceFail false false none s).isSome then b else (tplOffer (1, j) rx s b).2

/-- A datagram of a stream (R436). -/
def streamDatagram (j rx : Nat) (data : List Byte) (b : Block) : Block :=
  if data.take 6 ≠ [85, 100, 80, 98, 67, 0] then streamEvent j true (modStream j (fun x => { x with bad := sat8 x.bad 1 }) b)
  else
    let was := (strAt b j).receiving
    let b := modStream j (fun x => { x with receiving := true, lastTick := rx, accepted := (x.accepted + 1) % 65536 }) b
    let b := if was then b else streamEvent j false b
    (linesOf (data.drop 6)).foldl (fun b l => streamLine j rx l b) b

/-- RECEIVING_TIMEOUT: 2 s without an accepted datagram (R436). -/
def receivingTimeout (j : Nat) (b : Block) : Block :=
  if (strAt b j).receiving ∧ (strAt b j).lastTick + 200000000 ≤ b.tb then
    streamEvent j false (modStream j (fun x => { x with receiving := false }) b)
  else b

/-- A Safe Layer frame on an Ethernet endpoint, with its receive timestamp (R213, R230, R426). -/
def uslReceiveAt (c rx : Nat) (bytes : List Byte) (b : Block) : Block :=
  if b.freeze.isSome then
    modSaf (fun s => { s with waiting := s.waiting ++
      [{ conn := c, bytes := bytes, tick := rx, vt := vtAt b rx, vtValid := b.tim.vtValid }] }) b
  else uslCheck c bytes rx (vtAt b rx) b.tim.vtValid b

/-- Hand a frame to an MRX ring (R433). -/
def ethToRing (ringNo n lan rx : Nat) (hadRct : Bool) (ptp : Option (Nat × Bool)) (f : List Byte) (b : Block) : Block :=
  let stamped := match ptp with
    | some (k, true) => some k
    | _ => none
  let time := match stamped with
    | some k => ptpTime b k rx
    | none => rx
  stageMrx ringNo { bus := 2, port := n, obj := 0, time := time
                    flags := (lan + 1) + 4 * b1 (!hadRct) + 8 * b1 stamped.isSome + 16 * (stamped.getD 0), body := f } b

/-- Consumers 5 and 6 (R432). -/
def ethToHost (n lan rx : Nat) (hadRct : Bool) (ptp : Option (Nat × Bool)) (f : List Byte) (b : Block) : Block :=
  match rxFilter b n f with
  | some k => ethToRing (fld (rxfCfg b n k) 3 7) n lan rx hadRct ptp f b
  | none =>
    if netDefaultEn b n then ethToRing (netDefaultRing b n) n lan rx hadRct ptp f b
    else modNet n (fun x => { x with unmatched := sat8 x.unmatched 1 }) b

/-- Consumer 4 of R432: what an ARP request, a supervision frame or an IGMP query asks for; none when the frame is none of them. -/
def ethOwnTraffic (b : Block) (n : Nat) (f : List Byte) : Option (List (Nat × Nat)) :=
  let ip := (netIp b n).toNat
  if frType f = 0x0806 ∧ beAt f 20 2 = 1 ∧ beAt f 38 4 = ip then some [(0, beAt f 28 4)]
  else if frType f = 0x88FB then some []
  else if frIsIp f ∧ !frFragment f ∧ frProto f = 2 ∧ beAt f (14 + frIhl f) 1 = 0x11 then
    let g := beAt f (14 + frIhl f + 4) 4
    some (((netGroups b n).filter fun x => g == 0 || g == x).map fun x => (1, x))
  else none

/-- A frame that has passed the duplicate check is offered to its consumers in order (R432). -/
def ethOffer (n lan rx : Nat) (hadRct : Bool) (f : List Byte) (b : Block) : Block :=
  let b := perf 9 n 0x7 b
  let ptp := ptpDomain b n lan f
  let frag := frFragment f
  let b := if frag then netLatch n nlFRAGMENT (modNet n (fun x => { x with fragments := x.fragments + 1 }) b) else b
  if ptp.isSome then ethToHost n lan rx hadRct ptp f b else
  let ip := frDstIp f
  let own := ip == (netIp b n).toNat || (ip == (netUslGroup b n).toNat && ip != 0)
  let conn := match frOwnUdp f with
    | some p => if own then connOf b 2 n p false else none
    | none => none
  let stream := match frOwnUdp f with
    | some p => streamOf b n ip p
    | none => none
  let closed := match frOwnUdp f with
    | some p => own && uslPort b n p
    | none => false
  match conn, stream, ethOwnTraffic b n f with
  | some c, _, _ => uslReceiveAt c rx (frUdpData f) b
  | none, some j, _ => if closed then b else streamDatagram j rx (frUdpData f) b
  | none, none, some answers =>
    if isActive b && !moduleForce b then answers.foldl (fun b a => ethSendOwn n a.1 a.2 b) b else b
  | none, none, none => if closed then b else ethToHost n lan rx hadRct none f b

/-- ETH_FRAME_RECEIVE: a frame arrives on port Ep with its receive timestamp, or is dropped at the port's FIFO (R429 to R433). A frame of no length
of Table 13.3 and a pause frame are ignored; any other of a node restarts its entry's interval (R431). -/
def ethFrameReceive (p : Nat) (frame : List Byte) (rx : Nat) (dropped : Bool) (b : Block) : Block :=
  let n := p / 2
  let lan := p % 2
  if 8 ≤ p ∨ !netEn b n ∨ !lanUp b n lan ∨ (netSingle b n ∧ lan = 1) ∨ !frLenOk frame ∨ frType frame = 0x8808 then b
  else if dropped then
    netLatch n nlFIFO (modNet n (fun x =>
      if lan = 0 then { x with dropsA := sat16 x.dropsA 1 } else { x with dropsB := sat16 x.dropsB 1 }) b)
  else
    let b := modNet n (fun x => { x with nodes := x.nodes.map fun y => if y.mac = frSrc frame then { y with lastTick := b.tb } else y }) b
    match rctOf frame with
    | none => ethOffer n lan rx false frame b
    | some (s, id) =>
      let f := frame.take (frame.length - 6)
      if netSingle b n then ethOffer n lan rx true f b
      else if (ptpDomain b n lan f).isSome then ethOffer n lan rx true f b
      else
        let wrong := decide (id ≠ (if lan = 0 then 0xA else 0xB))
        let b := if wrong then netLatch n nlWRONG (modNet n (fun x => { x with wrongLan := sat8 x.wrongLan 1 }) b) else b
        let v := judgeNode (netAt b n).nodes (frSrc f) s b.tb
        let b := modNet n (fun x => { x with
          nodes := v.nodes
          prpDup := if v.count = 1 then wrap32 x.prpDup 1 else x.prpDup
          nodeOvf := if v.count = 2 then sat8 x.nodeOvf 1 else x.nodeOvf
          outOfWindow := if v.count = 3 then sat8 x.outOfWindow 1 else x.outOfWindow }) b
        let b := if v.count = 2 then netLatch n nlOVF b else b
        if v.accept then ethOffer n lan rx true f b else perf 10 n 0x7 b

/-- NODE_FORGET: no frame has come from a node for ENTRY_FORGET (R431). -/
def nodeForget (n mac : Nat) (b : Block) : Block :=
  modNet n (fun x => { x with nodes := x.nodes.filter fun y => !(y.mac == mac && decide (y.lastTick + netForget b n ≤ b.tb)) }) b

/-! Host frames (R434, R435). -/

/-- The frame goes to a Safe Layer endpoint (R213). -/
def ethToUsl (b : Block) (n : Nat) (f : List Byte) : Bool :=
  match frUdpPort f with
  | some p => uslPort b n p
  | none => false

/-- What the checks of an MTX descriptor of BUS 2 find (Table 13.4). -/
def ethMtxCheck (b : Block) (d : Desc) (bytes : List Byte) : Option Nat :=
  let n := mtxPort d
  let len := fld (wAt d.w 2) 0 16
  if 3 < n ∨ !netEn b n ∨ ethToUsl b n bytes then some stBAD_TARGET
  else if len < 14 ∨ 1518 < len ∨ bytes.length ≠ len ∨ mtxObject d ≠ 0 then some stBAD_VALUE
  else if !isActive b ∧ (ptpDomain b n 2 bytes).isNone then some stROLE
  else none

/-- ETH_LAUNCH: the next descriptor of an MTX ring is handed to its port MACs, at its launch tick ahead of every frame queued there
(R108, R435). -/
def ethLaunch (r : Nat) (b : Block) : Block :=
  match mtxNext b r with
  | none => b
  | some d =>
    match mtxPayload d with
    | none => b
    | some bytes =>
      let n := mtxPort d
      let ptp := ptpDomain b n 2 bytes
      if mtxBus d ≠ 2 ∨ (!d.late ∧ b.tb < mtxLaunch d) then b
      else if (ethTxLans b n ptp).isEmpty ∨ (ptp.isNone ∧ (!isActive b ∨ moduleForce b)) then completeWith r d.idx stTX_FAILED 0 b
      else
        let x : EthTx := { ring := r, idx := d.idx, bytes := bytes, late := d.late, ptp := ptp }
        let timed := !d.late && mtxLaunch d != 0
        modNet n (fun y => { y with txq := if timed then y.txq.take 1 ++ [x] ++ y.txq.drop 1 else y.txq ++ [x] })
          (modDesc r d.idx (fun d => { d with handed := true }) b)

/-- ETH_FRAME_SENT: the oldest frame of a network has left; its transmit timestamp is the LAN A copy's, or the LAN B copy's where LAN A did not
send (R426, R434). A frame that a force stops never leaves (R196). -/
def ethFrameSent (n : Nat) (at' : TxStamps) (b : Block) : Block :=
  let b := ethFlush n b
  match (netAt b n).txq with
  | [] => b
  | x :: xs =>
    let b := modNet n (fun y => { y with txq := xs }) b
    let tx := if (ethTxLans b n x.ptp).contains 0 then at'.lanA else at'.lanB
    let time := match x.ptp with
      | some (k, true) => ptpTime b k tx
      | _ => tx
    let b := match x.ptp with
      | some _ => (ethTxLans b n x.ptp).foldl (fun b l => emit (.eth n l (x.bytes ++ List.replicate (60 - x.bytes.length) 0)) b) b
      | none => ethSend n x.bytes b
    complete x.ring x.idx { status := mtxSent x.late, tick := time } b

/-! Transmit datagrams (R438). -/

/-- The frame of a datagram before its headers are completed: the template with the values in force and the sequence counters. -/
def tdBody (b : Block) (k : Nat) : List Byte :=
  let t := (List.range (tdLen b (k / 32) (k % 32))).map fun i => tdTemplate b (k / 32) (k % 32) i
  putSeq b 2 (k / 32) (k % 32) 42 (putFields b 42 (engFields b 5 (k / 32) (k % 32)) t)

/-- What the module writes itself: its addresses, lengths, identification and check sums (R438). -/
def tdFinish (b : Block) (k : Nat) (f : List Byte) : List Byte :=
  let n := k / 32
  let len := f.length
  let src := beBytes 4 (netIp b n).toNat
  let f := overlay f 6 (beBytes 6 (Sys2Proof.Config.mac n).toNat)
  let f := overlay f 16 (beBytes 2 (len - 14))
  let f := overlay f 18 (beBytes 2 (netAt b n).ipId)
  let f := overlay f 24 [0, 0]
  let f := overlay f 26 src
  let f := overlay f 24 (beBytes 2 (ipCsum ((f.drop 14).take 20)))
  let f := overlay f 38 (beBytes 2 (len - 34))
  let f := overlay f 40 [0, 0]
  if tdCsum b k then
    let pseudo := (f.drop 26).take 8 ++ [0, 17] ++ beBytes 2 (len - 34)
    let c := ipCsum (pseudo ++ f.drop 34)
    overlay f 40 (beBytes 2 (if c = 0 then 65535 else c))
  else f

/-- A waiting datagram is handed to the MAC when a LAN carries frames; without one it waits and may be replaced (R401, R438; log 36). -/
def tdHand (k : Nat) (b : Block) : Block :=
  let n := k / 32
  match (tdAt b k).waiting with
  | none => b
  | some f =>
    if (lansUp b n).isEmpty ∨ moduleForce b then b else
    let b := ethSend n (tdFinish b k f) b
    let b := modNet n (fun x => { x with ipId := (x.ipId + 1) % 65536 }) b
    seqAdvance 2 n (k % 32) (modTd k (fun x => { x with waiting := none, valid := true, sentAt := some b.tb }) b)

/-- The assembly of a datagram (R438): it replaces one that has not been handed over. -/
def tdAssemble (k : Nat) (b : Block) : Block :=
  let b := modTd k (fun x => { x with due := [] }) b
  if !isActive b ∨ !tdEn b k ∨ !netEn b (k / 32) ∨ moduleForce b then b else
  let f := tdBody b k
  tdHand k (modTd k (fun x => { x with waiting := some f, replaced := if x.waiting.isSome then sat16 x.replaced 1 else x.replaced }) b)

/-- The send instant of a datagram: its fields resolve and it is assembled, or in a freeze deferred (R29, R438). A datagram has no address of Table 3.15:
a conflict on a field reports 0 (log 155). -/
def tdInstant (k : Nat) (b : Block) : Block :=
  if !isActive b then b else
  let b := (engFields b 5 (k / 32) (k % 32)).foldl (fun b w => resolveEng 0 w b) b
  if b.freeze.isSome then modTd k (fun x => { x with due := x.due ++ [b.tb] }) b else tdAssemble k b

/-! Links, roles, fences and banks. -/

/-- ETH_LINK_CHANGE: a port links or drops (R430). -/
def ethLinkChange (p : Nat) (up : Bool) (b : Block) : Block :=
  let n := p / 2
  let old := if p % 2 = 0 then (netAt b n).upA else (netAt b n).upB
  if 8 ≤ p ∨ old = up ∨ isFenced b (.eth p) then b else
  let b := modNet n (fun x => if p % 2 = 0 then { x with upA := up } else { x with upB := up }) b
  let b := ethFlush n (netLatch n nlLINK b)
  (b.eth.tds.filter fun x => x.1 / 32 == n && x.2.waiting.isSome).foldl (fun b x => tdHand x.1 b) b

/-- A write of CLR_COUNTS (Table 13.11). -/
def ethClrCounts (n : Nat) (b : Block) : Block :=
  modNet n (fun x => { x with dropsA := 0, dropsB := 0, prpDup := 0, wrongLan := 0, nodeOvf := 0, outOfWindow := 0, unmatched := 0 }) b

/-- SeqNr counts from 0 at Ready (R430). -/
def ethReady (b : Block) : Block := (List.range 4).foldl (fun b n => modNet n (fun x => { x with seqNr := 0 }) b) b

/-- A bank comes into force or goes out of force: networks that end drop what they hold; streams and datagrams whose records change
start afresh. -/
def ethBank (old : Block) (b : Block) : Block :=
  let b := (List.range 4).foldl (fun b n =>
    let b := ethFlush n b
    if netEn b n && netCfg old n == netCfg b n then b else modNet n (fun x => { x with nodes := [] }) b) b
  let b := (List.range 16).foldl (fun b j =>
    if strEn b j && (List.range 4).all fun i => strCfg old j i == strCfg b j i then b
    else modEth (fun e => { e with streams := tset {} e.streams j {} }) b) b
  (List.range 128).foldl (fun b k =>
    if tdEn b k && tdCfg old (k / 32) (k % 32) == tdCfg b (k / 32) (k % 32) then modTd k (fun x => { x with due := [], waiting := none }) b
    else modEth (fun e => { e with tds := tset {} e.tds k {} }) b) b

end Sys2Proof.Machine
end

