-- ==== Sys2Proof/Machine/Fetch.lean ====
section
/-! DEFINITION. The returns of reads of host memory: descriptors and data buffers (R87, R88, R90, R95, R96, R105, R108). -/

namespace Sys2Proof.Machine

/-- Words of a CMD descriptor (Table 3.7). -/
def cmdTarget (d : Desc) : Word := wAt d.w 1
def cmdValue (d : Desc) : Word := wAt d.w 2
def cmdOpcode (d : Desc) : Nat := fld (wAt d.w 4) 0 8
def cmdLen (d : Desc) : Nat := fld (wAt d.w 4) 16 16

/-- The least LEN of a BUFFERED field, or for a TUNE start the one it needs (R96). -/
def lenRule (target : Word) (len : Nat) : Bool :=
  let cls := fld target 24 8
  let f := fld target 0 8
  decide (8 ≤ len) && decide (len ≤ 4096) && len % 8 == 0 &&
    (if cls = 1 ∧ f = 4 ∨ cls = 4 ∧ f = 0 then decide (24 ≤ len)
     else if cls = 6 ∧ f = 2 then decide (48 ≤ len)
     else if cls = 2 ∧ f = 5 then len == 16
     else true)

/-- A BUFFERED field that some chapter defines: channel ENTRY, TUNE, object DATA, HART pass-through and the time snapshot. -/
def bufferedField (target : Word) : Bool :=
  [(1, 4), (2, 5), (4, 0), (5, 0), (6, 2)].contains (fld target 24 8, fld target 0 8)

/-- The checks of an MTX descriptor by the chapter of its bus (Table 3.11). -/
def mtxCheck (b : Block) (d : Desc) (bytes : List Byte) : Option Nat :=
  match mtxBus d with
  | 1 => canMtxCheck b d bytes
  | 2 => ethMtxCheck b d bytes
  | 3 => serMtxCheck b d bytes
  | _ => some stBAD_TARGET

/-- Ask for a data buffer, in reads that keep the read size (Table 3.1). -/
def askBuffer (n : Nat) (addr len : Nat) (d : Desc) (b : Block) : Block :=
  let l := (ring b n).link
  readsFrom l addr (readCap b l) len (readCount (readCap b l) len) 0 (modDesc n d.idx (fun x => { x with buf := .requested }) b)

/-- A command is taken: its CPL entry is reserved, and the buffer of a BUFFERED command with a proper LEN is asked for; a command whose
opcode or BUFFERED field no table names is refused at once (R96, R97, R100, R105). -/
def takeCmd (n : Nat) (d : Desc) (b : Block) : Block :=
  let b := if cmdCpl d && cplTarget b n then modDesc n d.idx (fun x => { x with cplTo := some (ring b n).cplRing }) b else b
  let op := cmdOpcode d
  if op = 0 ∨ 5 < op then refuse n d.idx stBAD_OPCODE b
  else if op ≠ 4 then b
  else if !bufferedField (cmdTarget d) then refuse n d.idx stBAD_TARGET b
  else if lenRule (cmdTarget d) (cmdLen d) then askBuffer n (join64 (wAt d.w 2) (wAt d.w 3)) (cmdLen d) d b
  else b

/-- An MTX descriptor is taken: a cancelled one ends, another asks for its payload, or is checked at once where it has none to stage
(R99, R108). -/
def takeMtx (n : Nat) (d : Desc) (b : Block) : Block :=
  let launch := mtxLaunch d
  let b := modDesc n d.idx (fun x => { x with late := launch != 0 && decide (launch ≤ b.tb) }) b
  if (ring b n).cancels.contains d.idx then
    completeWith n d.idx stCANCELLED 0 (modRing n (fun r => { r with cancels := r.cancels.filter fun i => i != d.idx }) b)
  else if mtxRoom d = 0 ∨ mtxBus d = 0 ∨ 3 < mtxBus d then
    match mtxCheck b d [] with
    | some st => completeWith n d.idx st 0 b
    | none => modDesc n d.idx (fun x => { x with buf := .data [] }) b
  else askBuffer n (join64 (wAt d.w 0) (wAt d.w 1)) (mtxRoom d) d b

/-- An RRD descriptor is taken: it is answered with the records that exist (R95). -/
def takeRrd (n : Nat) (d : Desc) (b : Block) : Block :=
  let count := min (rrdCount d) (fld (wAt d.w 2) 0 24 / 128)
  let recs := rrdRecords b (fld (wAt d.w 3) 31 1) (fld (wAt d.w 3) 0 31) count
  complete n d.idx { status := if recs.length < fld (wAt d.w 4) 0 16 then stPARTIAL else stOK, tick := b.tb
                     reply := recs.flatMap recordBytes, delivered := recs.length } b

/-- An MTX descriptor joins the order of fetch, from which those that are no longer held go (R453). -/
def orderMtx (n idx : Nat) (b : Block) : Block :=
  modRng (fun g => { g with mtxOrder := (g.mtxOrder.filter fun x => (descAt b x.1 x.2).isSome && x != (n, idx)) ++ [(n, idx)] }) b

/-- One descriptor joins the fetched ones of its ring. -/
def takeDesc (n : Nat) (d : Desc) (b : Block) : Block :=
  let b := modRing n (fun r => { r with fetched := r.fetched ++ [d], fIdx := (r.fIdx + 1) % ringMod }) b
  let k := (ring b n).kind
  if k = tCMD then takeCmd n d b else if k = tMTX then takeMtx n d (orderMtx n d.idx b) else if k = tRRD then takeRrd n d b else b

/-- The descriptors of a fetch read, in index order: up to the first that the doorbell covers no longer, that the module does not own, or that no
credit exists for; that one stays in host memory (R87, R88). -/
def takeDescs (n : Nat) : Nat → List Word → Block → Block
  | 0, _, b => b
  | k + 1, ws, b =>
    let d : Desc := { idx := (ring b n).fIdx, w := ws.take 8 }
    if ringAvail (ring b n) = 0 then b
    else if !bit (wAt ws 7) 31 then ringStop n erOWN_ERR b
    else if !creditFor b n d then modRing n (fun r => { r with blocked := some d }) b
    else takeDescs n k (ws.drop 8) (takeDesc n d b)

/-- DESCRIPTOR_FETCH: the fetch read of a ring returns, or fails (R87, R88, R90). -/
def descriptorFetch (n : Nat) (data : Option (List Word)) (b : Block) : Block :=
  let r := ring b n
  if r.state ≠ .running ∨ r.asked = 0 then b else
  match data with
  | none => ringStop n erFETCH_DMA b
  | some ws => takeDescs n r.asked ws (modRing n (fun r => { r with asked := 0 }) b)

/-- BUFFER_READ_COMPLETION: the read of a data buffer returns, or fails (R90). An MTX payload is checked by its bus. -/
def bufferReadCompletion (n idx : Nat) (data : Option (List Byte)) (b : Block) : Block :=
  match descAt b n idx with
  | none => b
  | some d =>
    if d.buf ≠ .requested ∨ d.done.isSome then b else
    match data with
    | none =>
      let b := modDesc n idx (fun x => { x with buf := .failed }) b
      if (ring b n).kind = tMTX then completeWith n idx stDMA 0 b else b
    | some bytes =>
      let len := if (ring b n).kind = tMTX then mtxRoom d else cmdLen d
      let bytes := bytes.take len
      let b := modDesc n idx (fun x => { x with buf := .data bytes }) b
      if (ring b n).kind = tMTX then
        match mtxCheck b d bytes with
        | some st => completeWith n idx st 0 b
        | none => b
      else b

/-- COMPLETION_TIMEOUT: a read of a ring gets no completion within 10 ms: its fetch read, or the buffer of a descriptor (R90). -/
def completionTimeout (n : Nat) (idx : Option Nat) (b : Block) : Block :=
  match idx with
  | none => descriptorFetch n none b
  | some i => bufferReadCompletion n i none b

end Sys2Proof.Machine
end

