-- ==== Sys2Proof/Machine/Hart.lean ====
section
/-! DEFINITION. The HART modems (R168 to R179). The data layouts of Commands 0, 3 and 48 are the HART specification's (log 22). -/

namespace Sys2Proof.Machine

/-- An absent dynamic variable (R176). -/
def hartAbsent : Word := 0x7FA00000

/-- Command number and data of a transaction: a number above 255 goes out as Command 31 with the number inside (R175). -/
def hartRequest (t : HartTrans) : Byte × List Byte :=
  if t.kind = 0 then (0, [])
  else if t.kind = 1 then (3, [])
  else if t.kind = 2 then (48, [])
  else
    let cmd := leAt t.request 0 2
    let data := (t.request.drop 3).take (leAt t.request 2 1)
    if 255 < cmd then (31, (leBytes 2 cmd).reverse ++ data) else (BitVec.ofNat 8 cmd, data)

/-- The address of a frame from the primary master: POLL_ADDR for Command 0, else the kept identifier, with the master bit set to 1 and the
burst bit to 0 (R168, R172). -/
def hartAddr (b : Block) (n : Nat) (t : HartTrans) : List Byte :=
  if t.kind = 0 then leBytes 1 (0x80 + fld (chnHartCfg b n) 0 6)
  else match (chanAt b n).hart.uid with
    | some (x :: xs) => (0x80#8 ||| (x &&& 0x3F#8)) :: xs
    | _ => []

/-- A frame of the primary master: delimiter, address, command, byte count, data and the checksum, the exclusive or of the bytes before it
(R168; the frame is the HART specification's, log 22). -/
def hartFrame (b : Block) (n : Nat) (t : HartTrans) : List Byte :=
  let (cmd, data) := hartRequest t
  let f := (if t.kind = 0 then 0x02#8 else 0x82#8) :: (hartAddr b n t ++ [cmd] ++ leBytes 1 data.length ++ data)
  f ++ [f.foldl (· ^^^ ·) 0]

/-- The modem may transmit: its channel is in SERVE with HART_EN = 1, and the module is Active (R170). -/
def hartMay (b : Block) (n : Nat) : Bool := (chanAt b n).fe == 3 && chnHartEn b n && isActive b

/-- Send an attempt of a transaction: preambles and the frame. Where R170 forbids it, the transaction is aborted. -/
def hartSend (n : Nat) (t : HartTrans) (b : Block) : Block :=
  if !hartMay b n then hartEnd t 4 (modHart n (fun h => { h with flight := none }) b) else
  let h := (chanAt b n).hart
  emit (.hart n (List.replicate (max 5 h.preambles) 0xFF ++ hartFrame b n t))
    (modHart n (fun h => { h with
      flight := some { t with sentAt := b.tb }
      last48 := if t.kind = 2 then some b.tb else h.last48 }) b)

/-- Start the next transaction when none is in flight, in the order of R174. -/
def hartNext (n : Nat) (b : Block) : Block :=
  let h := (chanAt b n).hart
  if h.flight.isSome ∨ h.state = 0 ∨ !hartMay b n then b else
  match h.queue with
  | t :: q => hartSend n t (modHart n (fun h => { h with queue := q }) b)
  | [] =>
    if h.pollDue then
      let b := modHart n (fun h => { h with pollDue := false }) b
      if h.state = 1 ∨ h.state = 4 then hartSend n { kind := 0 } b
      else if h.state = 2 then hartSend n { kind := 1 } b
      else b
    else if h.due48 ∧ (h.state = 2 ∨ h.state = 3) then hartSend n { kind := 2 } (modHart n (fun h => { h with due48 := false }) b)
    else b

/-- HART_POLL: POLL_PERIOD has elapsed (Table 5.8). -/
def hartPoll (n : Nat) (b : Block) : Block :=
  let h := (chanAt b n).hart
  if (h.state = 1 ∨ h.state = 2 ∨ h.state = 4) ∧ h.pollAt ≤ b.tb then
    hartNext n (modHart n (fun h => { h with pollDue := true, pollAt := b.tb + hartPeriod b n }) b)
  else b

/-- The link takes a state of Table 5.7, with its event. -/
def hartState (n v cause : Nat) (b : Block) : Block :=
  let old := (chanAt b n).hart.state
  let b := modHart n (fun h => { h with state := v }) b
  let b := if old = 3 ∧ v ≠ 3 ∧ cause ≠ 7 then hartEvent n 7 b else b
  hartEvent n cause b

/-- A device status byte arrives: a change in bits 7, 4, 3 or 2 is an event, and bit 4 asks for Command 48 (R178, Table 5.8). -/
def hartDevStatus (n dev : Nat) (b : Block) : Block :=
  let h := (chanAt b n).hart
  let change := fld (w32 h.devStatus ^^^ w32 dev) 0 8
  let b := modHart n (fun h => { h with devStatus := dev }) b
  let b := if fld (w32 change &&& 0x9C#32) 0 8 ≠ 0 then hartEvent n 4 b else b
  let waited := match h.last48 with
    | some t => decide (t + 1000000000 ≤ b.tb)
    | none => true
  if hartAuto48 b n && bit (w32 dev) 4 && waited then modHart n (fun h => { h with due48 := true }) b else b

/-- DISAGREE after a set of dynamic variables (R177). -/
def hartCompare (n : Nat) (b : Block) : Block :=
  let c := chanAt b n
  let tol := fld (chnHartCfg b n) 20 12
  if chnMode b n ≠ 3 then b
  else if tol = 0 then hartOut n (modHart n (fun h => { h with disRun := 0, agreeRun := 0, disagree := false }) b)
  else
    let off := offBy c.hart.loopCurrent c.meas (fOfRat false tol 1000).v
    hartOut n (modHart n (fun h =>
      let d := if off then h.disRun + 1 else 0
      let a := if off then 0 else h.agreeRun + 1
      { h with disRun := d, agreeRun := a, disagree := if 3 ≤ d then true else if 3 ≤ a then false else h.disagree }) b)

/-- Variable `i` of a Command 3 reply: unit code and value, most significant byte first on the wire. -/
def hartVar (data : List Byte) (i : Nat) : Option (Byte × Word) :=
  if 4 + 5 * i + 5 ≤ data.length then some (data.getD (4 + 5 * i) 0, w32 (beAt data (5 + 5 * i) 4)) else none

def hartVal (data : List Byte) (i : Nat) : Word :=
  match hartVar data i with
  | some x => x.2
  | none => hartAbsent

/-- A new set of dynamic variables (Table 5.9). The unit code of an absent variable is a free value. -/
def hartVars (n resp source : Nat) (data : List Byte) (b : Block) : Block :=
  let (f, b) := takeFree b
  let unit := fun i => match hartVar data i with
    | some x => x.1
    | none => f.extractLsb' 0 8
  hartCompare n (modHart n (fun h => { h with
    resp := resp, loopCurrent := if 4 ≤ data.length then w32 (beAt data 0 4) else hartAbsent
    pv := hartVal data 0, sv := hartVal data 1, tv := hartVal data 2, qv := hartVal data 3
    units := [unit 0, unit 1, unit 2, unit 3]
    dvSeq := (h.dvSeq + 1) % 0x10000, dvTick := b.tb, source := source }) b)

/-- A Command 0 reply: identifier, preambles and the state ONLINE (R169, R172, Table 5.7). -/
def hartIdent (n : Nat) (data : List Byte) (b : Block) : Block :=
  let h := (chanAt b n).hart
  let uid := [data.getD 1 0, data.getD 2 0, data.getD 9 0, data.getD 10 0, data.getD 11 0]
  let changed := match h.uid with
    | some u => u != uid
    | none => false
  let b := modHart n (fun h => { h with uid := some uid, preambles := (data.getD 3 0).toNat, fails := 0 }) b
  let b := if changed then hartEvent n 3 b else b
  if h.state = 1 ∨ h.state = 4 then hartState n 2 1 b else b

/-- A transaction fails (R169, R171): the third in a row in ONLINE or BURST loses the link. -/
def hartFail (n : Nat) (t : HartTrans) (b : Block) : Block :=
  let b := hartEnd t (if t.invalid then 2 else 1) b
  let b := modHart n (fun h => { h with flight := none, fails := h.fails + 1 }) b
  let h := (chanAt b n).hart
  if (h.state = 2 ∨ h.state = 3) ∧ 3 ≤ h.fails then
    hartState n 4 2 (modHart n (fun h => { h with pollAt := b.tb + hartPeriod b n }) b)
  else b

/-- An attempt gets no valid reply: it counts, and is repeated or ends the transaction (R169). -/
def hartAttemptFailed (n : Nat) (t : HartTrans) (invalid : Bool) (b : Block) : Block :=
  let t := { t with failed := t.failed + 1, invalid := t.invalid || invalid }
  let b := modHart n (fun h => { h with errors := sat16 h.errors 1 }) b
  if t.failed ≤ hartRetries b n then hartSend n t b else hartNext n (hartFail n t b)

/-- A Command 48 reply (Tables 5.8 and 5.9). -/
def hartAddStatus (n : Nat) (data : List Byte) (b : Block) : Block :=
  modHart n (fun h => { h with addStatus := (List.range 6).map fun i => data.getD i 0 }) b

/-- The reply to a pass-through Command 0, 3 or 48 is a reply of that command too (R172, Table 5.9); a set of variables it brings counts as
polled (DEDUCED, log 144). -/
def hartOverheard (n : Nat) (t : HartTrans) (resp : Nat) (data : List Byte) (b : Block) : Block :=
  let cmd := leAt t.request 0 2
  if cmd = 0 then hartIdent n data b
  else if cmd = 3 then hartVars n resp 1 data b
  else if cmd = 48 then hartAddStatus n data b
  else b

/-- HART_REPLY: a reply frame arrives; `valid` when parity, framing and checksum hold (R169). -/
def hartReply (n : Nat) (valid : Bool) (resp dev : Nat) (data : List Byte) (b : Block) : Block :=
  match (chanAt b n).hart.flight with
  | none => b
  | some t =>
    if !valid then hartAttemptFailed n t true b
    else
      let b := modHart n (fun h => { h with flight := none, fails := 0 }) b
      let b := hartDevStatus n dev b
      let b := if t.kind = 0 then hartIdent n data b
        else if t.kind = 1 then hartVars n resp 1 data b
        else if t.kind = 2 then hartAddStatus n data b
        else hartOverheard n t resp data (completeReply t.ring t.idx (hartReplyBytes 0 resp dev data) b)
      hartNext n b

/-- HART_REPLY_TIMEOUT: no reply starts within 28 character times (R169). They are counted from the tick at which the attempt is handed to the
modem; the spec does not say from when (DESIGN CHOICE, log 147). -/
def hartReplyTimeout (n : Nat) (b : Block) : Block :=
  match (chanAt b n).hart.flight with
  | none => b
  | some t => if t.sentAt + 25666667 ≤ b.tb then hartAttemptFailed n t false b else b

/-- HART_BURST_FRAME: a burst frame of a command arrives (R171). -/
def hartBurstFrame (n cmd resp dev : Nat) (data : List Byte) (b : Block) : Block :=
  let h := (chanAt b n).hart
  if h.state = 0 then b else
  let b := hartDevStatus n dev (modHart n (fun h => { h with bursts := (h.bursts + 1) % 0x10000 }) b)
  let b := if cmd = 3 ∧ (h.state = 2 ∨ h.state = 3) then
      let b := modHart n (fun h => { h with lastBurst := b.tb }) b
      let b := if h.state = 2 then hartState n 3 6 (modHart n (fun h => { h with pollDue := false }) b) else b
      hartVars n resp 2 data b
    else b
  hartNext n b

/-- HART_BURST_TIMEOUT: no burst frame of Command 3 for 2 × POLL_PERIOD (R171): cause 7 alone is reported (R178; DESIGN CHOICE, log 169). -/
def hartBurstTimeout (n : Nat) (b : Block) : Block :=
  let h := (chanAt b n).hart
  if h.state = 3 ∧ h.lastBurst + 2 * hartPeriod b n ≤ b.tb then
    hartState n 2 7 (modHart n (fun h => { h with pollAt := b.tb + hartPeriod b n }) b)
  else b

/-- A pass-through request of a ring's descriptor: OFFLINE outside ONLINE and BURST, BUSY with four queued, else queued (R175). The transaction in
flight is no queued one, and OFFLINE stands before BUSY (DESIGN CHOICE, log 166). One that is queued when the link becomes LOST is still sent
(DESIGN CHOICE, log 167). -/
def hartPassThrough (n ring idx : Nat) (request : List Byte) (b : Block) : Block :=
  let h := (chanAt b n).hart
  if h.state ≠ 2 ∧ h.state ≠ 3 then completeReply ring idx (hartReplyBytes 5 0 0 []) b
  else if 4 ≤ h.queue.length then completeReply ring idx (hartReplyBytes 3 0 0 []) b
  else
    hartNext n (modHart n (fun h => { h with queue := h.queue ++ [{ kind := 3, ring := ring, idx := idx, request := request }] }) b)

end Sys2Proof.Machine
end

