-- ==== Sys2Proof/Machine/Residue.lean ====
section
/-! DEFINITION. The residues modulo 31 that integer and significand paths carry beside their values, and the two copies of the exponent path (R43),
with the check of a result at the register that takes it (R44). -/

namespace Sys2Proof.Machine

/-- The residue of an integer modulo 31. -/
def residue31 (n : Int) : Nat := (n % 31).toNat

/-- An integer on a path with the residue that it carries. -/
structure RInt where
  v : Int
  r : Nat
  deriving DecidableEq, Repr

/-- An operand as it enters a path. -/
def RInt.of (n : Int) : RInt := ⟨n, residue31 n⟩

/-- The check: the value has the residue that it carries. -/
def RInt.ok (x : RInt) : Bool := residue31 x.v == x.r

/-- An adder combines residues by addition. -/
def RInt.add (a b : RInt) : RInt := ⟨a.v + b.v, (a.r + b.r) % 31⟩

/-- The negative of a value. -/
def RInt.neg (a : RInt) : RInt := ⟨-a.v, (31 - a.r % 31) % 31⟩

/-- A multiplier combines residues by multiplication. -/
def RInt.mul (a b : RInt) : RInt := ⟨a.v * b.v, a.r * b.r % 31⟩

/-- A multiply-accumulate unit. -/
def RInt.mac (a b c : RInt) : RInt := (a.mul b).add c

/-- Normalisation by a shift of `k` places to the left: 2^5 is 1 modulo 31. -/
def RInt.shl (a : RInt) (k : Nat) : RInt := ⟨a.v * 2 ^ k, a.r * 2 ^ (k % 5) % 31⟩

/-- Normalisation by a shift of `k` places to the right. The bits it drops leave the residue first. -/
def RInt.shr (a : RInt) (k : Nat) : RInt :=
  let low := RInt.of (a.v % 2 ^ k)
  ⟨a.v / 2 ^ k, (a.add low.neg).r * 2 ^ ((5 - k % 5) % 5) % 31⟩

/-- The rounding increment, with the sign it has in the value. -/
def RInt.round (a : RInt) (inc : Int) : RInt := a.add (RInt.of inc)

/-- The identity that checks a division: q × d + r = n. -/
def divisionOk (q d r n : RInt) : Bool := (q.mac d r).r == n.r

/-- The identity that checks a square root: s × s + r = n. -/
def rootOk (s r n : RInt) : Bool := (s.mac s r).r == n.r

/-- A result of the significand path with the two copies of its exponent. -/
structure RSig where
  neg : Bool
  m : RInt
  e1 : Int
  e2 : Int
  deriving DecidableEq, Repr

/-- The check of a result (R44): the residue of its significand, and the copies of its exponent. -/
def RSig.ok (x : RSig) : Bool := x.m.ok && decide (x.e1 = x.e2)

/-- The value of a result. -/
def RSig.num (x : RSig) : Num := if x.m.v = 0 then ⟨fZeroOf x.neg, false⟩ else fPack x.neg (x.m.v.toNat, x.e1)

/-- Rounding of a magnitude on the significand path (R42), its residue going with it. -/
def normPath (m : RInt) (e : Int) (sticky : Bool) : RInt × Int :=
  let l := bitLen m.v.toNat
  let x : RInt × Int :=
    if l ≤ 24 then (m.shl (24 - l), e - ((24 - l : Nat) : Int))
    else
      let sh := l - 24
      ((m.shr sh).round (b1 (roundUp m.v.toNat sh sticky)), e + (sh : Int))
  if x.1.v = 2 ^ 24 then (x.1.shr 1, x.2 + 1) else x

/-- A result from a magnitude: the exponent path runs twice. -/
def RSig.of (neg : Bool) (m : RInt) (e : Int) (sticky : Bool) : RSig :=
  if m.v = 0 then ⟨neg, m, e, e⟩ else ⟨neg, (normPath m e sticky).1, (normPath m e sticky).2, (normPath m e sticky).2⟩

/-- The significand of an operand with its sign, aligned to 2^-150. -/
def alignPath (w : Word) : RInt :=
  let m := (RInt.of (fMant w)).shl (fScale w)
  if fSign w then m.neg else m

/-- The adder: a sum that is not zero. -/
def addPath (a b : Word) : RSig :=
  let s := (alignPath a).add (alignPath b)
  RSig.of (decide (s.v < 0)) (if s.v < 0 then s.neg else s) (-150) false

/-- The multiplier. -/
def mulPath (a b : Word) : RSig :=
  RSig.of (fSign a != fSign b) ((RInt.of (fMant a)).mul (RInt.of (fMant b))) (((fScale a + fScale b : Nat) : Int) - 300) false

/-- A register's word on its way in, as the check sees it. -/
def sigOf (w : Word) : RSig := ⟨fSign w, RInt.of (fMant w), fExp w, fExp w⟩

/-- A fault of a source on a result: 5 upsets the residue, 6 one copy of the exponent. -/
def RSig.upset (x : RSig) (source : Nat) : RSig :=
  if source = 5 then { x with m := { x.m with r := (x.m.r + 1) % 31 } } else { x with e2 := x.e2 + 1 }

end Sys2Proof.Machine
end

