-- ==== Sys2Proof/Machine/Check.lean ====
section
/-! DEFINITION. The check of an engine's results at the register writes that store them, and its repeat (R44, R467). -/

namespace Sys2Proof.Machine

/-- The source whose armed force makes the next check at a location fail: 5 RESIDUE, 6 EXPONENT (R467). -/
def checkForce (b : Block) (l : Word) : Option Nat := ([5, 6] : List Nat).find? fun s => forceArmed b.flt s l 0

/-- One check of results at a location: whether they pass, the source that failed, and the block with the injection counted. What fails a check in
the model is a force; a fault of the hardware itself comes as FAULT_DETECTED. -/
def checkOnce (l : Word) (ws : List Word) (b : Block) : Bool × Nat × Block :=
  match checkForce b l with
  | none => (ws.all fun w => (sigOf w).ok, 5, b)
  | some s => (ws.all fun w => ((sigOf w).upset s).ok, s, injectForce s b)

/-- The check of the results of an instance on a unit: they are written by `write`, or after a failure checked once more on the same unit. A repeat
that passes is a transient fault, corrected, and the write is made; one that fails is persistent, and the registers keep their values (R44).
The results of one instance are checked together (DEDUCED, log 156). -/
def checkedWrite (l : Word) (ws : List Word) (write : Block → Block) (b : Block) : Block :=
  let c := checkOnce l ws b
  if c.1 then write c.2.2
  else
    let d := checkOnce l ws c.2.2
    if d.1 then write (fault c.2.1 l false true .plain d.2.2) else fault d.2.1 l true true .plain d.2.2

end Sys2Proof.Machine
end

