-- ==== Sys2Proof/Machine/Lpe.lean ====
section
/-! DEFINITION. The loop engine: instants, evaluations, auto-tune and seed records (R243 to R270). -/

namespace Sys2Proof.Machine

/-! Values of targets. -/

/-- Payload bytes of a datagram's template (R438). -/
def tdPayload (b : Block) (n d : Nat) : List Byte := (List.range (tdLen b n d - 42)).map fun i => tdTemplate b n d (42 + i)

/-- The value a template holds in the field of a target word. -/
def templateValue (w : Word) (data : List Byte) : Word :=
  match canField w { frame := { data := data } } with
  | some s => s.num.getD 0
  | none => 0

/-- The value in force v of a loop's output target (R254, R260, R261). -/
def outValue (b : Block) (c : Nat) : Word :=
  let w := lpeOut b c
  let a := tgA w
  match tgKind w with
  | 1 => if (chanAt b a).fe = 4 then chnDrive b a else if (chanAt b a).fe = 5 then 0 else chnResolved b a
  | 2 => if (targetAt b (engKey w)).decided then (targetAt b (engKey w)).inForce else templateValue w (objTpl b (128 * a + tgB w))
  | 3 => (ctxAt b a).spR
  | 4 => dpInput b a
  | 5 => if (targetAt b (engKey w)).decided then (targetAt b (engKey w)).inForce else templateValue w (tdPayload b a (tgB w))
  | _ => (ctxAt b c).u

/-! The arithmetic of R254 and R255. -/

/-- Multipliers of the gain table at an error (R255). -/
def gains (b : Block) (c : Nat) (e : Num) : Num × Num :=
  let x := ((e.div (num (lpeEspan b c))).add f1).mul (num 0x41800000)
  let (k, f) :=
    if fLe x.v 0 then (0, f0)
    else if fLe 0x42000000 x.v then (31, f1)
    else
      let k := (fFloor x.v).toNat
      (k, x.sub (fOfNat k))
  let at' := fun (g : Nat → Word) => (num (g k)).add (((num (g (k + 1))).sub (num (g k))).mul f)
  (at' (lpeGp b c), at' (lpeGi b c))

/-- The cascade input of a loop, when it is valid (R261). -/
def cascadeIn (b : Block) (c : Nat) : Option Word :=
  if skKind (lpeSpSrc b c) = 4 ∧ (srcValue b (lpeSpSrc b c) (lpeStale b c false)).isSome then (ctxAt b c).casc else none

/-- Ramp of the setpoint (R254, R256). -/
def rampSp (b : Block) (c : Nat) (sp spR : Num) : Num :=
  let step := (num (lpeField b c 6)).mul (lpeTs b c)
  let diff := sp.sub spR
  if fZero (lpeField b c 6) || fLe diff.abs.v step.v then ⟨sp.v, sp.sat || step.sat || diff.sat⟩
  else if fSign diff.v then spR.sub step else spR.add step

/-- The terms of an evaluation with a raw process value (R254). `soft` makes sp_r start from pv; `first` sets FIRST. -/
def lpeTerms (b : Block) (c : Nat) (raw : Word) (soft first : Bool) : LpeTerms :=
  let x := ctxAt b c
  let mode := lpeMode b c
  let ts := lpeTs b c
  let pv := ((num raw).mul (num (lpeW b c 3))).add (num (lpeW b c 4))
  let pvPrev := if first then pv else num x.pvPrev
  let d0 := if first then f0 else num x.d
  let casc := if mode = 2 then cascadeIn b c else none
  let sp := Num.clamp (num (lpeSpMin b c)) (num (lpeSpMax b c)) (num (casc.getD (lpeSp b c)))
  let spR := if mode = 0 then pv else rampSp b c sp (if soft then pv else num x.spR)
  let diff := spR.sub pv
  let e := if lpeDirect b c then diff.neg else diff
  let (mP, mI) := gains b c e
  let p := ((num (lpeField b c 2)).mul mP).mul e
  let di := (((num (lpeField b c 3)).mul mI).mul e).mul ts
  let kd := num (lpeField b c 4)
  let dr := ((if lpeDirect b c then kd else kd.neg).mul (pv.sub pvPrev)).div ts
  let tf := num (lpeW b c 19)
  let d := if fZero tf.v then dr else d0.add ((dr.sub d0).mul (ts.div (tf.add ts)))
  let ffv := srcValue b (lpeFfSrc b c) (lpeStale b c false)
  let ff := match ffv with
    | some y => (num (lpeW b c 20)).mul (num y)
    | none => num x.ff
  { pv := pv, sp := sp.v, spR := spR, e := e, p := p, di := di, d := d, ff := ff, bad := mode == 2 && casc.isNone,
    ffBad := skKind (lpeFfSrc b c) != 0 && ffv.isNone }

/-- R of R254. -/
def lpeR (b : Block) (c : Nat) : Num := (num (lpeOutMax b c)).sub (num (lpeOutMin b c))

/-- p + d + ff + BIAS. -/
def LpeTerms.rest (t : LpeTerms) (bias : Word) : Num := ((t.p.add t.d).add t.ff).add (num bias)

/-- p + i + d + ff + BIAS. -/
def LpeTerms.sum (t : LpeTerms) (i : Num) (bias : Word) : Num := (((t.p.add i).add t.d).add t.ff).add (num bias)

/-- i of a tracking evaluation (R254, R260). -/
def trackI (b : Block) (c : Nat) (t : LpeTerms) (v : Word) : Num :=
  Num.clamp (lpeR b c).neg (lpeR b c) ((num v).sub (t.rest (lpeW b c 21)))

/-- The limits lo and hi, with the rate limit (R254). -/
def lpeLimits (b : Block) (c : Nat) : Num × Num :=
  let lo := num (lpeOutMin b c)
  let hi := num (lpeOutMax b c)
  let u := num (ctxAt b c).u
  if fLt 0 (lpeOutRate b c) then
    let step := (num (lpeOutRate b c)).mul (lpeTs b c)
    (lo.max (u.sub step), hi.min (u.add step))
  else (lo, hi)

/-- |a − b| exceeds 0.001 × R (R260, R264). -/
def beyond (b : Block) (c : Nat) (x y : Word) : Bool :=
  fLt ((num 0x3A83126F).mul (lpeR b c)).v ((num x).sub (num y)).abs.v

/-- What an evaluation ends with: u, i, the flags, the context's state and whether u is written. -/
structure LpeResult where
  u : Num
  i : Num
  windup : Bool := false
  rate : Bool := false
  state : Nat := 2
  write : Bool := true
  deriving DecidableEq, Repr

/-- RATE of R254. -/
def rateFlag (b : Block) (c : Nat) (lo hi u : Word) : Bool :=
  (fEq u hi && fLt hi (lpeOutMax b c)) || (fEq u lo && fLt (lpeOutMin b c) lo)

/-- The automatic branch of R254. -/
def lpeAuto (b : Block) (c : Nat) (t : LpeTerms) : LpeResult :=
  let i0 := num (ctxAt b c).i
  let bias := lpeW b c 21
  let (lo, hi) := lpeLimits b c
  let ua := t.sum i0 bias
  let stop := (fLe hi.v ua.v && fLt 0 t.di.v) || (fLe ua.v lo.v && fLt t.di.v 0)
  let i := if stop then i0 else Num.clamp (lpeR b c).neg (lpeR b c) (i0.add t.di)
  let u := Num.clamp lo hi (t.sum i bias)
  { u := u, i := i, windup := stop, rate := rateFlag b c lo.v hi.v u.v }

/-- Store the end of an evaluation under MODE `mode`, with its flags and ES082 (R254, R271). -/
def lpeStore (c mode : Nat) (t : LpeTerms) (r : LpeResult) (b : Block) : Block :=
  let old := (ctxAt b c).st
  let hiF := fEq r.u.v (lpeOutMax b c)
  let loF := fEq r.u.v (lpeOutMin b c)
  let ns := t.pv.sat || t.spR.sat || t.e.sat || t.p.sat || t.di.sat || t.d.sat || t.ff.sat || r.u.sat || r.i.sat
  let st := (old &&& 0x2000#32) ||| regOf [(5, 1, b1 (mode != 0 && !fEq t.spR.v t.sp)), (6, 1, b1 hiF), (7, 1, b1 loF),
    (8, 1, b1 r.windup), (9, 1, b1 r.rate), (11, 1, b1 t.ffBad), (12, 1, b1 t.bad), (14, 1, b1 ns)]
  let b := if r.write then writeOut c r.u.v b else if mode = 0 then dropOut c b else b
  let b := modCtx c (fun x => { x with
    st := st, pv := t.pv.v, e := t.e.v, i := r.i.v, d := t.d.v, u := r.u.v, pvPrev := t.pv.v, spR := t.spR.v, ff := t.ff.v
    first := false, soft := false, track := false, exit := none, mode := mode, evalAt := some b.tb }) b
  let b := setCtxState c r.state b
  fireIf (st &&& ~~~old &&& 0x1C0#32 != 0) 82 (regOf [(0, 8, c), (8, 1, b1 hiF), (9, 1, b1 loF), (10, 1, b1 r.windup)]) b

/-! Auto-tune (R262 to R265). -/

/-- All of a list lie within 10 % of a mean (R263). -/
def within10 (mean : Num) (l : List Num) : Bool := l.all fun x => fLe (x.sub mean).abs.v ((num 0x3DCCCCCD).mul mean).v

def meanOf (l : List Num) : Num := (numSum l).div (fOfNat l.length)

/-- The proposal of a rule (Table 8.3). -/
def tuneGains (rule : Nat) (ku tu : Num) : Num × Num × Num :=
  if rule = 0 then ((num 0x3EE66666).mul ku, ((num 0x3F0A3D71).mul ku).div tu, f0)
  else if rule = 1 then (ku.div (num 0x404CCCCD), ku.div ((num 0x40E147AE).mul tu), f0)
  else ((num 0x3F19999A).mul ku, ((num 0x3F99999A).mul ku).div tu, ((num 0x3D99999A).mul ku).mul tu)

/-- d_eff of the outputs written for r = +1 and r = −1, once both are recorded (R263, 4). -/
def halfSwing (hi lo : Option Word) : Option Num :=
  match hi, lo with
  | some h, some l => some (((num h).sub (num l)).div f2)
  | _, _ => none

/-- A cycle of the oscillation ends: its period in instants and its amplitude (R263, 5 and 6). DONE follows three consistent cycles; a value of
the proposal that saturates sets the context's NUM_SAT (R42). -/
def tuneCycle (s c period : Nat) (amp : Num) (b : Block) : Block :=
  let t := tuneAt b s
  let meas := t.meas ++ [(period, amp.v)]
  let b := modSlot s (fun x => { x with cycles := min 15 (x.cycles + 1), meas := meas }) b
  if meas.length < 3 then b else
  let ps := meas.map fun x => (fOfNat x.1).mul (lpeTs b c)
  let as := meas.map fun x => num x.2
  let tu := meanOf ps
  let a := meanOf as
  if !(within10 tu ps && within10 a as) then modSlot s (fun x => { x with meas := meas.drop 1 }) b else
  let deff := (halfSwing t.uHi t.uLo).getD f0
  let ku := ((num 0x40800000).mul deff).div (fPi.mul a)
  let (kp, ki, kd) := tuneGains t.rule ku tu
  let sat := deff.sat || ku.sat || tu.sat || a.sat || kp.sat || ki.sat || kd.sat
  setSlotState s 2 0 (modCtx c (fun x => { x with exit := some t.u0, st := x.st ||| regOf [(14, 1, b1 sat)] })
    (modSlot s (fun x => { x with ku := ku.v, tu := tu.v, a := a.v, deff := deff.v, kp := kp.v, ki := ki.v, kd := kd.v }) b))

/-- One evaluation of a running tune for instant `at'` (R263, R264). -/
def tuneEval (s c at' mode : Nat) (t : LpeTerms) (v : Word) (b : Block) : Block :=
  let x := ctxAt b c
  let i0 := num x.i
  let b := if (tuneAt b s).begun then b else
    modSlot s (fun y => { y with begun := true, u0 := x.u, up := fLe 0 t.e.v, eMax := t.e.v, eMin := t.e.v }) b
  let started := (tuneAt b s).uHi.isSome || (tuneAt b s).uLo.isSome
  let y := tuneAt b s
  let bad := if fLt y.elim t.e.abs.v then 3 else if started && beyond b c v x.u then 5 else 0
  if bad ≠ 0 then
    modCtx c (fun z => { z with exit := some y.u0 })
      (lpeStore c mode t { u := num x.u, i := i0, state := 5, write := false } (failTune s bad b))
  else
    let up := if y.up then !fLe t.e.v (y.h ^^^ 0x80000000#32) else fLe y.h t.e.v
    let switched := up != y.up
    let n := y.switches + b1 switched
    let eMax := if fLt y.eMax t.e.v then t.e.v else y.eMax
    let eMin := if fLt t.e.v y.eMin then t.e.v else y.eMin
    let d := num y.d
    let (lo, hi) := lpeLimits b c
    let u := Num.clamp lo hi (if up then (num y.u0).add d else (num y.u0).sub d)
    let uHi := if up then some u.v else y.uHi
    let uLo := if up then y.uLo else some u.v
    let b := modSlot s (fun z => { z with
      up := up, switches := n
      uHi := uHi, uLo := uLo, deff := match halfSwing uHi uLo with | some x => x.v | none => z.deff
      eMax := if switched && up then t.e.v else eMax
      eMin := if switched && up then t.e.v else eMin
      lastUp := if switched && up then some at' else z.lastUp }) b
    let b := lpeStore c mode t { u := u, i := i0, state := 5, rate := rateFlag b c lo.v hi.v u.v } b
    match y.lastUp with
    | some l =>
      if switched && up && decide (2 < n) then
        tuneCycle s c ((at' - l) / max 1 (lpePeriod b c)) (((num eMax).sub (num eMin)).div f2) b
      else b
    | none => b

/-- A tune starts (R262): its slot, or none where the start is refused. -/
def tuneStart (c : Nat) (bytes : List Byte) (b : Block) : Option (Nat × Block) :=
  let w := fun i => w32 (leAt bytes (4 * i) 4)
  let x := ctxAt b c
  let p := w 3
  let ok := bytes.length == 16 && fIn 0 0x7F7FFFFF (w 0) && fLt 0 (w 0) && fIn 0 0x7F7FFFFF (w 1) && finite (w 2) && fLt (w 1) (w 2) &&
    decide (10 ≤ fld p 0 16) && decide (fld p 16 2 ≤ 2) && fld p 18 14 == 0 &&
    ctxState b c == 2 && decide (lpeMode b c ≠ 0) && !bit x.st 5
  match (List.range 4).find? fun s => (tuneAt b s).state == 0 with
  | none => none
  | some s =>
    if !ok then none else
    some (s, setSlotState s 1 0 (modSlot s (fun _ => {
      loop := c, rule := fld p 16 2, d := w 0, h := w 1, elim := w 2, tmax := fld p 0 16, startAt := b.tb }) b))

/-- TUNE_TIMEOUT: TMAX has passed before DONE (R264); the slots are state of the loop engine, which the freeze holds (R26). -/
def tuneTimeout (s : Nat) (b : Block) : Block :=
  let t := tuneAt b s
  if b.freeze.isNone ∧ t.state = 1 ∧ t.startAt + t.tmax * 100000000 ≤ b.tb then failTune s 4 b else b

/-- A TUNE write: none where the module refuses it with BAD_VALUE (R264, R265). ABORT and REJECT with nothing to act on change nothing. -/
def tuneWrite (c : Nat) (v : Word) (b : Block) : Option Block :=
  let slot := fun (p : Nat → Bool) => (List.range 4).find? fun s => p (tuneAt b s).state && (tuneAt b s).loop == c
  if v = 2 then
    some (match slot (· == 1) with
      | some s => failTune s 1 b
      | none => b)
  else if v = 3 then
    match slot (· == 2) with
    | none => none
    | some s =>
      if ([2, 3, 4].any fun f => !(targetAt b (targetKey 2 c f)).orders.isEmpty) then none
      else
        let t := tuneAt b s
        some (setSlotState s 0 0 (modCtx c (fun x => { x with accept := some (t.kp, t.ki, t.kd) }) b))
  else if v = 4 then
    some (match slot (fun z => z == 2 || z == 3) with
      | some s => setSlotState s 0 0 b
      | none => b)
  else none

/-! Evaluations and instants. -/

/-- An evaluation without a valid process value (R259). A change of MODE from MANUAL that it meets still makes the first evaluation after it
start softly (R258). -/
def lpeHold (c : Nat) (r : LpeRun) (b : Block) : Block :=
  let fails := (tuneOf b c).isSome
  let b := match tuneOf b c with
    | some s => failTune s 2 b
    | none => b
  let b := modCtx c (fun x => { x with
    st := putBit x.st 10 true, first := true, track := true, soft := r.soft, evalAt := some b.tb, mode := r.mode
    exit := if fails then x.exit else none }) b
  setCtxState c 4 (applyFail c b)

/-- The snapshot of an evaluation for instant `at'`, and the terms it forms from it (R40, R254, R258, R260). -/
def lpeSnapshot (c at' dur : Nat) (b : Block) : LpeRun :=
  let x := ctxAt b c
  let mode := lpeMode b c
  let change := x.mode == 0 && mode != 0
  let soft := x.soft || change
  { at' := at', stop := b.tb + dur, dur := dur, v := outValue b c, mode := mode, track := x.track || change, soft := soft
    exit := x.exit, slot := tuneOf b c
    terms := (srcValue b (lpePvSrc b c) (lpeStale b c true)).map fun raw => lpeTerms b c raw soft (x.first || soft) }

/-- What an evaluation writes when it ends (R254, R258 to R261, R263). One that began under a tune which has ended since writes nothing. -/
def lpeWrite (c : Nat) (r : LpeRun) (b : Block) : Block :=
  let x := ctxAt b c
  match r.terms with
  | none => lpeHold c r b
  | some t =>
    match r.slot with
    | some s =>
      if tuneOf b c = some s then tuneEval s c r.at' r.mode t r.v b
      else modCtx c (fun y => { y with exit := x.exit }) (lpeStore c r.mode t { u := num x.u, i := num x.i, state := 5, write := false } b)
    | none =>
      if r.mode = 0 then lpeStore c r.mode t { u := num r.v, i := trackI b c t r.v, write := false } b
      else match r.exit with
      | some u0 => lpeStore c r.mode t { u := num u0, i := trackI b c t u0 } b
      | none =>
        if r.track then lpeStore c r.mode t { u := num r.v, i := trackI b c t r.v } b
        else if !x.first && beyond b c r.v x.u then lpeStore c r.mode t { u := num r.v, i := trackI b c t r.v, state := 3 } b
        else lpeStore c r.mode t (lpeAuto b c t) b

/-- The registers of a context that an evaluation stores. -/
def LpeCtx.results (x : LpeCtx) : List Word := [x.pv, x.e, x.i, x.d, x.u, x.spR, x.ff]

/-- An evaluation that runs ends: its results are checked, and its writes are made (R44, R254). -/
def lpeCommit (c : Nat) (b : Block) : Block :=
  match (ctxAt b c).run with
  | none => b
  | some r =>
    let p := (lanePhys b (lpeLane b c)).getD 0
    let b := modCtx c (fun x => { x with run := none }) b
    instanceEnd (0x100 + c) p r.dur (checkedWrite (siteLoc p) (ctxAt (lpeWrite c r b) c).results (lpeWrite c r) b)

/-- A tick of the loop engine: the evaluations that are over by now end, but not while a freeze or a handover holds them (R26, R27, R371). -/
def lpeTick (b : Block) : Block :=
  if b.freeze.isSome || enginesHeld b then b else
  (b.lpe.ctxs.filter fun p => p.2.run.any fun r => decide (r.stop ≤ b.tb)).foldl (fun b p => lpeCommit p.1 b) b

/-- The tick at which a lane takes an instance: the first one at which it is free and an instance is ready (R245). -/
def laneTake (b : Block) (l : Nat) : Nat :=
  let ready := (laneCtx b l).filterMap fun c => (ctxAt b c).ready.map fun _ => (ctxAt b c).readyAt
  max (tget 0 b.lpe.laneEnd l) (ready.foldl min (ready.headD 0))

/-- The instance that a lane takes (R245): of those ready then, the one with the earliest deadline, then the earlier instant, then the lower
number. -/
def laneNext (b : Block) (l : Nat) : Option (Nat × Nat) :=
  (laneCtx b l).foldl (fun best c =>
    match (if (ctxAt b c).readyAt ≤ laneTake b l then (ctxAt b c).ready else none) with
    | none => best
    | some t =>
      match best with
      | none => some (c, t)
      | some (d, s) =>
        let dc := t + lpePeriod b c
        let dd := s + lpePeriod b d
        if dc < dd ∨ (dc = dd ∧ t < s) then some (c, t) else best) none

/-- The lane runs an evaluation. -/
def laneBusy (b : Block) (l : Nat) : Bool := (laneCtx b l).any fun c => (ctxAt b c).run.isSome

/-- LOOP_EVALUATION: a logical lane starts the instance it has taken, 100 ticks after it took it; the evaluation runs for `dur` ticks (R245,
R254). -/
def loopEvaluation (l dur : Nat) (b : Block) : Block :=
  if b.freeze.isSome ∨ !lpeOn b ∨ enginesHeld b ∨ (lanePhys b l).isNone ∨ laneBusy b l then b else
  match laneNext b l with
  | none => b
  | some (c, at') =>
    if b.tb < laneTake b l + 100 then b else
    let b := instanceStart (0x100 + c) b
    let run := lpeSnapshot c at' dur b
    modLpe (fun y => { y with laneEnd := tset 0 y.laneEnd l (b.tb + dur) }) (modCtx c (fun x => { x with ready := none, run := some run }) b)

/-- Values that ACCEPT put forward come into force (R265). -/
def lpeAccept (c : Nat) (b : Block) : Block :=
  match (ctxAt b c).accept with
  | none => b
  | some (kp, ki, kd) =>
    let put := fun (f : Nat) (v : Word) (b : Block) =>
      modTarget (targetKey 2 c f) (fun t => if t.orders.isEmpty then { t with inForce := v, decided := true } else t) b
    modCtx c (fun x => { x with accept := none }) (put 4 kd (put 3 ki (put 2 kp b)))

/-- An overrun of a context (R244): ES084. -/
def lpeOverrun (c : Nat) (b : Block) : Block :=
  let b := modLpe (fun l => { l with overruns := sat32 l.overruns 1 }) (modCtx c (fun x => { x with overruns := sat16 x.overruns 1 }) b)
  fire 84 (regOf [(0, 8, c), (16, 16, (ctxAt b c).overruns)])
    (overrun (0x100 + c) (siteLoc ((lanePhys b (lpeLane b c)).getD 0)) b)

/-- One loop instant (R243, R244): fields resolve, and the instance becomes ready. -/
def lpeInstant (c : Nat) (b : Block) : Block :=
  if !isInstant b (lpeTrig b c) (lpeDivider b c) then b else
  let b := ([0, 1, 2, 3, 4, 6] : List Nat).foldl (fun b f => resolveTarget (targetKey 2 c f) b) b
  let b := lpeAccept c b
  let x := ctxAt b c
  if x.state = 6 then applyFail c (modCtx c (fun y => { y with failAt := y.failAt.or (some b.tb) }) b)
  else
    let b := match tuneOf b c with
      | some s => if lpeMode b c ≠ x.mode then failTune s 8 b else b
      | none => b
    if x.ready.isSome then lpeOverrun c (modCtx c (fun y => { y with ready := some b.tb, readyAt := b.tb }) b)
    else if x.run.isSome then lpeOverrun c b
    else modCtx c (fun y => { y with ready := some b.tb, readyAt := b.tb }) b

/-- The loop instants of a firing of a trigger at this tick. -/
def lpeInstants (t : Nat) (b : Block) : Block :=
  if lpeOn b && !enginesHeld b then ((lpeList b).filter fun c => lpeTrig b c == t).foldl (fun b c => lpeInstant c b) b else b

/-- The freeze ends: instances whose instants fell into it are queued now, and an evaluation that was running at its start runs on (R27, R245). -/
def lpeUnfreeze (start : Nat) (b : Block) : Block :=
  let len := b.tb - start
  let queue := fun (x : LpeCtx) => match x.ready with
    | some t => if start ≤ t then { x with readyAt := b.tb } else x
    | none => x
  let resume := fun (x : LpeCtx) => { x with run := x.run.map fun r => { r with stop := if start < r.stop then r.stop + len else r.stop } }
  modLpe (fun l => { l with
    ctxs := tmap {} (fun x => resume (queue x)) l.ctxs
    laneEnd := tmap 0 (fun e => if start < e then e + len else e) l.laneEnd }) b

/-! Seed records (R266 to R269). -/

/-- pk of R267. -/
def packVal (x mid step : Num) : Nat :=
  let n := fToInt ((x.sub mid).div step).v
  ((max (-32767) (min 32767 n)) % 65536).toNat
def unpackVal (pk : Nat) (mid step : Num) : Num :=
  let n : Int := if pk < 32768 then pk else (pk : Int) - 65536
  mid.add ((fOfInt n).mul step)

def stepI (b : Block) (c : Nat) : Num := (lpeR b c).div (fOfNat 32767)
def midU (b : Block) (c : Nat) : Num := ((num (lpeOutMin b c)).add (num (lpeOutMax b c))).div f2
def stepU (b : Block) (c : Nat) : Num := (lpeR b c).div (fOfNat 65534)
def midSp (b : Block) (c : Nat) : Num := ((num (lpeSpMin b c)).add (num (lpeSpMax b c))).div f2
def stepSp (b : Block) (c : Nat) : Num := ((num (lpeSpMax b c)).sub (num (lpeSpMin b c))).div (fOfNat 65534)

/-- The record of Table 8.4. RECORD_VALID says that the context has been evaluated since it last started. -/
def lpeRecord (b : Block) (c : Nat) : List Byte :=
  let x := ctxAt b c
  let valid := x.evalAt.isSome
  let flags := fld (regOf [(0, 2, lpeMode b c), (2, 1, b1 (x.state == 5)), (3, 1, b1 (bit x.st 5)), (4, 1, b1 (x.state == 4)), (5, 1, b1 valid)]) 0 16
  leBytes 2 flags ++ leBytes 2 (packVal (num x.i) f0 (stepI b c)) ++ leBytes 2 (packVal (num x.d) f0 (stepI b c)) ++
    leBytes 2 (packVal (num x.u) (midU b c) (stepU b c)) ++ leBytes 2 (packVal (num (lpeSp b c)) (midSp b c) (stepSp b c)) ++
    leBytes 2 (packVal (num x.spR) (midSp b c) (stepSp b c))

/-- Start a context from its record, or soft without one (R268); the gains and RAMP are the bank's (R265). CARRY_OK stays what the last switch
made it (R69, R272). -/
def lpeRestore (c : Nat) (r : Option (List Byte)) (b : Block) : Block :=
  let put := fun (f : Nat) (v : Word) (b : Block) => modTarget (targetKey 2 c f) (fun t => { t with inForce := v }) b
  let b := ([2, 3, 4, 6] : List Nat).foldl (fun b f => put f (lpeBankField b c f) b) b
  let fresh := fun (x : LpeCtx) => { freshCtx x with carried := x.carried }
  let soft := put 1 (lpeBankField b c 1) (put 0 (lpeBankField b c 0) (modCtx c fresh b))
  match r with
  | none => soft
  | some l =>
    let w := w32 (leAt l 0 2)
    if !bit w 5 then soft else
    let spr := leAt l 10 2
    let far := spr == 32767 || spr == 32769
    let sp := (unpackVal (leAt l 8 2) (midSp b c) (stepSp b c)).v
    let start := fun (x : LpeCtx) => { fresh x with
      i := (unpackVal (leAt l 2 2) f0 (stepI b c)).v
      d := (unpackVal (leAt l 4 2) f0 (stepI b c)).v
      u := (unpackVal (leAt l 6 2) (midU b c) (stepU b c)).v
      spR := (unpackVal spr (midSp b c) (stepSp b c)).v
      soft := far
      track := false
      mode := fld w 0 2
      st := 0x2000#32 }
    put 1 (w32 (fld w 0 2)) (put 0 sp (modCtx c start b))

end Sys2Proof.Machine
end

