-- ==== Sys2Proof/Machine/DpModel.lean ====
section
/-! DEFINITION. The process model of the estimator (R316, R317, R322). Sums are formed from the left in ascending index; the spec gives no other
order (log 34). -/

namespace Sys2Proof.Machine

abbrev Vec' := List Num
abbrev Mat := List (List Num)

def vAt (v : Vec') (i : Nat) : Num := v.getD i f0
def mAt (m : Mat) (i j : Nat) : Num := (m.getD i []).getD j f0
def idx15 : List Nat := List.range 15
def mkMat (f : Nat → Nat → Num) : Mat := idx15.map fun i => idx15.map (f i)
def mkVec (f : Nat → Num) : Vec' := idx15.map f
def matMul (a c : Mat) : Mat := mkMat fun i j => numSum (idx15.map fun k => (mAt a i k).mul (mAt c k j))
def matT (a : Mat) : Mat := mkMat fun i j => mAt a j i

/-- h = 0.02 s. -/
def fH : Num := num 0x3CA3D70A

/-- An angle in rad within (−π, π]. -/
def wrapPi (x : Num) : Num :=
  let y := x.sub (fTwoPi.mul (fOfInt (fToInt (x.div fTwoPi).v)))
  if fLt fPi.v y.v then y.sub fTwoPi else if fLe y.v fPi.neg.v then y.add fTwoPi else y

/-- An angle in rad within [0, 2π). -/
def mod2Pi (x : Num) : Num :=
  let y := x.sub (fTwoPi.mul (fOfInt (fFloor (x.div fTwoPi).v)))
  if fLe fTwoPi.v y.v then y.sub fTwoPi else if fLt y.v 0 then y.add fTwoPi else y

def radOf (x : Num) : Num := x.mul fDeg
/-- 180/π. -/
def degOf (x : Num) : Num := x.mul (num 0x42652EE1)
def sinR (x : Num) : Num := num (Sys2Proof.Config.sinF x.v)
def cosR (x : Num) : Num := num (Sys2Proof.Config.cosF x.v)

/-! The process model (R317). -/

/-- M⁻¹: 1/M11, and the elements 22, 33 and 23 of the inverse. -/
def massInv (b : Block) : Num × Num × Num × Num :=
  let m11 := num (estW b 1)
  let m22 := num (estW b 2)
  let m33 := num (estW b 3)
  let m23 := num (estW b 4)
  let det := (m22.mul m33).sub (m23.mul m23)
  (f1.div m11, m33.div det, m22.div det, m23.neg.div det)

/-- τ_a of a step that starts at a tick: the achieved force of the last cycle whose boundary is at or before it, while that cycle was ACTIVE. -/
def achievedAt (b : Block) (t : Nat) (i : Nat) : Num :=
  match b.dp.achs.find? fun a => decide (a.1 ≤ t) with
  | some (_, true, w) => num (wAt w i)
  | _ => f0

/-- The external force τ_a + τ_w + τ_ext on the model in a step that starts at a tick. -/
def modelForce (b : Block) (at' : Nat) : Num × Num × Num :=
  let a := achievedAt b at'
  let t := fun i => ((a i).add (num (wAt b.dp.fw i))).add (num (dpInput b i))
  (t 0, t 1, t 2)

/-- f(x) of R317. -/
def modelRate (b : Block) (tau : Num × Num × Num) (x : Vec') : Vec' :=
  let s := sinR (vAt x 2)
  let c := cosR (vAt x 2)
  let (u, v, r) := (vAt x 3, vAt x 4, vAt x 5)
  let (bN, bE, bP) := (vAt x 12, vAt x 13, vAt x 14)
  let (i11, i22, i33, i23) := massInv b
  let d := fun i => num (estW b (5 + i))
  let fx := (((d 0).mul u).neg.add ((c.mul bN).add (s.mul bE))).add tau.1
  let fy := ((((d 1).mul v).add ((d 3).mul r)).neg.add ((c.mul bE).sub (s.mul bN))).add tau.2.1
  let fn := ((((d 3).mul v).add ((d 2).mul r)).neg.add bP).add tau.2.2
  let wave := fun (k : Nat) =>
    let w := num (estW b (9 + k))
    let xi := vAt x (6 + 2 * k)
    let eta := vAt x (7 + 2 * k)
    ((w.mul w).mul xi).neg.sub ((((f2.mul (num (estW b 12))).mul w)).mul eta)
  let tb := num (estW b 13)
  let bias := fun (y : Num) => if fZero tb.v then f0 else y.neg.div tb
  [(u.mul c).sub (v.mul s), (u.mul s).add (v.mul c), r, i11.mul fx, (i22.mul fy).add (i23.mul fn), (i23.mul fy).add (i33.mul fn),
   vAt x 7, wave 0, vAt x 9, wave 1, vAt x 11, wave 2, bias bN, bias bE, bias bP]

/-- The Jacobian F at the prior estimate. -/
def modelJac (b : Block) (x : Vec') : Mat :=
  let s := sinR (vAt x 2)
  let c := cosR (vAt x 2)
  let (u, v) := (vAt x 3, vAt x 4)
  let (bN, bE) := (vAt x 12, vAt x 13)
  let (i11, i22, i33, i23) := massInv b
  let d := fun i => num (estW b (5 + i))
  let px := (c.mul bE).sub (s.mul bN)
  let py := ((c.mul bN).add (s.mul bE)).neg
  let tb := num (estW b 13)
  let lam := if fZero tb.v then f0 else f1.neg.div tb
  let w := fun k => num (estW b (9 + k))
  mkMat fun i j =>
    if i = 0 then (if j = 2 then ((u.mul s).add (v.mul c)).neg else if j = 3 then c else if j = 4 then s.neg else f0)
    else if i = 1 then (if j = 2 then (u.mul c).sub (v.mul s) else if j = 3 then s else if j = 4 then c else f0)
    else if i = 2 then (if j = 5 then f1 else f0)
    else if i = 3 then
      (if j = 2 then i11.mul px else if j = 3 then (i11.mul (d 0)).neg else if j = 12 then i11.mul c else if j = 13 then i11.mul s else f0)
    else if i = 4 ∨ i = 5 then
      let (a, g) := if i = 4 then (i22, i23) else (i23, i33)
      if j = 2 then a.mul py
      else if j = 4 then ((a.mul (d 1)).add (g.mul (d 3))).neg
      else if j = 5 then ((a.mul (d 3)).add (g.mul (d 2))).neg
      else if j = 12 then (a.mul s).neg
      else if j = 13 then a.mul c
      else if j = 14 then g
      else f0
    else if i < 12 then
      let k := (i - 6) / 2
      if i % 2 = 0 then (if j = i + 1 then f1 else f0)
      else if j = i - 1 then ((w k).mul (w k)).neg
      else if j = i then ((f2.mul (num (estW b 12))).mul (w k)).neg
      else f0
    else if j = i then lam else f0

/-- One step of the states (R317). -/
def stepX (b : Block) (tau : Num × Num × Num) (x : Vec') : Vec' :=
  let f := modelRate b tau x
  mkVec fun i => let y := (vAt x i).add ((vAt f i).mul fH); if i = 2 then mod2Pi y else y

/-- One propagation of states and covariance (R317). -/
def propagate (b : Block) (tau : Num × Num × Num) (xp : Vec' × Mat) : Vec' × Mat :=
  let (x, p) := xp
  let jac := modelJac b x
  let phi := mkMat fun i j => let y := (mAt jac i j).mul fH; if i = j then f1.add y else y
  let q := matMul (matMul phi p) (matT phi)
  (stepX b tau x, mkMat fun i j => if i = j then (mAt q i i).add ((num (estW b (14 + i))).mul fH) else mAt q i j)

def iterate {α : Type} (f : α → α) : Nat → α → α
  | 0, a => a
  | n + 1, a => iterate f n (f a)

/-- `n` steps of one cycle each from a tick on, each with the force of its own start. -/
def stepsFrom {α : Type} (b : Block) (f : Num × Num × Num → α → α) : Nat → Nat → α → α
  | 0, _, a => a
  | n + 1, t, a => stepsFrom b f n (t + 2000000) (f (modelForce b t) a)

/-- N and E carried on by one step of a length with the velocities that stand (R342). -/
def deadReckon (x : Vec') (len : Num) : Num × Num :=
  let s := sinR (vAt x 2)
  let c := cosR (vAt x 2)
  ((vAt x 0).add ((((vAt x 3).mul c).sub ((vAt x 4).mul s)).mul len), (vAt x 1).add ((((vAt x 3).mul s).add ((vAt x 4).mul c)).mul len))

/-- The estimated position at an instant, about the origin now in force (R286, R307, R322, R342). The wind force is that of the record before. -/
def estPos (b : Block) (t : Int) : Num × Num :=
  let x := b.dp.x.map num
  let n := (t - b.dp.tf).toNat
  let (pn, pe) := match b.dp.resume with
    | some _ => deadReckon x (fSeconds n)
    | none => let y := stepsFrom b (stepX b) (n / 2000000) b.dp.tf x; (vAt y 0, vAt y 1)
  (pn.sub (num b.dp.shiftN), pe.sub (num b.dp.shiftE))

end Sys2Proof.Machine
end

