-- ==== Sys2Proof/Machine/DpIntake.lean ====
section
/-! DEFINITION. The intake stage: classing samples, masks, attitude at a tick, compensation, votes and the intake record (R278 to R307). -/

namespace Sys2Proof.Machine

/-! Classing (R278 to R280, R290, R294). -/

/-- One frame of 20 ms in ns. -/
def frameNs : Int := 20000000

/-- An offset reduced modulo 86 400 s into (−43 200 s, +43 200 s]. -/
def wrapDay (x : Int) : Int :=
  let d : Int := 86400000000000
  let y := x % d
  if d / 2 < y then y - d else y

/-- The integer nearest to n / d, ties to even, for d > 0. -/
def roundDiv (n d : Int) : Int :=
  let q := n / d
  let r := n % d
  if 2 * r < d then q else if d < 2 * r then q + 1 else if q % 2 = 0 then q else q + 1

/-- GNSS area test (R283). -/
def inArea (b : Block) (s : Nat) (x : DpSample) : Bool :=
  if snType b s ≠ 0 then true else
  let dphi := (wAt x.v 0).toInt - b.dp.lat0.toInt
  let dl := ((wAt x.v 1).toInt - b.dp.lon0.toInt) % 3600000000
  let dl := if 1800000000 < dl then dl - 3600000000 else dl
  decide (dphi.natAbs ≤ 5000000) && decide (dl.natAbs ≤ 5000000)

/-- FAULT after a sample (R294). -/
def faultStep (b : Block) (s : Nat) (good : Bool) (x : DpSlot) : DpSlot :=
  if good = x.fault then
    let n := x.faultRun + 1
    if snFaultN b s ≤ n then { x with fault := !x.fault, faultRun := 0 } else { x with faultRun := n }
  else { x with faultRun := 0 }

/-- The offset tracker takes a sample (R279, R280): the slot after it, o_k, and whether the sample is used. -/
def trackStep (b : Block) (s : Nat) (m : DpSample) (x : DpSlot) : DpSlot × Int × Bool :=
  let ok := wrapDay ((m.vtDay : Int) - (snLat b s : Int) * 1000000 - (m.tSensor.getD 0 : Int) * 1000000)
  match x.ofs with
  | none => ({ x with ofs := some ok }, ok, true)
  | some o =>
    let diff := wrapDay (ok - o)
    if diff.natAbs ≤ frameNs.natAbs then
      let x := { x with ofs := some (wrapDay (o + roundDiv diff (2 ^ snOfsK b s : Nat))) }
      if x.timeBad then
        let n := x.tq + 1
        if 10 ≤ n then ({ x with timeBad := false, tq := 10 }, ok, true) else ({ x with tq := n }, ok, false)
      else (x, ok, true)
    else ({ x with ofs := some ok, timeBad := true, tq := 1, tqEntries := if x.timeBad then x.tqEntries else sat8 x.tqEntries 1 }, ok, false)

/-- ts of a sample (R278); a sample whose time field is not one takes the latency alone (log 97). -/
def sampleTick (b : Block) (s : Nat) (m : DpSample) (ok : Int) (x : DpSlot) : Int :=
  if snOwn b s && m.tSensor.isSome then
    let t := (m.rx : Int) - roundDiv (wrapDay (ok - x.ofs.getD 0) + (snLat b s : Int) * 1000000) 10
    if (m.rx : Int) < t then m.rx else t
  else (m.rx : Int) - (snLat b s : Int) * 100000

/-- The instant of the frame that holds a tick (R287). -/
def frameOf' (ts : Int) : Int := (ts / 2000000 + 1) * 2000000

/-- A sample came after its record went out in aligned mode (R290, R291). -/
def isLate (b : Block) (m : DpSample) (ts : Int) : Bool :=
  match b.dp.alignedFrom with
  | none => false
  | some from' =>
    let out := frameOf' ts + inW b
    decide ((from' : Int) ≤ out) && decide (out ≤ m.arr) && !b.dp.missed.any fun t => decide ((t : Int) = out)

/-- Class one sample (R306): fault, late, time. Lateness is judged, and counted in the windows, for every sample (R290, R295). -/
def classSample (b : Block) (s : Nat) (m : DpSample) (x : DpSlot) : DpSample × DpSlot :=
  let good := m.good && inArea b s m
  let x := faultStep b s good x
  let x := if good then x else { x with faults := sat8 x.faults 1 }
  let (x, ok, inTime) := if snOwn b s && m.tSensor.isSome then trackStep b s m x else (x, 0, true)
  let ts := sampleTick b s m ok x
  let late := isLate b m ts
  let x := if late then { x with lateCount := (x.lateCount + 1) % 0x10000, lateN := x.lateN + 1 } else { x with onN := x.onN + b1 (b.dp.mode == 0) }
  let usable := good && inTime && !late
  ({ m with classed := true, ts := ts, usable := usable }, if usable then { x with accepted := (x.accepted + 1) % 0x10000 } else x)

/-- Class what arrived before a boundary, oldest first. -/
def classSlot (at' s : Nat) (b : Block) : Block :=
  let x := dpSlot b s
  let (ms, y) := x.buf.foldl (fun (a : List DpSample × DpSlot) m =>
    if m.classed ∨ at' ≤ m.arr then (a.1 ++ [m], a.2)
    else
      let (m', x') := classSample b s m a.2
      (a.1 ++ [m'], x')) (([] : List DpSample), x)
  modDpSlot s (fun _ => { y with buf := ms }) b

/-- Masks of a sensor (R293, R296): DROPOUT and NO_HEADING, and STATE. What was classed now is masked while they stand (R297). -/
def maskSlot (at' s : Nat) (b : Block) : Block :=
  let drop := match (dpSlot b s).aLast with
    | some a => decide (snDropT b s ≤ at' - a)
    | none => true
  let noH := (snType b s == 1 || snType b s == 2) && (b.dp.rec1.getD {}).hdg == 0
  let b := slotShow s (modDpSlot s (fun x => { x with dropout := drop, noHeading := noH }) b)
  modDpSlot s (fun x => { x with
    aligned := x.aligned && x.state == 1
    buf := x.buf.map fun m => if m.classed && m.masked.isNone then { m with masked := some (x.state != 1) } else m }) b

/-- A sample of a record or a history: usable, not masked, and there before the boundary (R282, R297). -/
def DpSample.counts (m : DpSample) (at' : Nat) : Bool := m.usable && m.masked == some false && decide (m.arr < at')

/-- Field `k` of a sample. -/
def DpSample.val (m : DpSample) (k : Nat) : Num := ⟨wAt m.v k, m.sat⟩

/-! Attitude (R282). -/

/-- An angle difference wrapped into (−180, 180]. -/
def wrap180 (x : Num) : Num :=
  let y := if fLt 0x43340000 x.v then x.sub (num 0x43B40000) else x
  if fLe y.v 0xC3340000 then y.add (num 0x43B40000) else y

/-- An angle in [0, 360). -/
def mod360 (x : Num) : Num :=
  let y := x.sub ((num 0x43B40000).mul (fOfInt (fFloor (x.div (num 0x43B40000)).v)))
  if fLe 0x43B40000 y.v then y.sub (num 0x43B40000) else if fLt y.v 0 then y.add (num 0x43B40000) else y

/-- A ratio of ticks. -/
def ratio (a d : Int) : Num := fOfRat (decide (a < 0)) a.natAbs d.natAbs

/-- Value of field `k` of a history at a tick (R282); `hdg` interpolates along the shorter arc. -/
def histAt (b : Block) (s k : Nat) (hdg : Bool) (at' : Nat) (tau : Int) : Option Num :=
  let hist := (dpSlot b s).buf.filter fun m => m.counts at'
  let before := hist.foldl (fun (a : Option DpSample) m =>
    if m.ts ≤ tau then (match a with | some x => if x.ts ≤ m.ts then some m else a | none => some m) else a) none
  let after := hist.foldl (fun (a : Option DpSample) m =>
    if tau < m.ts then (match a with | some x => if m.ts < x.ts then some m else a | none => some m) else a) none
  match before, after with
  | some x, some y =>
    if y.ts - x.ts ≤ 10000000 then
      let va := x.val k
      let f := ratio (tau - x.ts) (y.ts - x.ts)
      if hdg then some (mod360 (va.add ((wrap180 ((y.val k).sub va)).mul f)))
      else some (va.add (((y.val k).sub va).mul f))
    else none
  | some x, none => if tau - x.ts ≤ 10000000 then some (if hdg then mod360 (x.val k) else x.val k) else none
  | _, _ => none

/-! Votes (R298 to R302). -/

/-- Insert into a rising list. -/
def insertF (x : Num) : List Num → List Num
  | [] => [x]
  | y :: l => if fLe x.v y.v then x :: y :: l else y :: insertF x l

/-- Median (R299). -/
def median (l : List Num) : Num :=
  let s := l.foldr insertF []
  let n := s.length
  if n % 2 = 1 then s.getD (n / 2) f0 else ((s.getD (n / 2 - 1) f0).add (s.getD (n / 2) f0)).div f2

/-- What a vote finds: who is in consensus, who is voted out, and the flags CONSENSUS 1, DISAGREE 2, NO_CONSENSUS 4. -/
structure VoteOut where
  agree : List Nat := []
  out : List Nat := []
  flags : Nat := 0
  /-- A deviation saturated (R42). -/
  sat : Bool := false
  deriving DecidableEq, Repr

/-- The decision of R299 and R300 from each voter's deviation; for two voters, their distance. -/
def voteOf (devs : List (Nat × Num)) (pairDist : Option Num) (lim : Num) : VoteOut :=
  match pairDist with
  | some d => if fLe d.v lim.v then { agree := devs.map (·.1), flags := 1, sat := d.sat } else { flags := 2, sat := d.sat }
  | none =>
    if devs.length < 3 then {} else
    let sat := devs.any (·.2.sat)
    let inC := (devs.filter fun p => fLe p.2.v lim.v).map (·.1)
    let outC := (devs.filter fun p => !fLe p.2.v lim.v).map (·.1)
    if 2 ≤ inC.length ∧ 2 * outC.length < devs.length then { agree := inC, out := outC, flags := 1, sat := sat }
    else { agree := inC, flags := 4, sat := sat }

/-- Confidence of a voted quantity (Table 9.6). -/
def voteConf (voters : Nat) (v : VoteOut) : Nat :=
  if voters = 0 then 0 else if v.flags = 1 then (if 3 ≤ v.agree.length then 3 else 2) else 1

/-- The vote counts of the sensors whose samples entered (R301); a vote-out that latches shows in STATE at once (R297, R309). -/
def voteCounts (entered : List Nat) (v : VoteOut) (b : Block) : Block :=
  entered.foldl (fun b s =>
    if v.out.contains s then
      slotShow s (modDpSlot s (fun x => { x with
        voteCount := min 7 (x.voteCount + 1), voteOuts := sat8 x.voteOuts 1
        votedOut := x.votedOut || decide (inVoteN b ≤ x.voteCount + 1) }) b)
    else if v.agree.contains s then modDpSlot s (fun x => { x with voteCount := 0 }) b
    else b) b

def bitsOf (l : List Nat) : Nat := l.foldl (fun a s => a + 2 ^ s) 0

/-- The heading vote (R302): voters with their values, and the outcome. -/
def headingVote (b : Block) (at' : Nat) (t : Int) : List (Nat × Num) × VoteOut :=
  let vs := (slotsOf b 12 4).filterMap fun s =>
    if (dpSlot b s).state = 1 then (histAt b s 0 true at' t).map fun v => (s, v) else none
  match vs with
  | [] => ([], {})
  | (_, h0) :: _ =>
    let dev := vs.map fun p => (p.1, wrap180 (p.2.sub h0))
    let med := median (dev.map (·.2))
    let devs := dev.map fun p => (p.1, (wrap180 (p.2.sub med)).abs)
    match dev with
    | [x, y] => (vs, voteOf devs (some (wrap180 (y.2.sub x.2)).abs) (inHdgLim b))
    | _ => (vs, voteOf devs none (inHdgLim b))

/-- The heading lead at a tick (R282): in OK, in consensus in the current vote or the only voter, with a value there. -/
def headingLead (b : Block) (at' : Nat) (voters : List Nat) (v : VoteOut) (tau : Int) : Option Num :=
  let ok := if voters.length = 1 then voters else v.agree
  (slotsOf b 12 4).findSome? fun s => if ok.contains s ∧ (dpSlot b s).state = 1 then histAt b s 0 true at' tau else none

/-- The attitude lead at a tick: roll, pitch and heave (R282, R303). -/
def attitudeLead (b : Block) (at' : Nat) (tau : Int) : Option (Nat × Num × Num × Num) :=
  (slotsOf b 16 4).findSome? fun s =>
    if (dpSlot b s).state = 1 then
      match histAt b s 0 false at' tau, histAt b s 1 false at' tau with
      | some r, some p => some (s, r, p, if skKind (snField b s 2) = 0 then f0 else (histAt b s 2 false at' tau).getD f0)
      | _, _ => none
    else none

/-! Compensation (R283 to R285). -/

def sinD (x : Num) : Num := num (Sys2Proof.Config.sinF (x.mul fDeg).v)
def cosD (x : Num) : Num := num (Sys2Proof.Config.cosF (x.mul fDeg).v)

/-- Displacement of a lever arm (R284). -/
def leverArm (x y z psi phi theta : Num) : Num × Num :=
  let sp := sinD psi
  let cp := cosD psi
  let sf := sinD phi
  let cf := cosD phi
  let st := sinD theta
  let ct := cosD theta
  ((((x.mul cp).mul ct).add (y.mul (((cp.mul st).mul sf).sub (sp.mul cf)))).add (z.mul (((cp.mul st).mul cf).add (sp.mul sf))),
   (((x.mul sp).mul ct).add (y.mul (((sp.mul st).mul sf).add (cp.mul cf)))).add (z.mul (((sp.mul st).mul cf).sub (cp.mul sf))))

/-- The sensor position before the lever arm (R283, R285). -/
def sensorPos (b : Block) (s : Nat) (m : DpSample) (psi phi theta : Num) : Num × Num :=
  let v0 := m.val 0
  let v1 := m.val 1
  match snType b s with
  | 0 =>
    let dl := ((wAt m.v 1).toInt - b.dp.lon0.toInt) % 3600000000
    let dl := if 1800000000 < dl then dl - 3600000000 else dl
    ((fOfInt ((wAt m.v 0).toInt - b.dp.lat0.toInt)).mul (num b.dp.kn), (fOfInt dl).mul (num b.dp.ke))
  | 1 => ((v0.neg).mul (cosD (psi.add v1)), (v0.neg).mul (sinD (psi.add v1)))
  | 2 =>
    let ax := v0.add theta
    let ay := v1.sub phi
    let dw := num (snParam b s)
    let dx := dw.mul ((sinD ax).div (cosD ax))
    let dy := dw.mul ((sinD ay).div (cosD ay))
    (((dx.mul (cosD psi)).sub (dy.mul (sinD psi))).neg, ((dx.mul (sinD psi)).add (dy.mul (cosD psi))).neg)
  | _ => (v0, v1)

/-- A sample moved to the reference point; none for a LASER or TAUT_WIRE sample without a heading (R284, R285). -/
def compensate (b : Block) (at' s : Nat) (m : DpSample) (voters : List Nat) (v : VoteOut) : Option DpPos :=
  let lead := headingLead b at' voters v m.ts
  let att := attitudeLead b at' m.ts
  if lead.isNone ∧ (snType b s = 1 ∨ snType b s = 2) then none else
  let psi := lead.getD (num (b.dp.rec1.getD {}).heading)
  let (phi, theta) := match att with
    | some (_, r, p, _) => (r, p)
    | none => (f0, f0)
  let (n, e) := sensorPos b s m psi phi theta
  let (dn, de) := leverArm (num (snArm b s 0)) (num (snArm b s 1)) (num (snArm b s 2)) psi phi theta
  let x := dpSlot b s
  let (on, oe) := if snRel b s && x.aligned then (num x.oN, num x.oE) else (f0, f0)
  let rn := (n.sub dn).add on
  let re := (e.sub de).add oe
  some { n := rn.v, e := re.v, ts := m.ts, arr := m.arr, held := lead.isNone, noAtt := att.isNone, sat := rn.sat || re.sat }

/-- The sample of a sensor that enters the record for instant `t` output at `at'` (R288, R289). -/
def entering (b : Block) (at' s : Nat) (t : Int) : Option DpSample :=
  ((dpSlot b s).buf.filter fun m => m.counts at' && !m.spent && (b.dp.mode == 1 || frameOf' m.ts == t)).foldl
    (fun (a : Option DpSample) m => match a with | some x => if x.ts ≤ m.ts then some m else a | none => some m) none

/-- A buffer with one sample marked as entered. -/
def spendOne (m : DpSample) : List DpSample → List DpSample
  | [] => []
  | y :: l => if y = m then { y with spent := true } :: l else y :: spendOne m l

/-- A sample has entered a record; it enters no other (R288, R289). -/
def spend (s : Nat) (m : DpSample) (b : Block) : Block := modDpSlot s (fun x => { x with buf := spendOne m x.buf }) b

/-- In the first latest-value record after an aligned one, the samples that have not entered are dropped (R291). -/
def dropOlder (b : Block) : Block :=
  (slotsOf b 0 12 ++ slotsOf b 20 8).foldl (fun b s =>
    modDpSlot s (fun x => { x with buf := x.buf.map fun m => if m.classed then { m with spent := true } else m }) b) b

/-! The record (R305). -/

/-- What the position references bring to a record: the sensor, its position, and whether its sample entered. -/
structure PosIn where
  s : Nat
  pos : DpPos
  fresh : Bool
  deriving DecidableEq, Repr

/-- Take and compensate the samples of the position references in OK (R306). -/
def takePositions (at' : Nat) (t : Int) (voters : List Nat) (v : VoteOut) (b : Block) : List PosIn × Block :=
  (slotsOf b 0 12).foldl (fun (a : List PosIn × Block) s =>
    let b := a.2
    if (dpSlot b s).state ≠ 1 then a else
    match entering b at' s t with
    | none => a
    | some m =>
      let b := spend s m b
      match compensate b at' s m voters v with
      | none => (a.1, modDpSlot s (fun x => { x with noHdg := sat8 x.noHdg 1 }) b)
      | some p => (a.1 ++ [{ s := s, pos := p, fresh := true }], modDpSlot s (fun x => { x with last := some p }) b)) ([], b)

/-- The voters of the position vote (R286, R298). -/
def posVoters (b : Block) (at' : Nat) (t : Int) (ins : List PosIn) : List PosIn :=
  (slotsOf b 0 12).filterMap fun s =>
    let x := dpSlot b s
    if x.state ≠ 1 ∨ (snRel b s ∧ !x.aligned) then none else
    match ins.find? fun p => p.s == s with
    | some p => some p
    | none =>
      match x.last with
      | some p => if t - inVoteAge b ≤ p.ts ∧ p.arr < at' then some { s := s, pos := p, fresh := false } else none
      | none => none

/-- Distance in the plane. -/
def dist (n e : Num) : Num := ((n.mul n).add (e.mul e)).sqrt

/-- The position vote (R299, R300): the outcome and the medians. -/
def positionVote (b : Block) (vs : List PosIn) : VoteOut × Num × Num :=
  let n := fun (p : PosIn) => num p.pos.n
  let e := fun (p : PosIn) => num p.pos.e
  match vs with
  | [x, y] => (voteOf (vs.map fun p => (p.s, f0)) (some (dist ((n x).sub (n y)) ((e x).sub (e y)))) (inPosLim b), f0, f0)
  | _ =>
    if vs.length < 3 then ({}, f0, f0) else
    let mn := median (vs.map n)
    let me := median (vs.map e)
    (voteOf (vs.map fun p => (p.s, dist ((n p).sub mn) ((e p).sub me))) none (inPosLim b), mn, me)

/-- Align the relative references that have returned in the record for instant `t` (R286). -/
def alignRefs (t : Int) (ins vs : List PosIn) (v : VoteOut) (b : Block) : List PosIn × Block :=
  let cons := vs.filter fun p => v.agree.contains p.s
  let target : Num × Num :=
    if !cons.isEmpty then (median (cons.map fun p => num p.pos.n), median (cons.map fun p => num p.pos.e))
    else if b.dp.est ≠ 0 then estPos b t
    else (f0, f0)
  ins.foldl (fun (a : List PosIn × Block) p =>
    if snRel b p.s && !(dpSlot a.2 p.s).aligned then
      let on := target.1.sub (num p.pos.n)
      let oe := target.2.sub (num p.pos.e)
      let q : DpPos := { p.pos with n := target.1.v, e := target.2.v, sat := p.pos.sat || on.sat || oe.sat }
      (a.1 ++ [{ p with pos := q }], modDpSlot p.s (fun x => { x with aligned := true, oN := on.v, oE := oe.v, last := some q }) a.2)
    else (a.1 ++ [p], a.2)) ([], b)

/-- One entry of the record (Table 9.9). DISAGREE stands on every entry of a record without consensus, and on the entries of two voters that
disagree (R299, R300). -/
def posEntry (b : Block) (t : Int) (ins vs : List PosIn) (v : VoteOut) (s : Nat) : DpEntry :=
  let st := (dpSlot b s).state
  let dis := 16 * b1 (v.flags == 4 || (v.flags == 2 && vs.any fun p => p.s == s))
  match ins.find? fun p => p.s == s && !v.out.contains s with
  | none => { state := st, flags := dis }
  | some p =>
    { n := p.pos.n, e := p.pos.e, dt := min 0xFFFFFFFF (t - p.pos.ts).toNat, state := st
      flags := 1 + 2 * b1 p.pos.held + 4 * b1 p.pos.noAtt + 8 * b1 (snRel b s) + dis }

/-- Confidence of an unvoted quantity from its sensors in OK (Table 9.6). -/
def plainConf (b : Block) (lo : Nat) : Nat := min 2 (countOf (fun s => (dpSlot b s).state == 1) (slotsOf b lo 4))

/-- Form the record output at boundary `at'` (R306). -/
def formRecord (at' : Nat) (b : Block) : Block :=
  let prev := b.dp.rec1.getD {}
  let t : Int := if b.dp.mode = 0 then (at' : Int) - inW b else at'
  let (hv, hvote) := headingVote b at' t
  let voters := hv.map (·.1)
  let hconf := voteConf voters.length hvote
  let b := voteCounts voters hvote b
  let lead := headingLead b at' voters hvote t
  let att := attitudeLead b at' t
  let (ins, b) := takePositions at' t voters hvote b
  let vs := posVoters b at' t ins
  let (pv, mn, me) := positionVote b vs
  let b := voteCounts ((vs.filter (·.fresh)).map (·.s)) pv b
  let pconf0 := voteConf vs.length pv
  let aconf := plainConf b 16
  let pconf1 := if (hconf = 1 ∨ aconf = 0) ∧ 1 < pconf0 then pconf0 - 1 else pconf0
  let pconf := if hconf = 0 then min 1 pconf1 else pconf1
  let (ins, b) := alignRefs t ins vs pv b
  let wind := (slotsOf b 20 4).findSome? fun s => if (dpSlot b s).state = 1 then (entering b at' s t).map fun m => (s, m) else none
  let drafts := (slotsOf b 24 4).filterMap fun s => if (dpSlot b s).state = 1 then (entering b at' s t).map fun m => (s, m) else none
  let b := (slotsOf b 20 8).foldl (fun b s => match entering b at' s t with | some m => if (dpSlot b s).state = 1 then spend s m b else b | none => b) b
  let b := if prev.mode = 0 ∧ b.dp.mode = 1 then dropOlder b else b
  let present := (ins.filter fun p => !pv.out.contains p.s).map (·.s)
  let mean := meanOf' (drafts.map fun d => d.2.val 0)
  let pn := median (vs.map fun p => num p.pos.n)
  let pe := median (vs.map fun p => num p.pos.e)
  let sat := hvote.sat || pv.sat || mn.sat || me.sat || (lead.any (·.sat)) || (att.any fun a => a.2.1.sat || a.2.2.1.sat || a.2.2.2.sat) ||
    (ins.any (·.pos.sat)) || (wind.any (·.2.sat)) || (!drafts.isEmpty && mean.sat)
  let draft := if !drafts.isEmpty then mean.v
    else if plainConf b 24 = 0 then dpIn b 5 else prev.draft
  let r : DpRecord := {
    outTick := at', mode := b.dp.mode, pos := pconf, hdg := hconf, att := aconf, wind := plainConf b 20, draftC := plainConf b 24
    vote := pv.flags + (if hvote.flags = 2 then 8 else if hvote.flags = 4 then 16 else 0) + 32 * b1 lead.isNone
    used := bitsOf (present ++ voters.filter (fun s => !hvote.out.contains s) ++ (match att with | some (s, _) => [s] | none => []) ++
      (match wind with | some (s, _) => [s] | none => []) ++ drafts.map (·.1))
    masked := bitsOf ((slotsOf b 0 28).filter fun s => (dpSlot b s).state != 1)
    voted := bitsOf (pv.out ++ hvote.out)
    heading := match lead with | some h => h.v | none => prev.heading
    roll := match att with | some (_, x, _, _) => x.v | none => 0
    pitch := match att with | some (_, _, x, _) => x.v | none => 0
    heave := match att with | some (_, _, _, x) => x.v | none => 0
    windS := match wind with | some (_, m) => wAt m.v 0 | none => prev.windS
    windD := match wind with | some (_, m) => wAt m.v 1 | none => prev.windD
    newWind := wind.isSome
    three := decide (3 ≤ vs.length)
    draft := draft, medN := mn.v, medE := me.v
    posN := if vs.isEmpty then 0 else pn.v
    posE := if vs.isEmpty then 0 else pe.v
    entries := (List.range 12).map (posEntry b t ins vs pv) }
  let vb := fun (lo n v : Nat) => v / 2 ^ lo % 2 ^ n
  let b := fireIf (r.pos != prev.pos || vb 0 3 r.vote != vb 0 3 prev.vote) 113 (regOf [(0, 2, r.pos), (2, 3, vb 0 3 r.vote)]) b
  let b := fireIf (r.hdg != prev.hdg || vb 3 3 r.vote != vb 3 3 prev.vote) 114 (regOf [(0, 2, r.hdg), (2, 3, vb 3 3 r.vote)]) b
  let b := fireIf (r.att != prev.att || r.wind != prev.wind || r.draftC != prev.draftC) 115
    (regOf [(0, 2, r.att), (2, 2, r.wind), (4, 2, r.draftC)]) b
  modDp (fun d => { d with
    rec0 := d.rec1, rec1 := some r, records := wrap32 d.records 1, satNow := d.satNow || sat
    goodSince := if 2 ≤ pconf then (match d.goodSince with | some x => some x | none => some at') else none }) b
where meanOf' (l : List Num) : Num := (numSum l).div (fOfNat l.length)

/-- The intake stage for boundary `at'` (R306). -/
def intake (at' : Nat) (b : Block) : Block :=
  let b := (slotsOf b 0 28).foldl (fun b s => maskSlot at' s (classSlot at' s b)) b
  formRecord at' b

/-- The 256 bytes of an intake record (Table 9.8). -/
def intakeBytes (r : DpRecord) : List Byte :=
  leBytes 8 r.outTick ++ leBytes 1 r.mode ++ leBytes 1 r.pos ++ leBytes 1 r.hdg ++ leBytes 1 r.att ++ leBytes 1 r.wind ++ leBytes 1 r.draftC ++
    leBytes 1 r.vote ++ [0] ++ leBytes 4 r.used ++ leBytes 4 r.masked ++ leBytes 4 r.voted ++
    bytesOf [r.heading, r.roll, r.pitch, r.heave, r.windS, r.windD, r.draft, r.medN, r.medE] ++
    (List.range 12).flatMap fun i =>
      let e := r.entries.getD i {}
      wordBytes e.n ++ wordBytes e.e ++ leBytes 4 e.dt ++ leBytes 1 e.state ++ leBytes 1 e.flags ++ [0, 0]

/-- LATE_WINDOW_END: a 10 s window ends (R295). -/
def lateWindowEnd (b : Block) : Block :=
  if b.tb % 1000000000 ≠ 0 ∨ !dpOn b then b else
  (slotsOf b 0 28).foldl (fun b s =>
    let x := dpSlot b s
    let n := x.lateN + x.onN
    let exceed := decide (snLateLim b s * n < x.lateN * 1000)
    let late := if snLateLim b s = 1000 then false else if x.late then !(decide (n ≠ 0) && !exceed) else exceed
    slotShow s (modDpSlot s (fun x => { x with late := late, lateN := 0, onN := 0 }) b)) b

/-! Once-acting commands of intake (R301, R307). -/

/-- READMIT: the latch and the count clear (R301), and STATE follows (R297); a relative reference is aligned again. -/
def readmit (s : Nat) (b : Block) : Block := slotShow s (modDpSlot s (fun x => { x with votedOut := false, voteCount := 0, aligned := false }) b)

/-- RE_ORIGIN: none where it is refused with BAD_VALUE (R307). -/
def reOrigin (b : Block) : Option Block :=
  match b.dp.rec1 with
  | none => none
  | some r =>
    if r.pos < 2 then none else
    let (n, e) := if r.three then (r.medN, r.medE) else (r.posN, r.posE)
    let i := fToInt ((num n).div (num b.dp.kn)).v
    let j := fToInt ((num e).div (num b.dp.ke)).v
    let dn := (fOfInt i).mul (num b.dp.kn)
    let de := (fOfInt j).mul (num b.dp.ke)
    let b := setOrigin (w32i (b.dp.lat0.toInt + i)) (w32i (b.dp.lon0.toInt + j)) b
    let shift := fun (p : DpPos) => { p with n := ((num p.n).sub dn).v, e := ((num p.e).sub de).v }
    let move := fun (x : DpSlot) => { x with oN := ((num x.oN).sub dn).v, oE := ((num x.oE).sub de).v, last := x.last.map shift }
    let moved := b.dp.slots.flatMap fun p =>
      (if snType b p.1 = 3 ∨ snRel b p.1 ∧ !p.2.aligned then [] else [(num p.2.oN).sub dn, (num p.2.oE).sub de]) ++
        (p.2.last.toList.flatMap fun q => [(num q.n).sub dn, (num q.e).sub de])
    let slots := b.dp.slots.map fun p =>
      if snType b p.1 = 3 then p else if snRel b p.1 ∧ !p.2.aligned then (p.1, { p.2 with last := p.2.last.map shift }) else (p.1, move p.2)
    some (fire 117 0 (modDp (fun d => { d with
      slots := slots.filter (fun p => p.2 != {})
      shiftN := ((num d.shiftN).add dn).v, shiftE := ((num d.shiftE).add de).v
      satNow := d.satNow || moved.any (·.sat) || dn.sat || de.sat || ((num d.shiftN).add dn).sat || ((num d.shiftE).add de).sat }) b))

end Sys2Proof.Machine
end

