-- ==== Sys2Proof/Machine/DpEst.lean ====
section
/-! DEFINITION. The estimator and the control law (R316 to R327). Sums are formed from the left in ascending index; the spec gives no other
order (log 34). -/

namespace Sys2Proof.Machine

/-! Measurements (R318 to R320). -/

/-- The position measurement of a record and its variance (Table 10.4). -/
def posMeas (b : Block) (r : DpRecord) : Option (Num × Num × Num) :=
  if r.vote / 2 % 4 ≠ 0 then none else
  let es := r.entries.filter fun e => e.flags % 2 == 1 && e.flags / 16 % 2 == 0
  let m := fOfNat es.length
  let n := (numSum (es.map fun e => num e.n)).div m
  let e := (numSum (es.map fun e => num e.e)).div m
  if es.length = 0 then none
  else if es.length = 1 then some (n, e, (num 0x40800000).mul (num (estW b 29)))
  else some (n, e, num (estW b 29))

/-- The heading measurement of a record in rad and its variance (Table 10.4). -/
def hdgMeas (b : Block) (r : DpRecord) : Option (Num × Num) :=
  if r.vote / 32 % 2 = 1 ∨ r.hdg = 0 then none
  else some (radOf (num r.heading), if r.hdg = 1 then (num 0x40800000).mul (num (estW b 30)) else num (estW b 30))

/-- One scalar update with innovation ν on H = e_i + e_j (R318). -/
def scalarUpdate (i j : Nat) (nu r : Num) (xp : Vec' × Mat) : Vec' × Mat :=
  let (x, p) := xp
  let ph := fun k => (mAt p k i).add (mAt p k j)
  let s := ((ph i).add (ph j)).add r
  let k := mkVec fun n => (ph n).div s
  let hp := mkVec fun n => (mAt p i n).add (mAt p j n)
  (mkVec fun n => let y := (vAt x n).add ((vAt k n).mul nu); if n = 2 then mod2Pi y else y,
   mkMat fun a c => (mAt p a c).sub ((vAt k a).mul (vAt hp c)))

/-- P with the rows and columns of some states set to 0 and a value on their diagonal. -/
def resetP (is : List Nat) (v : Nat → Num) (p : Mat) : Mat :=
  mkMat fun i j => if is.contains i || is.contains j then (if i = j then v i else f0) else mAt p i j

/-- P0 of a state (R319). -/
def p0 (b : Block) (i : Nat) : Num := num (estW b (if i < 2 then 31 else if i = 2 then 32 else 33))

def toWords (x : Vec') : List Word := x.map (·.v)
def toMat (p : List (List Word)) : Mat := p.map fun r => r.map num
def ofMat (p : Mat) : List (List Word) := p.map fun r => r.map (·.v)
/-- A saturated result among values. -/
def satOf (x : Vec') : Bool := x.any (·.sat)
def satMat (p : Mat) : Bool := p.any satOf

/-! Wind (R327). -/

/-- The wind model for a record: the filtered components and Fw. -/
def windStep (r : DpRecord) (b : Block) : Block :=
  if r.wind = 0 then modDp (fun d => { d with windOn := false, fw := [0, 0, 0] }) b else
  if !b.dp.windOn && !r.newWind then modDp (fun d => { d with fw := [0, 0, 0] }) b else
  let v := num r.windS
  let x := v.mul (cosD (num r.windD))
  let y := v.mul (sinD (num r.windD))
  let den := (num (ctlW b 23)).add fH
  let filt := fun (old : Word) (new : Num) => if b.dp.windOn then (num old).add (((new.sub (num old)).mul fH).div den) else new
  let fx := filt b.dp.windX x
  let fy := filt b.dp.windY y
  let vf := dist fx fy
  let g := num (Sys2Proof.Config.atan2F fy.v fx.v)
  let q := (((fHalf.mul (num (ctlW b 13))).mul (vf.mul vf))).div (num 0x447A0000)
  let dd := (num (ctlW b 18)).sub (num r.draft)
  let af := f0.max ((num (ctlW b 14)).add ((num (ctlW b 15)).mul dd))
  let al := f0.max ((num (ctlW b 16)).add ((num (ctlW b 17)).mul dd))
  let wx := (((q.mul (num (ctlW b 20))).mul af).mul (cosR g)).neg
  let wy := (((q.mul (num (ctlW b 21))).mul al).mul (sinR g)).neg
  let wn := ((((q.mul (num (ctlW b 22))).mul al).mul (num (ctlW b 19))).mul (sinR (f2.mul g))).neg
  modDp (fun d => { d with windX := fx.v, windY := fy.v, windOn := true, fw := [wx.v, wy.v, wn.v], satNow := d.satNow || satOf [fx, fy, wx, wy, wn] }) b

/-! The estimator stage (R319 to R323). -/

/-- Instant of a record. -/
def recInstant (b : Block) (r : DpRecord) : Nat := if r.mode = 0 then r.outTick - inW b else r.outTick

/-- The first record that gives both measurements (R319). -/
def estInit (t : Nat) (pm : Num × Num × Num) (hm : Num × Num) (b : Block) : Block :=
  let x := mkVec fun i => if i = 0 then pm.1 else if i = 1 then pm.2.1 else if i = 2 then mod2Pi hm.1 else f0
  setEst 1 (modDp (fun d => { d with
    tf := t, x := toWords x, p := ofMat (mkMat fun i j => if i = j then p0 b i else f0), drTime := 0, rejRun := 0, hdgAge := 0
    satNow := d.satNow || satOf x }) b)

/-- DR_TIME and EST_STATE (R321). -/
def drStep (both hdg : Bool) (b : Block) : Block :=
  let dr := if both then 0 else b.dp.drTime + 1
  let lost := decide (fld (estW b 0) 0 16 * 100 < 20 * dr)
  setEst (if dr = 0 then 1 else if lost then 3 else 2) (modDp (fun d => { d with drTime := dr, hdgAge := if hdg then 0 else d.hdgAge + 1 }) b)

/-- The updates of one record (R318, R320, R323). -/
def estUpdate (pm : Option (Num × Num × Num)) (hm : Option (Num × Num)) (xp : Vec' × Mat) (b : Block) : Block :=
  let (x, p) := xp
  let inn := match pm with
    | some (yn, ye, _) => some ((yn.sub ((vAt x 0).add (vAt x 7))), ye.sub ((vAt x 1).add (vAt x 9)))
    | none => none
  let lim := num (estW b 34)
  let d := match inn with | some (n, e) => dist n e | none => f0
  let rej := inn.isSome && !fZero lim.v && fLt lim.v d.v
  let (x, p) := match hm with
    | some (y, r) => scalarUpdate 2 11 (wrapPi (y.sub ((vAt x 2).add (vAt x 11)))) r (x, p)
    | none => (x, p)
  let run := if rej then b.dp.rejRun + 1 else if inn.isSome then 0 else b.dp.rejRun
  let (x, p) := match pm with
    | none => (x, p)
    | some (yn, ye, r) =>
      if rej then
        (if 3 ≤ run then (mkVec fun i => if i = 0 then yn else if i = 1 then ye else vAt x i, resetP [0, 1] (p0 b) p) else (x, p))
      else
        let (x, p) := scalarUpdate 0 7 (yn.sub ((vAt x 0).add (vAt x 7))) r (x, p)
        scalarUpdate 1 9 (ye.sub ((vAt x 1).add (vAt x 9))) r (x, p)
  let p := mkMat fun i j => ((mAt p i j).add (mAt p j i)).div f2
  let reset := rej && decide (3 ≤ run)
  let b := modDp (fun q => { q with
    x := toWords x, p := ofMat p, rejRun := if reset then 0 else run, innovRej := if rej then sat16 q.innovRej 1 else q.innovRej
    satNow := q.satNow || satOf x || satMat p || d.sat }) b
  let cm := min 0xFFFF (fToInt (d.mul (num 0x42C80000)).v).toNat
  let b := fireIf rej 130 (w32 cm) b
  let b := drStep (inn.isSome && !rej && hm.isSome) hm.isSome b
  fireIf reset 129 (regOf [(0, 2, b.dp.est), (8, 1, 1)]) b

/-- The first record after a takeover with a seed record (R342). -/
def estResume (tf at' : Nat) (pm : Option (Num × Num × Num)) (hm : Option (Num × Num)) (b : Block) : Block :=
  let x := b.dp.x.map num
  let len := fSeconds (at' - tf)
  let (n, e) := match pm with
    | some (yn, ye, _) => (yn, ye)
    | none => deadReckon x len
  let psi := match hm with
    | some (y, _) => mod2Pi y
    | none => mod2Pi ((vAt x 2).add ((vAt x 5).mul len))
  let x' := mkVec fun i => if i = 0 then n else if i = 1 then e else if i = 2 then psi else vAt x i
  let p := resetP ((if pm.isSome then [0, 1] else []) ++ (if hm.isSome then [2] else []) ++ [6, 7, 8, 9, 10, 11]) (p0 b) (toMat b.dp.p)
  drStep (pm.isSome && hm.isSome) hm.isSome (modDp (fun d => { d with
    tf := at', x := toWords x', p := ofMat p, resume := none, satNow := d.satNow || satOf x' }) b)

/-- Predict to the boundary (R322). -/
def estPredict (at' : Nat) (b : Block) : Block :=
  if b.dp.est = 0 then b else
  let keep := fun (x y : Vec') => mkVec fun i => if i ≤ 5 ∨ 12 ≤ i then vAt y i else vAt x i
  let x := stepsFrom b (fun tau x => keep x (stepX b tau x)) ((at' - b.dp.tf) / 2000000) b.dp.tf (b.dp.x.map num)
  modDp (fun d => { d with hat := (toWords x).take 6, satNow := d.satNow || satOf x }) b

/-- A target of the setpoint: N, E or heading in degrees. -/
def spTarget (b : Block) (i : Nat) : Num := num (dpField b 0x40 (3 + i))
def setSpTarget (i : Nat) (v : Word) (b : Block) : Block :=
  modTarget (targetKey 3 0x40 (3 + i)) (fun t => { t with inForce := v }) b

/-- The states, the ramped setpoints and the setpoint targets follow the shifts of the origin since the last record (R307, R323). -/
def originMove (b : Block) : Block :=
  if b.dp.shiftN = 0 ∧ b.dp.shiftE = 0 then b else
  let by' := fun (i : Nat) (v : Word) => if i = 0 then (num v).sub (num b.dp.shiftN) else if i = 1 then (num v).sub (num b.dp.shiftE) else num v
  let move := fun (x : List Word) => x.zipIdx.map fun p => by' p.2 p.1
  let tn := by' 0 (spTarget b 0).v
  let te := by' 1 (spTarget b 1).v
  setSpTarget 1 te.v (setSpTarget 0 tn.v (modDp (fun d => { d with
    x := toWords (move d.x), sp := toWords (move d.sp), shiftN := 0, shiftE := 0
    satNow := d.satNow || satOf (move d.x ++ move d.sp ++ [tn, te]) }) b))

/-- The estimator stage for a record (R323). -/
def estimate (r : DpRecord) (b : Block) : Block :=
  let t := recInstant b r
  let b := windStep r b
  let pm := posMeas b r
  let hm := hdgMeas b r
  let b := originMove b
  let b := match b.dp.resume with
    | some (tf, _) => estResume tf r.outTick pm hm b
    | none =>
      if b.dp.est = 0 then
        match pm, hm with
        | some p, some h => estInit t p h b
        | _, _ => b
      else if t ≤ b.dp.tf then modDp (fun d => { d with predHold := true }) b
      else
        let xp := stepsFrom b (propagate b) ((t - b.dp.tf) / 2000000) b.dp.tf (b.dp.x.map num, toMat b.dp.p)
        estUpdate pm hm xp (modDp (fun d => { d with predHold := false, tf := t }) b)
  estPredict r.outTick b

/-! The control law (R324, R326). -/

def hatAt (b : Block) (i : Nat) : Num := num (wAt b.dp.hat i)

/-- The estimate as a setpoint: N, E, heading in degrees. -/
def estSp (b : Block) : List Word := [wAt b.dp.hat 0, wAt b.dp.hat 1, (mod360 (degOf (hatAt b 2))).v]

/-- The targets, and the ramped setpoint, take the estimate. -/
def spToEstimate (b : Block) : Block :=
  let e := estSp b
  setSpTarget 2 (wAt e 2) (setSpTarget 1 (wAt e 1) (setSpTarget 0 (wAt e 0) (modDp (fun d => { d with sp := e }) b)))

/-- Move the ramped setpoints (R324). -/
def rampDp (b : Block) : Block :=
  let e := estSp b
  let s := fun i => num (wAt b.dp.sp i)
  let (n, east, b) :=
    if posJoy b then (num (wAt e 0), num (wAt e 1), setSpTarget 1 (wAt e 1) (setSpTarget 0 (wAt e 0) b))
    else
      let dn := (spTarget b 0).sub (s 0)
      let de := (spTarget b 1).sub (s 1)
      let d := dist dn de
      let lim := (num (ctlW b 10)).mul fH
      if fLe d.v lim.v then (spTarget b 0, spTarget b 1, b)
      else ((s 0).add (dn.mul (lim.div d)), (s 1).add (de.mul (lim.div d)), b)
  let (h, b) :=
    if hdgJoy b then (num (wAt e 2), setSpTarget 2 (wAt e 2) b)
    else
      let diff := wrap180 ((spTarget b 2).sub (s 2))
      let lim := (num (ctlW b 11)).mul fH
      if fLe diff.abs.v lim.v then (spTarget b 2, b)
      else (mod360 (if fSign diff.v then (s 2).sub lim else (s 2).add lim), b)
  modDp (fun d => { d with sp := [n.v, east.v, h.v], satNow := d.satNow || satOf [n, east, h] }) b

/-- SAT_k of the previous intact solve's residual (R326). -/
def satBits (b : Block) : Nat :=
  (List.range 3).foldl (fun a k => a + 2 ^ k * b1 (fLt (alcW b (4 + k)) (num (wAt b.dp.res k)).abs.v)) 0

/-- The demand and the integrals (R326). -/
def demand (b : Block) : Block :=
  let c := cosR (hatAt b 2)
  let s := sinR (hatAt b 2)
  let sp := fun i => num (wAt b.dp.sp i)
  let eN := (sp 0).sub (hatAt b 0)
  let eE := (sp 1).sub (hatAt b 1)
  let eP := wrapPi ((radOf (sp 2)).sub (hatAt b 2))
  let ig := fun i => num (wAt b.dp.integ i)
  let pj := posJoy b
  let hj := hdgJoy b
  let iN := if pj then f0 else ig 0
  let iE := if pj then f0 else ig 1
  let iP := if hj then f0 else ig 2
  let ex := (c.mul eN).add (s.mul eE)
  let ey := (c.mul eE).sub (s.mul eN)
  let ix := (c.mul iN).add (s.mul iE)
  let iy := (c.mul iE).sub (s.mul iN)
  let k := fun i => num (ctlW b i)
  let fw := fun i => num (wAt b.dp.fw i)
  let ff := fun (x : Num) (i : Nat) => (x.sub ((k 12).mul (fw i))).sub (num (dpInput b i))
  let joy := fun (i : Nat) =>
    let x := num (dpField b 0x40 (6 + i))
    if bit (ctlW b 0) 4 then ff x i else x
  let pid := fun (kp kd : Nat) (e i v : Num) => ((((k kp).mul e).add ((k (kp + 3)).mul i)).sub ((k kd).mul v))
  let lost := b.dp.est == 3
  let hdgOk := !lost || decide (20 * b.dp.hdgAge ≤ fld (estW b 0) 0 16 * 100)
  let x := if pj then joy 0 else if lost then ff f0 0 else ff (pid 1 7 ex ix (hatAt b 3)) 0
  let y := if pj then joy 1 else if lost then ff f0 1 else ff (pid 2 8 ey iy (hatAt b 4)) 1
  let n := if hj then joy 2 else if hdgOk then ff (pid 3 9 eP iP (hatAt b 5)) 2 else ff f0 2
  let old := b.dp.sat
  let sat := satBits b
  let same := fun (e : Num) (i : Nat) => !fZero e.v && !fZero (wAt b.dp.res i) && fSign e.v == fSign (wAt b.dp.res i)
  let dx := if sat % 2 == 1 && same ex 0 then f0 else ex.mul fH
  let dy := if sat / 2 % 2 == 1 && same ey 1 then f0 else ey.mul fH
  let dp := if sat / 4 % 2 == 1 && same eP 2 then f0 else eP.mul fH
  let (iN, iE) := if pj then (f0, f0) else if lost then (iN, iE)
    else (iN.add ((c.mul dx).sub (s.mul dy)), iE.add ((s.mul dx).add (c.mul dy)))
  let iP := if hj then f0 else if hdgOk then iP.add dp else iP
  let b := modDp (fun d => { d with
    tau := toWords [x, y, n], integ := toWords [iN, iE, iP], sat := sat, satNow := d.satNow || satOf [x, y, n, iN, iE, iP] }) b
  let new := (List.range 3).foldl (fun a i => a + 2 ^ i * b1 (sat / 2 ^ i % 2 == 1 && old / 2 ^ i % 2 == 0)) 0
  fireIf (new != 0) 131 (regOf [(0, 3, sat)]) b

/-- The control-law stage (R312, R324, R326, R344): SP_HERE acts, an entry into ACTIVE is set up, and the demand is formed. -/
def controlLaw (b : Block) : Block :=
  if b.dp.est = 0 then b else
  let here := b.dp.spActs
  let b := if here.isEmpty then b else
    let e := estSp b
    setSpTarget 2 (wAt e 2) (setSpTarget 1 (wAt e 1) (setSpTarget 0 (wAt e 0) b))
  let b := here.foldl (fun b x => refuse x.1 x.2 stOK b) (modDp (fun d => { d with spActs := [] }) b)
  let entry := b.dp.fresh
  let b := if entry then
      let b := modDp (fun d => { d with integ := [0, 0, 0], thrs := tmap {} (fun x => { x with prev := 0 }) d.thrs }) (spToEstimate b)
      b
    else if b.dp.sp.isEmpty then spToEstimate b
    else rampDp b
  let b := demand b
  if entry then modDp (fun d => { d with fresh := false, tauCa := d.tau }) b else b

end Sys2Proof.Machine
end

