-- ==== Sys2Proof/Machine/DpAlloc.lean ====
section
/-! DEFINITION. Thrusters, allocation, commands and consequence analysis (R328 to R338). -/

namespace Sys2Proof.Machine

/-- Forces of the thrusters: Fx and Fy of T00 to T23. -/
abbrev Forces := List (Num × Num)

def fAt (f : Forces) (n : Nat) : Num × Num := f.getD n (f0, f0)
def mkForces (g : Nat → Num × Num) : Forces := (List.range 24).map g
def mag (v : Num × Num) : Num := dist v.1 v.2

/-! Availability (R329). -/

/-- Stale limit of READY and FB_AZ. -/
def thrStale : Nat := 10000000

/-- An output target of a thruster is fenced. -/
def thrOutFenced (b : Block) (n : Nat) : Bool :=
  ([0, 1] : List Nat).any fun k =>
    let w := thOut b n k
    if tgKind w = 2 then isFenced b (.can (tgA w))
    else if tgKind w = 5 then isFenced b (.eth (2 * tgA w)) && isFenced b (.eth (2 * tgA w + 1))
    else false

/-- The sources and AVAIL of a thruster at the start of the intact solve; ES132 at a change (R329). -/
def thrRefresh (n : Nat) (b : Block) : Block :=
  let ready := match srcValue b (thReady b n) thrStale with
    | some v => !fZero v
    | none => false
  let az := if thType b n = 2 then srcValue b (thFbAz b n) thrStale else none
  let fenced := thrOutFenced b n
  let avail := thEn b n && thSelected b n && ready && (thType b n != 2 || az.isSome) && !fenced && fLt 0 (thCap b n).v
  let old := (dpThr b n).avail
  let b := modThr n (fun x => { x with
    avail := avail, ready := ready, fbOk := az.isSome, fenced := fenced
    azFb := match az with | some a => (mod360 (num a)).v | none => x.azFb }) b
  fireIf (old != avail) 132 (regOf [(0, 5, n), (8, 1, b1 avail)]) b

/-! Feasible sets (Table 10.5). -/

/-- A set C_n: an interval of Fy, a sector with a magnitude, or a rudder's interval of Fx with its side. -/
inductive Feas where
  | none
  | tunnel (lo hi : Num)
  | azimuth (centre lo hi tm : Num)
  | rudder (reverse : Bool) (lo hi kr : Num)
  deriving DecidableEq, Repr

/-- The sector of an azimuth about an angle, as offsets in degrees: less the forbidden zones (Table 10.5). -/
def sector (b : Block) (n : Nat) (centre : Num) : Num × Num :=
  let sect := thSect b n
  ([0, 1] : List Nat).foldl (fun (a : Num × Num) k =>
    let (s, e) := thZone b n k
    if fEq s.v e.v then a else
    let toStart := mod360 (s.sub centre)
    let fromEnd := mod360 (centre.sub e)
    let width := mod360 (e.sub s)
    let inside := mod360 (centre.sub s)
    if fLt inside.v width.v then
      let toEnd := mod360 (e.sub centre)
      if fLe inside.v toEnd.v then (inside.neg, inside.neg) else (toEnd, toEnd)
    else (a.1.max fromEnd.neg, a.2.min toStart)) (sect.neg, sect)

/-- ΔT. -/
def rateStep (b : Block) (n : Nat) : Num := (thRate b n).mul fH

/-- C_n of the intact solve. -/
def intactSet (b : Block) (n : Nat) : Feas :=
  let x := dpThr b n
  if !x.avail then .none else
  let c := thCap b n
  let prev := num x.prev
  let dt := rateStep b n
  let top := (thFwd b n).mul c
  let bot := ((thRev b n).mul c).neg
  match thType b n with
  | 1 =>
    let lo := bot.max (prev.sub dt)
    let hi := top.min (prev.add dt)
    if fLt hi.v lo.v then (let p := Num.clamp bot top prev; .tunnel p p) else .tunnel lo hi
  | 2 =>
    let (lo, hi) := sector b n (num x.azFb)
    .azimuth (num x.azFb) lo hi (top.min (prev.abs.add dt))
  | _ =>
    if x.side then .rudder true (bot.max (prev.sub dt)) (f0.min (prev.add dt)) (thKr b n)
    else .rudder false (f0.max (prev.sub dt)) (top.min (prev.add dt)) (thKr b n)

/-- C_n of a consequence solve of a group (R335); `f` is the intact result. -/
def conseqSet (b : Block) (g : Nat) (f : Forces) (n : Nat) : Feas :=
  let x := dpThr b n
  if !x.avail || bit (grpCfg b g) n then .none else
  let c := thCap b n
  let top := (thFwd b n).mul c
  let bot := ((thRev b n).mul c).neg
  match thType b n with
  | 1 => .tunnel bot top
  | 2 =>
    let v := fAt f n
    let centre := if fZero (mag v).v then num x.azFb else mod360 (degOf (num (Sys2Proof.Config.atan2F v.2.v v.1.v)))
    let (lo, hi) := sector b n centre
    .azimuth centre lo hi top
  | _ => if x.sideNow then .rudder true bot f0 (thKr b n) else .rudder false f0 top (thKr b n)

/-- Projection on a set (R331). -/
def project (c : Feas) (p : Num × Num) : Num × Num :=
  match c with
  | .none => (f0, f0)
  | .tunnel lo hi => (f0, Num.clamp lo hi p.2)
  | .azimuth centre lo hi tm =>
    let m := mag p
    if fZero m.v then (f0, f0) else
    let delta := wrap180 ((mod360 (degOf (num (Sys2Proof.Config.atan2F p.2.v p.1.v)))).sub centre)
    let q :=
      if fLe lo.v delta.v && fLe delta.v hi.v then p
      else
        let edge := if fLt (wrap180 (delta.sub lo)).abs.v (wrap180 (delta.sub hi)).abs.v then lo else hi
        let a := mod360 (centre.add edge)
        let (dx, dy) := (cosD a, sinD a)
        let t := f0.max ((p.1.mul dx).add (p.2.mul dy))
        (t.mul dx, t.mul dy)
    let mq := mag q
    if fLt tm.v mq.v then (q.1.mul (tm.div mq), q.2.mul (tm.div mq)) else q
  | .rudder false lo hi kr =>
    let ay := p.2.abs
    let (x, y) :=
      if fLe ay.v (kr.mul p.1).v then p
      else
        let t := (p.1.add (kr.mul ay)).div (f1.add (kr.mul kr))
        if fLe t.v 0 then (f0, f0) else (t, if fSign p.2.v then (kr.mul t).neg else kr.mul t)
    let x := Num.clamp lo hi x
    let lim := kr.mul x
    (x, Num.clamp lim.neg lim y)
  | .rudder true lo hi _ => (Num.clamp lo hi p.1, f0)

/-! The solver (R328, R330, R331). -/

/-- B f. -/
def forceOf (b : Block) (f : Forces) : Num × Num × Num :=
  let s := fun (g : Nat → Num) => numSum ((thrusters b).map g)
  (s fun n => (fAt f n).1, s fun n => (fAt f n).2,
   s fun n => ((thX b n).mul (fAt f n).2).sub ((thY b n).mul (fAt f n).1))

def lamOf (b : Block) (k : Nat) : Num := num (alcW b (1 + k))

/-- L of a problem (R331). -/
def lipschitz (b : Block) (sets : List Feas) : Num :=
  let ns := (thrusters b).filter fun n => sets.getD n .none != .none
  let w := ns.foldl (fun m n => m.max (thWeight b n)) f0
  let two := fun n => thType b n != 1
  let sx := fOfNat (countOf two ns)
  let sy := fOfNat ns.length
  let sn := numSum (ns.map fun n => if two n then ((thY b n).mul (thY b n)).add ((thX b n).mul (thX b n)) else (thX b n).mul (thX b n))
  w.add ((((lamOf b 0).mul sx).add ((lamOf b 1).mul sy)).add ((lamOf b 2).mul sn))

/-- State of the iteration: y, f, t_k and the last p. -/
structure Iter where
  y : Forces
  f : Forces
  t : Num
  p : Forces
  deriving DecidableEq, Repr

/-- One iteration (R331). -/
def iterStep (b : Block) (sets : List Feas) (tau : Num × Num × Num) (lip : Num) (s : Iter) : Iter :=
  let a := forceOf b s.y
  let g0 := (lamOf b 0).mul (a.1.sub tau.1)
  let g1 := (lamOf b 1).mul (a.2.1.sub tau.2.1)
  let g2 := (lamOf b 2).mul (a.2.2.sub tau.2.2)
  let p := mkForces fun n =>
    if sets.getD n .none = .none then (f0, f0) else
    let (yx, yy) := fAt s.y n
    let w := thWeight b n
    let gx := (w.mul yx).add (g0.sub ((thY b n).mul g2))
    let gy := (w.mul yy).add (g1.add ((thX b n).mul g2))
    (if thType b n = 1 then f0 else yx.sub (gx.div lip), yy.sub (gy.div lip))
  let fn := mkForces fun n => project (sets.getD n .none) (fAt p n)
  let tn := (f1.add (f1.add (((num 0x40800000).mul s.t).mul s.t)).sqrt).div f2
  let r := (s.t.sub f1).div tn
  let y := mkForces fun n =>
    let v := fAt fn n
    let o := fAt s.f n
    (v.1.add (r.mul (v.1.sub o.1)), v.2.add (r.mul (v.2.sub o.2)))
  { y := y, f := fn, t := tn, p := p }

/-- A solve of ITER iterations. -/
def solve (b : Block) (sets : List Feas) (tau : Num × Num × Num) (start : Forces) : Iter :=
  iterate (iterStep b sets tau (lipschitz b sets)) (fld (alcW b 0) 0 7) { y := start, f := start, t := f1, p := start }

/-! Results (R336). -/

/-- Reference thrust for the direction of a force. -/
def trefOf (b : Block) (n : Nat) (v : Num × Num) : Num :=
  let neg := if thType b n = 1 then fSign v.2.v else if thType b n = 3 then fSign v.1.v else false
  if neg then thRev b n else thFwd b n

/-- UTIL of a solve. -/
def utilOf (b : Block) (sets : List Feas) (f : Forces) : Nat :=
  maxOf ((thrusters b).map fun n =>
    if sets.getD n .none = .none ∨ fZero (mag (fAt f n)).v then 0 else
    let u := ((mag (fAt f n)).div ((trefOf b n (fAt f n)).mul (thCap b n))).mul (num 0x42C80000)
    min 255 (fFloor u.v).toNat)

/-- τ − B f. -/
def residual (b : Block) (tau : Num × Num × Num) (f : Forces) : List Num :=
  let a := forceOf b f
  [tau.1.sub a.1, tau.2.1.sub a.2.1, tau.2.2.sub a.2.2]

/-- VERDICT (Table 10.7). -/
def verdictOf (b : Block) (r : List Num) (util : Nat) : Nat :=
  if (List.range 3).any fun k => fLt (alcW b (4 + k)) (r.getD k f0).abs.v then 3
  else if util ≤ fld (alcW b 0) 11 7 then 1 else 2

/-- A result entry after a solve. -/
def resultOf (r : List Num) (util verdict : Nat) (x : DpResult) : DpResult :=
  { resX := (r.getD 0 f0).v, resY := (r.getD 1 f0).v, resN := (r.getD 2 f0).v, util := util, verdict := verdict
    run := if verdict = 3 then sat8 x.run 1 else 0, age := 0 }

/-! The intact solve (R330 to R333). -/

/-- Forces of the previous intact result. -/
def prevForces (b : Block) : Forces := mkForces fun n => if (dpThr b n).avail then (num (dpThr b n).fx, num (dpThr b n).fy) else (f0, f0)

/-- What counts as the previous command of a thruster (R330). -/
def prevOf (b : Block) (n : Nat) (v : Num × Num) : Num :=
  match thType b n with
  | 1 => v.2
  | 2 => mag v
  | _ => v.1

/-- The intact result lies on its magnitude or interval limit (Table 10.18). -/
def onLimit (c : Feas) (v : Num × Num) : Bool :=
  match c with
  | .none => false
  | .tunnel lo hi => fEq v.2.v lo.v || fEq v.2.v hi.v
  | .azimuth _ _ _ tm => fLe tm.v (mag v).v
  | .rudder _ lo hi _ => fEq v.1.v lo.v || fEq v.1.v hi.v

/-- A force as a percentage of its reference (R333). -/
def percent (b : Block) (n : Nat) (f tref : Num) : Num :=
  if fZero f.v then f0
  else if thSqrt b n then (let m := (num 0x42C80000).mul (f.abs.div tref).sqrt; if fSign f.v then m.neg else m)
  else ((num 0x42C80000).mul f).div tref

/-- CMD_A and CMD_B of a result (Table 10.6). -/
def commandOf (b : Block) (n : Nat) (v : Num × Num) : Num × Num :=
  let old := num (dpThr b n).cmdB
  match thType b n with
  | 1 => (percent b n v.2 (trefOf b n v), f0)
  | 2 =>
    let m := mag v
    if fZero m.v then (f0, old) else
    let al := mod360 (degOf (num (Sys2Proof.Config.atan2F v.2.v v.1.v)))
    let cs := f0.max (cosD (al.sub (num (dpThr b n).azFb)))
    (percent b n (m.mul cs) (thFwd b n), if thWash b n then mod360 (al.add (num 0x43340000)) else al)
  | _ =>
    let a := percent b n v.1 (trefOf b n v)
    let d := thDmax b n
    let y := if fLt 0 v.1.v then Num.clamp d.neg d ((d.mul v.2).div ((thKr b n).mul v.1)) else f0
    (a, y)

/-- The intact solve against the demand (R330 to R333, R335). -/
def intactSolve (b : Block) : Block :=
  let b := (thrusters b).foldl (fun b n => thrRefresh n b) b
  let tau : Num × Num × Num := (num (wAt b.dp.tau 0), num (wAt b.dp.tau 1), num (wAt b.dp.tau 2))
  let sets := (List.range 24).map fun n => if thEn b n then intactSet b n else .none
  let r := solve b sets tau (prevForces b)
  let f := r.f
  let res := residual b tau f
  let a := forceOf b f
  let util := utilOf b sets f
  let verdict := verdictOf b res util
  let old := b.dp.intact
  let b' := b
  let b := (thrusters b).foldl (fun b n =>
    let v := fAt f n
    let avail := (dpThr b n).avail
    let (ca, cb) := if avail then commandOf b n v else (f0, num (dpThr b n).cmdB)
    let px := (fAt r.p n).1
    let side := (dpThr b n).side
    let side := if thType b n = 3 ∧ avail ∧ fZero v.1.v then
        (if !side && fLt px.v 0 then true else if side && fLt 0 px.v then false else side) else side
    modThr n (fun x => { x with
      fx := v.1.v, fy := v.2.v, prev := if avail then (prevOf b n v).v else 0, cmdA := ca.v, cmdB := cb.v, side := side, sideNow := x.side
      atLimit := onLimit (sets.getD n .none) v }) b) b
  let ach := [a.1, a.2.1, a.2.2]
  let tauCa := (List.range 3).map fun k =>
    let o := num (wAt b.dp.tauCa k)
    o.add ((((num (wAt b.dp.tau k)).sub o).mul fH).div ((num (alcW b 7)).add fH))
  let cmds := (thrusters b).flatMap fun n => if (dpThr b n).avail then [(commandOf b' n (fAt f n)).1, (commandOf b' n (fAt f n)).2] else []
  let b := modDp (fun d => { d with
    ach := toWords ach, res := toWords res, achs := ((d.cycle.b, d.cycle.active, toWords ach) :: d.achs).take 32, intact := resultOf res util verdict d.intact, tauCa := toWords tauCa
    satNow := d.satNow || satOf (ach ++ res ++ tauCa ++ f.flatMap (fun v => [v.1, v.2]) ++ cmds) }) b
  verdictEvent 0x20 old.verdict verdict b

/-- A consequence solve of a group (R335, R336). -/
def groupSolve (g : Nat) (b : Block) : Block :=
  let tau : Num × Num × Num := (num (wAt b.dp.tauCa 0), num (wAt b.dp.tauCa 1), num (wAt b.dp.tauCa 2))
  let f := mkForces fun n => (num (dpThr b n).fx, num (dpThr b n).fy)
  let sets := (List.range 24).map fun n => if thEn b n then conseqSet b g f n else .none
  let start := mkForces fun n => if bit (grpCfg b g) n then (f0, f0) else fAt f n
  let r := solve b sets tau start
  let res := residual b tau r.f
  let util := utilOf b sets r.f
  let v := verdictOf b res util
  let old := (dpGrp b g).verdict
  verdictEvent g old v (modDp (fun d => { d with satNow := d.satNow || satOf (res ++ r.f.flatMap fun v => [v.1, v.2]) })
    (modGrp g (fun x => resultOf res util v x) b))

/-! Delivery (R334). -/

/-- A command in the unit of its field: 0.01 for an integer format. -/
def inFmt (w v : Word) : Word := if fld w 25 3 = 4 then v else ((num v).mul (num 0x42C80000)).v

/-- Write one thruster's candidates. -/
def deliverThr (n : Nat) (b : Block) : Block :=
  let x := dpThr b n
  if !thSelected b n then modThr n (fun x => { x with heldB := false }) (dropThr n b)
  else
    let wa := thOut b n 0
    let wb := thOut b n 1
    let b := writeTarget wa (dpSrc n) false (inFmt wa (if x.avail then x.cmdA else 0)) b
    if x.avail then (if thType b n = 1 then b else modThr n (fun x => { x with heldB := true }) (writeTarget wb (dpSrc n) false (inFmt wb x.cmdB) b))
    else b

/-- The thruster commands of the intact result are written (R334). -/
def deliver (b : Block) : Block := (thrusters b).foldl (fun b n => deliverThr n b) b

/-- SAFE: CMD_A = 0 and the held CMD_B to every selected thruster, then NOT_READY until power-up (Table 15.3). -/
def deliverSafe (b : Block) : Block :=
  (thrusters b).foldl (fun b n =>
    if thSelected b n then writeTarget (thOut b n 0) (dpSrc n) false 0 b else dropThr n b) b

end Sys2Proof.Machine
end

