-- ==== Sys2Proof/Machine/Dp.lean ====
section
/-! DEFINITION. The DP cycle: boundaries, stages, records, commands that act once, and the seed record (R312 to R315, R337 to R344). -/

namespace Sys2Proof.Machine

def modCycle (f : DpCycle → DpCycle) (b : Block) : Block := modDp (fun d => { d with cycle := f d.cycle }) b

/-- The results of a stage on a site: they are checked, and then stored (R44). -/
def stageWrite (site : Nat) (results : Dp → List Word) (f : Block → Block) (b : Block) : Block :=
  checkedWrite (siteLoc site) (results (f b).dp) f b

/-- Results of the stages: the record, the estimate, the demand, and the achieved force with its residual. -/
def Dp.recordWords (d : Dp) : List Word :=
  let r := d.rec1.getD {}
  [r.heading, r.roll, r.pitch, r.heave, r.windS, r.windD, r.draft, r.medN, r.medE] ++ r.entries.flatMap fun e => [e.n, e.e]
def Dp.estimateWords (d : Dp) : List Word := d.x ++ d.hat ++ d.fw ++ d.p.flatten
def Dp.demandWords (d : Dp) : List Word := d.tau ++ d.sp ++ d.integ
def Dp.solveWords (d : Dp) : List Word := d.ach ++ d.res ++ d.tauCa

/-! Records (R340). -/

/-- A result entry (Table 10.7). -/
def resultBytes (x : DpResult) : List Byte :=
  bytesOf [x.resX, x.resY, x.resN] ++ leBytes 1 x.util ++ leBytes 1 x.verdict ++ leBytes 1 x.run ++ leBytes 1 x.age

/-- Angle states of the hats in degrees. -/
def hatDeg (b : Block) (i : Nat) : Word :=
  if i = 2 then (mod360 (degOf (hatAt b 2))).v else if i = 5 then (degOf (hatAt b 5)).v else (hatAt b i).v

/-- The cycle record from T_F on (Table 10.9). -/
def cycleBytes (b : Block) : List Byte :=
  leBytes 8 b.dp.tf ++ wordBytes (dpStatus b) ++ bytesOf ((List.range 6).map (hatDeg b)) ++ bytesOf ((List.range 3).map (wAt b.dp.sp)) ++
    bytesOf ((List.range 3).map (wAt b.dp.tau)) ++ bytesOf ((List.range 3).map (wAt b.dp.ach)) ++
    bytesOf ((List.range 3).map fun i => wAt b.dp.x (12 + i)) ++ bytesOf ((List.range 3).map (wAt b.dp.fw)) ++ leBytes 4 b.dp.drTime ++
    wordBytes (grpVerdict b 3) ++ wordBytes (grpVerdict b 2) ++ wordBytes (readDpe b 0x124) ++
    ((List.range 24).flatMap fun n => bytesOf [(dpThr b n).cmdA, (dpThr b n).cmdB]) ++
    ((List.range 24).flatMap fun n => leBytes 1 (fld (thrStatus b n) 0 8)) ++
    ((List.range 32).flatMap fun g => resultBytes (dpGrp b g)) ++ resultBytes b.dp.intact

/-- The outputs 0 to 63 (Table 10.8). -/
def dpOutputs (b : Block) : List Word :=
  (List.range 3).map (wAt b.dp.tau) ++ (List.range 3).map (wAt b.dp.ach) ++ (List.range 6).map (hatDeg b) ++
    [((fOfNat b.dp.drTime).mul fH).v, (fOfNat (countOf (fun g => (dpGrp b g).verdict == 3) (List.range 32))).v, (fOfNat b.dp.intact.util).v, 0] ++
    (List.range 24).flatMap fun n => [(dpThr b n).cmdA, (dpThr b n).cmdB]

/-! Ends of a cycle. -/

/-- CONSEQ after the solves of a cycle (R337). -/
def conseqStep (b : Block) : Block :=
  let n := fld (alcW b 0) 7 4
  let on := (List.range 32).filter (grpOn b)
  let hit := on.find? fun g => (dpGrp b g).verdict == 3 && decide (n ≤ (dpGrp b g).run)
  let allUndone := on.all fun g => (dpGrp b g).verdict == 4
  let anyLoss := on.any fun g => (dpGrp b g).verdict == 3
  let clear := if anyLoss then 0 else if allUndone && !on.isEmpty then b.dp.conseqClear else min 255 (b.dp.conseqClear + 1)
  let v := if hit.isSome then true else if b.dp.conseq && decide (n ≤ clear) then false else b.dp.conseq
  let old := b.dp.conseq
  let b := modDp (fun d => { d with conseq := v, conseqClear := clear }) b
  fireIf (old != v) 134 (regOf [(0, 1, b1 v), (1, 5, hit.getD 0)]) b

/-- The seed record (R27, R341): as the last cycle that completed left the state; before one has, the state as it stands. -/
def dpSeedBytes (b : Block) : List Byte := if b.dp.seed.isEmpty then dpSeedNow b else b.dp.seed

/-- The cycle is over: its record, its outputs and its seed record stand (R339 to R341). -/
def cycleEnd (b : Block) : Block :=
  let c := b.dp.cycle
  let b := conseqStep b
  let b := if 0 < c.notDone then fire 135 (regOf [(0, 3, 5), (8, 8, c.notDone)]) b else b
  let b := modDp (fun d => { d with cycles := wrap32 d.cycles 1, numSat := d.satNow, cycle := {} }) b
  let good := 2 ≤ b.dp.state
  let outs := dpOutputs b
  let bytes := cycleBytes b
  modDp (fun d => { d with
    cyc0 := d.cyc1, cyc1 := some { outTick := c.b, bytes := bytes }
    outs := outs, outAt := if good then some c.b else none, seed := dpSeedNow b }) b

/-- Nothing of a cycle is left to do: its intact solve has ended, its commands are delivered, and no solve waits or runs. -/
def cycleOver (b : Block) : Bool :=
  let c := b.dp.cycle
  c.stage == 5 && decide (c.endAt ≤ b.tb) && !c.deliver && c.todo.isEmpty && c.runs.isEmpty

/-- The cycle ends once nothing is left to do. -/
def cycleSettle (b : Block) : Block := if cycleOver b then cycleEnd b else b

/-- A group is not done in this cycle (R315). -/
def notDone (g : Nat) (b : Block) : Block :=
  let old := (dpGrp b g).verdict
  let b := modDp (fun d => { d with notDone := sat16 d.notDone 1 }) (modCycle (fun c => { c with notDone := c.notDone + 1 }) b)
  verdictEvent g old 4 (modGrp g (fun x => { x with verdict := 4, age := sat8 x.age 1 }) b)

/-- Every group whose solve waits or runs is not done. -/
def abandonGroups (b : Block) : Block :=
  let gs := b.dp.cycle.runs.map (·.g) ++ b.dp.cycle.todo
  cycleSettle (gs.foldl (fun b g => notDone g b) (modCycle (fun c => { c with todo := [], runs := [] }) b))

/-- Tick from which consequence solves are abandoned (R315). -/
def cutoffOf (c : DpCycle) : Nat := c.b + 1900000

/-- CONSEQUENCE_CUTOFF: at B + 1 900 000 (R315). -/
def consequenceCutoff (b : Block) : Block :=
  let c := b.dp.cycle
  if c.stage = 5 ∧ (c.todo ≠ [] ∨ c.runs ≠ []) ∧ cutoffOf c ≤ b.tb then abandonGroups b else b

/-- A consequence solve ends: its result entry stands (R335, R336). -/
def solveEnd (r : DpRun) (b : Block) : Block :=
  let b := modCycle (fun c => { c with runs := c.runs.filter (· != r) }) b
  let res := fun (d : Dp) => let x := tget {} d.grps r.g; [x.resX, x.resY, x.resN]
  instanceEnd 0x203 (18 + r.phys) r.dur (stageWrite (18 + r.phys) res (groupSolve r.g) b)

/-- A tick of the DP engine: the consequence solves that are over by now end, and with the last of them the cycle, but not while a freeze or a
handover holds the engine (R26, R371). A solve that runs past the cutoff is left to CONSEQUENCE_CUTOFF (R315). -/
def dpTick (b : Block) : Block :=
  let c := b.dp.cycle
  if b.freeze.isSome || enginesHeld b || c.stage != 5 then b else
  cycleSettle ((c.runs.filter fun r => decide (r.stop ≤ b.tb) && decide (r.stop ≤ cutoffOf c)).foldl (fun b r => solveEnd r b) b)

/-- The freeze that began at `start` ends: what was running at its start runs on, and intake starts 100 ticks from now (R27, R313). -/
def dpUnfreeze (start : Nat) (b : Block) : Block :=
  let len := b.tb - start
  let later := fun (t : Nat) => if start < t then t + len else t
  modCycle (fun c => { c with
    endAt := if c.stage = 1 ∧ c.b = start then b.tb else later c.endAt
    runs := c.runs.map fun r => { r with stop := later r.stop }
    laneEnd := tmap 0 later c.laneEnd }) b

/-! The boundary (R301, R307, R308, R313, R344). -/

/-- FUSION_MODE at a boundary: the module's own change to aligned (R292). -/
def autoAlign (b : Block) : Block :=
  let t := targetAt b (targetKey 3 0x20 0)
  match b.dp.goodSince with
  | some s =>
    if b.dp.mode = 1 ∧ inAutoAlign b ≠ 0 ∧ t.orders = [] ∧ s + inAutoAlign b ≤ b.tb then setFusion 0 4 b else b
  | none => b

/-- DP_STATE follows DP_ENABLE once an estimate exists (Table 10.1). -/
def enableStep (cause : Nat) (b : Block) : Block :=
  if b.dp.safe ≠ 0 then setDpState 1 1 b
  else if b.dp.est = 0 then b
  else
    let v := if dpField b 0x40 0 = 1 then 3 else 2
    let b := if v = 2 ∧ b.dp.state = 3 then dropThrs b else b
    setDpState v cause b

/-- Commands that act at this boundary (R301, R307). -/
def boundaryActs (b : Block) : Block :=
  let rs := b.dp.readmits
  let os := b.dp.reOrigins
  let b := modDp (fun d => { d with readmits := [], reOrigins := [], spHeres := [], spActs := d.spActs ++ d.spHeres }) b
  let b := rs.foldl (fun b x => refuse x.1 x.2.1 stOK (readmit x.2.2 b)) b
  os.foldl (fun b x =>
    match reOrigin b with
    | some b' => refuse x.1 x.2 stOK b'
    | none => refuse x.1 x.2 stBAD_VALUE b) b

/-- A stage that still runs, or has not started, at the next boundary (R23): ES135 names it in the order of Table 10.2. -/
def stageOverrun (b : Block) : Block :=
  let c := b.dp.cycle
  let k := min 3 (if b.tb < c.endAt then c.stage - 2 else c.stage - 1)
  let site := if k ≤ 1 then 27 else if k = 2 then 28
    else 18 + (if c.stage = 5 then c.intactPhys else (solverPhys b (solverLu b) 0).getD 8)
  fire 135 (regOf [(0, 3, k)]) (overrun (0x200 + k) (siteLoc site)
    (modDp (fun d => { d with overruns := sat16 d.overruns 1, missed := if d.mode = 0 then b.tb :: d.missed else d.missed }) b))

/-- A DP input resolves; without a candidate it takes its default again (R102, R325). -/
def dpInputResolve (k : Nat) (b : Block) : Block :=
  let w := regOf [(0, 4, 4), (4, 8, k)]
  let b := resolveEng 0 w b
  modTarget (engKey w) (fun t => { t with decided := !(t.settled b.tb).cands.isEmpty }) b

/-- DP_CYCLE_BOUNDARY: fields and inputs resolve, and the cycle opens (R313). -/
def dpCycleBoundary (b : Block) : Block :=
  if b.tb % 2000000 ≠ 0 ∨ !dpOn b ∨ enginesHeld b ∨ b.dp.cycle.b = b.tb ∧ b.dp.cycle.stage ≠ 0 then b else
  let b := if b.dp.cycle.stage = 5 ∧ b.dp.cycle.endAt ≤ b.tb then (let b := abandonGroups b; if b.dp.cycle.stage = 5 then cycleEnd b else b) else b
  let b := (dpFields b).foldl (fun b p => resolveTarget (targetKey 3 p.1 p.2) b) b
  let b := setFusion (fld (dpField b 0x20 0) 0 1) 0 b
  let b := (List.range 28).foldl (fun b s => if snEn b s then slotShow s b else b) b
  let b := (List.range 27).foldl (fun b k => dpInputResolve k b) b
  let b := autoAlign b
  let b := boundaryActs (if b.dp.cycle.stage = 0 then modDp (fun d => { d with satNow := false }) b else b)
  let b := if b.dp.safe = 1 then modDp (fun d => { d with safe := b.tb + 2 }) (deliverSafe b) else b
  let b := enableStep 0 b
  if b.dp.cycle.stage ≠ 0 then stageOverrun b
  else modCycle (fun _ => { b := b.tb, stage := 1, endAt := b.tb }) b

/-! The stages (R313). -/

/-- A stage may start: it is its turn, 100 ticks have passed since the stage before, and no freeze is on. -/
def stageReady (b : Block) (s : Nat) : Bool :=
  dpOn b && !enginesHeld b && b.dp.cycle.stage == s && b.freeze.isNone && decide (b.dp.cycle.endAt + 100 ≤ b.tb)

/-- A stage has run for `dur` ticks on a site. -/
def stageDone (act site dur next : Nat) (b : Block) : Block :=
  instanceEnd act site dur (modCycle (fun c => { c with stage := next, endAt := b.tb + dur }) b)

/-- INTAKE_STAGE. -/
def intakeStage (dur : Nat) (b : Block) : Block :=
  if stageReady b 1 then
    let b := instanceStart 0x200 b
    stageDone 0x200 27 dur 2 (stageWrite 27 Dp.recordWords (intake b.dp.cycle.b) b)
  else b

/-- ESTIMATOR_STAGE: the estimate for the record of this cycle; with the first one the engine leaves NOT_READY (Table 10.1). -/
def estimatorStage (dur : Nat) (b : Block) : Block :=
  if stageReady b 2 then
    let b := instanceStart 0x201 b
    let b := match b.dp.rec1 with
      | some r => stageWrite 27 Dp.estimateWords (estimate r) b
      | none => b
    let b := if b.dp.state = 1 ∧ b.dp.est ≠ 0 then enableStep 1 b else b
    stageDone 0x201 27 dur 3 b
  else b

/-- CONTROL_LAW_STAGE. -/
def controlLawStage (dur : Nat) (b : Block) : Block :=
  if stageReady b 3 then stageDone 0x202 28 dur 4 (stageWrite 28 Dp.demandWords controlLaw (instanceStart 0x202 b)) else b

/-- INTACT_SOLVE: on logical lane 0; the groups enabled now are solved next (R338). -/
def intactSolveStage (dur : Nat) (b : Block) : Block :=
  if stageReady b 4 then
    let b := instanceStart 0x203 b
    let active := b.dp.state == 3
    let b := modCycle (fun c => { c with active := active }) b
    let b := solverRemap b
    let phys := (solverPhys b (solverLu b) 0).getD 8
    let b := if b.dp.state < 2 then b else stageWrite (18 + phys) Dp.solveWords intactSolve b
    let gs := if b.dp.state < 2 then [] else (List.range 32).filter (grpOn b)
    let off := (List.range 32).filter fun g => !grpOn b g
    let b := off.foldl (fun b g => verdictEvent g (dpGrp b g).verdict 0 (modGrp g (fun _ => {}) b)) b
    let b := stageDone 0x203 (18 + phys) dur 5 b
    let b := modCycle (fun c => { c with
      deliver := active, todo := gs, order := gs, runs := [], lu := solverLu b, laneEnd := [], intactDur := dur, intactPhys := phys }) b
    cycleSettle b
  else b

/-- DELIVERY: the candidates of the intact result, no later than 2 000 ticks after the solve (R334). -/
def delivery (b : Block) : Block :=
  if dpOn b && !enginesHeld b && b.dp.cycle.stage == 5 && b.dp.cycle.deliver && b.freeze.isNone && decide (b.dp.cycle.endAt ≤ b.tb) then
    let b := if b.dp.state = 3 then deliver b else b
    cycleSettle (modCycle (fun c => { c with deliver := false }) b)
  else b

/-- Logical lane of a group in this cycle (R338). -/
def groupLane (c : DpCycle) (g : Nat) : Nat := (c.order.findIdx fun x => x == g) % max 1 c.lu

/-- A logical lane may start a solve: it runs none, and 100 ticks have passed since its last one, or since the intact solve (R338). -/
def laneFree (b : Block) (l : Nat) : Bool :=
  let c := b.dp.cycle
  !(c.runs.any fun r => r.lane == l) && decide (max c.endAt (tget 0 c.laneEnd l) + 100 ≤ b.tb)

/-- CONSEQUENCE_SOLVE of a group: the solve starts on its lane and runs for `dur` ticks (R315, R335, R338). -/
def consequenceSolve (g dur : Nat) (b : Block) : Block :=
  let c := b.dp.cycle
  let l := groupLane c g
  let first := c.todo.find? fun x => groupLane c x == l
  if dpOn b && !enginesHeld b && c.stage == 5 && b.freeze.isNone && first == some g && laneFree b l && decide (b.tb < cutoffOf c) then
    match solverPhys b c.lu l with
    | none => b
    | some p => modCycle (fun c => { c with
        todo := c.todo.filter (· != g), laneEnd := tset 0 c.laneEnd l (b.tb + dur)
        runs := c.runs ++ [{ g := g, lane := l, phys := p, stop := b.tb + dur, dur := dur }] }) (instanceStart 0x203 b)
  else b

/-! Taking over (R342). -/

/-- A takeover with the seed record of the DP engine (R342). `shift` converts the sender's ticks to the own timebase. -/
def dpRestore (r : List Byte) (shift : Int) (b : Block) : Block :=
  let flags := w32 (leAt r 8 4)
  if !dpHas b || !bit flags 6 || b.dp.safe != 0 then b else
  let w := fun i => w32 (leAt r i 4)
  let ws := fun (p n : Nat) => (List.range n).map fun i => w (p + 4 * i)
  let tf := ((leAt r 0 8 : Int) + shift).toNat
  let row := fun (i : Nat) => (List.range i).foldl (fun a k => a + (15 - k)) 0
  let pij := fun (i j : Nat) => if i ≤ j then w (76 + 4 * (row i + (j - i))) else w (76 + 4 * (row j + (i - j)))
  let x := (ws 16 15).zipIdx.map fun p => if 6 ≤ p.2 ∧ p.2 < 12 then 0 else p.1
  let sp := ws 568 3
  let b := setOrigin (w 580) (w 584) b
  let b := modDp (fun d => { d with
    x := x, p := (List.range 15).map fun i => (List.range 15).map (pij i)
    tf := tf, drTime := leAt r 12 2, integ := ws 556 3, sp := sp, resumed := true
    resume := some (tf, fld flags 0 2) }) b
  let b := (thrusters b).foldl (fun b n =>
    let pk := leAt r (588 + 2 * n) 2
    let v : Int := if pk < 32768 then pk else (pk : Int) - 65536
    modThr n (fun x => { x with prev := ((fOfInt v).mul (thrStep b n)).v, side := bit (w 636) n }) b) b
  let put := fun (f : Nat) (v : Word) (b : Block) => modTarget (targetKey 3 0x40 f) (fun t => { t with inForce := v }) b
  let b := put 5 (wAt sp 2) (put 4 (wAt sp 1) (put 3 (wAt sp 0) (put 2 (w32 (fld flags 5 1)) (put 1 (w32 (fld flags 4 1)) b))))
  let b := put 0 (w32 (b1 (fld flags 0 2 == 3))) b
  let b := setEst (fld flags 2 2) b
  dpSeedTake (modDp (fun d => { d with fresh := false }) (setDpState (fld flags 0 2) 2 b))

end Sys2Proof.Machine
end

