-- ==== Sys2Proof/Machine/Seed.lean ====
section
/-! DEFINITION. Building a seed at a boundary and restoring one into the engines (R367 to R378). -/

namespace Sys2Proof.Machine

/-! The entries (Table 11.11, R378). -/

def fillTo (n : Nat) (l : List Byte) : List Byte := l.take n ++ List.replicate (n - l.length) 0

/-- ROLE_LEASE. -/
def seedRole (b : Block) : List Byte :=
  leBytes 8 b.ptn.activeSince ++ leBytes 8 (b.ptn.cause + 2 ^ 8 * fld (ptnCfg b) 1 1 + 2 ^ 16 * fld (ptnCfg b) 4 9) ++
    leBytes 8 (b.ptn.ofs.getD 0 % ((2 ^ 64 : Nat) : Int)).toNat

/-- Mode AO or DO: the channel has a place in CHANNEL. -/
def seedsChan (b : Block) (n : Nat) : Bool := chnMode b n == 3 || chnMode b n == 5

/-- CHANNEL. -/
def seedChannel (b : Block) : List Byte :=
  (List.range 192).flatMap fun n => wordBytes (if seedsChan b n then (targetAt b (chnKey n)).inForce else 0)

/-- ALARM. -/
def seedAlarm (b : Block) : List Byte :=
  ((List.range 8).flatMap fun k => wordBytes (wordOfFn fun i => (tget {} b.flt.latches (32 * k + i)).set)) ++
    ((List.range 192).flatMap fun n => leBytes 2 (fld (chanAt b n).latch 4 16)) ++
    (List.range 8).map fun g => BitVec.ofNat 8 (fld (groupAt b g).latch 0 4)

/-- TX_SEQ with COUNT `n`. -/
def seedTxSeq (b : Block) (n : Nat) : List Byte := (List.range n).flatMap fun k => leBytes 2 (tget 0 b.ptn.txSeqs k)

/-- Contexts with SEED_EN = 1, in ascending loop number (R266). -/
def seedLoops (b : Block) : List Nat := (lpeList b).filter fun c => lpeSeedEn b c

/-- The record of a tune slot (R378). VALID is 1 for a slot that is not free. -/
def seedTune (b : Block) (s : Nat) : List Byte :=
  let x := tuneAt b s
  if x.state = 0 then List.replicate 16 0 else
  let pk := fun (w : Word) (step : Num) => leBytes 2 (packVal (num w) f0 step)
  leBytes 1 x.loop ++ leBytes 1 (b1 x.up + 2 * x.rule + 128) ++ leBytes 2 x.tmax ++ wordBytes x.u0 ++ pk x.d (stepI b x.loop) ++
    pk x.deff (stepI b x.loop) ++ pk x.h (stepSp b x.loop) ++ pk x.elim (stepSp b x.loop)

/-- One monitor: 18 words of 64 bits. -/
def seedMonitor (b : Block) (m : Nat) : List Byte :=
  let x : Monitor := tget {} b.prf.mons m
  wordBytes x.min ++ wordBytes x.max ++ leBytes 8 x.count ++ (List.range 64).flatMap fun k => leBytes 2 (tget 0 x.bins k)

/-- The content of an entry kind with COUNT `n`. A fenced group's registers are not carried (Table 15.3). -/
def seedEntry (b : Block) (kind n : Nat) : List Byte :=
  match kind with
  | 0x01 => seedRole b
  | 0x02 => if b.tb < b.saf.scanEnd then b.saf.image else seedSafety b
  | 0x03 => seedChannel b
  | 0x04 => seedAlarm b
  | 0x05 => seedTxSeq b n
  | 0x10 => (seedLoops b).flatMap fun c => lpeRecord b c
  | 0x11 => dpSeedBytes b
  | 0x20 => (List.range 4).flatMap fun s => seedTune b s
  | 0x21 => if isFenced b .monitors then [] else (List.range n).flatMap fun m => seedMonitor b m
  | 0x22 => if isFenced b .counters then [] else (List.range 8).flatMap fun k => leBytes 8 (tget 0 b.prf.cnt k)
  | _ => []

/-- A directory entry as the seed carries it: COUNT 0 for a group that is fenced. -/
def seedDir (b : Block) (e : Nat) : Nat :=
  let w := mapEntry b e
  if (w % 256 = 0x21 ∧ isFenced b .monitors) ∨ (w % 256 = 0x22 ∧ isFenced b .counters) then w % 2 ^ 48 else w

/-- SEED_SEQ after one (R376). -/
def nextSeq (s : Nat) : Nat := if s = 2 ^ 32 - 1 then 1 else s + 1

/-- The seed of the boundary at this tick (R376, Tables 11.9 and 11.10). -/
def buildSeed (handover : Bool) (b : Block) : Seed :=
  let used := ((List.range 16).map (mapEntry b)).takeWhile fun e => e % 256 != 0
  let vt := b.tim.vt
  let head : List Nat :=
    [0x53454544 + 2 ^ 32 + 2 ^ 40 * b.ptn.pos + 2 ^ 41 * b1 handover + 2 ^ 48 * seedWords b, nextSeq b.ptn.capSeq, b.tb,
     (bankCrc b).toNat + 2 ^ 32 * (bankSafCrc b).toNat, clkSec vt + 2 ^ 48 * clkFrac vt, clkNs vt + 2 ^ 32 * b1 b.tim.vtValid, 0, 0]
  let body := used.flatMap fun e => fillTo (8 * (e / 2 ^ 32 % 2 ^ 16)) (seedEntry b (e % 256) (e / 2 ^ 48))
  let bytes := head.flatMap (leBytes 8) ++ ((List.range 16).flatMap fun e => leBytes 8 (seedDir b e)) ++ body
  let crc := crc32 bytes
  seedOf (bytes.take 56 ++ wordBytes crc ++ bytes.drop 60)

/-! Restoring (R366 to R369). -/

/-- A function takes its trip latch from a latch image; one that the module has set since tick `tx` stays (R202). A latch that the image sets
or clears is a trip or a clear of Table 6.7 (DEDUCED, log 148). -/
def restoreFn (e : List Byte) (tx f : Nat) (b : Block) : Block :=
  let x := fnAt b f
  let cause := leAt e (8 + f) 1 % 16
  let src := leAt e (40 + f) 1
  if x.tripped && decide (tx ≤ x.setAt) && decide (0 < x.trips) then b
  else if !bit (w32 (leAt e 0 4)) f then
    modFn f (fun x => { x with cause := cause, src := src }) (if x.tripped then clearFn f b else b)
  else if x.tripped then modFn f (fun x => { x with cause := cause, src := src }) b
  else tripFn f cause src b.tb b

/-- A pair takes its fault latch from a latch image. -/
def restorePair (e : List Byte) (tx p : Nat) (b : Block) : Block :=
  let x := pairAt b p
  let v := leAt e (72 + p) 1
  if x.fault && decide (tx ≤ x.setAt) then b
  else if !bit (w32 (leAt e 4 4)) p then (if x.fault then clearPair p b else b)
  else modPair p (fun x => { x with cause := v % 16, bothSafe := v / 16 % 2 == 1 }) (latchPair p (v % 16) b.tb 0 b)

/-- A port takes its fault latch from a latch image. -/
def restorePort (e : List Byte) (tx n : Nat) (b : Block) : Block :=
  let x := portAt b n
  let v := leAt e (96 + n) 1
  if x.fault && decide (tx ≤ x.setAt) then b
  else if !bit (w32 (leAt e 4 4)) (24 + n) then (if x.fault then clearPort n b else b)
  else modPort n (fun x => { x with cause := v % 16, bothSafe := v / 16 % 2 == 1 }) (latchPort n (v % 16) b.tb 0 b)

/-- The latch image replaces the latches (R202). Every state except RUN holds every trip latch set (R206). -/
def restoreSafety (e : List Byte) (tx : Nat) (b : Block) : Block :=
  let b := if b.saf.engine = 2 then (List.range 32).foldl (fun b f => restoreFn e tx f b) b else b
  let b := (List.range 24).foldl (fun b p => restorePair e tx p b) b
  (List.range 4).foldl (fun b n => restorePort e tx n b) b

/-- A value comes into force without a candidate or an order. -/
def forceValue (k : Nat) (v : Word) (b : Block) : Block := modTarget k (fun t => { t with inForce := v, decided := true }) b

/-- The channel commands (R369). -/
def restoreChannel (e : List Byte) (b : Block) : Block :=
  (List.range 192).foldl (fun b n => if seedsChan b n then forceValue (chnKey n) (w32 (leAt e (4 * n) 4)) b else b) b

/-- The alarm latch image replaces the event source and channel latches (R369); the bits it sets are set by the module at this tick (R16). -/
def restoreAlarm (e : List Byte) (b : Block) : Block :=
  let latches := (List.range 256).foldl (fun t s => tset {} t s { set := bit (w32 (leAt e (s / 8) 1)) (s % 8), repeats := 0 }) b.flt.latches
  let b := { b with flt := { b.flt with latches := latches } }
  let b := (List.range 192).foldl (fun b n =>
    let w := w32 (leAt e (32 + 2 * n) 2 * 16)
    markSet (0x31014 + 0x20 * n) w (modChan n (fun c => { c with latch := w }) b)) b
  (List.range 8).foldl (fun b g =>
    let w := w32 (leAt e (416 + g) 1 % 16)
    markSet (0x3010C + 0x10 * g) w (modGroup g (fun x => { x with latch := w }) b)) b

/-- The sequence counters jump ahead (R370). -/
def restoreTxSeq (e : List Byte) (n : Nat) (b : Block) : Block :=
  let t := (List.range n).foldl (fun t k => tset 0 t k ((leAt e (2 * k) 2 + seqJump b) % 65536)) b.ptn.txSeqs
  modPtn (fun p => { p with txSeqs := t }) b

/-- The class 1 entries of a seed. Without a TX_SEQ entry the sequence counters start at 0 (R370). -/
def restoreClass1 (s : Seed) (tx : Nat) (b : Block) : Block :=
  let use := fun (kind : Nat) (f : List Byte → Nat → Block → Block) (b : Block) =>
    match s.entry kind with
    | some (e, n) => f e n b
    | none => b
  use 5 restoreTxSeq (use 4 (fun e _ => restoreAlarm e) (use 3 (fun e _ => restoreChannel e)
    (use 2 (fun e _ => restoreSafety e tx) (modPtn (fun p => { p with txSeqs := [] }) b))))

/-- A loop in TUNE without its tune record leaves TUNE by tracking; u0 is lost, so its output starts from the value in force (R264, R269;
DEDUCED, log 152). -/
def leaveTune (c : Nat) (b : Block) : Block := modCtx c (fun x => { x with track := true }) b

/-- A tune slot fails with TAKEOVER for a loop (R269). -/
def takeoverTune (s c : Nat) (b : Block) : Block := setSlotState s 3 6 (modSlot s (fun _ => { loop := c }) b)

/-- The record of a tune slot: its relay resumes with u0, d and r, and every measured cycle discarded (R269). -/
def resumeTune (s : Nat) (e : List Byte) (b : Block) : Block :=
  let c := leAt e 0 1
  let f := leAt e 1 1
  let un := fun (p : Nat) (step : Num) => (unpackVal (leAt e p 2) f0 step).v
  setSlotState s 1 0 (modSlot s (fun _ => {
    loop := c, rule := f / 2 % 4, d := un 8 (stepI b c), deff := un 10 (stepI b c), h := un 12 (stepSp b c), elim := un 14 (stepSp b c)
    tmax := leAt e 2 2, startAt := b.tb, begun := true, u0 := w32 (leAt e 4 4), up := f % 2 == 1 }) b)

/-- The tune slots of a seed: `tuning` are the loops whose records show TUNING. A loop without its tune record takes a free slot, which
fails with TAKEOVER. -/
def restoreTunes (e : List Byte) (tuning : List Nat) (b : Block) : Block :=
  let rec' := fun (s : Nat) => (e.drop (16 * s)).take 16
  let valid := (List.range 4).filter fun s => leAt (rec' s) 1 1 / 128 == 1
  let b := valid.foldl (fun b s =>
    if tuning.contains (leAt (rec' s) 0 1) then resumeTune s (rec' s) b else takeoverTune s (leAt (rec' s) 0 1) b) b
  let covered := valid.map fun s => leAt (rec' s) 0 1
  (tuning.filter fun c => !covered.contains c).foldl (fun b c =>
    let b := leaveTune c b
    match (List.range 4).find? fun s => (tuneAt b s).state == 0 with
    | some s => takeoverTune s c b
    | none => b) b

/-- Every tune slot that the seed shows in use fails with TAKEOVER (R367). -/
def failTunes (e : List Byte) (b : Block) : Block :=
  (List.range 4).foldl (fun b s =>
    if leAt e (16 * s + 1) 1 / 128 = 1 then takeoverTune s (leAt e (16 * s) 1) b else b) b

def monitorOf (e : List Byte) (old : Monitor) : Monitor :=
  let bins := (List.range 64).foldl (fun t k => tset 0 t k (leAt e (16 + 2 * k) 2)) []
  { min := w32 (leAt e 0 4), max := w32 (leAt e 4 4), count := leAt e 8 8, invalid := old.invalid, bins := bins }

/-- Monitors and counters of a seed. -/
def restoreStats (s : Seed) (b : Block) : Block :=
  let b := match s.entry 0x21 with
    | some (e, n) => if isFenced b .monitors then b else
        let put := fun (t : Tab Monitor) (m : Nat) => tset {} t m (monitorOf (e.drop (144 * m)) (tget {} t m))
        modPrf (fun p => { p with mons := (List.range n).foldl put p.mons }) b
    | none => b
  match s.entry 0x22 with
  | some (e, n) => if isFenced b .counters then b else
      modPrf (fun p => { p with cnt := (List.range n).foldl (fun t k => tset 0 t k (leAt e (8 * k) 8)) p.cnt }) b
  | none => b

/-- Monitors and counters start from 0 (R367). -/
def clearStats (b : Block) : Block :=
  let b := if isFenced b .monitors then b else modPrf (fun p => { p with mons := [] }) b
  if isFenced b .counters then b else modPrf (fun p => { p with cnt := [] }) b

/-- Loop records of a seed, by loop. -/
def loopRecord (s : Seed) (b : Block) (c : Nat) : Option (List Byte) :=
  match s.entry 0x10 with
  | none => none
  | some (e, _) => ((seedLoops b).findIdx? fun x => x == c).map fun i => (e.drop (12 * i)).take 12

/-- The class 2 and 3 entries of a seed (R268, R269, R342, R367). `shift` converts its ticks to the own timebase. -/
def restoreClass23 (s : Seed) (shift : Int) (b : Block) : Block :=
  let records := (lpeList b).map fun c => (c, loopRecord s b c)
  let b := records.foldl (fun b r => lpeRestore r.1 r.2 b) b
  let b := match s.entry 0x11 with
    | some (e, _) => dpRestore e shift b
    | none => b
  let tuning := (records.filter fun r => match r.2 with
    | some l => bit (w32 (leAt l 0 2)) 5 && bit (w32 (leAt l 0 2)) 2
    | none => false).map (·.1)
  restoreStats s (restoreTunes (match s.entry 0x20 with
    | some (e, _) => e
    | none => []) tuning b)

/-- Without class 2 and 3 entries: loops soft-start, tunes fail, monitors and counters start from 0 (R367). -/
def restoreNone23 (s : Option Seed) (b : Block) : Block :=
  let b := (lpeList b).foldl (fun b c => lpeRestore c none b) b
  let b := match s.bind (fun x => x.entry 0x20) with
    | some (e, _) => failTunes e b
    | none => b
  clearStats b

/-- Host orders and engine candidates of an earlier time as Active do not count: fields and inputs that only engines write have none. -/
def clearEngTargets (b : Block) : Block :=
  modRng (fun g => { g with targets := g.targets.filter fun p => decide (p.1 < 2 ^ 36) }) b

/-- The state without a usable seed: every target takes its initial value, and the transmit objects of engines are silent (R103, R368). -/
def restoreNoSeed (b : Block) : Block :=
  let b := initTargets b
  let b := (List.range 192).foldl (fun b n => if seedsChan b n then forceValue (chnKey n) (if chnMode b n = 3 then chnS b n else 0) b else b) b
  let b := (List.range 2048).foldl (fun b o => if objEn b o && objTx b o && objMode b o == 1 then modObj o (fun x => { x with hush := true }) b else b) b
  restoreNone23 none b

/-- A takeover at `tx` resumes from a usable seed, or starts without one (R366 to R369). The latches and the channel commands count
whatever the age; the rest only within CONT_AGE. -/
def restoreTakeover (tx : Nat) (h : Option HeldSeed) (b : Block) : Block :=
  let b := clearEngTargets b
  match h with
  | none => restoreNoSeed (modPtn (fun p => { p with txSeqs := [] }) b)
  | some h =>
    let b := restoreClass1 h.seed tx (modPtn (fun p => { p with txSeqs := [] }) b)
    let age : Int := (tx : Int) - ((h.seed.tick : Int) - h.ofs)
    if age ≤ (contAge b : Int) then restoreClass23 h.seed (-h.ofs) b else restoreNone23 (some h.seed) b

end Sys2Proof.Machine
end

