-- ==== Sys2Proof/Machine/PtnMsg.lean ====
section
/-! DEFINITION. Partner messages: composing and sending one, and taking up a header (R350 to R354). -/

namespace Sys2Proof.Machine

def modPlink (k : Nat) (f : PLink → PLink) (b : Block) : Block :=
  modPtn (fun p => if k = 0 then { p with k0 := f p.k0 } else { p with k1 := f p.k1 }) b

/-- A planned handover is announced: from B on, by the Active module; by the Standby once it has restored the seed; by the former Active
module in lease mode until its partner reports Active (R371, R372). -/
def handoverFlag (b : Block) : Bool :=
  (match b.ptn.handover with
    | some h => decide (h.b ≤ b.tb)
    | none => false) ||
  (match b.ptn.handoverIn with
    | some h => h.restored
    | none => false) || b.ptn.handedOver.isSome

/-- FLAGS without GRANT and DEPART (Table 11.2). -/
def msgFlags (b : Block) : Nat :=
  (regOf [(0, 2, b.ptn.role), (2, 1, b.ptn.pos), (5, 1, b1 b.ptn.sole), (6, 1, b1 (overlapMode b)), (7, 1, b1 (handoverFlag b))]).toNat

/-- LINK_SEQ of the next message (R351). -/
def nextLinkSeq (l : PLink) : Nat := nextSeq l.txSeq

/-- A message on a link: header, payload and CRC (Table 11.2). -/
def msgBytes (b : Block) (k type flags : Nat) (payload : List Byte) : List Byte :=
  let l := plink b k
  let turn := match l.rxTick with
    | some r => min (2 ^ 32 - 1) (b.tb - r)
    | none => 0
  let seed := if b.ptn.role = 0 then b.ptn.lastCap else match b.ptn.held with
    | some h => h.seed.seq
    | none => 0
  let m := leBytes 1 type ++ leBytes 1 flags ++ leBytes 2 payload.length ++ leBytes 4 (nextLinkSeq l) ++ leBytes 4 l.rxSeq ++
    leBytes 4 turn ++ leBytes 8 b.tb ++ wordBytes (bankCrc b) ++ leBytes 4 seed ++ payload
  m ++ wordBytes (crc32 m)

/-- Send a message on a link that carries messages. -/
def sendMsg (k type flags : Nat) (payload : List Byte) (b : Block) : Block :=
  if !plinkUp b k then b else
  let m := msgBytes b k type flags payload
  emit (.partner k m) (modPlink k (fun l => { l with
    txSeq := nextLinkSeq l, sent := (nextLinkSeq l, b.tb) :: l.sent }) b)

/-- ES209 of a link. -/
def linkEvent (k : Nat) (b : Block) : Block :=
  let l := plink b k
  fire 209 (regOf [(0, 1, k), (1, 1, b1 l.live), (2, 1, b1 (plinkUp b k))]) b

/-- A received message whose CRC and LENGTH are right and whose TYPE is known (R351). -/
def msgOk (m : List Byte) : Bool :=
  decide (36 ≤ m.length) && leAt m 2 2 + 36 == m.length && decide (1 ≤ leAt m 0 1 ∧ leAt m 0 1 ≤ 3) &&
    w32 (leAt m (m.length - 4) 4) == crc32 (m.take (m.length - 4)) &&
    (leAt m 0 1 != 1 || leAt m 2 2 == 16) && (leAt m 0 1 != 3 || leAt m 2 2 == 32)

/-- The values of OFS that have been in force within the last 1 s: those set since, and the one before them (R354). -/
def ofsRecent (b : Block) : List (Nat × Int) :=
  let new := fun (x : Nat × Int) => decide (b.tb < x.1 + 100000000)
  b.ptn.ofsLog.takeWhile new ++ (b.ptn.ofsLog.dropWhile new).take 1

/-- OFS takes a value: RATE when it has changed by more than 20 000 ticks within 1 s (R353, R354). -/
def setOfs (v : Int) (b : Block) : Block :=
  let log := ofsRecent b
  let fast := log.any fun x => decide (20000 < (x.2 - v).natAbs)
  let newly := fast && !b.ptn.rate
  fireIf newly 217 0 (modPtn (fun p => { p with ofs := some v, ofsLog := (b.tb, v) :: log, rate := p.rate || fast }) b)

/-- The echo of a message: rtt, OFS and the latest own message that has come back (R352, R353). -/
def takeEcho (k : Nat) (m : List Byte) (b : Block) : Block :=
  match (plink b k).sent.find? fun x => x.1 == leAt m 8 4 with
  | none => b
  | some (_, s) =>
    let rtt := b.tb - s - leAt m 12 4
    let b := modPlink k (fun l => { l with rtt := rtt, echo := some (max s (l.echo.getD 0)) }) b
    if rtt ≤ 20000 then setOfs ((leAt m 16 8 : Int) + (rtt / 2 : Nat) - b.tb) b else b

/-- A link becomes live (R352). -/
def gainLive (k : Nat) (b : Block) : Block :=
  if (plink b k).live || !plinkLive b k then b else
  linkEvent k (modPtn (fun p => { p with heard := true, heardOnce := true, heardSinceReady := p.heardSinceReady || b.glb.ready })
    (modPlink k (fun l => { l with live := true }) b))

/-- What the newest message shows of the partner, and a pairing mismatch (R349, R352, R356, R386). -/
def takePartner (m : List Byte) (b : Block) : Block :=
  let f := w32 (leAt m 1 1)
  let role := fld f 0 2
  let was := b.ptn.partnerKnown && b.ptn.partner.role == 0
  let b := modPtn (fun p => { p with
    partnerKnown := true
    partner := { p.partner with
      role := role, pos := fld f 2 1, sole := bit f 5, mode := fld f 6 1, handover := bit f 7, departed := bit f 4
      bankCrc := w32 (leAt m 24 4), seedSeq := leAt m 28 4
      activeSince := if leAt m 0 1 = 1 then leAt m 32 8 else p.partner.activeSince
      hTick := if leAt m 0 1 = 1 then leAt m 40 8 else p.partner.hTick
      soleAsActive := if role = 0 then some (bit f 5) else p.partner.soleAsActive
      wasActive := if role = 2 then p.partner.wasActive else role == 0 } }) b
  let b := if role = 0 ∧ was = false ∧ b.ptn.role ≠ 0 then modPtn (fun p => { p with held := none, anySeq := true }) b else b
  let b := if role = 0 then modPtn (fun p => { p with handedOver := none }) b else b
  let clash := fld f 2 1 == b.ptn.pos
  let differs := w32 (leAt m 24 4) != bankCrc b
  let newly := (clash && !b.ptn.posClash) || (differs && !b.ptn.bankDiffers)
  fireIf newly 215 (regOf [(0, 1, b1 differs), (1, 1, b1 clash)])
    (modPtn (fun p => { p with posClash := clash, bankDiffers := differs }) b)

/-- A valid message's header is taken up. -/
def takeHeader (k : Nat) (m : List Byte) (b : Block) : Block :=
  let b := modPlink k (fun l => { l with rxSeq := leAt m 4 4, rxTick := some b.tb }) b
  gainLive k (takePartner m (takeEcho k m b))

/-- A message that the receiver discards is counted (R351). -/
def countErr (k : Nat) (b : Block) : Block := modPlink k (fun l => { l with errs := sat16 l.errs 1 }) b

end Sys2Proof.Machine
end

