-- ==== Sys2Proof/Machine/Ptn.lean ====
section
/-! DEFINITION. Roles, the lease, takeover and planned handover (R348 to R385). -/

namespace Sys2Proof.Machine

/-! Becoming Active (R355, R358, R366). -/

/-- The module may become Active: it is ready, a bank is in force, and it is not in Ride-through or on its way off (R355, R536). -/
def mayActivate (b : Block) : Bool := b.glb.ready && b.glb.active && decide (b.sec.power < 2) && b.sec.downAt.isNone

/-- The held seed, when it can be used (R368). -/
def usableSeed (b : Block) : Option HeldSeed :=
  b.ptn.held.filter fun h => decide (h.ofs ≤ (h.seed.tick : Int)) && h.seed.crc == bankCrc b

/-- The module becomes Active by a cause other than HANDOVER: the takeover begins (R357, R366). -/
def becomeActive (cause : Nat) (b : Block) : Block :=
  let h := usableSeed b
  let b := modPtn (fun p => { p with
    held := none, handoverIn := none, handedOver := none, takeover := some (b.tb, h), takeovers := sat8 p.takeovers 1
    capSeq := match h with
      | some h => h.seed.seq
      | none => 0 }) b
  let b := setRole 0 cause b
  if cause = 4 ∨ cause = 6 ∨ cause = 7 ∨ cause = 8 then modPtn (fun p => { p with sole := true }) b else b

/-- SEED_RESTORE_COMPLETE: the seed is in the engines (Table 11.7 step 2). -/
def seedRestoreComplete (b : Block) : Block :=
  match b.ptn.takeover with
  | none => b
  | some (tx, h) => modPtn (fun p => { p with takeover := none }) (restoreTakeover tx h b)

/-- The bank in force gives the module no partner: its role logic behaves as if the partner links were permanently silent (R3, R348). -/
def noPartner (b : Block) : Bool := b.glb.active && !paired b

/-! Transitions of Table 11.4 whose conditions stand (judged at every change). -/

/-- The partner is heard reporting a role. -/
def heardRole (b : Block) (r : Nat) : Bool := partnerRole b == some r

/-- Both modules are Standby and heard, and this one has position 0 without a clash. -/
def electable (b : Block) : Bool :=
  paired b && b.ptn.role == 1 && heardRole b 1 && b.ptn.pos == 0 && !b.ptn.posClash && b.ptn.handoverIn.isNone && b.ptn.handedOver.isNone &&
    !b.ptn.partner.handover

/-- Conditions of Table 11.4 that need no message: UNPAIRED, ELECTION in overlap mode, SILENCE, DEPART and REJOIN. -/
def ptnReconsider (b : Block) : Block :=
  let p := b.ptn
  if !b.glb.ready then b
  else if p.role = 2 ∧ (p.cause = 9 ∨ p.cause = 10 ∨ p.cause = 12) ∧ (heardRole b 0 || heardRole b 1) ∧ b.glb.active then setRole 1 13 b
  else if p.role ≠ 1 ∨ !mayActivate b then b
  else if !paired b then becomeActive 8 b
  else if p.partner.departed && p.partner.wasActive && p.partnerKnown then becomeActive 4 b
  else if overlapMode b && electable b then becomeActive 1 b
  else if overlapMode b && !p.heard && p.heardOnce && p.partner.soleAsActive == some false && p.handoverIn.isNone then becomeActive 3 b
  else b

/-- SOLE of an Active module follows what its partner shows (R357). `grant` says that the message is a ROLE message with GRANT = 1. -/
def soleStep (grant : Bool) (b : Block) : Block :=
  if b.ptn.role ≠ 0 then b
  else if b.ptn.partner.departed || heardRole b 2 then modPtn (fun p => { p with sole := true }) b
  else if heardRole b 1 && (overlapMode b || grant) then modPtn (fun p => { p with sole := false }) b
  else b

/-- GRANT in a ROLE message that answers an own message: the election in lease mode, and E_A (R361, R362). -/
def grantStep (k : Nat) (m : List Byte) (b : Block) : Block :=
  if overlapMode b || !paired b then b else
  match (plink b k).sent.find? fun x => x.1 == leAt m 8 4 with
  | none => b
  | some (_, s) =>
    let b := if electable b && mayActivate b then becomeActive 1 b else b
    if b.ptn.role = 0 then modPtn (fun p => { p with eA := some (max (p.eA.getD 0) (s + leaseL b)) }) b else b

/-- The overlap window of a confirmed handover opens at H; the partner, whose translation of H is its own, may be in it already (R359, R373). -/
def windowNears (b : Block) : Bool :=
  overlapMode b && b.ptn.handover.any fun h => h.confirmed && decide (h.h ≤ b.tb + 1000)

/-- The dual-active resolution (R359). -/
def dualStep (b : Block) : Block :=
  if !(b.ptn.role == 0 && heardRole b 0) then modPtn (fun p => { p with dual := false }) b
  else if b.ptn.dual || b.ptn.overlap.isSome || b.ptn.partner.handover || windowNears b then b
  else
    match b.ptn.ofs with
    | none => b
    | some ofs =>
      let theirs : Int := (b.ptn.partner.activeSince : Int) - ofs
      let d : Int := (b.ptn.activeSince : Int) - theirs
      let down := if d.natAbs ≤ 1000 then b.ptn.pos == 1 else decide (0 < d)
      let b := fire 214 (regOf [(0, 1, b1 down)]) (modPtn (fun p => { p with dual := true }) b)
      if down then setRole 2 12 b else b

/-! Planned handover (R371 to R373). -/

/-- Channel values of a seed, as its CHANNEL entry holds them. -/
def seedVals (s : Seed) : Tab Word :=
  match s.entry 3 with
  | some (e, _) => (List.range 192).foldl (fun t n => tset 0 t n (w32 (leAt e (4 * n) 4))) []
  | none => []

/-- The Standby becomes Active: the handover seed comes into the loop and DP engines (R372, R373). -/
def handoverTake (b : Block) : Block :=
  match b.ptn.handoverIn, b.ptn.held with
  | some h, some s =>
    if b.ptn.role ≠ 1 ∨ !h.restored ∨ b.tb < h.h ∨ !mayActivate b ∨ (!overlapMode b ∧ !h.go) then b else
    let w := overlapW b
    let win := overlapMode b
    let b := modPtn (fun p => { p with handoverIn := none, held := none, capSeq := s.seed.seq }) b
    let b := setRole 0 5 (clearEngTargets b)
    let b := restoreClass23 s.seed (-s.ofs) b
    if win then
      modChn (fun c => { c with listenEnd := h.h + w })
        (modPtn (fun p => { p with overlap := some { start := h.h, stop := h.h + w, former := false, vals := seedVals s.seed } }) b)
    else modPtn (fun p => { p with handovers := sat8 p.handovers 1 }) b
  | _, _ => b

/-- What a ROLE message says of a planned handover: the Standby learns of it, of its end, or of the exchange (R371, R372); the Active module
of its confirmation. -/
def handoverStep (b : Block) : Block :=
  let q := b.ptn.partner
  if b.ptn.role = 1 then
    let b :=
      if q.role = 0 ∧ q.handover ∧ q.hTick ≠ 0 then
        match b.ptn.handoverIn, b.ptn.ofs with
        | none, some ofs => modPtn (fun p => { p with handoverIn := some { h := ((q.hTick : Int) - ofs).toNat } }) b
        | _, _ => b
      else if q.role = 0 then modPtn (fun p => { p with handoverIn := none }) b
      else if q.role = 1 ∧ q.handover then
        modPtn (fun p => { p with handoverIn := p.handoverIn.map fun h => { h with go := true } }) b
      else b
    handoverTake (updatePower b)
  else
    match b.ptn.handover with
    | some h =>
      if h.captured ∧ heardRole b 1 ∧ q.handover ∧ q.seedSeq = h.seedSeq then
        modPtn (fun p => { p with handover := some { h with confirmed := true } }) b
      else b
    | none => b

/-- The rules that follow a valid message's header. -/
def afterHeader (k : Nat) (m : List Byte) (b : Block) : Block :=
  let grant := leAt m 0 1 == 1 && bit (w32 (leAt m 1 1)) 3
  let b := soleStep grant b
  let b := if grant then grantStep k m b else b
  ptnReconsider b

/-- ROLE_RECEIVE: a message on a partner link with TYPE ROLE (R352 to R363, R371, R372). One that R351 discards is counted. -/
def roleReceive (k : Nat) (m : List Byte) (b : Block) : Block :=
  if 2 ≤ k ∨ !plinkUp b k ∨ noPartner b then b
  else if !msgOk m then countErr k b
  else if leAt m 0 1 ≠ 1 then b
  else listenStop (dualStep (handoverStep (afterHeader k m (takeHeader k m b))))

/-- Reason of ES211 for a seed; none when it passes, 0 for a duplicate (R380). -/
def seedRefusal (b : Block) (s : Seed) (bytes : Nat) : Option Nat :=
  let d := match b.ptn.held with
    | some h => (s.seq + 2 ^ 32 - h.seed.seq) % 2 ^ 32
    | none => 1
  if s.w 0 % 2 ^ 40 ≠ 0x53454544 + 2 ^ 32 then some 2
  else if w32 (s.w 7) ≠ s.goodCrc then some 3
  else if s.used ≠ seedWords b ∨ bytes ≠ 8 * s.used then some 4
  else if s.crc ≠ bankCrc b ∨ !b.glb.active then some 5
  else if b.ptn.anySeq || b.ptn.held.isNone then none
  else if d = 0 then some 0
  else if 2 ^ 31 ≤ d then some 6
  else none

/-- A seed is rejected: counted, ES211. -/
def rejectSeed (k reason : Nat) (b : Block) : Block :=
  fire 211 (regOf [(0, 4, reason), (4, 1, k)]) (modPtn (fun p => { p with rejected := sat8 p.rejected 1 }) b)

/-- SEED_RECEIVE: a message on a partner link with TYPE SEED (R380, R381). -/
def seedReceive (k : Nat) (m : List Byte) (b : Block) : Block :=
  if 2 ≤ k ∨ !plinkUp b k ∨ noPartner b then b
  else if !msgOk m then
    let b := countErr k b
    if leAt m 0 1 = 2 ∧ b.ptn.role ≠ 0 then rejectSeed k 1 b else b
  else if leAt m 0 1 ≠ 2 then b
  else
    let b := afterHeader k m (takeHeader k m b)
    if b.ptn.role = 0 then b else
    let body := (m.drop 32).take (m.length - 36)
    let s := seedOf body
    match seedRefusal b s body.length with
    | some 0 => b
    | some r => rejectSeed k r b
    | none => dropOldSeeds (modPtn (fun p => { p with held := some { seed := s, ofs := p.ofs.getD 0 }, anySeq := false }) b)

/-- PARTNER_USL_RECEIVE: a message with TYPE USL hands its frame to the connection of its partner channel (R350). The header is the role
logic's, which an unpaired module's messages do not reach (R3). -/
def partnerUslReceive (k : Nat) (m : List Byte) (b : Block) : Block :=
  if 2 ≤ k ∨ !plinkUp b k then b
  else if !msgOk m then countErr k b
  else if leAt m 0 1 ≠ 3 then b
  else
    let b := if noPartner b then b else afterHeader k m (takeHeader k m b)
    match connOf b 3 0 (leAt m 32 1) false with
    | some c => uslReceive c ((m.drop 36).take 28) b
    | none => b

/-! Sending (R350, R356, R361). -/

/-- GRANT of a ROLE message on a link at this tick (R361). -/
def grants (b : Block) (k : Nat) : Bool :=
  b.ptn.role == 1 && paired b && !overlapMode b && plinkLive b k &&
    (heardRole b 0 || (heardRole b 1 && b.ptn.partner.pos == 0 && b.ptn.pos == 1))

/-- FLAGS of a ROLE message on a link, GRANT among them (Table 11.2). -/
def roleFlags (b : Block) (k : Nat) : Nat := msgFlags b + 8 * b1 (grants b k)

/-- FLAGS have changed since the last ROLE message on a link (Table 11.1). -/
def flagsChanged (b : Block) (k : Nat) : Bool := plinkUp b k && (plink b k).flags != some (roleFlags b k)

/-- ACTIVE_SINCE and H_TICK (Table 11.3). -/
def rolePayload (b : Block) : List Byte :=
  let h := match b.ptn.handover with
    | some h => if h.b ≤ b.tb then h.h else 0
    | none => 0
  leBytes 8 (if b.ptn.role = 0 then b.ptn.activeSince else 0) ++ leBytes 8 h

/-- One ROLE message on a link. -/
def sendRole (k : Nat) (b : Block) : Block :=
  if !plinkUp b k then b else
  let g := grants b k
  let flags := roleFlags b k
  let b := sendMsg k 1 flags (rolePayload b) b
  let b := modPlink k (fun l => { l with flags := some flags }) b
  modPtn (fun p => { p with
    granting := g
    grantsSent := p.grantsSent + b1 g
    eS := if g then max p.eS (b.tb + leaseL b) else p.eS }) b

/-- ROLE_SEND: at a multiple of 500 000 ticks, or on the links whose FLAGS have changed (R350); the former Active module of a lease handover waits 1 000
ticks (R372). -/
def roleSend (b : Block) : Block :=
  let due := fun (k : Nat) => b.tb % 500000 == 0 || flagsChanged b k
  let waits := match b.ptn.handedOver with
    | some t => decide (b.tb < t + 1000)
    | none => false
  if !b.glb.ready ∨ !paired b ∨ b.sec.power = 3 ∨ waits = true then b else
  let c := if due 0 then sendRole 0 b else b
  if due 1 then sendRole 1 c else c

/-- DEPART_SEND: one of the three DEPART messages on each link (R356). -/
def departSend (b : Block) : Block :=
  if b.ptn.departLeft = 0 ∨ b.tb < b.ptn.departAt ∨ !paired b then b else
  let one := fun (k : Nat) (b : Block) => sendMsg k 1 (msgFlags b + 16) (rolePayload b) b
  modPtn (fun p => { p with departLeft := p.departLeft - 1, departAt := b.tb + 10000 }) (one 1 (one 0 b))

/-! Losing the partner, the lease (R352, R362, R363, R365). -/

/-- The partner is no longer heard: a handover ends, and in overlap mode an Active module without SOLE steps down (R365, R372). -/
def heardLost (b : Block) : Block :=
  let b := modPtn (fun p => { p with heard := false, silentFrom := b.tb, handoverIn := none, dual := false }) b
  let b := updatePower (cancelHandover 3 b)
  let b := if b.ptn.role = 0 ∧ paired b ∧ overlapMode b ∧ !b.ptn.sole then setRole 2 10 b else b
  ptnReconsider b

/-- LIVENESS_LOSS: a link stops being live (R352). -/
def livenessLoss (k : Nat) (b : Block) : Block :=
  if 2 ≤ k ∨ !(plink b k).live ∨ plinkLive b k then b else
  let b := linkEvent k (modPlink k (fun l => { l with live := false }) b)
  if b.ptn.k0.live || b.ptn.k1.live then b else heardLost b

/-- A link of a module whose bank no longer gives it a partner is silent from now on (R3, R352). -/
def plinkSilent (k : Nat) (b : Block) : Block :=
  let was := (plink b k).live
  let b := modPlink k (fun l => { l with live := false, rxTick := none, echo := none, sent := [] }) b
  if was then linkEvent k b else b

/-- A bank without a partner comes into force: what the role logic knew of the partner is gone, and an Active module holds its role with SOLE
set (R3, R348). -/
def partnerBank (b : Block) : Block :=
  if !noPartner b then b else
  let was := b.ptn.heard
  let b := cancelHandover 3 (plinkSilent 1 (plinkSilent 0 b))
  updatePower (modPtn (fun p => { p with
    heard := false, silentFrom := if was then b.tb else p.silentFrom, partner := {}, partnerKnown := false, posClash := false
    bankDiffers := false, dual := false, handoverIn := none, handedOver := none, sole := p.sole || p.role == 0 }) b)

/-- LEASE_FENCE: at E_A - G an Active module without SOLE isolates itself (R362). -/
def leaseFence (b : Block) : Block :=
  match b.ptn.eA with
  | some e => if b.ptn.role = 0 ∧ paired b ∧ !overlapMode b ∧ !b.ptn.sole ∧ e ≤ b.tb + 500000 then setRole 2 9 b else b
  | none => b

/-- LEASE_EXPIRY (R363). -/
def leaseExpiry (b : Block) : Block :=
  let p := b.ptn
  if p.role = 1 ∧ paired b ∧ !overlapMode b ∧ p.eS ≤ b.tb ∧ !heardRole b 0 ∧ p.partner.soleAsActive = some false ∧ 0 < p.grantsSent ∧
      mayActivate b then becomeActive 2 b else b

/-- TAKE (R358). -/
def ptnTake (b : Block) : Block :=
  let p := b.ptn
  if p.role = 1 ∧ mayActivate b ∧ !p.heard ∧ p.silentFrom + silentT b ≤ b.tb ∧ (overlapMode b ∨ p.eS < b.tb) then becomeActive 6 b else b

/-- CLR_ERRS. -/
def ptnClrErrs (b : Block) : Block := modPlink 1 (fun l => { l with errs := 0 }) (modPlink 0 (fun l => { l with errs := 0 }) b)

/-- START_ALONE (R358). -/
def ptnStartAlone (b : Block) : Block :=
  let p := b.ptn
  if p.role = 1 ∧ mayActivate b ∧ paired b ∧ startAlone b ∧ !p.heardSinceReady ∧ p.readyTick + 2 * silentT b ≤ b.tb then becomeActive 7 b else b

/-- DRILL_DUE: at DRILL_DUE days since Active, and every day after (R384). -/
def drillEvent (b : Block) : Block :=
  let d := drillDue b
  let days := (b.tb - b.ptn.ageFrom) / dayT
  if b.glb.ready ∧ b.ptn.role = 1 ∧ d ≠ 0 ∧ d + b.ptn.drillDone ≤ days then
    fire 213 (regOf [(0, 16, min 65535 days)]) (modPtn (fun p => { p with drillDone := p.drillDone + 1 }) b)
  else b

/-- PARTNER_LINK_CHANGE: a link trains or drops (R351). -/
def partnerLinkChange (k : Nat) (up : Bool) (b : Block) : Block :=
  if 2 ≤ k ∨ (plink b k).up == up then b else
  let b := modPlink k (fun l => if up then { l with up := true, txSeq := 0, rxSeq := 0, sent := [], flags := none } else { l with up := false }) b
  if isFenced b (.partner k) then b else linkEvent k b

/-! A planned handover, continued (R371 to R373). -/

/-- HANDOVER: the write that starts a planned handover; false where it is refused with BAD_VALUE (R371, R536). -/
def handoverOk (v : Word) (b : Block) : Bool :=
  v == 1 && b.ptn.role == 0 && paired b && !b.ptn.sole && heardRole b 1 && b.ptn.partner.bankCrc == bankCrc b && b.ptn.handover.isNone &&
    b.sec.power != 2

/-- The handover is accepted for a ring's descriptor. -/
def handoverAccept (ring idx : Nat) (b : Block) : Block :=
  let bd := nextMultiple 1000000 (b.tb + 1000000)
  fire 212 (regOf [(0, 2, 1)]) (modPtn (fun p => { p with handover := some { b := bd, h := bd + 500000, ring := ring, idx := idx } }) b)

/-- HANDOVER_BOUNDARY: at B the seed is the handover seed, and the loop and DP engines stop when the freeze ends (R371). -/
def handoverBoundary (b : Block) : Block :=
  match b.ptn.handover with
  | none => b
  | some h =>
    if b.tb ≠ h.b ∨ h.captured then b else
    let b := modPtn (fun p => { p with handover := some { h with captured := true, seedSeq := nextSeq p.capSeq } }) b
    let b := modLpe (fun l => { l with ctxs := tmap {} (fun x => { x with ready := none }) l.ctxs }) b
    modDp (fun d => { d with cycle := {} }) b

/-- HANDOVER_RESTORE: the Standby has the handover seed; its latches, channel commands and sequence counters come into force (R371). -/
def handoverRestore (b : Block) : Block :=
  match b.ptn.handoverIn, b.ptn.held with
  | some h, some s =>
    if b.ptn.role ≠ 1 ∨ h.restored ∨ !s.seed.isHandover ∨ (usableSeed b).isNone then b else
    let b := restoreClass1 s.seed b.tb b
    modPtn (fun p => { p with handoverIn := some { h with restored := true, seedSeq := s.seed.seq } }) b
  | _, _ => b

/-- The command of a completed handover is written back with RESULT 1, and ES212 fires. -/
def handoverDone (h : Handover) (b : Block) : Block :=
  fire 212 (regOf [(0, 2, 2)]) (completeWith h.ring h.idx stOK 1
    (modPtn (fun p => { p with handover := none, overlap := none, handovers := sat8 p.handovers 1 }) b))

/-- HANDOVER_TICK: at H the roles exchange, the overlap window opens, or the handover is cancelled (R372, R373). -/
def handoverTick (b : Block) : Block :=
  match b.ptn.handover with
  | some h =>
    if b.tb < h.h ∨ b.ptn.overlap.isSome then b
    else if !h.captured || !h.confirmed then cancelHandover 1 b
    else if overlapMode b then
      modPtn (fun p => { p with overlap := some { start := h.h, stop := h.h + overlapW b, former := true, vals := seedVals p.buffer } }) b
    else setRole 1 5 (modPtn (fun p => { p with handedOver := some b.tb }) (handoverDone h b))
  | none => handoverTake b

/-- OVERLAP_WINDOW_END (R373). -/
def overlapWindowEnd (b : Block) : Block :=
  match b.ptn.overlap with
  | none => b
  | some o =>
    if b.tb < o.stop then b
    else if o.former then
      match b.ptn.handover with
      | some h => setRole 1 5 (handoverDone h b)
      | none => modPtn (fun p => { p with overlap := none }) b
    else modPtn (fun p => { p with overlap := none, handovers := sat8 p.handovers 1 }) b

/-- A trip latch of the Active module changes between B and H: the handover is cancelled (R372). -/
def handoverTrip (before : Word) (b : Block) : Block :=
  match b.ptn.handover with
  | some h => if h.b ≤ b.tb ∧ b.tb < h.h ∧ readSaf b 0x10 ≠ before then cancelHandover 2 b else b
  | none => b

/-! The seed (R26 to R28, R375, R380, R382). -/

/-- The sends that the freeze has deferred, in the order of their trigger ticks and trigger numbers (R29): the key of that order, the object or
datagram, and whether it is an object. -/
def deferredSends (b : Block) : List (Nat × Nat × Bool) :=
  sortTicks (fun x => x.1) (
    (b.can.objs.flatMap fun p => p.2.due.map fun t => (64 * t + objTrig b p.1, p.1, true)) ++
      (b.eth.tds.flatMap fun p => p.2.due.map fun t => (64 * t + tdTrig b p.1, p.1, false)))

/-- The deferred sends start (R29, R401, R438). -/
def sendDeferred (b : Block) : Block :=
  (deferredSends b).foldl (fun b x => if x.2.2 then canAssemble x.2.1 b else tdAssemble x.2.1 b) b

/-- The scan that was running when the freeze began runs on (R27). -/
def safUnfreeze (start : Nat) (b : Block) : Block :=
  modSaf (fun s => { s with scanEnd := if start < s.scanEnd then s.scanEnd + (b.tb - start) else s.scanEnd }) b

/-- The freeze ends: what it held back starts (R26, R27, R29, R230, R401). -/
def freezeEnd (b : Block) : Block :=
  match b.freeze with
  | none => b
  | some start =>
    let pause := fun (x : Image) => if start < x.endAt then { x with endAt := x.endAt + (b.tb - start) } else x
    let defer := fun (x : Image) => match x.due with
      | some t => if start ≤ t + 2000 ∧ t + 2000 < b.tb then { x with deferred := true } else x
      | none => x
    let late := fun (c : Chan) => { c with dueLate := c.due.isSome }
    let b := modChn (fun c => { c with images := tmap {} (fun x => defer (pause x)) c.images, chans := tmap {} late c.chans })
      { b with freeze := none }
    sendDeferred (dpUnfreeze start (lpeUnfreeze start (uslUnfreeze (safUnfreeze start b))))

/-- In a freeze window a lost copy of the bank selector is rewritten from the other one (R59, R465). -/
def selectorRewrite (b : Block) : Block :=
  if b.glb.mramOk then modGlb (fun g => { g with selA := g.selA.or g.selB, selB := g.selB.or g.selA }) b else b

/-- SEED_BOUNDARY: the freeze starts, and an Active module captures its seed into the capture buffer that it did not use last (R26, R366, R375,
R382, R537). -/
def seedBoundary (b : Block) : Block :=
  if b.tb % 1000000 ≠ 0 ∨ b.freeze.isSome ∨ !b.glb.ready then b else
  let b := selectorRewrite (safRefresh { b with freeze := some b.tb })
  if b.ptn.role ≠ 0 ∨ !b.glb.active ∨ b.ptn.takeover.isSome ∨ b.sec.downAt.isSome then b else
  let ho := match b.ptn.handover with
    | some h => h.b == b.tb
    | none => false
  let s := buildSeed ho b
  instanceStart 0x300 (modPtn (fun p => { p with
    capturing := some b.tb, buffer := s, buffer1 := p.buffer, commitPrev := p.commit.isSome }) b)

/-- A capture that the module gives up because it is no longer Active (R360, R375, R537; DEDUCED, log 49). -/
def captureAbandon (b : Block) : Block := freezeEnd (modPtn (fun p => { p with capturing := none }) b)

/-- SEED_CAPTURE_COMPLETE: the freeze ends, the seed is sent on both links and its commit starts, from
which its slot holds no whole seed (R28, R376, R380, R382). -/
def seedCaptureComplete (b : Block) : Block :=
  match b.ptn.capturing with
  | none => b
  | some at' =>
    if b.tb ≤ at' ∨ at' + 4000 ≤ b.tb then b else
    if b.ptn.role ≠ 0 then captureAbandon b else
    let s := b.ptn.buffer
    let b := instanceEnd 0x300 30 (b.tb - at') (perf 13 0 0 b)
    let b := modPtn (fun p => { p with
      capturing := none, capSeq := s.seq, lastCap := s.seq, commitPrev := false
      slot0 := if b.glb.mramOk ∧ p.nextSlot = 0 then none else p.slot0
      slot1 := if b.glb.mramOk ∧ p.nextSlot ≠ 0 then none else p.slot1
      commit := if b.glb.mramOk then some p.nextSlot else none
      nextSlot := if b.glb.mramOk then 1 - p.nextSlot else p.nextSlot }) b
    let b := freezeEnd b
    if paired b then sendMsg 1 2 (msgFlags b) s.bytes (sendMsg 0 2 (msgFlags b) s.bytes b) else b

/-- FREEZE_TIMEOUT: at B + 4 000 the engines resume; an unfinished capture is discarded with a SEED_OVERRUN fault (R28, R70). -/
def freezeTimeout (b : Block) : Block :=
  match b.freeze with
  | none => b
  | some start =>
    if b.tb < start + 4000 then b
    else if b.ptn.role ≠ 0 then captureAbandon b
    else if b.ptn.capturing.isSome then
      let b := modPtn (fun p => { p with capturing := none, discarded := sat8 p.discarded 1 }) b
      freezeEnd (fire 210 0 (faultPlain 0x03 (siteLoc 30) b))
    else freezeEnd b

/-- SEED_COMMIT_COMPLETE: the captured seed stands in its MRAM slot, or its commit has failed (R382). -/
def seedCommitComplete (ok : Bool) (b : Block) : Block :=
  match b.ptn.commit with
  | none => b
  | some k => if ok then commitFinish b else fire 216 (regOf [(0, 1, k)]) (modPtn (fun p => { p with commit := none }) b)

end Sys2Proof.Machine
end

