-- ==== Sys2Proof/Machine/Commands.lean ====
section
/-! DEFINITION. The commands of CMD rings: which row of the command table a descriptor is, the refusals of R100 in their order, and what
each command does (R96 to R101, R150, R270, R308, R344, R385, R408, R440, R519). -/

namespace Sys2Proof.Machine

/-- A row of the field tables of the chapters: CLASS, the range of INDEX, the range of FIELD, and the opcodes it takes. -/
structure FieldRow where
  cls : Nat
  lo : Nat
  hi : Nat
  first : Nat
  last : Nat
  ops : List Nat
  deriving DecidableEq, Repr

/-- Opcodes of Table 3.14: 1 WRITE, 2 READ, 3 RELEASE, 4 BUFFERED. -/
def opsOrder : List Nat := [1, 2, 3]

/-- Tables 4.13, 8.5, 9.10, 10.13 and 12.6. -/
def fieldRowsA : List FieldRow :=
  [⟨1, 0, 0xFFFF, 0, 0, opsOrder⟩, ⟨1, 0, 0xFFFF, 1, 2, [2]⟩, ⟨1, 0, 0xFFFF, 3, 3, [1]⟩, ⟨1, 0, 0xFFFF, 4, 4, [4]⟩,
   ⟨2, 0, 0xFFFF, 0, 4, opsOrder⟩, ⟨2, 0, 0xFFFF, 5, 5, [1, 4]⟩, ⟨2, 0, 0xFFFF, 6, 6, opsOrder⟩, ⟨2, 0, 0xFFFF, 0x10, 0x12, [2]⟩,
   ⟨2, 0, 0xFFFF, 0x40, 0x60, [2]⟩, ⟨2, 0, 0xFFFF, 0x80, 0xA0, [2]⟩,
   ⟨3, 0, 0x1B, 0, 0, opsOrder⟩, ⟨3, 0, 0x1B, 1, 1, [1]⟩, ⟨3, 0, 0x1B, 0x10, 0x10, [2]⟩,
   ⟨3, 0x20, 0x20, 0, 0, opsOrder⟩, ⟨3, 0x20, 0x20, 1, 1, [1]⟩, ⟨3, 0x20, 0x20, 0x10, 0x10, [2]⟩,
   ⟨3, 0x40, 0x40, 0, 8, opsOrder⟩, ⟨3, 0x40, 0x40, 9, 9, [1]⟩, ⟨3, 0x40, 0x40, 0x10, 0x10, [2]⟩,
   ⟨3, 0x80, 0x97, 0, 0, opsOrder⟩, ⟨3, 0x80, 0x97, 0x10, 0x10, [2]⟩, ⟨3, 0xC0, 0xDF, 0, 0, opsOrder⟩]

/-- Table 12.6, R175, R440, R99, Table 16.4 and R385. -/
def fieldRowsB : List FieldRow :=
  [⟨4, 0, 0xFFFF, 0, 0, [4]⟩, ⟨4, 0, 0xFFFF, 1, 1, [1]⟩, ⟨4, 0, 0xFFFF, 2, 2, opsOrder⟩, ⟨4, 0, 0xFFFF, 3, 3, [2]⟩,
   ⟨5, 0, 0xFFFF, 0, 0, [4]⟩, ⟨5, 0, 0xFFFF, 1, 1, [2]⟩,
   ⟨6, 0, 0xFFFF, 0, 1, [2]⟩, ⟨6, 0, 0xFFFF, 2, 2, [4]⟩,
   ⟨7, 0, 0xFFFF, 0, 0, [1]⟩,
   ⟨9, 0, 31, 0, 0, [1]⟩, ⟨9, 32, 32, 1, 1, [2]⟩,
   ⟨0xA, 0, 11, 0, 0, opsOrder⟩, ⟨0xA, 16, 16, 0, 0, [1]⟩, ⟨0xA, 16, 16, 1, 1, [2]⟩,
   ⟨0xB, 0, 0xFFFF, 0, 0, [2]⟩, ⟨0xB, 0, 0xFFFF, 1, 1, [1]⟩]

def fieldRows : List FieldRow := fieldRowsA ++ fieldRowsB

/-- A row names a field and takes an opcode. -/
def FieldRow.takes (r : FieldRow) (f op : Nat) : Bool := decide (r.first ≤ f) && decide (f ≤ r.last) && r.ops.contains op

/-- The chapter of a class defines the FIELD and allows the opcode, for some INDEX (second refusal of R100; log 43). -/
def fieldDefined (cls f op : Nat) : Bool := fieldRows.any fun r => r.cls == cls && r.takes f op

/-- The same for one INDEX: part of the fourth refusal of R100 (log 43). -/
def fieldAt (cls i f op : Nat) : Bool :=
  fieldRows.any fun r => r.cls == cls && decide (r.lo ≤ i) && decide (i ≤ r.hi) && r.takes f op

/-- A message object bound to a Safe Layer connection (R213). -/
def objUsl (b : Block) (o : Nat) : Bool :=
  objMode b o == 2 || (connOf b 1 (o / 128) (o % 128) false).isSome || (connOf b 1 (o / 128) (o % 128) true).isSome

/-- INDEX and the field exist in the bank in force, and the kind or mode of the target allows the field (fourth refusal of R100). -/
def targetExists (b : Block) (cls i f : Nat) : Bool :=
  match cls with
  | 1 => b.glb.active && decide (i < 192) && ((f != 0 && f != 3) || chnMode b i == 3 || chnMode b i == 5)
  | 2 => b.glb.active && decide (i < 256) && lpeEn b i
  | 3 => dpHas b && (if i < 0x1C then snEn b i else if i = 0x20 ∨ i = 0x40 then true
      else if 0x80 ≤ i ∧ i < 0x98 then thEn b (i - 0x80) else decide (0xC0 ≤ i) && decide (i < 0xE0))
  | 4 => b.glb.active && decide (i < 2048) && objEn b i &&
      (f == 3 || (!objUsl b i && (f == 0 || (f == 1 && !objTx b i) || (f == 2 && objTx b i))))
  | 5 => b.glb.active && decide (i < 192) && (f != 0 || chnHartEn b i)
  | 6 => i == 0
  | 7 => decide (i < 128) && (ring b i).state != .disabled && (ring b i).kind == tMTX
  | 9 => i == 32 || hostTrigger b i
  | 0xA => i == 16 || (decide (i < 12) && b.glb.active)
  | 0xB => i == 0
  | _ => false

/-- The module owns the descriptor with a free-running index: fetched, or handed over to a running ring (R85, R99). -/
def ownsIdx (b : Block) (n i : Nat) : Bool :=
  let r := ring b n
  (descAt b n i).isSome || (r.state == .running && decide (i < ringMod) &&
    decide ((i + ringMod - r.fIdx) % ringMod < ringAvail r))

/-- The value, LEN or another rule of the field refuses a command (fifth refusal of R100; CASCADE without a cascade source, R260). -/
def valueOk (b : Block) (cls i f op : Nat) (d : Desc) : Bool :=
  let v := cmdValue d
  if op = 4 then lenRule (cmdTarget d) (cmdLen d)
  else if op ≠ 1 then true
  else match cls, f with
  | 7, _ => ownsIdx b i v.toNat
  | 1, 3 => v == 1
  | 2, 1 => targetOk b (targetKey 2 i 1) v && (v != 2 || skKind (lpeSpSrc b i) == 4)
  | 2, 5 => v == 2 || v == 3 || v == 4
  | 3, 1 => if i = 0x40 then targetOk b (targetKey 3 i f) v else v == 1
  | 3, 9 => v == 1
  | 4, 1 => decide (v.toNat ≤ 1)
  | 9, _ => v == 1
  | 0xA, _ => if i = 16 then v == 1 else true
  | 0xB, _ => handoverOk v b
  | _, _ => targetOk b (targetKey cls i f) v

/-- A class, field and opcode that writes a standing order. -/
def isOrder (cls i f : Nat) : Bool :=
  (cls == 1 && f == 0) || (cls == 2 && f != 5) || (cls == 3 && f != 9 && (f != 1 || i == 0x40)) || (cls == 4 && f == 2) ||
    (cls == 0xA && decide (i < 12))

/-- The first refusal that a command meets, in the order of R100. -/
def cmdRefusal (b : Block) (n : Nat) (d : Desc) : Option Nat :=
  let t := cmdTarget d
  let op := cmdOpcode d
  let cls := fld t 24 8
  let i := fld t 8 16
  let f := fld t 0 8
  if op = 0 ∨ 5 < op then some stBAD_OPCODE
  else if op = 5 then none
  else if !fieldDefined cls f op then some stBAD_TARGET
  else if (op = 1 ∨ op = 3 ∨ op = 4) ∧ cls ≠ 7 ∧ !isActive b then some stROLE
  else if !(fieldAt cls i f op && targetExists b cls i f) then some stBAD_TARGET
  else if !valueOk b cls i f op d then some stBAD_VALUE
  else if op = 1 ∧ isOrder cls i f ∧ (ring b n).prio < ((targetInfo b (targetKey cls i f)).getD {}).hostMin then some stPRIORITY_LOW
  else none

/-- The rows of the command table that are commands of a CMD ring. -/
inductive CmdKind where
  | write | read | release | nop | cancel
  | restartAck | entry | measured | channelStatus
  | hartPassThrough | hartStatus
  | tuneStart | tuneAbort | tuneAccept | tuneReject | loopPv | loopOut | loopStatus | gainTableRead
  | select | readmit | fusionMode | reOrigin | intakeStatus | dpEnable | spHere | groupEn | dpStatus
  | handover | roleStatus
  | data | lock | txEn | objectStatus
  | timeStatus | vtNsecRead | timeSnapshot
  | fire | recorderStatus | displayValue | refresh | displayStatus
  deriving DecidableEq, Repr

/-- The row of a WRITE: the row of its field, else the general one. -/
def writeKind (cls i f : Nat) (v : Word) : CmdKind :=
  match cls, f with
  | 7, 0 => .cancel
  | 1, 3 => .restartAck
  | 2, 5 => if v = 3 then .tuneAccept else if v = 4 then .tuneReject else .tuneAbort
  | 3, 0 => if i < 0x1C ∨ (0x80 ≤ i ∧ i < 0x98) then .select else if i = 0x20 then .fusionMode else if i = 0x40 then .dpEnable
      else if 0xC0 ≤ i ∧ i < 0xE0 then .groupEn else .write
  | 3, 1 => if i < 0x1C then .readmit else if i = 0x20 then .reOrigin else .write
  | 3, 9 => .spHere
  | 4, 1 => .lock
  | 4, 2 => .txEn
  | 9, 0 => .fire
  | 0xA, 0 => if i = 16 then .refresh else .displayValue
  | 0xB, 1 => .handover
  | _, _ => .write

/-- The row of a READ. -/
def readKind (cls i f : Nat) : CmdKind :=
  match cls with
  | 1 => if f = 1 then .measured else if f = 2 then .channelStatus else .read
  | 2 => if f = 0x10 then .loopPv else if f = 0x11 then .loopOut else if f = 0x12 then .loopStatus else if 0x40 ≤ f then .gainTableRead else .read
  | 3 => if f = 0x10 then (if i ≤ 0x20 then .intakeStatus else .dpStatus) else .read
  | 4 => if f = 3 then .objectStatus else .read
  | 5 => if f = 1 then .hartStatus else .read
  | 6 => if f = 0 then .timeStatus else if f = 1 then .vtNsecRead else .read
  | 9 => if f = 1 then .recorderStatus else .read
  | 0xA => if f = 1 then .displayStatus else .read
  | 0xB => if f = 0 then .roleStatus else .read
  | _ => .read

/-- The row of a BUFFERED command; those of no field are refused at the fetch. -/
def bufferedKind (cls : Nat) : CmdKind :=
  match cls with
  | 1 => .entry
  | 2 => .tuneStart
  | 4 => .data
  | 5 => .hartPassThrough
  | _ => .timeSnapshot

/-- The row that a CMD descriptor is. -/
def cmdKindOf (d : Desc) : CmdKind :=
  let t := cmdTarget d
  let cls := fld t 24 8
  let i := fld t 8 16
  let f := fld t 0 8
  match cmdOpcode d with
  | 1 => writeKind cls i f (cmdValue d)
  | 2 => readKind cls i f
  | 3 => .release
  | 4 => bufferedKind cls
  | _ => .nop

/-- The command that a ring carries out next: the oldest fetched one that has not started and has no status. -/
def cmdNext (b : Block) (n : Nat) : Option Desc :=
  if (ring b n).kind = tCMD ∧ (ring b n).state = .running then
    (ring b n).fetched.find? fun d => d.done.isNone && !d.started
  else none

/-- A READ of the value in force; a host word reads 0 while the role is not Active (Table 3.14, R508). -/
def readInForce (b : Block) (cls i f : Nat) : Word :=
  if cls = 0xA then hostWord b i else (targetAt b (targetKey cls i f)).inForce

/-- The status register of an intake or DP index (Tables 9.10 and 10.13). -/
def dpStatusAt (b : Block) (i : Nat) : Word :=
  if i < 0x1C then snStatus b i else if i = 0x20 then inStatus b else if i = 0x40 then dpStatus b else thrStatus b (i - 0x80)

def startDesc (n idx : Nat) (b : Block) : Block := modDesc n idx (fun d => { d with started := true }) b

/-- CANCEL: a descriptor not yet fetched or not yet handed to its bus is written back with CANCELLED in its turn; for one handed over the
rules of its bus apply (R99). -/
def cancelDesc (m i : Nat) (b : Block) : Block :=
  match descAt b m i with
  | none => modRing m (fun r => { r with cancels := r.cancels.filter (fun k => k != i) ++ [i] }) b
  | some x =>
    if x.done.isSome then b
    else if !x.handed then completeWith m i stCANCELLED 0 b
    else if mtxBus x = 1 then canCancel m i b
    else b

/-- What a READ returns. -/
def readValue (k : CmdKind) (b : Block) (cls i f : Nat) : Word :=
  match k with
  | .measured => (chanAt b i).cur.value
  | .channelStatus => chnStatus b i
  | .hartStatus => hartStatus b i
  | .loopPv => (ctxAt b i).pv
  | .loopOut => (ctxAt b i).u
  | .loopStatus => ctxStatus b i
  | .gainTableRead => if f < 0x80 then lpeGp b i (f - 0x40) else lpeGi b i (f - 0x80)
  | .intakeStatus => dpStatusAt b i
  | .dpStatus => dpStatusAt b i
  | .roleStatus => ptnStatus b
  | .objectStatus => objStatus b i
  | .timeStatus => timStatus b
  | .vtNsecRead => w32 (clkNs b.tim.vt)
  | .recorderStatus => recStatus b
  | .displayStatus => dspStatus b
  | _ => readInForce b cls i f

/-- The write of a field that acts once (R568). -/
def actOnce (k : CmdKind) (n idx i : Nat) (v : Word) (b : Block) : Block :=
  match k with
  | .cancel => refuse n idx stOK (cancelDesc i v.toNat b)
  | .restartAck => startDesc n idx (modChan i (fun c => { c with acks := c.acks ++ [(n, idx)] }) b)
  | .readmit => startDesc n idx (modDp (fun d => { d with readmits := d.readmits ++ [(n, idx, i)] }) b)
  | .reOrigin => startDesc n idx (modDp (fun d => { d with reOrigins := d.reOrigins ++ [(n, idx)] }) b)
  | .spHere => startDesc n idx (modDp (fun d => { d with spHeres := d.spHeres ++ [(n, idx)] }) b)
  | .lock =>
    match canLock i n v b with
    | some b => refuse n idx stOK b
    | none => refuse n idx stBAD_VALUE b
  | .fire => refuse n idx stOK (fireTriggerOf i b)
  | .refresh => refuse n idx stOK (refreshAsked b)
  | .handover => handoverAccept n idx (startDesc n idx b)
  | _ =>
    match tuneWrite i v b with
    | some b => refuse n idx stOK b
    | none => refuse n idx stBAD_VALUE b

/-- A BUFFERED command whose buffer has been read. -/
def actBuffered (k : CmdKind) (n i : Nat) (d : Desc) (bytes : List Byte) (b : Block) : Block :=
  match k with
  | .entry => completeReply n d.idx (bytesOf (entryWords i (chanAt b i).cur 0) ++ leBytes 8 (chanAt b i).cur.tick) b
  | .tuneStart =>
    match tuneStart i bytes b with
    | some (s, b) => completeReply n d.idx [BitVec.ofNat 8 s] b
    | none => refuse n d.idx stBAD_VALUE b
  | .data =>
    let r := canData i b
    completeReply n d.idx r.1 r.2
  | .hartPassThrough =>
    if cmdLen d < 3 + leAt bytes 2 1 then refuse n d.idx stBAD_VALUE b
    else hartPassThrough i n d.idx bytes (startDesc n d.idx b)
  | _ => completeReply n d.idx (timSnapshotBytes b) b

/-- Carry out a command that has passed every check. -/
def cmdAct (k : CmdKind) (n : Nat) (d : Desc) (b : Block) : Block :=
  let t := cmdTarget d
  let cls := fld t 24 8
  let i := fld t 8 16
  let f := fld t 0 8
  let key := targetKey cls i f
  match cmdOpcode d with
  | 1 => if isOrder cls i f then placeOrder key n d.idx (cmdValue d) b else actOnce k n d.idx i (cmdValue d) b
  | 2 => completeWith n d.idx stOK (readValue k b cls i f) b
  | 3 => releaseOrder key n d.idx b
  | 4 =>
    match d.buf with
    | .data bytes => actBuffered k n i d bytes b
    | .failed => refuse n d.idx stDMA b
    | _ => b
  | _ => refuse n d.idx stOK b

/-- The next command of a CMD ring is carried out, when it is of the row `k` (R96 to R101). -/
def runCmd (k : CmdKind) (n : Nat) (b : Block) : Block :=
  match cmdNext b n with
  | none => b
  | some d =>
    if cmdKindOf d ≠ k then b else
    match cmdRefusal b n d with
    | some st => refuse n d.idx st b
    | none => cmdAct k n d b

end Sys2Proof.Machine
end

