-- ==== Sys2Proof/Machine/Admit.lean ====
section
/-! DEFINITION. The admission checks of Table 2.5 (R47, R60 to R62, R65, R164, R247, R488, R511, R521). Every check reads the module as
it would be with the image in force. -/

namespace Sys2Proof.Machine

/-- A failed check: CODE, SECTION, and DETAIL, none where the spec states no DETAIL (log 44). -/
structure Reject where
  code : Nat
  sec : Nat
  detail : Option Nat := none
  deriving DecidableEq, Repr

/-! The header and the section table (R60, R62). -/

/-- LENGTH keeps Table 2.3. -/
def imgLengthOk (m : Tab Byte) : Bool :=
  imgLength m % 8 == 0 && decide (512 ≤ imgLength m) && decide (imgLength m ≤ 524288)

def imageCrcOk (m : Tab Byte) : Bool := crc32 (bytesFrom m 0 (imgLength m - 4)) == imgCrc m

/-- The body of the safety section has the CRC that the header names. -/
def safetyCrcOk (m : Tab Byte) : Bool :=
  match secFind m 3 with
  | some (_, off, len) => crc32 (bytesFrom m off len) == imgSafetyCrc m
  | none => false

/-- A used entry of the section table keeps R62 and Table 2.3, beside the entries before it. -/
def entryOk (m : Tab Byte) (i : Nat) : Bool :=
  let e := secEntry m i
  let ty := e.1
  let off := e.2.2.1
  let len := e.2.2.2
  decide (1 ≤ ty) && decide (ty ≤ 0xB) && decide (e.2.1 ≤ (if ty = 4 ∨ ty = 5 then 1 else 0)) && off % 8 == 0 && decide (0x120 ≤ off) &&
    decide (off + len ≤ imgLength m - 4) &&
    (List.range i).all fun j =>
      let f := secEntry m j
      f.1 != ty && !(decide (off < f.2.2.1 + f.2.2.2) && decide (f.2.2.1 < off + len))

/-- The DETAIL of the first failure of the section table: an entry, or 0x0100 plus a mandatory type that is missing. -/
def tableFails (m : Tab Byte) : Option Nat :=
  let n := imgSections m
  let bad := (List.range 16).find? fun i => if i < n then !entryOk m i else secEntry m i != (0, 0, 0, 0)
  if 16 < n then some 16
  else match bad with
  | some i => some i
  | none => (([1, 3, 9] : List Nat).find? fun t => !secHas m t).map (0x100 + ·)

/-! Sections 0x0A and 0x0B. -/

def trgRecordOk (b : Block) (t : Nat) : Bool :=
  let c := trgCfg b t
  let a := trgArg b t
  let n := fld c 8 6
  secReach b 0xA (34 * t + 34) && fld c 3 5 == 0 && fld c 14 18 == 0 && fld a 24 8 == 0 && ((List.range 32).all fun i => fld (trgReg b t i) 20 12 == 0) &&
    (!bit c 0 || (decide (1 ≤ fld c 1 2) && decide (1 ≤ n) && decide (n ≤ 32) && decide (1 ≤ fld a 8 16) && (fld c 1 2 != 2 || (decide (fld a 0 8 < 64) && ttEn b (fld a 0 8))) &&
    (List.range n).all fun i => fld (trgReg b t i) 0 2 == 0))

/-- Active even frames less active odd frames of a mask, over its first `k` frames. -/
def frameBalance (mask k : Nat) : Int :=
  (List.range k).foldl (fun s j => if mask.testBit j then (if j % 2 = 0 then s + 1 else s - 1) else s) 0

/-- The largest imbalance of a leading run (R511). -/
def maskImb (mask len : Nat) : Nat := maxOf ((List.range (len + 1)).map fun k => (frameBalance mask k).natAbs)

/-- A band keeps R511. -/
def bandRecordOk (b : Block) (k : Nat) : Bool :=
  let c := dspBand b k 0
  let t := fld c 0 5
  let wave := fun (dark : Bool) =>
    let len := bandLen b k dark
    let mask := bandMask b k dark
    len % 2 == 0 && decide (2 ≤ len) && decide (len ≤ 64) && decide (mask < 2 ^ len) && frameBalance mask len == 0
  let imb := max (maskImb (bandMask b k true) (bandLen b k true)) (maskImb (bandMask b k false) (bandLen b k false))
  decide (1 ≤ t) && decide (t ≤ 20) && !bit c 5 && fld c 20 12 == 0 && dspBand b k 5 == 0 && secReach b 0xA (1098 + 6 * k) && wave true && wave false &&
    decide (t * 100000 * (1 + 2 * imb) ≤ 1500000)

def dspRecordOk (b : Block) : Bool :=
  let c := dspCfg b
  secReach b 0xA 1092 && dspBandT b 2 == 0 && decide (fld c 1 6 ≤ 60) && fld c 29 3 == 0 && fld (dspBandT b 1) 24 8 == 0 &&
    (List.range 7).all fun k => decide (-40 ≤ bandT b (k + 1)) && decide (bandT b (k + 1) ≤ 85) &&
      (k == 0 || decide (bandT b k < bandT b (k + 1)))

def segRecordOk (b : Block) (s : Nat) : Bool :=
  let c := dspSeg b s
  secReach b 0xA (1141 + s) && fld c 13 19 == 0 && (!bit c 0 || ((fld c 1 2 != 2 || decide (fld c 3 9 ≤ 27)) && (fld c 1 2 != 3 || decide (fld c 3 9 ≤ 383))))

/-- STRUCTURE of section 0x0A (R521). The display's records count while DSP_CFG.EN is set (log 45). -/
def recDspCheck (b : Block) : Option Nat :=
  let on := bit (dspCfg b) 0
  firstSome [
    (List.range 32).find? fun t => !trgRecordOk b t,
    failIf (on && !dspRecordOk b) 0x100,
    if on then ((List.range 8).find? fun k => !bandRecordOk b k).map (0x200 + ·) else none,
    if on then ((List.range 384).find? fun s => !segRecordOk b s).map (0x400 + ·) else none]

def monRecordOk (b : Block) (m : Nat) : Bool :=
  let c := monCfg b m
  let k := fld c 1 4
  let i := fld (monSrc b m) 0 16
  secReach b 0xB (4 * m + 4) && fld c 27 5 == 0 && (!bit c 0 || (finite (monLo b m) && finite (monHi b m) && fLt (monLo b m) (monHi b m) &&
    (if 1 ≤ k ∧ k ≤ 5 then skKind (monSrc b m) == k && srcOk b (monSrc b m) && ttEn b (fld c 5 6) && decide (1 ≤ fld c 11 16)
     else if k = 8 then actExists b i
     else k == 9 && decide (i < 33))))

/-- The ARG of a counter exists (Table 15.9). -/
def cntRecordOk (b : Block) (k : Nat) : Bool :=
  let c := cntCfg b k
  let e := fld c 0 4
  let a := fld c 16 16
  let upTo := fun (n all : Nat) => decide (a < n) || a == all
  secReach b 0xB (129 + k) && fld c 4 12 == 0 &&
    (if e = 1 then decide (a < 256)
     else if e = 2 ∨ e = 3 ∨ e = 14 then decide (a < 128)
     else if e = 4 ∨ e = 5 then actExists b a
     else if e = 7 ∨ e = 8 then upTo 16 0x1F
     else if e = 9 ∨ e = 10 then upTo 4 7
     else if e = 11 then upTo 24 0x1F
     else true)

/-- STRUCTURE of section 0x0B (R488). -/
def monCheck (b : Block) : Option Nat :=
  ((List.range 32).find? fun m => !monRecordOk b m).or (((List.range 8).find? fun k => !cntRecordOk b k).map (0x100 + ·))

/-! The fields that engines and sequence counters write into an object or a datagram. -/

def spansOf (b : Block) (kind bus a i : Nat) : List (Nat × Nat) :=
  (engFields b kind a i).map (fun w => (tgByte w, fmtLen (tgFmt w))) ++ (seqEntries b bus a i).map fun x => (x.2, 2)

/-- The first failure inside the content of a section of a type (R65). Of section 0x09 the spec states no DETAIL. -/
def contentFails (b : Block) (ty : Nat) : Option (Option Nat) :=
  match ty with
  | 1 => (timCheck b).map some
  | 2 => (chnCheck b).map some
  | 3 => (safCheck (canUslOk b) b).map some
  | 4 => (lpeCheck b).map some
  | 5 => (dpCheck b).map some
  | 6 => (canCheck (fun o => spansOf b 2 1 (o / 128) (o % 128)) b).map some
  | 7 => (ethCheck (fun k => spansOf b 5 2 (k / 32) (k % 32)) b).map some
  | 8 => (serCheck b).map some
  | 9 => if ptnOk b then none else some none
  | 0xA => (recDspCheck b).map some
  | _ => (monCheck b).map some

/-- STRUCTURE (check 6): the section table, then the contents of the used sections in ascending TYPE. -/
def structureFails (b : Block) (m : Tab Byte) : Option Reject :=
  match tableFails m with
  | some d => some { code := 6, sec := 0, detail := some d }
  | none =>
    ([1, 2, 3, 4, 5, 6, 7, 8, 9, 0xA, 0xB] : List Nat).findSome? fun ty =>
      if secHas m ty then (contentFails b ty).map fun d => { code := 6, sec := ty, detail := d } else none

/-- LOAD_LIMIT (check 9): the images' bytes and number in a second, as fractions with the product of the periods below, and the bank's events and
completions against Table 1.9 (R47). -/
def loadLimitOk (b : Block) (k : Bank) : Bool :=
  let is := (List.range 64).filter fun i => imgEn b i && decide (0 < imgPeriod b i)
  let add := fun (a : Nat × Nat) (n p : Nat) => (a.1 * p + n * a.2, a.2 * p)
  let bytes := is.foldl (fun a i => add a (imgLen b i * 100000000) (imgPeriod b i)) (0, 1)
  let count := is.foldl (fun a i => add a 100000000 (imgPeriod b i)) (0, 1)
  decide (bytes.1 ≤ 32000000 * bytes.2) && decide (count.1 ≤ 20000 * count.2) &&
    decide (k.events ≤ 100000) && decide (k.completions ≤ 500000)

/-- CAPACITY (check 10): the sections in ascending TYPE. -/
def capacityFails (b : Block) : Option Reject :=
  if !chnCapacityOk b then some { code := 0xA, sec := 2, detail := some 0 }
  else if !lpeCapacityOk b then some { code := 0xA, sec := 4, detail := some 0 }
  else none

/-- Checks 3 to 10 of Table 2.5 on a bank's image; `len` is GLB_CFG_LEN for an image that has been loaded. -/
def staticFails (b : Block) (k : Bank) (len : Option Nat) : Option Reject :=
  let m := k.mem
  let v := asIfActive m b
  let lenBad := match len with
    | some n => n != imgLength m
    | none => false
  if imgMagic m ≠ 0x55434647 ∨ imgFormat m ≠ 1 then some { code := 3, sec := 0 }
  else if lenBad || !imgLengthOk m then some { code := 4, sec := 0 }
  else if !imageCrcOk m then some { code := 5, sec := 0 }
  else match structureFails v m with
  | some r => some r
  | none =>
    if !safetyCrcOk m then some { code := 7, sec := 3 }
    else if !seedMapOk v then some { code := 8, sec := 9 }
    else if !loadLimitOk v k then some { code := 9, sec := 2 }
    else capacityFails v

/-- Section of an activity (Table 15.7). -/
def actSection (a : Nat) : Nat :=
  if a = 1 then 3 else if 0x100 ≤ a ∧ a < 0x200 then 4 else if 0x200 ≤ a ∧ a < 0x300 then 5 else if a = 0x300 then 9 else 2

/-- GROWTH (check 11) with the projected durations, or with those at present conditions (R22, R56, R466). While the growth-ring monitor is
fenced the check fails. -/
def growthReject (b : Block) (m : Tab Byte) (projected : Bool) : Option Reject :=
  let v := asIfActive m b
  if isFenced b .growth then some { code := 0xB, sec := 0, detail := some 0xFFFF }
  else (growthFails v (if projected then dProj v else dCur v)).map fun a =>
    { code := 0xB, sec := actSection (a % 0x10000), detail := some a }

end Sys2Proof.Machine
end

