-- ==== Sys2Proof/Machine/BankIn.lean ====
section
/-! DEFINITION. What a bank that comes into force, or goes out of force, does in every unit (R68, R69, R103, R106, R144, R202, R407, R485,
R495, R567). -/

namespace Sys2Proof.Machine

/-- Initial values (R103): every target when no bank was in force before, otherwise the targets that the bank before did not have. -/
def bankTargets (old b : Block) : Block :=
  if old.glb.active then
    (allTargets b).foldl (fun b k =>
      match targetInfo old k, targetInfo b k with
      | none, some i => modTarget k (fun t => { t with inForce := i.initial }) b
      | _, _ => b) b
  else initTargets b

/-- Once-acting writes that wait for a boundary or a frame, and whose target the bank in force does not have, come back with BAD_TARGET
(R567). -/
def dropWaiting (b : Block) : Block :=
  let bad := fun (b : Block) (n idx : Nat) => completeWith n idx stBAD_TARGET 0 b
  let b := (List.range 192).foldl (fun b i =>
    if chnMode b i = 3 ∨ chnMode b i = 5 then b
    else (chanAt b i).acks.foldl (fun b a => bad b a.1 a.2) (modChan i (fun c => { c with acks := [] }) b)) b
  let gone := b.dp.readmits.filter fun x => !(dpHas b && snEn b x.2.2)
  let b := gone.foldl (fun b x => bad b x.1 x.2.1) (modDp (fun d => { d with readmits := d.readmits.filter fun x => dpHas b && snEn b x.2.2 }) b)
  if dpHas b then b else
  let d := b.dp
  let b := modDp (fun d => { d with reOrigins := [], spHeres := [], spActs := [] }) b
  let b := d.reOrigins.foldl (fun b x => bad b x.1 x.2) b
  (d.spActs ++ d.spHeres).foldl (fun b x => bad b x.1 x.2) b

/-- TLM rings whose image no longer exists or no longer fits stop with CFG_INVALID (R106). Where only the sum no longer fits, the spec does not say
which rings stop: they are tried in ascending ring number, and a ring in STOPPED or DOWN still counts in the sum (DESIGN CHOICE, log 130). -/
def refitRings (b : Block) : Block :=
  (List.range 128).foldl (fun b n =>
    if (ring b n).kind = tTLM ∧ ((ring b n).state = .running ∨ (ring b n).state = .stopped) ∧ !ringImageOk (imgLen b) b n then
      ringError n erCFG_INVALID b else b) b

/-- An engine source goes on under the new bank with the output target it had (R69, R101): a loop, or a thruster of a carried DP section. -/
def srcCarried (old b : Block) (s : Nat) : Bool :=
  if s < 256 then lpeCarried old b s
  else dpCarried old b && thEn b (s - dpSrc 0) && ([14, 15] : List Nat).all fun w =>
    thrW b (s - dpSrc 0) w == thrW old (s - dpSrc 0) w

/-- The bank in force has changed; `old` shows the module under the bank before. -/
def bankChange (old b : Block) : Block :=
  let b := if b.glb.active && !old.glb.active then timBankFirst b else b
  let b := ppsGate (modTim (fun t => { t with ttCount := [] }) b)
  let b := dropWaiting (refitOrders (srcCarried old b) (bankTargets old b))
  let b := safBank (if old.glb.active then some (bankSafCrc old) else none) (chnSwitch old b)
  let b := ethBank old (serBank old (canBank old (uslBank b)))
  let b := dpBank old (lpeBank old b)
  let b := modRec (fun r => { r with fired := [] }) (modPrf (fun p => { p with cnt := if isFenced b .counters then p.cnt else [] }) b)
  let b := modGrowth (fun g => { g with exceed := [], outRaised := [] }) b
  partnerBank (marginRefresh (refitRings b))

/-- Run an operation, and the units' part of a bank that it takes out of force (R528). -/
def withBankOut (f : Block → Block) (b : Block) : Block :=
  let c := f b
  if b.glb.active && !c.glb.active then bankChange b c else c

/-! SHADOW_STATE and the checks of a whole image (R57, R65). -/

/-- The word of GLB_CFG_REJECT for a failed check; DETAIL is a free value where the spec states none (log 44). -/
def rejectWord (r : Reject) (b : Block) : Word × Block :=
  match r.detail with
  | some d => (regOf [(0, 8, r.code), (8, 8, r.sec), (16, 16, d)], b)
  | none =>
    let (v, b) := takeFree b
    (regOf [(0, 8, r.code), (8, 8, r.sec), (16, 16, fld v 0 16)], b)

/-- The shadow bank is rejected (R65). -/
def rejectShadow (r : Reject) (b : Block) : Block :=
  let (w, b) := rejectWord r b
  modGlb (fun g => { g with
    shadow := .rejected, reject := w, owned := false, recheck := false, growthStep := none, dmaFailed := false }) b

/-- The shadow bank is admitted (R65); the margin is worked out again (R481). -/
def admitShadow (b : Block) : Block :=
  marginRefresh (modGlb (fun g => { g with
    shadow := .admitted, reject := 0, owned := false, recheck := false, growthStep := none, dmaFailed := false }) b)

/-- The shadow bank holds no image. -/
def emptyShadow (b : Block) : Block :=
  modGlb (fun g => { g with shadow := .empty, owned := false, recheck := false, growthStep := none, dmaFailed := false }) b

/-- Checks 1 to 10 of a bank; a bank with an uncorrectable word fails its IMAGE_CRC check (Table 2.2, R465). -/
def bankFails (b : Block) (k : Bank) (len : Option Nat) : Option Reject :=
  if b.sec.lifecycle = 3 then some { code := 1, sec := 0 }
  else if !k.readable then some { code := 5, sec := 0 }
  else staticFails b k len

/-- The shadow bank is checked against the projected durations, without a trim step (R57, R68). -/
def checkShadow (b : Block) : Block :=
  let k := b.glb.shadowBank
  if !k.present then emptyShadow b else
  match (bankFails b k none).or (growthReject b k.mem true) with
  | some r => rejectShadow r b
  | none => admitShadow b

end Sys2Proof.Machine
end

