-- ==== Sys2Proof/Machine/Load.lean ====
section
/-! DEFINITION. Loading and admitting an image, the bank switch, confirmation and the commissioning key (R63 to R73, R480, R536). -/

namespace Sys2Proof.Machine

def setCmdErr (b : Block) : Block := markBit 0x50 12 (modGlb (fun g => { g with cmdErr := true }) b)

/-- An action is refused with CMD_ERR whatever it is: before Ready (R51), and LOAD, SWITCH and CONFIRM in Ride-through (R536). -/
def actionShut (b : Block) : Bool := !b.glb.ready || b.sec.power == 2

/-- Bytes that a load reads: GLB_CFG_LEN, but of a longer length only the 524 288 bytes that a bank holds; the LENGTH check then refuses the
image (DESIGN CHOICE, log 132). -/
def loadLen (b : Block) : Nat := min 524288 b.glb.len.toNat

/-- The reads of the image, in order, up to read `upTo`; each keeps the read size (R63). They take GLB_CFG_ADDR and GLB_CFG_LEN as they stand when
they go out: the spec does not say that LOAD latches them (DESIGN CHOICE, log 170). -/
def imageReads (upTo : Nat) (b : Block) : Block :=
  let g := b.glb
  let cap := readCap b g.owner
  let n := loadLen b
  let k := min upTo (readCount cap n)
  readsFrom g.owner (join64 g.addrLo g.addrHi) cap n (k - g.readsOut) g.readsOut (modGlb (fun g => { g with readsOut := max g.readsOut k }) b)

/-- LOAD through a link (R63, R64, R70, Table 2.7): at most eight reads are outstanding. In Retired, where no image is taken (LIFECYCLE), the
shadow bank and its flag are erased before the refusal, as LOAD erases them in every lifecycle (DESIGN CHOICE, log 59). -/
def loadAction (link : Nat) (b : Block) : Block :=
  let g := b.glb
  if actionShut b then setCmdErr b
  else if g.shadow = .loading ∨ g.shadow = .checking ∨ g.shadow = .pending then setCmdErr b
  else
    let b := modGlb (fun g => { g.setBank g.shadowNo {} with owner := link, reject := 0, dmaFailed := false }) b
    if b.sec.lifecycle = 3 then rejectShadow { code := 1, sec := 0, detail := some 0 } b
    else imageReads 8 (modGlb (fun g => { g with shadow := .loading, owned := true, recheck := false, growthStep := none, readsOut := 0 }) b)

/-- IMAGE_READ_COMPLETE: the image has been read, or a read has failed (R63). The reads after the first eight have gone out one by one as earlier ones
completed; their trace stands here (log 133). -/
def imageReadComplete (data : Option LoadedImage) (b : Block) : Block :=
  if b.glb.shadow ≠ .loading then b else
  match data with
  | some l =>
    let b := imageReads (loadLen b) b
    modGlb (fun g => { g.setBank g.shadowNo {
      mem := putBytes [] 0 (l.bytes.take (loadLen b)), present := true, events := l.events, completions := l.completions } with shadow := .checking }) b
  | none => modGlb (fun g => { g with shadow := .checking, dmaFailed := true }) b

/-- The checks before GROWTH of the shadow bank: of a loaded image with GLB_CFG_LEN, of a former active bank without (R65, R68). -/
def shadowFails (b : Block) : Option Reject :=
  if b.glb.dmaFailed then some { code := 2, sec := 0 }
  else bankFails b b.glb.shadowBank (if b.glb.recheck then none else some b.glb.len.toNat)

/-- GROWTH fails at the present step: the next step is asked for, or the bank is rejected and the step before returns (R480). -/
def growthStepUp (r : Reject) (b : Block) : Block :=
  let g := b.growth
  if g.trimReq < 6 ∧ !isFenced b .growth then
    let back := b.glb.growthStep.getD g.trimReq
    let at' := b.tb + 1000000
    trimRequest (g.trimReq + 1) (modGlb (fun x => { x with growthStep := some back, growthAt := at' }) b)
  else
    match b.glb.growthStep with
    | some t => rejectShadow r (if t = g.trimReq ∨ isFenced b .growth then b else trimRequest t b)
    | none => rejectShadow r b

/-- The GROWTH check of the shadow bank (R65, R480). -/
def growthCheck (b : Block) : Block :=
  match growthReject b b.glb.shadowBank.mem true with
  | none => admitShadow b
  | some r => growthStepUp r b

/-- ADMISSION_COMPLETE: the checks of Table 2.5 end (R65); while GROWTH steps the trim, SHADOW_STATE stays CHECKING. -/
def admissionComplete (b : Block) : Block :=
  if b.glb.shadow ≠ .checking ∨ b.glb.growthStep.isSome then b
  else if b.glb.recheck && !b.glb.shadowBank.present then emptyShadow b
  else match shadowFails b with
  | some r => rejectShadow r b
  | none => growthCheck b

/-- GROWTH_RETRY: 10 ms after a step the GROWTH check repeats (R480). -/
def growthRetry (b : Block) : Block :=
  if b.glb.shadow ≠ .checking ∨ b.glb.growthStep.isNone ∨ b.tb < b.glb.growthAt then b else growthCheck b

/-- SWITCH (R67). -/
def switchAction (b : Block) : Block :=
  let g := b.glb
  if actionShut b ∨ g.shadow ≠ .admitted ∨ b.ptn.role = 2 ∨ b.sec.lifecycle = 3 ∨ (b.sec.lifecycle = 2 ∧ !g.shadowBank.confirmed) then
    setCmdErr b
  else modGlb (fun g => { g with shadow := .pending, switchAt := some (nextMultiple 2000000 (b.tb + 1000000)) }) b

/-- ABORT (R70): before tick B it cancels a pending switch. -/
def abortAction (b : Block) : Block :=
  if !b.glb.ready then setCmdErr b else
  if b.glb.switchAt.isSome then cancelSwitch b else b

/-- The conditions of R72 and R73 other than the equality of the values. -/
def confirmOpen (b : Block) : Bool :=
  let g := b.glb
  (g.shadow == .admitted || g.shadow == .pending) && g.key &&
    (match g.typedImg, g.typedSaf with
      | some x, some y => decide (b.tb < min x.2 y.2 + 6000000000)
      | _, _ => false)

/-- The typed values equal the CRCs of the shadow bank. -/
def confirmMatch (b : Block) : Bool :=
  let g := b.glb
  g.typedImg.map (·.1) == some (imgCrc g.shadowBank.mem) && g.typedSaf.map (·.1) == some (imgSafetyCrc g.shadowBank.mem)

/-- CONFIRM (R72, R73). While CONFIRM_LOCK is set it has no effect, and no CMD_ERR either where the shadow bank is neither ADMITTED nor PENDING: the
lock is looked at first (DESIGN CHOICE, log 134). The typed values stay after it, match or mismatch, until the key is released or others are
typed (DESIGN CHOICE, log 135). -/
def confirmAction (b : Block) : Block :=
  if actionShut b then setCmdErr b
  else if b.glb.confirmLock then b
  else if !confirmOpen b then setCmdErr b
  else if confirmMatch b then
    let b := modGlb (fun g => { g.setBank g.shadowNo { g.shadowBank with confirmed := true } with confirmFails := 0 }) b
    fire 2 (regOf [(0, 1, b.glb.shadowNo), (1, 1, b1 (b.glb.shadow == .pending))]) b
  else
    modGlb (fun g => { g with confirmFails := min 3 (g.confirmFails + 1), confirmLock := decide (3 ≤ g.confirmFails + 1) }) b

/-- A write to GLB_CFG_CTRL through a link (R51, R64). -/
def cfgCtrlWrite (link : Nat) (v : Word) (b : Block) : Block :=
  match fld v 0 4 with
  | 0 => b
  | 1 => loadAction link b
  | 2 => switchAction b
  | 4 => confirmAction b
  | 8 => abortAction b
  | _ => setCmdErr b

/-- KEY_ASSERTED: the key has been asserted for 10 ms (R71). -/
def keyAsserted (b : Block) : Block := modGlb (fun g => { g with key := true }) b

/-- KEY_RELEASED (R71 to R73, R525, R532). -/
def keyReleased (b : Block) : Block :=
  secKeyReleased (modGlb (fun g => { g with key := false, typedImg := none, typedSaf := none, confirmLock := false, confirmFails := 0 }) b)

/-- BANK_SWITCH: at B, inside the freeze window, the shadow bank comes into force (R59, R68). -/
def bankSwitch (b : Block) : Block :=
  match b.glb.switchAt with
  | none => b
  | some t =>
    if b.glb.shadow ≠ .pending ∨ b.freeze ≠ some t then b else
    let old := b
    let was := b.glb.active
    let b := modGlb (fun g => { g with
      bank := g.shadowNo, selA := some g.shadowNo, selB := some g.shadowNo, active := true, switchAt := none, switchTick := t
      bankTick := t, shadow := if was then .admitted else .checking, recheck := !was, growthStep := none, owned := false }) b
    let b := bankChange old b
    ptnReconsider (fire 1 (regOf [(0, 1, b.glb.bank), (1, 1, b1 (!was))]) b)

end Sys2Proof.Machine
end

