-- ==== Sys2Proof/Machine/Scan.lean ====
section
/-! DEFINITION. Sending Safe Layer frames (R217 to R221), and the safety scan (R185, R201). -/

namespace Sys2Proof.Machine

/-- RESET_WORD of a transmit connection (Table 7.2). -/
def cnResetWord (b : Block) (c : Nat) : Word :=
  if b.ptn.role == 0 && b.saf.engine == 2 then wordOfFn fun p => decide (p < 24) && decide (0 < tget 0 (connAt b c).resetLeft p) else 0

/-- The identity that the module uses as the sender (R221, R222). -/
def cnOwnId (b : Block) (c : Nat) : Word := if paired b && b.ptn.pos == 1 then cnIdB b c else cnIdA b c

/-- A frame of a transmit connection at this tick (Table 7.1). While vessel time is invalid the stamp is not stated: free values (R220). -/
def uslFrame (c : Nat) (b : Block) : List Byte × Block :=
  let (sec, ns, b) :=
    if b.tim.vtValid then (w32 (clkSec b.tim.vt), w32 (clkNs b.tim.vt), b)
    else
      let (s, b) := takeFree b
      let (n, b) := takeFree b
      (s, n, b)
  let id := cnOwnId b c
  let body := leBytes 1 0x11 ++ leBytes 1 (b.ptn.role + 4 * b1 (b.saf.engine == 2)) ++ leBytes 2 (connAt b c).txSeq ++ wordBytes id ++
    wordBytes sec ++ wordBytes ns ++ wordBytes (uslRunWord b) ++ wordBytes (cnResetWord b c)
  (body ++ wordBytes (uslCrc id body), b)

/-- Send one frame on a transmit connection, with the next SEQ (R217, R219). Without a transport nothing is sent, and SEQ stays (DEDUCED,
log 151). -/
def uslSend (c : Nat) (b : Block) : Block :=
  if !cnReady b c then b else
  let (bytes, b) := uslFrame c b
  let b := modConn c (fun x => { x with
    lastSeq := x.txSeq, txSeq := (x.txSeq + 1) % 65536, sent := true, resetLeft := tmap 0 (fun n => n - 1) x.resetLeft }) b
  if cnBus b c = 1 then canSendUsl (128 * cnPort b c + cnObj b c) bytes b
  else if cnBus b c = 2 then
    let n := cnPort b c
    let seq := if netSingle b n then none else some (netAt b n).seqNr
    let b := (lansUp b n).foldl (fun b l => emit (.uslEth n l c seq bytes) b) b
    if netSingle b n then b else modNet n (fun x => { x with seqNr := (x.seqNr + 1) % 65536 }) b
  else
    let m := leBytes 1 (cnObj b c) ++ [0, 0, 0] ++ bytes
    sendMsg 1 3 (msgFlags b) m (sendMsg 0 3 (msgFlags b) m b)

/-- USL_PERIODIC_SEND: at a multiple of PERIOD_WD (R219). An event frame due at the same tick goes with it. -/
def uslPeriodicSend (c : Nat) (b : Block) : Block :=
  if 24 ≤ c ∨ !cnSends b c ∨ cnPeriod b c = 0 ∨ b.tb % cnPeriod b c ≠ 0 then b else
  let due := (connAt b c).delayed && (match (connAt b c).lastEvent with
    | some t => decide (t + 10000 ≤ b.tb)
    | none => true)
  let b := if due then modConn c (fun x => { x with delayed := false, lastEvent := some b.tb }) b else b
  if (connAt b c).lastEvent = some b.tb ∧ !due then b else uslSend c b

/-- An event frame is due: now, or at the end of the 100 µs since the one before (R219). -/
def uslEvent (c : Nat) (b : Block) : Block :=
  if !cnSends b c then b else
  match (connAt b c).lastEvent with
  | some t =>
    if b.tb < t + 10000 then modConn c (fun x => { x with delayed := true }) b
    else uslSend c (modConn c (fun x => { x with lastEvent := some b.tb, delayed := false }) b)
  | none => uslSend c (modConn c (fun x => { x with lastEvent := some b.tb }) b)

/-- USL_EVENT_HOLDOFF_END: a delayed event frame leaves with the words in force now (R219). -/
def uslHoldoffEnd (c : Nat) (b : Block) : Block :=
  let x := connAt b c
  let exceed := match x.lastEvent with
    | some t => decide (t + 10000 ≤ b.tb)
    | none => true
  if 24 ≤ c ∨ !x.delayed ∨ !exceed then b else
  let b := modConn c (fun x => { x with delayed := false, lastEvent := some b.tb }) b
  if cnSends b c then uslSend c b else b

/-- The Safe Layer after a scan: three frames carry the reset bit of a RESET pair's demand, and a change of a word sends an event frame
(R218, R219). -/
def uslAfterScan (resets : List Nat) (b : Block) : Block :=
  let run := uslRunWord b
  let changed := run != b.saf.runWord
  let b := modSaf (fun s => { s with runWord := run }) b
  (List.range 24).foldl (fun b c =>
    if !(b.glb.active && cnEn b c && cnTx b c) then b else
    let old := cnResetWord b c
    let b := modConn c (fun x => { x with resetLeft := resets.foldl (fun t p => tset 0 t p 3) x.resetLeft }) b
    if changed || cnResetWord b c != old then uslEvent c b else b) b

/-- A module force stops every Ethernet frame but PTP, every datagram that waits and every serial payload (R196). -/
def forceStops (b : Block) : Block :=
  if !moduleForce b then b else
  let b := (List.range 4).foldl (fun b n => ethFlush n b) b
  let b := modEth (fun e => { e with tds := tmap {} (fun x => { x with waiting := none }) e.tds }) b
  (List.range 24).foldl (fun b p => serDropTx p b) b

/-- The rota (R469): in the scan that follows a multiple of 100 000 000 ticks the safety engine forces its next checker, until each has had its turn in
the running 24 h. A forced error that is detected is counted; one that is not is a SAFETY_ENGINE fault of its own. Which checker has which second is
not stated (DESIGN CHOICE, log 160). -/
def rotaStep (b : Block) : Block :=
  let sec := b.tb / 100000000
  if sec = b.flt.rotaSec then b else
  modFlt (fun f =>
    let n := 1 + Sys2Proof.Config.rotaCheckers % 256
    let done := if sec / 86400 = f.rotaSec / 86400 then f.rotaDone else 0
    if done < n then
      { f with rotaSec := sec, rotaDone := done + 1, rotaCount := (f.rotaCount + 1) % 0x10000, rotaNext := (f.rotaNext + 1) % n }
    else { f with rotaSec := sec, rotaDone := done }) b

/-- The words that a scan stores, as its check sees them (R44). -/
def scanWords (b : Block) : List Word :=
  readSaf b 0x10 :: uslRunWord b :: (List.range 24).flatMap fun p => [w32 (pairAt b p).k, w32 (pairAt b p).faultTick]

/-- The work of one scan that takes `dur` ticks, on every sample received since the scan before, in tick order (R185). Its results are checked
before they are stored (R44). -/
def scanRun (dur : Nat) (late : Bool) (b : Block) : Block :=
  let before := readSaf b 0x10
  let samples := sortTicks SafSample.tick b.saf.held
  let b := modSaf (fun s => { s with scanEnd := b.tb + dur, image := seedSafety b, lastCatch := late, catchUp := false, held := [] }) b
  let b := instanceStart 1 (perf 12 0 0 (rotaStep b))
  let write := fun (b : Block) => uslAfterScan (scanBody samples b).2 (scanBody samples b).1
  let b := checkedWrite (siteLoc 29) (scanWords (scanBody samples b).1) write b
  let b := modSaf (fun s => { s with
    scanned := (samples.map SafSample.tick).foldl max s.scanned, ended := s.ended.filter fun g => decide (b.tb < g.2 + 10000) }) b
  forceStops (canSweep (handoverTrip before (instanceEnd 1 29 dur b)))

/-- A scan that its predecessor has not ended before (R23, R185). -/
def scanOverrun (b : Block) : Block :=
  let b := modSaf (fun s => { s with overruns := sat16 s.overruns 1 }) b
  overrun 1 (siteLoc 29) (tripAll 8 (fire 58 (w32 b.saf.overruns) b))

/-- SAFETY_SCAN (R185): at 100 modulo 400; in the freeze window it becomes part of the catch-up scan, which starts when the freeze ends. A
trigger that falls while the catch-up scan runs starts its scan when that one ends. The samples that come with the command are kept until
a scan processes them. -/
def safetyScan (samples : List SafSample) (dur : Nat) (b : Block) : Block :=
  let trigger := b.tb % 400 = 100
  if !b.glb.ready then b else
  let b := modSaf (fun s => { s with held := s.held ++ samples }) b
  if b.freeze.isSome then (if trigger then modSaf (fun s => { s with catchUp := true }) b else b)
  else if b.saf.catchUp then
    if b.tb < b.saf.scanEnd then b else scanRun dur (!b.saf.lastCatch) b
  else if !trigger then b
  else if b.tb < b.saf.scanEnd then
    if b.saf.lastCatch then modSaf (fun s => { s with catchUp := true }) b else handoverTrip (readSaf b 0x10) (scanOverrun b)
  else scanRun dur false b

end Sys2Proof.Machine
end

