-- ==== Sys2Proof/Machine/TimeTrig.lean ====
section
/-! DEFINITION. A firing of a time trigger, and the assembly of telemetry images (R40, R153, R165 to R167, R424, R483, R495). -/

namespace Sys2Proof.Machine

/-- An image instant: one whose assembly is still outstanding skips it (R23, R165). -/
def imageInstant (i : Nat) (b : Block) : Block :=
  let x := imageAt b i
  if !imgEn b i ∨ x.stopped ∨ !isInstant b (fld (imgCfg b i) 0 6) (fld (imgCfg b i) 8 16) then b
  else if x.due.isSome then
    overrun (0x400 + i) (siteLoc 32) (modChn (fun c => { c with skipImages := sat16 c.skipImages 1 })
      (modImage i (fun x => { x with skipPrev := true }) b))
  else modImage i (fun x => { x with due := some b.tb, vt := b.tim.vt, deferred := false, skipped := x.skipPrev, skipPrev := false }) b

/-- A monitor of KIND 1 to 5 samples its source at an instant of its trigger and divider (R483). No stale limit is configured for it (log 40). -/
def monInstant (m : Nat) (b : Block) : Block :=
  let c := monCfg b m
  if !bit c 0 ∨ fld c 1 4 = 0 ∨ 5 < fld c 1 4 ∨ !isInstant b (fld c 5 6) (fld c 11 16) then b
  else monTake m (match srcRaw b (monSrc b m) with
    | some s => s.num
    | none => none) b

/-- The recorder triggers of KIND TIME on a time trigger (R495). -/
def timeSnapshots (n : Nat) (b : Block) : Block :=
  (List.range 32).foldl (fun b t =>
    if bit (trgCfg b t) 0 && fld (trgCfg b t) 1 2 == 2 && fld (trgArg b t) 0 8 == n then fireTriggerOf t b else b) b

/-- TIME_TRIGGER: trigger n fires at this tick (R424): sample instants, monitors, loop instants, image instants, send instants, and
snapshots. -/
def timeTrigger (n : Nat) (b : Block) : Block :=
  if 64 ≤ n ∨ !ttFires b n b.tb ∨ ttIndex b n < tget 0 b.tim.ttCount n then b else
  let k := ttIndex b n + 1
  let b := modTim (fun t => { t with ttCount := tset 0 t.ttCount n k }) b
  let b := (List.range 192).foldl (fun b c => if smpTrig b c = n then sampleInstant c b else b) b
  let b := (List.range 32).foldl (fun b m => if fld (monCfg b m) 5 6 = n then monInstant m b else b) b
  let b := lpeInstants n b
  let b := (List.range 64).foldl (fun b i => if fld (imgCfg b i) 0 6 = n then imageInstant i b else b) b
  let b := (List.range 2048).foldl (fun b o =>
    if objTrig b o = n && objEn b o && objTx b o && objMode b o == 1 && isInstant b n (objDiv b o) then
      canInstant o (canSweep (resolveTarget (targetKey 4 o 2) b)) else b) b
  let b := (List.range 128).foldl (fun b k =>
    if tdTrig b k = n && tdEn b k && isInstant b n (tdDiv b k) then tdInstant k b else b) b
  timeSnapshots n b

/-! Images. -/

/-- The entries of a block of an image with reference tick `t`. -/
def imgBlockBytes (b : Block) (t : Nat) (x : ImgBlock) : List Byte :=
  let body : List Byte :=
    if x.kind = 1 then x.chans.flatMap fun n =>
      let e := entryAt b n t
      bytesOf (entryWords n e (min 65535 ((t - e.tick) / 100)))
    else if x.kind = 2 then x.chans.flatMap fun n => hartEntry b n
    else if x.kind = 3 then
      match ([b.dp.rec1, b.dp.rec0].filterMap id).find? fun r => decide (r.outTick ≤ t) with
      | some r => intakeBytes r
      | none => []
    else
      match ([b.dp.cyc1, b.dp.cyc0].filterMap id).find? fun r => decide (r.outTick ≤ t) with
      | some r => leBytes 8 r.outTick ++ r.bytes
      | none => []
  leBytes 1 x.kind ++ [0] ++ leBytes 2 x.count ++ leBytes 4 (blockLen x) ++ fillTo (entryBytes x.kind * x.count) body

/-- The image of an instant (Tables 5.4 and 5.5). -/
def imageBytes (b : Block) (i t : Nat) : List Byte :=
  let x := imageAt b i
  let blocks := imgBlocks b i
  leBytes 1 i ++ leBytes 1 1 ++ leBytes 2 blocks.length ++ leBytes 4 (wrap32 x.count 1) ++ leBytes 8 t ++ leBytes 6 (clkSec x.vt) ++
    leBytes 4 (clkNs x.vt) ++ leBytes 2 (clkFrac x.vt) ++ leBytes 1 b.ptn.role ++
    leBytes 1 (b1 x.deferred + 2 * b.glb.bank + 4 * b1 x.skipped) ++ [0, 0] ++ blocks.flatMap (imgBlockBytes b t)

/-- An image is handed to a TLM ring (R105, R167): staged, over the oldest one when DEPTH are staged, or discarded. -/
def pushImage (n : Nat) (img : TlmImage) (b : Block) : Block :=
  modRing n (fun r =>
    let r := { r with imgSeq := wrap32 r.imgSeq 1 }
    let img := { img with seq := r.imgSeq }
    if r.state ≠ .running then { r with drops := sat32 r.drops 1 }
    else if r.imgs.length < r.depth then { r with imgs := r.imgs ++ [img] }
    else { r with imgs := r.imgs.drop 1 ++ [img], drops := sat32 r.drops 1 }) b

/-- A value write that a freeze has deferred is still outstanding (R155). -/
def writesDeferred (b : Block) : Bool := b.chn.chans.any fun p => p.2.dueLate && p.2.due.isSome

/-- Trigger tick and trigger number of the instance of an image (R29). -/
def imgKey (b : Block) (i t : Nat) : Nat := 64 * t + fld (imgCfg b i) 0 6

/-- Another image that the freeze has deferred comes first: its trigger tick, or on the same tick its trigger number, is lower (R29). -/
def imageFirst (b : Block) (i t : Nat) : Bool :=
  b.chn.images.any fun p => p.2.deferred && p.2.due.any fun u => decide (imgKey b p.1 u < imgKey b i t)

/-- The assembly of an image that is over by now ends: the image counts, and every enabled TLM ring that names it takes it (R167). One that runs
at a bank switch never ends (R68). -/
def imageDone (i : Nat) (b : Block) : Block :=
  let x := imageAt b i
  match x.inHand with
  | none => b
  | some img =>
    if b.tb < x.endAt then b else
    let b := modImage i (fun x => { x with inHand := none, count := wrap32 x.count 1 }) b
    let b := (enabledRings b tTLM).foldl (fun b n => if (ring b n).image = i then pushImage n img b else b) b
    instanceEnd (0x400 + i) 32 x.dur b

/-- A tick of the assembly of images, which a freeze holds (R26). -/
def imageTick (b : Block) : Block := if b.freeze.isSome then b else b.chn.images.foldl (fun b p => imageDone p.1 b) b

/-- IMAGE_ASSEMBLY: the assembly of an image that takes `dur` ticks starts, at T + 2 000 or when a freeze ends after it (R165 to R167), with its
snapshot. A deferred one waits for the deferred value writes (R155) and for those before it (R29); one whose start finds the assembly before it
still running is skipped (R23). -/
def imageAssembly (i dur : Nat) (b : Block) : Block :=
  match (imageAt b i).due with
  | none => b
  | some t =>
    let x := imageAt b i
    if b.tb < t + 2000 ∨ b.freeze.isSome ∨ !b.glb.active ∨ (x.deferred && (writesDeferred b || imageFirst b i t)) then b else
    if b.tb < x.endAt then
      overrun (0x400 + i) (siteLoc 32) (modChn (fun c => { c with skipImages := sat16 c.skipImages 1 })
        (modImage i (fun x => { x with due := none, skipPrev := true }) b))
    else
    let b := instanceStart (0x400 + i) b
    let img : TlmImage := { image := i, tick := t, body := imageBytes b i t }
    imageDone i (modImage i (fun x => { x with
      due := none, skipped := false, deferred := false, endAt := b.tb + dur, dur := dur, inHand := some img }) b)

end Sys2Proof.Machine
end

