-- ==== Sys2Proof/Machine/Startup.lean ====
section
/-! DEFINITION. Start-up: what a power-up keeps, the steps of Table 2.1, and Ready (R49 to R57, R59, R349, R479, R503, R523). -/

namespace Sys2Proof.Machine

/-- What a power-up finds: the contents of the MRAM, everything else at its reset value; every front end listens, because no frame reaches it
(R55, step 1 of Table 2.1). -/
def coldStart (b : Block) : Block :=
  let g := b.glb
  let r := b.recorder
  let s := b.sec
  let w := b.growth
  let site := fun (x : Site) => { x with window := [] }
  { out := b.out, free := b.free
    glb := { bank0 := g.bank0, bank1 := g.bank1, selA := g.selA, selB := g.selB }
    ptn := { slot0 := b.ptn.slot0, slot1 := b.ptn.slot1 }
    recorder := { seq := r.seq, sapNext := r.sapNext, hwCount := r.hwCount, hwOpened := r.hwOpened, sap := r.sap, hw := r.hw }
    dsp := { shown := b.dsp.shown, dirty := b.dsp.dirty }
    chn := { chans := (List.range 192).map fun n => (n, { fe := 2 }) }
    sec := { lcA := s.lcA, lcB := s.lcB, policy := s.policy, seals := s.seals, unseals := s.unseals, survived := s.survived
             powerDowns := s.powerDowns, lastLoss := s.lastLoss }
    growth := { sites := tmap {} site w.sites, age := w.age, closed := w.closed, marks := w.marks, trimReq := w.trimReq } }

/-- Step 1: the supply, the pair position, and the standing trim request (R49, R349, R556). -/
def startSupply (i : StartInfo) (b : Block) : Block :=
  let b := modSec (fun s => { s with feedA := i.feedA, feedB := i.feedB }) b
  trimRepeat (modPtn (fun p => { p with pos := b1 i.posOpen }) (modSaf (fun s => { s with supplyOk := true }) b))

/-- Step 3: the hold-up store has reached 1.6 J, and MRAM may be written (R51): DIRTY of a display fenced before it stands in MRAM from here on
(R518). -/
def startHoldup (i : StartInfo) (b : Block) : Block :=
  let b := modSec (fun s => { s with holdupMj := max 1600 i.holdup }) (modGlb (fun g => { g with mramOk := true }) b)
  modDsp (fun d => { d with dirty := d.dirty || isFenced b .display }) b

/-- Fault source of an item of Table 2.2. -/
def itemSource (item : Nat) : Nat := [0x09, 0x0B, 0x05, 0x06, 0x01, 0x0D, 0x0C, 0x15, 0x07].getD item 0

/-- Isolate at start unless the unit at the location could be fenced. -/
def isolateUnlessFenced (source : Nat) (l : Word) (b : Block) : Block :=
  match unitAt l with
  | .fence u => if isFenced b u then b else isolate source b
  | _ => isolate source b

/-- A lane was fenced and no spare is left in its engine (Table 2.2). -/
def noSpareLeft (b : Block) (l : Word) : Bool :=
  match unitAt l with
  | .fence (.loopLane _) => decide ((loopLanes b).length < 16)
  | .fence (.solverLane _) => decide ((solverLanes b).length < 8)
  | _ => true

/-- A failure in Table 2.2 sets its bit, raises its fault and applies the reaction of the table (R52). -/
def startFail (f : StartFail) (b : Block) : Block :=
  if 8 < f.item || !locOk f.loc then b else
  let src := itemSource f.item
  let again := f.item == 8 && bit b.glb.selftest 8
  let b := modGlb (fun g => { g with selftest := putBit g.selftest f.item true }) b
  let b := fault src f.loc (f.item != 8) false f.info b
  match f.item with
  | 0 => isolateUnlessFenced src f.loc b
  | 1 => if f.info = .activeBank ∨ f.info = .shadowBank then b else isolate src b
  | 2 => if noSpareLeft b f.loc then isolate src b else b
  | 3 => if noSpareLeft b f.loc then isolate src b else b
  | 8 => if again then isolate src b else b
  | _ => b

/-- The selector and the lifecycle are read: copy A where it passes, otherwise copy B (R59, R523). -/
def startCopies (bad : List (Fin 4)) (b : Block) : Block :=
  let keep := fun (i : Fin 4) (x : Option Nat) => if bad.contains i then none else x
  let b := modGlb (fun g =>
    let a := keep 0 g.selA
    let c := keep 1 g.selB
    { g with selA := a, selB := c, bank := (a.or c).getD 0, selectorBad := (a.or c).isNone }) b
  let a := keep 2 b.sec.lcA
  let c := keep 3 b.sec.lcB
  let b := modSec (fun s => { s with lcA := a, lcB := c, lifecycle := (a.or c).getD 2 }) b
  fireIf (a.or c).isNone 248 (regOf [(0, 2, 2), (4, 1, 1)]) b

/-- The newest valid seed slot (R53, R382): its number. -/
def newestSlot (b : Block) : Option Nat :=
  match b.ptn.slot0, b.ptn.slot1 with
  | none, none => none
  | some _, none => some 0
  | none, some _ => some 1
  | some x, some y => if (y.seq + 2 ^ 32 - x.seq) % 2 ^ 32 < 2 ^ 31 then some 1 else some 0

/-- Step 6: the seed slots, the selected bank's image CRC, the display-dirty flag and the recorder's next slots. -/
def startStore (b : Block) : Block :=
  let old := newestSlot b
  let b := modPtn (fun p => { p with nextSlot := if old = some 0 then 1 else 0 }) (modGlb (fun g => { g with
    seedOld := old.isSome, oldSeeds := old.isSome
    selPassed := !g.selectorBad && g.activeBank.present && g.activeBank.readable && imageCrcOk g.activeBank.mem }) b)
  let b := if b.dsp.dirty then modDsp (fun d => { d with wanted := some 0 }) b else b
  let r := b.recorder
  let torn := fun (x : Record) => x.seqA != x.seqB
  let sap := torn (tget {} r.sap r.sapNext)
  let hw := decide (r.hwCount < 4096) && torn (tget {} r.hw r.hwCount)
  let b := modRec (fun r => { r with tornSap := sap, tornHw := hw, lost := b1 sap + b1 hw }) b
  if sap || hw then markBit 0xC0014 2 (modRec (fun r => { r with latch := putBit r.latch 2 true }) b) else b

/-- Step 7: the field group supplies; every front end that has passed its self-test goes on listening, and those of a group without a feed are OFF. An
output of such a group is not restart-held when its first feed arrives: no power-off has interrupted it (DESIGN CHOICE, log 138). -/
def startField (volts : List Nat) (b : Block) : Block :=
  (List.range 8).foldl (fun b g =>
    let va := volts.getD (2 * g) 0
    let vb := volts.getD (2 * g + 1) 0
    let a := decide (340 ≤ va)
    let c := decide (340 ≤ vb)
    let b := modGroup g (fun x => { x with okA := a, okB := c, voltA := va, voltB := vb, fieldLost := !(a || c), converters := a || c }) b
    let b := groupLatch g (regOf [(0, 1, b1 !a), (1, 1, b1 !c), (2, 1, b1 !(a || c))]) b
    (chansOf g).foldl (fun b n =>
      if isFenced b (.channel n) then modChan n (fun x => { x with fe := 5 }) b
      else if a || c then modChan n (fun x => { x with fe := 2 }) b
      else setSt n 15 true (setSt n 14 true (modChan n (fun x => { x with fe := 0 }) b))) b) b

/-- The replica paths are measured once (step 8). -/
def startReadings (readings : List Nat) (b : Block) : Block :=
  (List.range 33).foldl (fun b s => modSite s (takeReading b.glb.mramOk b.tb b.growth.trimApplied (readings.getD s 0)) b) b

/-- Step 8: the selected bank comes into force when it passes (R56, R57). -/
def startBank (b : Block) : Block :=
  let k := b.glb.activeBank
  if b.glb.selectorBad || !k.present || !b.glb.selPassed || (bankFails b k none).isSome || (growthReject b k.mem false).isSome then b else
  let low := growthReject b k.mem true
  let old := b
  let b := bankChange old (modGlb (fun g => { g with active := true, bankTick := b.tb, marginLow := low.isSome }) b)
  match low with
  | none => b
  | some r =>
    let a := (r.detail.getD 0) % 0x10000
    fault 0x11 (siteLoc (carrierSite b a (dProjAt b b.growth.trimApplied a))) false false (.activity a) (setMarginState 1 a b)

/-- The failures of some items of Table 2.2, in their order. -/
def startFails (p : Nat → Bool) (i : StartInfo) (b : Block) : Block :=
  (i.fails.filter fun f => p f.item).foldl (fun b f => startFail f b) b

def setPhase (k : Nat) (b : Block) : Block := modGlb (fun g => { g with phase := k }) b

/-- Latest ticks at which the steps 2 to 9 of Table 2.1 complete. -/
def stepLatest : List Nat := [2000000, 15000000, 30000000, 80000000, 100000000, 150000000, 200000000, 230000000]

/-- Tick at which step `k` of Table 2.1 completes: as early as the module finds, no earlier than the step before or the tick after tick 0, and never
later than the table's tick (R50). -/
def stepTick (i : StartInfo) : Nat → Nat
  | 0 => 1
  | 1 => 1
  | k + 1 => min (stepLatest.getD (k - 1) 0) (max (stepTick i k) ((i.early.getD (k - 1) none).getD (stepLatest.getD (k - 1) 0)))

/-- The self-test of Table 2.2 completes (step 5): the MRAM words are those of the banks that the selector names. -/
def startTest (i : StartInfo) (b : Block) : Block :=
  let keep := fun (k : Fin 4) (x : Option Nat) => if i.badCopies.contains k then none else x
  startFails (fun k => k != 7 && k != 8) i (modGlb (fun g => { g with bank := ((keep 0 g.selA).or (keep 1 g.selB)).getD 0 }) b)

/-- What a step of Table 2.1 does as it completes. The safety engine tests itself in step 9. -/
def startStep (i : StartInfo) (k : Nat) (b : Block) : Block :=
  match k with
  | 2 => setPhase 2 (match i.trimAck with
      | some f => trimAck f b
      | none => b)
  | 3 => setPhase 3 (startHoldup i b)
  | 4 => setPhase 4 (if i.refOk then refQualified b else b)
  | 5 => setPhase 5 (startTest i b)
  | 6 => setPhase 6 (startStore (startCopies i.badCopies b))
  | 7 => setPhase 7 (startField i.volts b)
  | 8 => setPhase 8 (checkShadow (startBank (modGlb (fun g => { g with started := true }) (startReadings i.readings b))))
  | 9 =>
    setPhase 9 (modPtn (fun p => { p with departLeft := 0 }) (modSaf (fun s => { s with fns := [] }) (startFails (fun k => k == 7) i b)))
  | _ => b

/-- First seed boundary after step 5, at which the credit paths are audited (Table 2.2). -/
def auditTick (i : StartInfo) : Nat := nextMultiple 1000000 (stepTick i 5 + 1)

/-- READY (step 10 of Table 2.1): ES000, the START record, the torn slots, and the lease logic begins. It comes once step 9 has completed, and no later
than 250 000 000 ticks (R50). An audit of the credit paths that is still to come stays due. -/
def readyReached (b : Block) : Block :=
  if b.glb.phase ≠ 9 then b else
  let b := modGlb (fun g => { g with phase := 15, ready := true, start := g.start.filter fun i => decide (b.tb < auditTick i) }) b
  let b := modPtn (fun p => { p with readyTick := b.tb, ageFrom := b.tb, silentFrom := b.tb, eS := b.tb }) (ethReady b)
  let b := fire 0 (regOf [(0, 10, fld (startStatus b) 0 10), (10, 2, b.ptn.role)]) b
  let b := startSnapshot b
  let b := fireIf b.recorder.tornSap 242 (regOf [(0, 2, 1)]) b
  let b := fireIf b.recorder.tornHw 242 (regOf [(0, 2, 1), (2, 1, 1)]) b
  updatePower (ptnReconsider b)

/-- The start-up sequence at tick `t` (R50): the steps that complete at it, the audit of the credit paths, and Ready at its latest. -/
def startAt (i : StartInfo) (t : Nat) (b : Block) : Block :=
  let b := ([2, 3, 4, 5, 6, 7, 8, 9] : List Nat).foldl (fun b k => if b.glb.phase + 1 = k ∧ stepTick i k ≤ t then startStep i k b else b) b
  let b := if auditTick i = t then modGlb (fun g => if g.ready then { g with start := none } else g) (startFails (fun k => k == 8) i b) else b
  if t = 250000000 then readyReached b else b

/-- The start-up sequence at a tick. -/
def startTick (b : Block) : Block :=
  match b.glb.start with
  | some i => startAt i b.tb b
  | none => b

/-- The module with no command waiting: the timebase ticks (R412), the start-up sequence, the ring engine, the assembly of images, the
evaluations of the loop engine and the solves of the DP engine run on, but not while the module is Off (R533; log 4). -/
def idle (b : Block) : Block := if b.sec.power = 3 then b else dpTick (lpeTick (imageTick (ringTick (startTick (idleTick (overrunTick b))))))

/-- POWER_UP: the supply is qualified, tick 0 begins, and the sequence of Table 2.1 starts (R49, R50; log 14). It counts in Off and before
Ready. -/
def powerUp (i : StartInfo) (b : Block) : Block :=
  if (b.glb.ready ∧ b.sec.power ≠ 3) ∨ !(i.feedA || i.feedB) then b
  else startSupply i (modGlb (fun g => { g with start := some i }) (coldStart b))

end Sys2Proof.Machine
end

