-- ==== Sys2Proof/Machine/RegWrite.lean ====
section
/-! DEFINITION. Register accesses through a host link or the debug port: 64-bit pairs, access codes and actions (R12 to R17, R51, R64, R81 to
R85, R463, R529 to R531, R564). Sources: 0 H0, 1 H1, 2 the debug port. -/

namespace Sys2Proof.Machine

/-- The bits that a W1C write leaves set in the register at `off`: those not written 1, and those set at this very tick (R16). -/
def w1c (b : Block) (off : Nat) (old v : Word) : Word := old &&& (~~~v ||| freshBits b off)

/-! 64-bit registers. -/

/-- A ring's registers other than the doorbell and the control register are written only while it is DISABLED (R82). -/
def modIdle (n : Nat) (f : Ring → Ring) (b : Block) : Block := if (ring b n).state = .disabled then modRing n f b else b

/-- The 64-bit register whose low word stands at `off` takes a value (R13). -/
def write64 (src off : Nat) (lo hi : Word) (b : Block) : Block :=
  let v := join64 lo hi
  if 0x11000 ≤ off ∧ off < 0x13000 then modIdle ((off - 0x11000) / 0x40) (fun r => { r with baseLo := lo, baseHi := hi }) b
  else match off with
  | 0x40 => modGlb (fun g => { g with addrLo := lo, addrHi := hi }) b
  | 0x20028 => timIncWrite src 0 v b
  | 0x20030 => timIncWrite src 1 v b
  | 0x20038 => timIncWrite src 2 v b
  | 0x20040 => timStepWrite src 0 v b
  | 0x20048 => timStepWrite src 1 v b
  | 0x20050 => timVtSetWrite src 0 v b
  | 0xB0020 => forceWrite 1 hi (forceWrite 0 lo b)
  | _ => b

/-! 32-bit registers, block by block. -/

/-- A typed CRC is kept only while KEY is asserted, and not before Ready (R51, R72). -/
def typedValue (b : Block) (v : Word) : Option (Word × Nat) := if b.glb.key && b.glb.ready then some (v, b.tb) else none

def writeGlb (src r : Nat) (v : Word) (b : Block) : Block :=
  match r with
  | 0x48 => modGlb (fun g => { g with len := v }) b
  | 0x4C => if src < 2 then cfgCtrlWrite src v b else b
  | 0x50 =>
    let keep := w1c b 0x50 0x1800 v
    modGlb (fun g => { g with busyRefused := g.busyRefused && bit keep 11, cmdErr := g.cmdErr && bit keep 12 }) b
  | 0x58 => if b.glb.ready then modGlb (fun g => { g with typedImg := typedValue b v }) b else b
  | 0x5C => if b.glb.ready then modGlb (fun g => { g with typedSaf := typedValue b v }) b else b
  | _ => b

def writeRng (r : Nat) (v : Word) (b : Block) : Block :=
  if r = 0x8 then modRng (fun g => { g with conflictCount := v.toNat }) b
  else if 0x100 ≤ r ∧ r < 0x200 then
    let k := (r - 0x100) / 4
    modRng (fun g => { g with esMap := tset 0 g.esMap k ((v &&& 0xDFDFDFDF#32) ^^^ BitVec.ofNat 32 (k / 2 * 0x01010101)) }) b
  else if 0x200 ≤ r ∧ r < 0x280 then modRng (fun g => { g with holdoff := tset 0 g.holdoff ((r - 0x200) / 4) (v &&& 0xFFFF#32) }) b
  else if 0x1000 ≤ r ∧ r < 0x3000 then
    let n := (r - 0x1000) / 0x40
    match (r - 0x1000) % 0x40 with
    | 0x8 =>
      let c := ringCfgWrite (imgLen b) n (v &&& 0x3FFFFFFF#32) b
      if (ring b n).state = .disabled then canDrain c else c
    | 0xC => modIdle n (fun x => { x with cfg2 := v &&& 0xFF#32 }) b
    | 0x10 => ringDoorbell n v b
    | 0x18 => ringCtrlWrite n v b
    | _ => b
  else b

def writeTim (src r : Nat) (v : Word) (b : Block) : Block :=
  match r with
  | 0x18 => modTim (fun t => { t with latch := w1c b 0x20018 t.latch v }) b
  | 0x1C => timCtrlWrite src v b
  | 0x58 => timVtSetWrite src 1 v.toNat b
  | _ => b

def writeChn (r : Nat) (v : Word) (b : Block) : Block :=
  if 0x100 ≤ r ∧ r < 0x180 then
    if r % 0x10 = 0xC then modGroup ((r - 0x100) / 0x10) (fun x => { x with latch := w1c b (0x30000 + r) x.latch v }) b else b
  else if 0x1000 ≤ r ∧ r < 0x1000 + 0x20 * 192 then
    let n := (r - 0x1000) / 0x20
    match (r - 0x1000) % 0x20 with
    | 0x14 => modChan n (fun c => { c with latch := w1c b (0x30000 + r) c.latch v }) b
    | 0x18 =>
      let b := if bit v 0 then chnRetest n b else b
      if bit v 1 then chnClrLinkerr n b else b
    | _ => b
  else b

def writeCan (r : Nat) (v : Word) (b : Block) : Block :=
  if 0x100 ≤ r ∧ r < 0x500 then
    let c := (r - 0x100) / 0x40
    match (r - 0x100) % 0x40 with
    | 0x30 =>
      let b := if bit v 0 then canRecover c b else b
      if bit v 1 then canClrCounts c b else b
    | 0x34 => modCtl c (fun x => { x with latch := w1c b (0x70000 + r) x.latch v }) b
    | _ => b
  else b

def writeEth (r : Nat) (v : Word) (b : Block) : Block :=
  if 0x100 ≤ r ∧ r < 0x200 then
    let n := (r - 0x100) / 0x40
    match (r - 0x100) % 0x40 with
    | 0x24 => modNet n (fun x => { x with latch := w1c b (0x80000 + r) x.latch v }) b
    | 0x28 => if bit v 0 then ethClrCounts n b else b
    | _ => b
  else b

def writeSer (r : Nat) (v : Word) (b : Block) : Block :=
  if 0x100 ≤ r ∧ r < 0x400 ∧ r % 0x20 = 0x1C then modSerPort ((r - 0x100) / 0x20) (fun x => { x with latch := w1c b (0x90000 + r) x.latch v }) b else b

def writePtn (r : Nat) (v : Word) (b : Block) : Block :=
  if r = 0x40 then
    let b := if bit v 1 then ptnClrErrs b else b
    if bit v 0 then ptnTake b else b
  else b

def writeFlt (r : Nat) (v : Word) (b : Block) : Block :=
  if r = 0x28 then forceWrite 2 v b
  else if r = 0x2C then forceWrite 3 v b
  else if r = 0x30 then modFlt (fun f => { f with forceRefused := f.forceRefused && bit (w1c b 0xB0030 1 v) 0 }) b
  else if 0x4000 ≤ r ∧ r < 0x6000 ∧ r % 0x100 = 0x24 ∧ bit v 0 then monClear ((r - 0x4000) / 0x100) b
  else b

/-- The register is SEC_POLICY in a lifecycle that lets an RWS field be written (Table 0.7). -/
def writeSec (src r : Nat) (v : Word) (b : Block) : Block :=
  match r with
  | 0x4 => if b.sec.lifecycle ≤ 1 then modSec (fun s => { s with policy := v &&& 0xF#32 }) b else b
  | 0x8 => secConfirmWrite v b
  | 0xC => withBankOut (secCtrlWrite src v) b
  | 0x14 => modSec (fun s => { s with latch := w1c b 0xE0014 s.latch v }) b
  | _ => b

def writePrf (r : Nat) (v : Word) (b : Block) : Block :=
  match r with
  | 0x0 => modPrf (fun p => { p with userEn := v &&& 1#32 }) b
  | 0x20 => modPrf (fun p => { p with actSel := v &&& 0xFFFF#32 }) b
  | 0x38 => modPrf (fun p => { p with ringSel := v &&& 0x7FFF#32 }) b
  | _ => b

/-- A write to a 32-bit register (R14, R15, R17). -/
def write32 (src off : Nat) (v : Word) (b : Block) : Block :=
  let r := off % 0x10000
  match off / 0x10000 with
  | 0x0 => writeGlb src r v b
  | 0x1 => writeRng r v b
  | 0x2 => writeTim src r v b
  | 0x3 => writeChn r v b
  | 0x7 => writeCan r v b
  | 0x8 => writeEth r v b
  | 0x9 => writeSer r v b
  | 0xA => writePtn r v b
  | 0xB => writeFlt r v b
  | 0xC => if r = 0x14 then modRec (fun x => { x with latch := w1c b 0xC0014 x.latch v }) b else b
  | 0xD => if r = 0x18 then modDsp (fun x => { x with latch := w1c b 0xD0018 x.latch v }) b else b
  | 0xE => writeSec src r v b
  | 0xF => writePrf r v b
  | _ => b

/-! One access. -/

/-- Registers of the configuration channel that the owning link keeps to itself (R64). -/
def ownedReg (off : Nat) : Bool := ([0x40, 0x44, 0x48, 0x4C, 0x58, 0x5C] : List Nat).contains off

/-- A write through a source (R12, R13, R51, R64): `wide` says that it is an aligned 32-bit access. -/
def hostWrite (src off : Nat) (v : Word) (wide : Bool) (b : Block) : Block :=
  if !wide ∨ off % 4 ≠ 0 ∨ 0x100000 ≤ off then b
  else if src < 2 ∧ b.glb.owned ∧ b.glb.owner ≠ src ∧ ownedReg off then markBit 0x50 11 (modGlb (fun g => { g with busyRefused := true }) b)
  else
    let held := (hostLink b src).held
    let b := modLink src (fun h => { h with held := none }) b
    if 0x10000 ≤ off ∧ !b.glb.ready then b
    else if isLow64 off then modLink src (fun h => { h with held := some (off, v) }) b
    else if isHigh64 off then
      let lo := match held with
        | some (o, w) => if o = off - 4 then w else readReg b src (off - 4)
        | none => readReg b src (off - 4)
      write64 src (off - 4) lo v b
    else write32 src off v b

/-- The fault record whose word W`i` stands at an offset. -/
def recWordAt (off : Nat) : Option (Nat × Nat) :=
  if 0xB1000 ≤ off ∧ off < 0xB1200 then some ((off - 0xB1000) / 0x20, (off - 0xB1000) % 0x20 / 4) else none

/-- What a read of the aligned word at `off` returns to a source: a latched word where the source's latch belongs to it (R13, R463). -/
def readThrough (b : Block) (src off : Nat) : Word :=
  let h := hostLink b src
  let now := readReg b src off
  match recWordAt off with
  | some (n, i) =>
    if i = 0 then now else
    match h.recLatch with
    | some (m, ws) => if m = n then ws.getD (i - 1) 0 else now
    | none => now
  | none =>
    match h.latch with
    | some (o, w) => if isHigh64 off && o == off - 4 then w else now
    | none => now

/-- The latches that a read of the aligned word at `off` loads (R13, R463). -/
def readLatch (src off : Nat) (b : Block) : Block :=
  if isLow64 off then
    let hi := readReg b src (off + 4)
    modLink src (fun h => { h with latch := some (off, hi) }) b
  else match recWordAt off with
  | some (n, 0) =>
    let ws := (List.range 7).map fun i => readReg b src (off + 4 + 4 * i)
    modLink src (fun h => { h with recLatch := some (n, ws) }) b
  | _ => b

/-- A read of `len` bytes within one word: the addressed bytes of the register, with every effect of a read of the word (R12). -/
def hostRead (src off len : Nat) (b : Block) : Block :=
  let w := off - off % 4
  if 0x100000 ≤ off ∨ len = 0 ∨ 4 < off % 4 + len then b
  else
    let v := fld (readThrough b src w) (8 * (off % 4)) (8 * len)
    emit (.regValue src off (w32 v)) (readLatch src w b)

/-! The debug port (R529 to R531, Table 17.5). -/

/-- The result of an operation stands until the next one. -/
def dbgResult (err : Bool) (data : BitVec 64) (b : Block) : Block := modSec (fun s => { s with dbgErr := err, dbgData := data }) b

/-- An operation that returns nothing the spec states: DATA is a free value (log 1). -/
def dbgFree (err : Bool) (b : Block) : Block :=
  let (lo, b) := takeFree b
  let (hi, b) := takeFree b
  dbgResult err (BitVec.ofNat 64 (join64 lo hi)) b

/-- The operation was refused or failed: DATA is 0 at level Closed (Table 17.4). -/
def dbgFail (b : Block) : Block := if b.sec.level = 0 then dbgResult true 0 b else dbgFree true b

/-- A scan of DBG_CMD: Capture-DR shows the result of the operation before, and Update-DR starts this one when the level allows it. -/
def dbgScan (level : Nat) (op : Block → Block) (b : Block) : Block :=
  let b := emit (.debug b.sec.dbgErr b.sec.dbgData) b
  if b.sec.level < level then dbgFail b else op b

/-- REG_READ. -/
def dbgRead (addr : Word) (b : Block) : Block :=
  let off := addr.toNat
  dbgScan 1 (fun b =>
    if 0x100000 ≤ off ∨ off % 4 ≠ 0 then dbgFail b
    else
      let v := readThrough b 2 off
      dbgResult false (v.setWidth 64) (readLatch 2 off b)) b

/-- REG_WRITE. -/
def dbgWrite (addr val : Word) (b : Block) : Block :=
  let off := addr.toNat
  dbgScan 2 (fun b =>
    if 0x100000 ≤ off ∨ off % 4 ≠ 0 ∨ off = 0x4C ∨ off = 0xE0004 then dbgFail b
    else dbgFree false (hostWrite 2 off val true b)) b

/-- The location lies in a tile that is gated in Hold (Table 17.6). -/
def gatedTile (l : Word) : Bool := locDomain l == 2 && decide (locEngine l < 4) && locTile l == 0

/-- ARRAY_READ: the word is a free value, since the spec does not lay out the arrays (log 1). `corrected` is the source of a correctable error
that the read found: 8 SRAM_CE, 10 MRAM_CE. -/
def dbgArray (l : Word) (corrected : Option Nat) (b : Block) : Block :=
  dbgScan 1 (fun b =>
    if b.sec.power = 1 ∧ gatedTile l then dbgFail b
    else
      let (lo, b) := takeFree b
      let (hi, b) := takeFree b
      let b := dbgResult false (BitVec.ofNat 64 (join64 lo hi)) b
      match corrected with
      | some s => if s = 8 ∨ s = 0xA then faultDetected s l false false .plain b else b
      | none => b) b

/-- NOP. -/
def dbgNop (b : Block) : Block := dbgScan 1 (dbgFree false) b

end Sys2Proof.Machine
end

