-- ==== Sys2Proof/Machine/ExecBus.lean ====
section
/-! DEFINITION. Meanings of the commands of CAN, Ethernet and serial (chapters 12 to 14). -/

namespace Sys2Proof.Machine

/-- CAN_FRAME_RECEIVE (R393). -/
def execCanFrameReceive (ctl : Nat) (frame : Machine.CanFrame) (s : State) : Result :=
  act (.canFrameReceive ctl frame) (canFrameReceive ctl frame) s

/-- CAN_LAUNCH (R402). -/
def execCanLaunch (ring : Nat) (s : State) : Result := act (.canLaunch ring) (canLaunch ring) s

/-- CAN_ATTEMPT_START (R403). -/
def execCanAttemptStart (ctl : Nat) (s : State) : Result := act (.canAttemptStart ctl) (canAttemptStart ctl) s

/-- CAN_TX_COMPLETE (R400). -/
def execCanTxComplete (ctl tdcv : Nat) (s : State) : Result := act (.canTxComplete ctl tdcv) (canTxComplete ctl tdcv) s

/-- CAN_ATTEMPT_FAILED (R403). -/
def execCanAttemptFailed (ctl : Nat) (err : Machine.CanFailure) (tdcv : Nat) (s : State) : Result :=
  act (.canAttemptFailed ctl err tdcv) (canAttemptFailed ctl err tdcv) s

/-- RECOVER (R406). -/
def execRecover (link ctl : Nat) (s : State) : Result := act (.recover link ctl) (hostWrite link (0x70130 + 0x40 * ctl) 1 true) s

/-- RECOVERED (R406). -/
def execRecovered (ctl : Nat) (s : State) : Result := act (.recovered ctl) (canRecovered ctl) s

/-- CAN_CLR_COUNTS (R411). -/
def execCanClrCounts (link ctl : Nat) (s : State) : Result :=
  act (.canClrCounts link ctl) (hostWrite link (0x70130 + 0x40 * ctl) 2 true) s

/-- CAN_MODE_CHANGE (R389). -/
def execCanModeChange (ctl : Nat) (s : State) : Result := act (.canModeChange ctl) (canModeChange ctl) s

/-- DATA (R408). -/
def execData (ring : Nat) (s : State) : Result := act (.data ring) (runCmd .data ring) s

/-- LOCK (R394). -/
def execLock (ring : Nat) (s : State) : Result := act (.lock ring) (runCmd .lock ring) s

/-- TX_EN (R408). -/
def execTxEn (ring : Nat) (s : State) : Result := act (.txEn ring) (runCmd .txEn ring) s

/-- OBJECT_STATUS (R408). -/
def execObjectStatus (ring : Nat) (s : State) : Result := act (.objectStatus ring) (runCmd .objectStatus ring) s

/-- LOCK_TMO (R408). -/
def execLockTmo (obj : Nat) (s : State) : Result := act (.lockTmo obj) (canLockTmo obj) s

/-- ETH_FRAME_RECEIVE (R432). -/
def execEthFrameReceive (port : Nat) (frame : List Byte) (rx : Nat) (dropped : Bool) (s : State) : Result :=
  act (.ethFrameReceive port frame rx dropped) (ethFrameReceive port frame rx dropped) s

/-- NODE_FORGET (R431). -/
def execNodeForget (net mac : Nat) (s : State) : Result := act (.nodeForget net mac) (nodeForget net mac) s

/-- PRP_SUPERVISION (R430). -/
def execPrpSupervision (s : State) : Result := act .prpSupervision prpSupervision s

/-- ETH_LAUNCH (R435). -/
def execEthLaunch (ring : Nat) (s : State) : Result := act (.ethLaunch ring) (ethLaunch ring) s

/-- ETH_FRAME_SENT (R434). -/
def execEthFrameSent (net : Nat) (tx : Machine.TxStamps) (s : State) : Result := act (.ethFrameSent net tx) (ethFrameSent net tx) s

/-- RECEIVING_TIMEOUT (R436). -/
def execReceivingTimeout (stream : Nat) (s : State) : Result := act (.receivingTimeout stream) (receivingTimeout stream) s

/-- ETH_LINK_CHANGE (R430). -/
def execEthLinkChange (port : Nat) (up : Bool) (s : State) : Result := act (.ethLinkChange port up) (ethLinkChange port up) s

/-- ETH_CLR_COUNTS (R443). -/
def execEthClrCounts (link net : Nat) (s : State) : Result :=
  act (.ethClrCounts link net) (hostWrite link (0x80128 + 0x40 * net) 1 true) s

/-- SENTENCE_RECEIVE (R446). -/
def execSentenceReceive (port : Nat) (line : List Byte) (rx : Nat) (framing : List Nat) (fits : Bool) (s : State) : Result :=
  act (.sentenceReceive port line rx framing fits) (sentenceReceive port line rx framing fits) s

/-- SENTENCE_GAP (R446). -/
def execSentenceGap (port : Nat) (s : State) : Result := act (.sentenceGap port) (sentenceGap port) s

/-- CHUNK_END (R452). -/
def execChunkEnd (port : Nat) (bytes : List Byte) (rx bad dropped : Nat) (s : State) : Result :=
  act (.chunkEnd port bytes rx bad dropped) (chunkEnd port bytes rx bad dropped) s

/-- SERIAL_TRANSMIT (R453). -/
def execSerialTransmit (ring : Nat) (s : State) : Result := act (.serialTransmit ring) (serialTransmit ring) s

/-- SERIAL_TX_COMPLETE (R453). -/
def execSerialTxComplete (port : Nat) (s : State) : Result := act (.serialTxComplete port) (serialTxComplete port) s

/-- ERROR_FRAME_DETECTED (R405). -/
def execErrorFrameDetected (ctl lec : Nat) (one : Bool) (eights : Nat) (s : State) : Result :=
  act (.errorFrameDetected ctl lec one eights) (canErrorFrame ctl lec one eights) s

end Sys2Proof.Machine
end

