-- ==== Sys2Proof/Machine/ExecControl.lean ====
section
/-! DEFINITION. Meanings of the commands of the loop engine and the DP engine (chapters 8 to 10). -/

namespace Sys2Proof.Machine

/-- LOOP_EVALUATION (R254). -/
def execLoopEvaluation (lane dur : Nat) (s : State) : Result := act (.loopEvaluation lane dur) (loopEvaluation lane dur) s

/-- TUNE_START (R262). -/
def execTuneStart (ring : Nat) (s : State) : Result := act (.tuneStart ring) (runCmd .tuneStart ring) s

/-- TUNE_TIMEOUT (R264). -/
def execTuneTimeout (slot : Nat) (s : State) : Result := act (.tuneTimeout slot) (tuneTimeout slot) s

/-- TUNE_ABORT (R264). -/
def execTuneAbort (ring : Nat) (s : State) : Result := act (.tuneAbort ring) (runCmd .tuneAbort ring) s

/-- TUNE_ACCEPT (R265). -/
def execTuneAccept (ring : Nat) (s : State) : Result := act (.tuneAccept ring) (runCmd .tuneAccept ring) s

/-- TUNE_REJECT (R265). -/
def execTuneReject (ring : Nat) (s : State) : Result := act (.tuneReject ring) (runCmd .tuneReject ring) s

/-- LOOP_PV (R270). -/
def execLoopPv (ring : Nat) (s : State) : Result := act (.loopPv ring) (runCmd .loopPv ring) s

/-- LOOP_OUT (R270). -/
def execLoopOut (ring : Nat) (s : State) : Result := act (.loopOut ring) (runCmd .loopOut ring) s

/-- LOOP_STATUS (R270). -/
def execLoopStatus (ring : Nat) (s : State) : Result := act (.loopStatus ring) (runCmd .loopStatus ring) s

/-- GAIN_TABLE_READ (R270). -/
def execGainTableRead (ring : Nat) (s : State) : Result := act (.gainTableRead ring) (runCmd .gainTableRead ring) s

/-- DP_CYCLE_BOUNDARY (R313). -/
def execDpCycleBoundary (s : State) : Result := act .dpCycleBoundary (atPoint 2 dpCycleBoundary) s

/-- INTAKE_STAGE (R306). -/
def execIntakeStage (dur : Nat) (s : State) : Result := act (.intakeStage dur) (intakeStage dur) s

/-- LATE_WINDOW_END (R295). -/
def execLateWindowEnd (s : State) : Result := act .lateWindowEnd lateWindowEnd s

/-- ESTIMATOR_STAGE (R323). -/
def execEstimatorStage (dur : Nat) (s : State) : Result := act (.estimatorStage dur) (estimatorStage dur) s

/-- CONTROL_LAW_STAGE (R326). -/
def execControlLawStage (dur : Nat) (s : State) : Result := act (.controlLawStage dur) (controlLawStage dur) s

/-- INTACT_SOLVE (R331). -/
def execIntactSolve (dur : Nat) (s : State) : Result := act (.intactSolve dur) (intactSolveStage dur) s

/-- DELIVERY (R334). -/
def execDelivery (s : State) : Result := act .delivery delivery s

/-- CONSEQUENCE_SOLVE (R335). -/
def execConsequenceSolve (group dur : Nat) (s : State) : Result := act (.consequenceSolve group dur) (consequenceSolve group dur) s

/-- CONSEQUENCE_CUTOFF (R315). -/
def execConsequenceCutoff (s : State) : Result := act .consequenceCutoff consequenceCutoff s

/-- SELECT (R308). -/
def execSelect (ring : Nat) (s : State) : Result := act (.select ring) (runCmd .select ring) s

/-- READMIT (R301). -/
def execReadmit (ring : Nat) (s : State) : Result := act (.readmit ring) (runCmd .readmit ring) s

/-- FUSION_MODE (R291). -/
def execFusionMode (ring : Nat) (s : State) : Result := act (.fusionMode ring) (runCmd .fusionMode ring) s

/-- RE_ORIGIN (R307). -/
def execReOrigin (ring : Nat) (s : State) : Result := act (.reOrigin ring) (runCmd .reOrigin ring) s

/-- INTAKE_STATUS (R308). -/
def execIntakeStatus (ring : Nat) (s : State) : Result := act (.intakeStatus ring) (runCmd .intakeStatus ring) s

/-- DP_ENABLE (R312). -/
def execDpEnable (ring : Nat) (s : State) : Result := act (.dpEnable ring) (runCmd .dpEnable ring) s

/-- SP_HERE (R344). -/
def execSpHere (ring : Nat) (s : State) : Result := act (.spHere ring) (runCmd .spHere ring) s

/-- GROUP_EN (R344). -/
def execGroupEn (ring : Nat) (s : State) : Result := act (.groupEn ring) (runCmd .groupEn ring) s

/-- DP_STATUS (R344). -/
def execDpStatus (ring : Nat) (s : State) : Result := act (.dpStatus ring) (runCmd .dpStatus ring) s

end Sys2Proof.Machine
end

