-- ==== Sys2Proof/Machine/ExecField.lean ====
section
/-! DEFINITION. Meanings of the commands of field channels, sampling and HART (chapters 4 and 5). -/

namespace Sys2Proof.Machine

/-- A sample is written, and the DP sensors that take it are fed (R155, Table 9.3). -/
def sampleWritten (n : Nat) (x : Word) (high : Bool) (b : Block) : Block :=
  match (chanAt b n).due with
  | some t => if b.freeze.isSome then b else dpFeedChan n t (sampleWrite n x high b)
  | none => b

/-- COUPLER_FRAME_BOUNDARY (R39). -/
def execCouplerFrameBoundary (s : State) : Result := act .couplerFrameBoundary couplerFrameBoundary s

/-- FIELD_FRAME_RECEIVE (R118). -/
def execFieldFrameReceive (ch : Nat) (frame : Option Machine.FieldFrame) (s : State) : Result :=
  act (.fieldFrameReceive ch frame) (fieldFrameReceive ch frame) s

/-- FE_WATCHDOG (R139). -/
def execFeWatchdog (ch : Nat) (s : State) : Result := act (.feWatchdog ch) (feWatchdog ch) s

/-- FE_SELF_TEST_END (R139). -/
def execFeSelfTestEnd (ch : Nat) (pass : Bool) (s : State) : Result := act (.feSelfTestEnd ch pass) (feSelfTestEnd ch pass) s

/-- RETEST (R148). -/
def execRetest (link ch : Nat) (s : State) : Result := act (.retest link ch) (hostWrite link (0x31018 + 0x20 * ch) 1 true) s

/-- CLR_LINKERR (R152). -/
def execClrLinkerr (link ch : Nat) (s : State) : Result := act (.clrLinkerr link ch) (hostWrite link (0x31018 + 0x20 * ch) 2 true) s

/-- FOLDBACK (R123). -/
def execFoldback (ch : Nat) (s : State) : Result := act (.foldback ch) (foldback ch) s

/-- FOLDBACK_RETRY (R123). -/
def execFoldbackRetry (ch : Nat) (s : State) : Result := act (.foldbackRetry ch) (foldbackRetry ch) s

/-- COMPLIANCE (R127). -/
def execCompliance (ch : Nat) (s : State) : Result := act (.compliance ch) (compliance ch) s

/-- OPEN_LOAD (R128). -/
def execOpenLoad (ch : Nat) (s : State) : Result := act (.openLoad ch) (openLoad ch) s

/-- DEVIATION (R129). -/
def execDeviation (ch : Nat) (s : State) : Result := act (.deviation ch) (deviation ch) s

/-- DEVIATION_RETRY (R129). -/
def execDeviationRetry (ch : Nat) (s : State) : Result := act (.deviationRetry ch) (deviationRetry ch) s

/-- OVERLOAD (R135). -/
def execOverload (ch : Nat) (s : State) : Result := act (.overload ch) (overload ch) s

/-- OVERLOAD_RETRY (R135). -/
def execOverloadRetry (ch : Nat) (s : State) : Result := act (.overloadRetry ch) (overloadRetry ch) s

/-- THERMAL (R139). -/
def execThermal (ch : Nat) (hot : Bool) (s : State) : Result := act (.thermal ch hot) (thermal ch hot) s

/-- WIRE_BREAK (R132). -/
def execWireBreak (ch : Nat) (s : State) : Result := act (.wireBreak ch) (wireBreak ch) s

/-- COUPLER_LOSS (R147). -/
def execCouplerLoss (ch : Nat) (s : State) : Result := act (.couplerLoss ch) (couplerLoss ch) s

/-- FIELD_FEED_LOST (R145). -/
def execFieldFeedLost (group feed volts : Nat) (s : State) : Result :=
  act (.fieldFeedLost group feed volts) (fieldFeedLost group feed volts) s

/-- FIELD_FEED_RESTORED (R145). -/
def execFieldFeedRestored (group feed volts : Nat) (s : State) : Result :=
  act (.fieldFeedRestored group feed volts) (fieldFeedRestored group feed volts) s

/-- FE_POWER_OFF (R145). -/
def execFePowerOff (ch : Nat) (s : State) : Result := act (.fePowerOff ch) (fePowerOff ch) s

/-- OVERCURRENT (R149). -/
def execOvercurrent (group curA curB : Nat) (s : State) : Result := act (.overcurrent group curA curB) (overcurrent group curA curB) s

/-- RESTART_ACK (R150). -/
def execRestartAck (ring : Nat) (s : State) : Result := act (.restartAck ring) (runCmd .restartAck ring) s

/-- ENTRY (R150). -/
def execEntry (ring : Nat) (s : State) : Result := act (.entry ring) (runCmd .entry ring) s

/-- MEASURED (R163). -/
def execMeasured (ring : Nat) (s : State) : Result := act (.measured ring) (runCmd .measured ring) s

/-- CHANNEL_STATUS (R150). -/
def execChannelStatus (ring : Nat) (s : State) : Result := act (.channelStatus ring) (runCmd .channelStatus ring) s

/-- SAMPLE_WRITE (R155). -/
def execSampleWrite (ch : Nat) (x : Word) (high : Bool) (s : State) : Result := act (.sampleWrite ch x high) (sampleWritten ch x high) s

/-- DI_DEBOUNCE (R159). -/
def execDiDebounce (ch : Nat) (s : State) : Result := act (.diDebounce ch) (diDebounce ch) s

/-- IMAGE_ASSEMBLY (R165). -/
def execImageAssembly (image dur : Nat) (s : State) : Result := act (.imageAssembly image dur) (imageAssembly image dur) s

/-- HART_POLL (R171). -/
def execHartPoll (ch : Nat) (s : State) : Result := act (.hartPoll ch) (hartPoll ch) s

/-- HART_REPLY (R169). -/
def execHartReply (ch : Nat) (valid : Bool) (resp dev : Nat) (data : List Byte) (s : State) : Result :=
  act (.hartReply ch valid resp dev data) (hartReply ch valid resp dev data) s

/-- HART_REPLY_TIMEOUT (R169). -/
def execHartReplyTimeout (ch : Nat) (s : State) : Result := act (.hartReplyTimeout ch) (hartReplyTimeout ch) s

/-- HART_BURST_FRAME (R171). -/
def execHartBurstFrame (ch cmd resp dev : Nat) (data : List Byte) (s : State) : Result :=
  act (.hartBurstFrame ch cmd resp dev data) (hartBurstFrame ch cmd resp dev data) s

/-- HART_BURST_TIMEOUT (R171). -/
def execHartBurstTimeout (ch : Nat) (s : State) : Result := act (.hartBurstTimeout ch) (hartBurstTimeout ch) s

/-- HART_PASS_THROUGH (R175). -/
def execHartPassThrough (ring : Nat) (s : State) : Result := act (.hartPassThrough ring) (runCmd .hartPassThrough ring) s

/-- HART_STATUS (R179). -/
def execHartStatus (ring : Nat) (s : State) : Result := act (.hartStatus ring) (runCmd .hartStatus ring) s

/-- LISTEN_WINDOW_END (R142). -/
def execListenWindowEnd (s : State) : Result := act .listenWindowEnd listenWindowEnd s

end Sys2Proof.Machine
end

