-- ==== Sys2Proof/Machine/ExecHost.lean ====
section
/-! DEFINITION. Meanings of the commands of start-up, configuration, host links and rings (chapters 0 to 3). -/

namespace Sys2Proof.Machine

/-- REGISTER_WRITE (R15). -/
def execRegisterWrite (link off : Nat) (val : Word) (wide : Bool) (s : State) : Result :=
  act (.registerWrite link off val wide) (hostWrite link off val wide) s

/-- LOW_WORD_READ (R13). -/
def execLowWordRead (link off len : Nat) (s : State) : Result := act (.lowWordRead link off len) (hostRead link off len) s

/-- LOW_WORD_WRITE (R13). -/
def execLowWordWrite (link off : Nat) (val : Word) (s : State) : Result :=
  act (.lowWordWrite link off val) (fun b => if isLow64 off then hostWrite link off val true b else b) s

/-- HIGH_WORD_WRITE (R13). -/
def execHighWordWrite (link off : Nat) (val : Word) (s : State) : Result :=
  act (.highWordWrite link off val) (fun b => if isHigh64 off then hostWrite link off val true b else b) s

/-- FAULT_RECORD_W0_READ (R463). -/
def execFaultRecordW0Read (link n : Nat) (s : State) : Result := act (.faultRecordW0Read link n) (hostRead link (0xB1000 + 0x20 * n) 4) s

/-- POWER_UP (R49). -/
def execPowerUp (info : StartInfo) (s : State) : Result := actAlways (.powerUp info) (powerUp info) s

/-- READY (R50). -/
def execReady (s : State) : Result := act .ready readyReached s

/-- LINK_UP (R565). -/
def execLinkUp (link : Nat) (degraded : Bool) (s : State) : Result := act (.linkUp link degraded) (linkCameUp link degraded) s

/-- LINK_DOWN (R79). -/
def execLinkDown (link : Nat) (s : State) : Result := act (.linkDown link) (linkDown link) s

/-- LOAD (R63). -/
def execLoad (link : Nat) (s : State) : Result := act (.load link) (hostWrite link 0x4C 1 true) s

/-- IMAGE_READ_COMPLETE (R63). -/
def execImageReadComplete (data : Option LoadedImage) (s : State) : Result := act (.imageReadComplete data) (imageReadComplete data) s

/-- ADMISSION_COMPLETE (R65). -/
def execAdmissionComplete (s : State) : Result := act .admissionComplete admissionComplete s

/-- GROWTH_RETRY (R480). -/
def execGrowthRetry (s : State) : Result := act .growthRetry growthRetry s

/-- SWITCH (R67). -/
def execSwitch (link : Nat) (s : State) : Result := act (.switch link) (hostWrite link 0x4C 2 true) s

/-- ABORT (R70). -/
def execAbort (link : Nat) (s : State) : Result := act (.abort link) (hostWrite link 0x4C 8 true) s

/-- BANK_SWITCH (R68). -/
def execBankSwitch (s : State) : Result := act .bankSwitch bankSwitch s

/-- CONFIRM (R73). -/
def execConfirm (link : Nat) (s : State) : Result := act (.confirm link) (hostWrite link 0x4C 4 true) s

/-- CONFIRM_IMG_WRITE (R72). -/
def execConfirmImgWrite (link : Nat) (val : Word) (s : State) : Result := act (.confirmImgWrite link val) (hostWrite link 0x58 val true) s

/-- CONFIRM_SAF_WRITE (R72). -/
def execConfirmSafWrite (link : Nat) (val : Word) (s : State) : Result := act (.confirmSafWrite link val) (hostWrite link 0x5C val true) s

/-- KEY_ASSERTED (R71). -/
def execKeyAsserted (s : State) : Result := act .keyAsserted keyAsserted s

/-- KEY_RELEASED (R71). -/
def execKeyReleased (s : State) : Result := act .keyReleased keyReleased s

/-- RING_ENABLE (R81). -/
def execRingEnable (link ring : Nat) (cfg : Word) (s : State) : Result :=
  act (.ringEnable link ring cfg) (hostWrite link (0x11008 + 0x40 * ring) (putBit cfg 0 true) true) s

/-- RING_STOP (R83). -/
def execRingStop (link ring : Nat) (s : State) : Result := act (.ringStop link ring) (hostWrite link (0x11018 + 0x40 * ring) 1 true) s

/-- RING_RESET (R83). -/
def execRingReset (link ring : Nat) (s : State) : Result := act (.ringReset link ring) (hostWrite link (0x11018 + 0x40 * ring) 2 true) s

/-- DOORBELL (R85). -/
def execDoorbell (link ring h : Nat) (s : State) : Result :=
  act (.doorbell link ring h) (hostWrite link (0x11010 + 0x40 * ring) (w32 h) true) s

/-- DESCRIPTOR_FETCH (R87). -/
def execDescriptorFetch (ring : Nat) (data : Option (List Word)) (s : State) : Result :=
  act (.descriptorFetch ring data) (fun b => canDrain (descriptorFetch ring data b)) s

/-- DESCRIPTOR_WRITEBACK (R89). -/
def execDescriptorWriteback (ring : Nat) (res : Machine.WbResult) (s : State) : Result :=
  act (.descriptorWriteback ring res) (fun b => canDrain (descriptorWriteback ring res b)) s

/-- MSIX_HOLDOFF_END (R112). -/
def execMsixHoldoffEnd (link vec : Nat) (s : State) : Result := act (.msixHoldoffEnd link vec) (msixHoldoffEnd link vec) s

/-- WRITE (R101). -/
def execWrite (ring : Nat) (s : State) : Result := act (.write ring) (runCmd .write ring) s

/-- READ (R96). -/
def execRead (ring : Nat) (s : State) : Result := act (.read ring) (runCmd .read ring) s

/-- RELEASE (R101). -/
def execRelease (ring : Nat) (s : State) : Result := act (.release ring) (runCmd .release ring) s

/-- NOP (R96). -/
def execNop (ring : Nat) (s : State) : Result := act (.nop ring) (runCmd .nop ring) s

/-- CANCEL (R99). -/
def execCancel (ring : Nat) (s : State) : Result := act (.cancel ring) (runCmd .cancel ring) s

/-- TARGET_RESOLVE (R102). -/
def execTargetResolve (cls index field : Nat) (s : State) : Result :=
  act (.targetResolve cls index field) (targetResolve (targetKey cls index field)) s

/-- COMPLETION_TIMEOUT (R90). -/
def execCompletionTimeout (ring : Nat) (idx : Option Nat) (s : State) : Result :=
  act (.completionTimeout ring idx) (completionTimeout ring idx) s

/-- BUFFER_READ_COMPLETION (R90). -/
def execBufferReadCompletion (ring idx : Nat) (data : Option (List Byte)) (s : State) : Result :=
  act (.bufferReadCompletion ring idx data) (bufferReadCompletion ring idx data) s

/-- VECTOR_UNMASK (R112). -/
def execVectorUnmask (link vec : Nat) (s : State) : Result := act (.vectorUnmask link vec) (vectorUnmask link vec) s

/-- LINK_RETRAIN (R78). -/
def execLinkRetrain (link : Nat) (degraded : Bool) (s : State) : Result := act (.linkRetrain link degraded) (linkRetrain link degraded) s

end Sys2Proof.Machine
end

