-- ==== Sys2Proof/Machine/ExecHouse.lean ====
section
/-! DEFINITION. Meanings of the commands of faults, ageing, recorder, display, security and power (chapters 15 to 17). -/

namespace Sys2Proof.Machine

/-- A write through a host link, or through the debug port (source 2) at the level that allows it (R525, R531). -/
def anyWrite (src off : Nat) (v : Word) (b : Block) : Block := if src = 2 then dbgWrite (w32 off) v b else hostWrite src off v true b

/-- STAGE_HANG: an instance of an activity still runs on one of its sites 2 × D_cur + 4 000 ticks after its start (R459). -/
def stageHang (a s : Nat) (b : Block) : Block :=
  if (actSites b a).contains s && actExists b a then fault 0x04 (siteLoc s) true false (.activity a) b else b

/-- A logic feed returns; the conditions of Table 11.4 are judged afresh after Ride-through (R534, R536). -/
def feedRestored (i : Nat) (b : Block) : Block :=
  let c := logicFeedRestored i b
  if b.sec.power = 2 ∧ c.sec.power ≠ 2 then ptnReconsider c else c

/-- TIMEBASE_FAULT (R25). -/
def execTimebaseFault (s : State) : Result := act .timebaseFault (fault 0x01 (locOf 4 0 0 0x1F 0x3F 0xFF) true false .plain) s

/-- FAULT_DETECTED (R461). -/
def execFaultDetected (source : Nat) (loc : Word) (persistent forced : Bool) (info : FaultInfo) (s : State) : Result :=
  act (.faultDetected source loc persistent forced info) (faultDetected source loc persistent forced info) s

/-- FAULT_HANDLING_END (R457). -/
def execFaultHandlingEnd (domain : Nat) (s : State) : Result := act (.faultHandlingEnd domain) (faultHandlingEnd domain) s

/-- STAGE_HANG (R459). -/
def execStageHang (activity site : Nat) (s : State) : Result := act (.stageHang activity site) (stageHang activity site) s

/-- CORE_SUPPLY (R459). -/
def execCoreSupply (s : State) : Result := act .coreSupply (fault 0x17 0xFFFFFFFF true false .plain) s

/-- SCRUB_PASS_END (R464). -/
def execScrubPassEnd (area corrected : Nat) (s : State) : Result := act (.scrubPassEnd area corrected) (scrubPassEnd area corrected) s

/-- FORCE_WRITE (R467). -/
def execForceWrite (link which : Nat) (val : Word) (s : State) : Result :=
  act (.forceWrite link which val) (hostWrite link (0xB0020 + 4 * which) val true) s

/-- REPLICA_MEASUREMENT (R471). -/
def execReplicaMeasurement (readings : List Nat) (s : State) : Result :=
  act (.replicaMeasurement readings) (replicaMeasurement readings) s

/-- BARK_MEASUREMENT (R471). -/
def execBarkMeasurement (barks : List Nat) (s : State) : Result := act (.barkMeasurement barks) (barkMeasurement barks) s

/-- MARGIN_OUT (R478). -/
def execMarginOut (activity : Nat) (s : State) : Result := act (.marginOut activity) (marginOut activity) s

/-- AGE_SAVE (R474). -/
def execAgeSave (s : State) : Result := act .ageSave ageSave s

/-- MARK_CLOSE (R474). -/
def execMarkClose (s : State) : Result := act .markClose markClose s

/-- TRIM_STEP_DOWN (R479). -/
def execTrimStepDown (s : State) : Result := act .trimStepDown trimStepDown s

/-- TRIM_REQ_REPEAT (R556). -/
def execTrimReqRepeat (s : State) : Result := act .trimReqRepeat trimReqRepeat s

/-- TRIM_ACK (R556). -/
def execTrimAck (bytes : List Byte) (s : State) : Result := act (.trimAck bytes) (trimAck bytes) s

/-- TRIM (R479). -/
def execTrim (s : State) : Result := act .trim trimFault s

/-- CLR (R484). -/
def execClr (link mon : Nat) (s : State) : Result := act (.clr link mon) (hostWrite link (0xB4024 + 0x100 * mon) 1 true) s

/-- RECORD_WRITTEN (R498). -/
def execRecordWritten (s : State) : Result := act .recordWritten recordWritten s

/-- FIRE (R519). -/
def execFire (ring : Nat) (s : State) : Result := act (.fire ring) (runCmd .fire ring) s

/-- RECORDER_STATUS (R519). -/
def execRecorderStatus (ring : Nat) (s : State) : Result := act (.recorderStatus ring) (runCmd .recorderStatus ring) s

/-- DISPLAY_UPDATE_START (R509). -/
def execDisplayUpdateStart (s : State) : Result := act .displayUpdateStart displayUpdateStart s

/-- DISPLAY_FRAME (R510). -/
def execDisplayFrame (s : State) : Result := act .displayFrame displayFrame s

/-- FULL_REFRESH (R517). -/
def execFullRefresh (s : State) : Result := act .fullRefresh fullRefresh s

/-- REFRESH_PERIOD (R517). -/
def execRefreshPeriod (s : State) : Result := act .refreshPeriod refreshPeriod s

/-- THERMISTOR_READ (R513). -/
def execThermistorRead (temp : Option Int) (s : State) : Result := act (.thermistorRead temp) (thermistorRead temp) s

/-- RAIL_CHECK (R516). -/
def execRailCheck (pos neg vcom : Nat) (s : State) : Result := act (.railCheck pos neg vcom) (railCheck pos neg vcom) s

/-- HEARTBEAT (R506). -/
def execHeartbeat (s : State) : Result := act .heartbeat heartbeat s

/-- DISPLAY_VALUE (R508). -/
def execDisplayValue (ring : Nat) (s : State) : Result := act (.displayValue ring) (runCmd .displayValue ring) s

/-- REFRESH (R519). -/
def execRefresh (ring : Nat) (s : State) : Result := act (.refresh ring) (runCmd .refresh ring) s

/-- DISPLAY_STATUS (R519). -/
def execDisplayStatus (ring : Nat) (s : State) : Result := act (.displayStatus ring) (runCmd .displayStatus ring) s

/-- SEC_CONFIRM_WRITE (R525). -/
def execSecConfirmWrite (src : Nat) (val : Word) (s : State) : Result := act (.secConfirmWrite src val) (anyWrite src 0xE0008 val) s

/-- OPEN (R524). -/
def execOpenAction (src : Nat) (s : State) : Result := act (.openAction src) (anyWrite src 0xE000C 1) s

/-- SEAL (R527). -/
def execSeal (src : Nat) (s : State) : Result := act (.seal src) (anyWrite src 0xE000C 2) s

/-- UNSEAL (R527). -/
def execUnseal (src : Nat) (s : State) : Result := act (.unseal src) (anyWrite src 0xE000C 4) s

/-- RETIRE (R528). -/
def execRetire (src : Nat) (s : State) : Result := act (.retire src) (anyWrite src 0xE000C 8) s

/-- DBG_SET (R532). -/
def execDbgSet (src level : Nat) (s : State) : Result :=
  act (.dbgSet src level) (anyWrite src 0xE000C (regOf [(4, 1, 1), (5, 2, level)])) s

/-- REG_READ (R531). -/
def execRegRead (addr : Word) (s : State) : Result := act (.regRead addr) (dbgRead addr) s

/-- REG_WRITE (R531). -/
def execRegWrite (addr val : Word) (s : State) : Result := act (.regWrite addr val) (dbgWrite addr val) s

/-- ARRAY_READ (R531). -/
def execArrayRead (loc : Word) (corrected : Option Nat) (s : State) : Result := act (.arrayRead loc corrected) (dbgArray loc corrected) s

/-- DBG_NOP (R530). -/
def execDbgNop (s : State) : Result := act .dbgNop dbgNop s

/-- LOGIC_FEED_LOST (R534). -/
def execLogicFeedLost (feed : Nat) (s : State) : Result := act (.logicFeedLost feed) (logicFeedLost feed) s

/-- LOGIC_FEED_RESTORED (R534). -/
def execLogicFeedRestored (feed : Nat) (s : State) : Result := act (.logicFeedRestored feed) (feedRestored feed) s

/-- RIDE_THROUGH_TIMEOUT (R536). -/
def execRideThroughTimeout (s : State) : Result := act .rideThroughTimeout rideThroughTimeout s

/-- HOLDUP_RESERVE (R536). -/
def execHoldupReserve (mj : Nat) (s : State) : Result := act (.holdupReserve mj) (holdupReserve mj) s

/-- POWER_OFF (R537). -/
def execPowerOff (s : State) : Result := act .powerOff powerOff s

/-- WAKE_TEST (R535). -/
def execWakeTest (fails : List Word) (s : State) : Result := act (.wakeTest fails) (wakeTest fails) s

/-- HOLDUP_LOW (R560). -/
def execHoldupLow (mj : Nat) (s : State) : Result := act (.holdupLow mj) (holdupLow mj) s

end Sys2Proof.Machine
end

