-- ==== Sys2Proof/Machine/ExecPartner.lean ====
section
/-! DEFINITION. Meanings of the commands of the lease, the partner and the seed (chapter 11). -/

namespace Sys2Proof.Machine

/-- SEED_BOUNDARY (R26). -/
def execSeedBoundary (s : State) : Result := act .seedBoundary (atPoint 0 seedBoundary) s

/-- SEED_CAPTURE_COMPLETE (R28). -/
def execSeedCaptureComplete (s : State) : Result := act .seedCaptureComplete seedCaptureComplete s

/-- FREEZE_TIMEOUT (R28). -/
def execFreezeTimeout (s : State) : Result := act .freezeTimeout freezeTimeout s

/-- ROLE_SEND (R350). -/
def execRoleSend (s : State) : Result := act .roleSend roleSend s

/-- ROLE_RECEIVE (R352). -/
def execRoleReceive (k : Nat) (msg : List Byte) (s : State) : Result := act (.roleReceive k msg) (roleReceive k msg) s

/-- DEPART_SEND (R356). -/
def execDepartSend (s : State) : Result := act .departSend departSend s

/-- LIVENESS_LOSS (R352). -/
def execLivenessLoss (k : Nat) (s : State) : Result := act (.livenessLoss k) (livenessLoss k) s

/-- LEASE_FENCE (R362). -/
def execLeaseFence (s : State) : Result := act .leaseFence leaseFence s

/-- LEASE_EXPIRY (R363). -/
def execLeaseExpiry (s : State) : Result := act .leaseExpiry leaseExpiry s

/-- TAKE (R358). -/
def execTake (link : Nat) (s : State) : Result := act (.take link) (hostWrite link 0xA0040 1 true) s

/-- CLR_ERRS (R387). -/
def execClrErrs (link : Nat) (s : State) : Result := act (.clrErrs link) (hostWrite link 0xA0040 2 true) s

/-- START_ALONE (R358). -/
def execStartAlone (s : State) : Result := act .startAlone ptnStartAlone s

/-- SEED_RESTORE_COMPLETE (R366). -/
def execSeedRestoreComplete (s : State) : Result := act .seedRestoreComplete seedRestoreComplete s

/-- SEED_RECEIVE (R380). -/
def execSeedReceive (k : Nat) (msg : List Byte) (s : State) : Result := act (.seedReceive k msg) (seedReceive k msg) s

/-- PARTNER_USL_RECEIVE (R350). -/
def execPartnerUslReceive (k : Nat) (msg : List Byte) (s : State) : Result := act (.partnerUslReceive k msg) (partnerUslReceive k msg) s

/-- SEED_COMMIT_COMPLETE (R382). -/
def execSeedCommitComplete (ok : Bool) (s : State) : Result := act (.seedCommitComplete ok) (seedCommitComplete ok) s

/-- HANDOVER (R371). -/
def execHandover (ring : Nat) (s : State) : Result := act (.handover ring) (runCmd .handover ring) s

/-- ROLE_STATUS (R385). -/
def execRoleStatus (ring : Nat) (s : State) : Result := act (.roleStatus ring) (runCmd .roleStatus ring) s

/-- HANDOVER_BOUNDARY (R371). -/
def execHandoverBoundary (s : State) : Result := act .handoverBoundary handoverBoundary s

/-- HANDOVER_RESTORE (R371). -/
def execHandoverRestore (s : State) : Result := act .handoverRestore handoverRestore s

/-- HANDOVER_TICK (R372). -/
def execHandoverTick (s : State) : Result := act .handoverTick handoverTick s

/-- OVERLAP_WINDOW_END (R373). -/
def execOverlapWindowEnd (s : State) : Result := act .overlapWindowEnd overlapWindowEnd s

/-- DRILL_DUE (R384). -/
def execDrillDue (s : State) : Result := act .drillDue drillEvent s

/-- PARTNER_LINK_CHANGE (R351). -/
def execPartnerLinkChange (k : Nat) (up : Bool) (s : State) : Result := act (.partnerLinkChange k up) (partnerLinkChange k up) s

end Sys2Proof.Machine
end

