-- ==== Sys2Proof/Machine/ExecSafety.lean ====
section
/-! DEFINITION. Meanings of the commands of the safety engine and the Safe Layer (chapters 6 and 7). -/

namespace Sys2Proof.Machine

/-- SAFETY_SCAN (R185). -/
def execSafetyScan (samples : List Machine.SafSample) (dur : Nat) (s : State) : Result :=
  act (.safetyScan samples dur) (atPoint 1 (safetyScan samples dur)) s

/-- TEST_PULSE_SLOT (R187). -/
def execTestPulseSlot (slot : Nat) (s : State) : Result := act (.testPulseSlot slot) (testPulseSlot slot) s

/-- SAFETY_DATA_LOST (R186). -/
def execSafetyDataLost (ch : Nat) (s : State) : Result := act (.safetyDataLost ch) (safetyDataLost ch) s

/-- USL_FRAME_RECEIVE (R224). -/
def execUslFrameReceive (conn : Nat) (bytes : List Byte) (s : State) : Result :=
  act (.uslFrameReceive conn bytes) (uslReceive conn bytes) s

/-- USL_FAILED_END (R229). -/
def execUslFailedEnd (conn : Nat) (s : State) : Result := act (.uslFailedEnd conn) (uslFailedEnd conn) s

/-- USL_WATCHDOG (R228). -/
def execUslWatchdog (conn sub : Nat) (s : State) : Result := act (.uslWatchdog conn sub) (uslWatchdog conn sub) s

/-- USL_PERIODIC_SEND (R219). -/
def execUslPeriodicSend (conn : Nat) (s : State) : Result := act (.uslPeriodicSend conn) (uslPeriodicSend conn) s

/-- USL_EVENT_HOLDOFF_END (R219). -/
def execUslEventHoldoffEnd (conn : Nat) (s : State) : Result := act (.uslEventHoldoffEnd conn) (uslHoldoffEnd conn) s

end Sys2Proof.Machine
end

