-- ==== Sys2Proof/Machine/ExecTime.lean ====
section
/-! DEFINITION. Meanings of the commands of the time unit (chapter 13). -/

namespace Sys2Proof.Machine

/-- A committed write of a 64-bit register: its low word, then its high word (R13). -/
def pairWrite (link off : Nat) (v : BitVec 64) (b : Block) : Block :=
  hostWrite link (off + 4) (hiW v.toNat) true (hostWrite link off (loW v.toNat) true b)

/-- TIME_TRIGGER (R424). -/
def execTimeTrigger (tt : Nat) (s : State) : Result := act (.timeTrigger tt) (atPoint (3 + tt) (timeTrigger tt)) s

/-- REF_QUALIFIED (R413). -/
def execRefQualified (s : State) : Result := act .refQualified refQualified s

/-- REF_LOST (R413). -/
def execRefLost (s : State) : Result := act .refLost refLost s

/-- INC_WRITE (R415). -/
def execIncWrite (link k : Nat) (val : BitVec 64) (s : State) : Result :=
  act (.incWrite link k val) (pairWrite link (0x20028 + 8 * k) val) s

/-- STEP_WRITE (R416). -/
def execStepWrite (link k : Nat) (val : BitVec 64) (s : State) : Result :=
  act (.stepWrite link k val) (pairWrite link (0x20040 + 8 * k) val) s

/-- SEL (R417). -/
def execSel (link source : Nat) (s : State) : Result :=
  act (.sel link source) (hostWrite link 0x2001C (regOf [(0, 2, source), (2, 1, 1)]) true) s

/-- SET_TIME (R418). -/
def execSetTime (link : Nat) (s : State) : Result := act (.setTime link) (hostWrite link 0x2001C 0x08 true) s

/-- SET_VALID (R418). -/
def execSetValid (link : Nat) (s : State) : Result := act (.setValid link) (hostWrite link 0x2001C 0x10 true) s

/-- CLR_VALID (R418). -/
def execClrValid (link : Nat) (s : State) : Result := act (.clrValid link) (hostWrite link 0x2001C 0x20 true) s

/-- SNAP (R420). -/
def execSnap (link : Nat) (s : State) : Result := act (.snap link) (hostWrite link 0x2001C 0x40 true) s

/-- DISC_HOLD_EXPIRY (R418). -/
def execDiscHoldExpiry (s : State) : Result := act .discHoldExpiry discHoldExpiry s

/-- PPS_IN_EDGE (R427). -/
def execPpsInEdge (io : Nat) (s : State) : Result := act (.ppsInEdge io) (ppsInEdge io) s

/-- PPS_IN_TIMEOUT (R427). -/
def execPpsInTimeout (io : Nat) (s : State) : Result := act (.ppsInTimeout io) (ppsInTimeout io) s

/-- PPS_OUT_RISE (R428). -/
def execPpsOutRise (io : Nat) (s : State) : Result := act (.ppsOutRise io) (ppsOutRise io) s

/-- PPS_OUT_FALL (R428). -/
def execPpsOutFall (io : Nat) (s : State) : Result := act (.ppsOutFall io) (ppsOutFall io) s

/-- TIME_STATUS (R440). -/
def execTimeStatus (ring : Nat) (s : State) : Result := act (.timeStatus ring) (runCmd .timeStatus ring) s

/-- VT_NSEC_READ (R440). -/
def execVtNsecRead (ring : Nat) (s : State) : Result := act (.vtNsecRead ring) (runCmd .vtNsecRead ring) s

/-- TIME_SNAPSHOT (R440). -/
def execTimeSnapshot (ring : Nat) (s : State) : Result := act (.timeSnapshot ring) (runCmd .timeSnapshot ring) s

/-- SLEW_COMPLETE (R417). -/
def execSlewComplete (s : State) : Result := act .slewComplete slewComplete s

end Sys2Proof.Machine
end

