-- ==== Sys2Proof/Machine/Dispatch.lean ====
section
/-! DEFINITION. The meaning of every command: one arm per row of spec/opcode_table.json. -/

namespace Sys2Proof.Machine

def exec (i : Instr) (s : State) : Host.Outcome State Fault Refusal :=
  match i with
  | .registerWrite link off val wide => Sys2Proof.Machine.execRegisterWrite link off val wide s
  | .lowWordRead link off len => Sys2Proof.Machine.execLowWordRead link off len s
  | .lowWordWrite link off val => Sys2Proof.Machine.execLowWordWrite link off val s
  | .highWordWrite link off val => Sys2Proof.Machine.execHighWordWrite link off val s
  | .faultRecordW0Read link n => Sys2Proof.Machine.execFaultRecordW0Read link n s
  | .powerUp info => Sys2Proof.Machine.execPowerUp info s
  | .ready => Sys2Proof.Machine.execReady s
  | .linkUp link degraded => Sys2Proof.Machine.execLinkUp link degraded s
  | .linkDown link => Sys2Proof.Machine.execLinkDown link s
  | .timeTrigger tt => Sys2Proof.Machine.execTimeTrigger tt s
  | .seedBoundary => Sys2Proof.Machine.execSeedBoundary s
  | .seedCaptureComplete => Sys2Proof.Machine.execSeedCaptureComplete s
  | .freezeTimeout => Sys2Proof.Machine.execFreezeTimeout s
  | .timebaseFault => Sys2Proof.Machine.execTimebaseFault s
  | .load link => Sys2Proof.Machine.execLoad link s
  | .imageReadComplete data => Sys2Proof.Machine.execImageReadComplete data s
  | .admissionComplete => Sys2Proof.Machine.execAdmissionComplete s
  | .growthRetry => Sys2Proof.Machine.execGrowthRetry s
  | .switch link => Sys2Proof.Machine.execSwitch link s
  | .abort link => Sys2Proof.Machine.execAbort link s
  | .bankSwitch => Sys2Proof.Machine.execBankSwitch s
  | .confirm link => Sys2Proof.Machine.execConfirm link s
  | .confirmImgWrite link val => Sys2Proof.Machine.execConfirmImgWrite link val s
  | .confirmSafWrite link val => Sys2Proof.Machine.execConfirmSafWrite link val s
  | .keyAsserted => Sys2Proof.Machine.execKeyAsserted s
  | .keyReleased => Sys2Proof.Machine.execKeyReleased s
  | .ringEnable link ring cfg => Sys2Proof.Machine.execRingEnable link ring cfg s
  | .ringStop link ring => Sys2Proof.Machine.execRingStop link ring s
  | .ringReset link ring => Sys2Proof.Machine.execRingReset link ring s
  | .doorbell link ring h => Sys2Proof.Machine.execDoorbell link ring h s
  | .descriptorFetch ring data => Sys2Proof.Machine.execDescriptorFetch ring data s
  | .descriptorWriteback ring res => Sys2Proof.Machine.execDescriptorWriteback ring res s
  | .msixHoldoffEnd link vec => Sys2Proof.Machine.execMsixHoldoffEnd link vec s
  | .write ring => Sys2Proof.Machine.execWrite ring s
  | .read ring => Sys2Proof.Machine.execRead ring s
  | .release ring => Sys2Proof.Machine.execRelease ring s
  | .nop ring => Sys2Proof.Machine.execNop ring s
  | .cancel ring => Sys2Proof.Machine.execCancel ring s
  | .targetResolve cls index field => Sys2Proof.Machine.execTargetResolve cls index field s
  | .couplerFrameBoundary => Sys2Proof.Machine.execCouplerFrameBoundary s
  | .fieldFrameReceive ch frame => Sys2Proof.Machine.execFieldFrameReceive ch frame s
  | .feWatchdog ch => Sys2Proof.Machine.execFeWatchdog ch s
  | .feSelfTestEnd ch pass => Sys2Proof.Machine.execFeSelfTestEnd ch pass s
  | .retest link ch => Sys2Proof.Machine.execRetest link ch s
  | .clrLinkerr link ch => Sys2Proof.Machine.execClrLinkerr link ch s
  | .foldback ch => Sys2Proof.Machine.execFoldback ch s
  | .foldbackRetry ch => Sys2Proof.Machine.execFoldbackRetry ch s
  | .compliance ch => Sys2Proof.Machine.execCompliance ch s
  | .openLoad ch => Sys2Proof.Machine.execOpenLoad ch s
  | .deviation ch => Sys2Proof.Machine.execDeviation ch s
  | .deviationRetry ch => Sys2Proof.Machine.execDeviationRetry ch s
  | .overload ch => Sys2Proof.Machine.execOverload ch s
  | .overloadRetry ch => Sys2Proof.Machine.execOverloadRetry ch s
  | .thermal ch hot => Sys2Proof.Machine.execThermal ch hot s
  | .wireBreak ch => Sys2Proof.Machine.execWireBreak ch s
  | .couplerLoss ch => Sys2Proof.Machine.execCouplerLoss ch s
  | .fieldFeedLost group feed volts => Sys2Proof.Machine.execFieldFeedLost group feed volts s
  | .fieldFeedRestored group feed volts => Sys2Proof.Machine.execFieldFeedRestored group feed volts s
  | .fePowerOff ch => Sys2Proof.Machine.execFePowerOff ch s
  | .overcurrent group curA curB => Sys2Proof.Machine.execOvercurrent group curA curB s
  | .restartAck ring => Sys2Proof.Machine.execRestartAck ring s
  | .entry ring => Sys2Proof.Machine.execEntry ring s
  | .measured ring => Sys2Proof.Machine.execMeasured ring s
  | .channelStatus ring => Sys2Proof.Machine.execChannelStatus ring s
  | .sampleWrite ch x high => Sys2Proof.Machine.execSampleWrite ch x high s
  | .diDebounce ch => Sys2Proof.Machine.execDiDebounce ch s
  | .imageAssembly image dur => Sys2Proof.Machine.execImageAssembly image dur s
  | .hartPoll ch => Sys2Proof.Machine.execHartPoll ch s
  | .hartReply ch valid resp dev data => Sys2Proof.Machine.execHartReply ch valid resp dev data s
  | .hartReplyTimeout ch => Sys2Proof.Machine.execHartReplyTimeout ch s
  | .hartBurstFrame ch cmd resp dev data => Sys2Proof.Machine.execHartBurstFrame ch cmd resp dev data s
  | .hartBurstTimeout ch => Sys2Proof.Machine.execHartBurstTimeout ch s
  | .hartPassThrough ring => Sys2Proof.Machine.execHartPassThrough ring s
  | .hartStatus ring => Sys2Proof.Machine.execHartStatus ring s
  | .safetyScan samples dur => Sys2Proof.Machine.execSafetyScan samples dur s
  | .testPulseSlot slot => Sys2Proof.Machine.execTestPulseSlot slot s
  | .safetyDataLost ch => Sys2Proof.Machine.execSafetyDataLost ch s
  | .uslFrameReceive conn bytes => Sys2Proof.Machine.execUslFrameReceive conn bytes s
  | .uslFailedEnd conn => Sys2Proof.Machine.execUslFailedEnd conn s
  | .uslWatchdog conn sub => Sys2Proof.Machine.execUslWatchdog conn sub s
  | .uslPeriodicSend conn => Sys2Proof.Machine.execUslPeriodicSend conn s
  | .uslEventHoldoffEnd conn => Sys2Proof.Machine.execUslEventHoldoffEnd conn s
  | .loopEvaluation lane dur => Sys2Proof.Machine.execLoopEvaluation lane dur s
  | .tuneStart ring => Sys2Proof.Machine.execTuneStart ring s
  | .tuneTimeout slot => Sys2Proof.Machine.execTuneTimeout slot s
  | .tuneAbort ring => Sys2Proof.Machine.execTuneAbort ring s
  | .tuneAccept ring => Sys2Proof.Machine.execTuneAccept ring s
  | .tuneReject ring => Sys2Proof.Machine.execTuneReject ring s
  | .loopPv ring => Sys2Proof.Machine.execLoopPv ring s
  | .loopOut ring => Sys2Proof.Machine.execLoopOut ring s
  | .loopStatus ring => Sys2Proof.Machine.execLoopStatus ring s
  | .gainTableRead ring => Sys2Proof.Machine.execGainTableRead ring s
  | .dpCycleBoundary => Sys2Proof.Machine.execDpCycleBoundary s
  | .intakeStage dur => Sys2Proof.Machine.execIntakeStage dur s
  | .lateWindowEnd => Sys2Proof.Machine.execLateWindowEnd s
  | .estimatorStage dur => Sys2Proof.Machine.execEstimatorStage dur s
  | .controlLawStage dur => Sys2Proof.Machine.execControlLawStage dur s
  | .intactSolve dur => Sys2Proof.Machine.execIntactSolve dur s
  | .delivery => Sys2Proof.Machine.execDelivery s
  | .consequenceSolve group dur => Sys2Proof.Machine.execConsequenceSolve group dur s
  | .consequenceCutoff => Sys2Proof.Machine.execConsequenceCutoff s
  | .select ring => Sys2Proof.Machine.execSelect ring s
  | .readmit ring => Sys2Proof.Machine.execReadmit ring s
  | .fusionMode ring => Sys2Proof.Machine.execFusionMode ring s
  | .reOrigin ring => Sys2Proof.Machine.execReOrigin ring s
  | .intakeStatus ring => Sys2Proof.Machine.execIntakeStatus ring s
  | .dpEnable ring => Sys2Proof.Machine.execDpEnable ring s
  | .spHere ring => Sys2Proof.Machine.execSpHere ring s
  | .groupEn ring => Sys2Proof.Machine.execGroupEn ring s
  | .dpStatus ring => Sys2Proof.Machine.execDpStatus ring s
  | .roleSend => Sys2Proof.Machine.execRoleSend s
  | .roleReceive k msg => Sys2Proof.Machine.execRoleReceive k msg s
  | .departSend => Sys2Proof.Machine.execDepartSend s
  | .livenessLoss k => Sys2Proof.Machine.execLivenessLoss k s
  | .leaseFence => Sys2Proof.Machine.execLeaseFence s
  | .leaseExpiry => Sys2Proof.Machine.execLeaseExpiry s
  | .take link => Sys2Proof.Machine.execTake link s
  | .clrErrs link => Sys2Proof.Machine.execClrErrs link s
  | .startAlone => Sys2Proof.Machine.execStartAlone s
  | .seedRestoreComplete => Sys2Proof.Machine.execSeedRestoreComplete s
  | .seedReceive k msg => Sys2Proof.Machine.execSeedReceive k msg s
  | .partnerUslReceive k msg => Sys2Proof.Machine.execPartnerUslReceive k msg s
  | .seedCommitComplete ok => Sys2Proof.Machine.execSeedCommitComplete ok s
  | .handover ring => Sys2Proof.Machine.execHandover ring s
  | .roleStatus ring => Sys2Proof.Machine.execRoleStatus ring s
  | .handoverBoundary => Sys2Proof.Machine.execHandoverBoundary s
  | .handoverRestore => Sys2Proof.Machine.execHandoverRestore s
  | .handoverTick => Sys2Proof.Machine.execHandoverTick s
  | .overlapWindowEnd => Sys2Proof.Machine.execOverlapWindowEnd s
  | .drillDue => Sys2Proof.Machine.execDrillDue s
  | .partnerLinkChange k up => Sys2Proof.Machine.execPartnerLinkChange k up s
  | .canFrameReceive ctl frame => Sys2Proof.Machine.execCanFrameReceive ctl frame s
  | .canLaunch ring => Sys2Proof.Machine.execCanLaunch ring s
  | .canAttemptStart ctl => Sys2Proof.Machine.execCanAttemptStart ctl s
  | .canTxComplete ctl tdcv => Sys2Proof.Machine.execCanTxComplete ctl tdcv s
  | .canAttemptFailed ctl err tdcv => Sys2Proof.Machine.execCanAttemptFailed ctl err tdcv s
  | .recover link ctl => Sys2Proof.Machine.execRecover link ctl s
  | .recovered ctl => Sys2Proof.Machine.execRecovered ctl s
  | .canClrCounts link ctl => Sys2Proof.Machine.execCanClrCounts link ctl s
  | .canModeChange ctl => Sys2Proof.Machine.execCanModeChange ctl s
  | .data ring => Sys2Proof.Machine.execData ring s
  | .lock ring => Sys2Proof.Machine.execLock ring s
  | .txEn ring => Sys2Proof.Machine.execTxEn ring s
  | .objectStatus ring => Sys2Proof.Machine.execObjectStatus ring s
  | .lockTmo obj => Sys2Proof.Machine.execLockTmo obj s
  | .ethFrameReceive port frame rx dropped => Sys2Proof.Machine.execEthFrameReceive port frame rx dropped s
  | .nodeForget net mac => Sys2Proof.Machine.execNodeForget net mac s
  | .prpSupervision => Sys2Proof.Machine.execPrpSupervision s
  | .ethLaunch ring => Sys2Proof.Machine.execEthLaunch ring s
  | .ethFrameSent net tx => Sys2Proof.Machine.execEthFrameSent net tx s
  | .receivingTimeout stream => Sys2Proof.Machine.execReceivingTimeout stream s
  | .ethLinkChange port up => Sys2Proof.Machine.execEthLinkChange port up s
  | .ethClrCounts link net => Sys2Proof.Machine.execEthClrCounts link net s
  | .refQualified => Sys2Proof.Machine.execRefQualified s
  | .refLost => Sys2Proof.Machine.execRefLost s
  | .incWrite link k val => Sys2Proof.Machine.execIncWrite link k val s
  | .stepWrite link k val => Sys2Proof.Machine.execStepWrite link k val s
  | .sel link source => Sys2Proof.Machine.execSel link source s
  | .setTime link => Sys2Proof.Machine.execSetTime link s
  | .setValid link => Sys2Proof.Machine.execSetValid link s
  | .clrValid link => Sys2Proof.Machine.execClrValid link s
  | .snap link => Sys2Proof.Machine.execSnap link s
  | .discHoldExpiry => Sys2Proof.Machine.execDiscHoldExpiry s
  | .ppsInEdge io => Sys2Proof.Machine.execPpsInEdge io s
  | .ppsInTimeout io => Sys2Proof.Machine.execPpsInTimeout io s
  | .ppsOutRise io => Sys2Proof.Machine.execPpsOutRise io s
  | .ppsOutFall io => Sys2Proof.Machine.execPpsOutFall io s
  | .timeStatus ring => Sys2Proof.Machine.execTimeStatus ring s
  | .vtNsecRead ring => Sys2Proof.Machine.execVtNsecRead ring s
  | .timeSnapshot ring => Sys2Proof.Machine.execTimeSnapshot ring s
  | .sentenceReceive port line rx framing fits => Sys2Proof.Machine.execSentenceReceive port line rx framing fits s
  | .sentenceGap port => Sys2Proof.Machine.execSentenceGap port s
  | .chunkEnd port bytes rx bad dropped => Sys2Proof.Machine.execChunkEnd port bytes rx bad dropped s
  | .serialTransmit ring => Sys2Proof.Machine.execSerialTransmit ring s
  | .faultDetected source loc persistent forced info => Sys2Proof.Machine.execFaultDetected source loc persistent forced info s
  | .faultHandlingEnd domain => Sys2Proof.Machine.execFaultHandlingEnd domain s
  | .stageHang activity site => Sys2Proof.Machine.execStageHang activity site s
  | .coreSupply => Sys2Proof.Machine.execCoreSupply s
  | .scrubPassEnd area corrected => Sys2Proof.Machine.execScrubPassEnd area corrected s
  | .forceWrite link which val => Sys2Proof.Machine.execForceWrite link which val s
  | .replicaMeasurement readings => Sys2Proof.Machine.execReplicaMeasurement readings s
  | .barkMeasurement barks => Sys2Proof.Machine.execBarkMeasurement barks s
  | .marginOut activity => Sys2Proof.Machine.execMarginOut activity s
  | .ageSave => Sys2Proof.Machine.execAgeSave s
  | .markClose => Sys2Proof.Machine.execMarkClose s
  | .trimStepDown => Sys2Proof.Machine.execTrimStepDown s
  | .trimReqRepeat => Sys2Proof.Machine.execTrimReqRepeat s
  | .trimAck bytes => Sys2Proof.Machine.execTrimAck bytes s
  | .trim => Sys2Proof.Machine.execTrim s
  | .clr link mon => Sys2Proof.Machine.execClr link mon s
  | .recordWritten => Sys2Proof.Machine.execRecordWritten s
  | .fire ring => Sys2Proof.Machine.execFire ring s
  | .recorderStatus ring => Sys2Proof.Machine.execRecorderStatus ring s
  | .displayUpdateStart => Sys2Proof.Machine.execDisplayUpdateStart s
  | .displayFrame => Sys2Proof.Machine.execDisplayFrame s
  | .fullRefresh => Sys2Proof.Machine.execFullRefresh s
  | .refreshPeriod => Sys2Proof.Machine.execRefreshPeriod s
  | .thermistorRead temp => Sys2Proof.Machine.execThermistorRead temp s
  | .railCheck pos neg vcom => Sys2Proof.Machine.execRailCheck pos neg vcom s
  | .heartbeat => Sys2Proof.Machine.execHeartbeat s
  | .displayValue ring => Sys2Proof.Machine.execDisplayValue ring s
  | .refresh ring => Sys2Proof.Machine.execRefresh ring s
  | .displayStatus ring => Sys2Proof.Machine.execDisplayStatus ring s
  | .secConfirmWrite src val => Sys2Proof.Machine.execSecConfirmWrite src val s
  | .openAction src => Sys2Proof.Machine.execOpenAction src s
  | .seal src => Sys2Proof.Machine.execSeal src s
  | .unseal src => Sys2Proof.Machine.execUnseal src s
  | .retire src => Sys2Proof.Machine.execRetire src s
  | .dbgSet src level => Sys2Proof.Machine.execDbgSet src level s
  | .regRead addr => Sys2Proof.Machine.execRegRead addr s
  | .regWrite addr val => Sys2Proof.Machine.execRegWrite addr val s
  | .arrayRead loc corrected => Sys2Proof.Machine.execArrayRead loc corrected s
  | .dbgNop => Sys2Proof.Machine.execDbgNop s
  | .logicFeedLost feed => Sys2Proof.Machine.execLogicFeedLost feed s
  | .logicFeedRestored feed => Sys2Proof.Machine.execLogicFeedRestored feed s
  | .rideThroughTimeout => Sys2Proof.Machine.execRideThroughTimeout s
  | .holdupReserve mj => Sys2Proof.Machine.execHoldupReserve mj s
  | .powerOff => Sys2Proof.Machine.execPowerOff s
  | .wakeTest fails => Sys2Proof.Machine.execWakeTest fails s
  | .completionTimeout ring idx => Sys2Proof.Machine.execCompletionTimeout ring idx s
  | .bufferReadCompletion ring idx data => Sys2Proof.Machine.execBufferReadCompletion ring idx data s
  | .vectorUnmask link vec => Sys2Proof.Machine.execVectorUnmask link vec s
  | .linkRetrain link degraded => Sys2Proof.Machine.execLinkRetrain link degraded s
  | .listenWindowEnd => Sys2Proof.Machine.execListenWindowEnd s
  | .slewComplete => Sys2Proof.Machine.execSlewComplete s
  | .serialTxComplete port => Sys2Proof.Machine.execSerialTxComplete port s
  | .errorFrameDetected ctl lec one eights => Sys2Proof.Machine.execErrorFrameDetected ctl lec one eights s
  | .holdupLow mj => Sys2Proof.Machine.execHoldupLow mj s

end Sys2Proof.Machine
end

