-- ==== Sys2Proof/Safety.lean ====
section
/-! DEFINITION. What the statements call a sound state and a sound run of the module: a step that stops, the stores that only start-up,
configuration and security commands may change, and the canonical form of the memories. -/

namespace Sys2Proof.Safety

open Sys2Proof.Machine

/-- The step of a state answers a next state: no fault and no refusal. -/
def Goes (s : State) : Prop := ∃ t, step s = .next t

/-- The non-volatile stores that the security of the module rests on: both banks of the configuration store with their confirmation flags
(R58, R59), both selector copies, and the lifecycle with both its copies (R523). -/
structure Vault where
  bank0 : Bank
  bank1 : Bank
  selA : Option Nat
  selB : Option Nat
  lcA : Option Nat
  lcB : Option Nat
  lifecycle : Nat
  deriving DecidableEq, Repr

/-- The stores of a module. -/
def vault (b : Block) : Vault :=
  { bank0 := b.glb.bank0, bank1 := b.glb.bank1, selA := b.glb.selA, selB := b.glb.selB
    lcA := b.sec.lcA, lcB := b.sec.lcB, lifecycle := b.sec.lifecycle }

/-- Both banks hold their bytes in canonical form: addresses strictly rising, and no byte listed that reads 0. -/
def BanksCanonical (b : Block) : Prop := memWf b.glb.bank0.mem = true ∧ memWf b.glb.bank1.mem = true

/-- The module is not Off: Table 17.8 lets commands act. -/
abbrev On (s : State) : Prop := s.blk.sec.power ≠ 3

/-- The command answers a next state: the queue stands as it stood, and the module then satisfies `Q`. -/
def Does (c : Instr) (s : State) (Q : Block → Prop) : Prop := ∃ t, exec c s = .next t ∧ t.pending = s.pending ∧ Q t.blk

/-- The command leaves everything as it is. -/
def Idle (c : Instr) (s : State) : Prop := exec c s = .next s

/-- `n` steps lead from one state to another, none of them a fault or a refusal. -/
def Reaches : Nat → State → State → Prop
  | 0, s, t => s = t
  | n + 1, s, t => ∃ u, step s = .next u ∧ Reaches n u t

/-- The commands that may change one of the stores: start-up, the configuration sequence, the lifecycle, a register write to the control
registers of either, and an MRAM fault in one of the stores. -/
def opensVault : Instr → Bool
  | .powerUp _ => true
  | .load _ => true
  | .imageReadComplete _ => true
  | .bankSwitch => true
  | .confirm _ => true
  | .openAction _ => true
  | .seal _ => true
  | .unseal _ => true
  | .retire _ => true
  | .registerWrite _ off _ _ => off == 0x4C || off == 0xE000C
  | .lowWordWrite _ off _ => off == 0x4C || off == 0xE000C
  | .highWordWrite _ off _ => off == 0x4C || off == 0xE000C
  | .regWrite addr _ => addr.toNat == 0xE000C
  | .faultDetected source _ _ _ info => source == 0x0B &&
    match info with
    | .selector _ => true
    | .activeBank => true
    | .shadowBank => true
    | _ => false
  | _ => false

/-- What the firing of an event source, the output trace and the taking of a free value never touch. -/
def quiet (b : Block) : Block :=
  { b with rng := {}, flt := {}, prf := {}, dsp := {}, recorder := {}, fresh := [], out := [], free := 0 }

/-! Commands of CMD rings. -/

/-- The row of the command table that carries out commands of a kind, for a ring. -/
def cmdRow : CmdKind → Nat → Instr
  | .write => .write
  | .read => .read
  | .release => .release
  | .nop => .nop
  | .cancel => .cancel
  | .restartAck => .restartAck
  | .entry => .entry
  | .measured => .measured
  | .channelStatus => .channelStatus
  | .hartPassThrough => .hartPassThrough
  | .hartStatus => .hartStatus
  | .tuneStart => .tuneStart
  | .tuneAbort => .tuneAbort
  | .tuneAccept => .tuneAccept
  | .tuneReject => .tuneReject
  | .loopPv => .loopPv
  | .loopOut => .loopOut
  | .loopStatus => .loopStatus
  | .gainTableRead => .gainTableRead
  | .select => .select
  | .readmit => .readmit
  | .fusionMode => .fusionMode
  | .reOrigin => .reOrigin
  | .intakeStatus => .intakeStatus
  | .dpEnable => .dpEnable
  | .spHere => .spHere
  | .groupEn => .groupEn
  | .dpStatus => .dpStatus
  | .handover => .handover
  | .roleStatus => .roleStatus
  | .data => .data
  | .lock => .lock
  | .txEn => .txEn
  | .objectStatus => .objectStatus
  | .timeStatus => .timeStatus
  | .vtNsecRead => .vtNsecRead
  | .timeSnapshot => .timeSnapshot
  | .fire => .fire
  | .recorderStatus => .recorderStatus
  | .displayValue => .displayValue
  | .refresh => .refresh
  | .displayStatus => .displayStatus

/-- CLASS, INDEX and FIELD of a command's TARGET (Table 3.15). -/
def cmdClass (d : Desc) : Nat := fld (cmdTarget d) 24 8
def cmdIndex (d : Desc) : Nat := fld (cmdTarget d) 8 16
def cmdField (d : Desc) : Nat := fld (cmdTarget d) 0 8

/-- The key of a command's target. -/
def cmdKey (d : Desc) : Nat := targetKey (cmdClass d) (cmdIndex d) (cmdField d)

/-- The command that ring `n` carries out next is a READ, WRITE, ... of the row of kind `k`, and no rule refuses it (R100). -/
structure Accepts (b : Block) (k : CmdKind) (n : Nat) (d : Desc) : Prop where
  ring : n < 128
  next : cmdNext b n = some d
  kind : cmdKindOf d = k
  allowed : cmdRefusal b n d = none

/-- The descriptors of a ring once the one with an index, where it has no status yet, is to be written back with `x`. -/
def withDone (l : List Desc) (idx : Nat) (x : Done) : List Desc :=
  l.map fun d => if d.idx = idx then (if d.done.isNone then { d with done := some x } else d) else d

/-- The descriptors of a ring once the one with an index has started. -/
def withStarted (l : List Desc) (idx : Nat) : List Desc := l.map fun d => if d.idx = idx then { d with started := true } else d

/-- From `a` to `b`, one ring's fetched descriptors become `l`, and nothing else of the ring engine changes. -/
def OnlyFetched (a b : Block) (n : Nat) (l : List Desc) : Prop :=
  b.rng = { a.rng with rings := b.rng.rings } ∧ ring b n = { ring a n with fetched := l } ∧ ∀ m, m ≠ n → ring b m = ring a m

/-- The rows that are READ commands. -/
def readRows : List CmdKind :=
  [.read, .measured, .channelStatus, .hartStatus, .loopPv, .loopOut, .loopStatus, .gainTableRead, .intakeStatus, .dpStatus, .roleStatus,
   .objectStatus, .timeStatus, .vtNsecRead, .recorderStatus, .displayStatus]

/-- The rows whose WRITE places a standing order. -/
def orderRows : List CmdKind := [.write, .select, .fusionMode, .dpEnable, .groupEn, .txEn, .displayValue]

/-- Offset of the status register that the READ of a row is a copy of, for an INDEX. -/
def shownAt (k : CmdKind) (i : Nat) : Option Nat :=
  match k with
  | .channelStatus => some (0x31010 + 0x20 * i)
  | .hartStatus => some (0x3300C + 0x10 * i)
  | .loopPv => some (0x51064 + 0x80 * i)
  | .loopOut => some (0x5107C + 0x80 * i)
  | .loopStatus => some (0x51060 + 0x80 * i)
  | .intakeStatus => some (if i = 0x20 then 0x60000 else 0x61060 + 0x80 * i)
  | .dpStatus => some (if i = 0x40 then 0x60100 else 0x63040 + 0x80 * (i - 0x80))
  | .roleStatus => some 0xA0000
  | .objectStatus => some (0x7800C + 0x10 * i)
  | .timeStatus => some 0x20000
  | .recorderStatus => some 0xC0000
  | .displayStatus => some 0xD0000
  | _ => none

/-- Commands of a ring whose order on a target still waits for its first resolution. -/
def waitingOf (t : Target) (n : Nat) : List (Nat × Nat) :=
  t.orders.filterMap fun o => if o.ring = n then o.waits.map (fun i => (n, i)) else none

/-- From `a` to `b`, one writable value target becomes `t`, one ring's fetched descriptors become `l`, and nothing else of the ring engine
changes. -/
def OnlyTarget (a b : Block) (k : Nat) (t : Target) (n : Nat) (l : List Desc) : Prop :=
  b.rng = { a.rng with rings := b.rng.rings, targets := b.rng.targets } ∧ targetAt b k = t ∧ (∀ j, j ≠ k → targetAt b j = targetAt a j) ∧
  ring b n = { ring a n with fetched := l } ∧ ∀ m, m ≠ n → ring b m = ring a m

/-- From `a` to `b` nothing changes but what events leave: descriptors staged in EVT rings, the source latches, the drill bit of the display,
the performance counters, snapshots held for the recorder with the counts of its triggers, and the marks of R16. -/
structure Spared (a b : Block) : Prop where
  units : quiet b = quiet a
  rings : ∀ n, ring b n = { ring a n with evts := (ring b n).evts }
  rng : b.rng = { a.rng with rings := b.rng.rings }
  flt : b.flt = { a.flt with latches := b.flt.latches }
  dsp : b.dsp = { a.dsp with drillSeen := b.dsp.drillSeen }
  prf : b.prf = { a.prf with cnt := b.prf.cnt }
  recorder : b.recorder =
    { a.recorder with held := b.recorder.held, fired := b.recorder.fired, missed := b.recorder.missed, latch := b.recorder.latch }
  out : b.out = a.out
  free : b.free = a.free

/-- From `a` to `b` only channel `n` changes, apart from what events leave and what the end of the channel's HART transactions does to the
descriptors that wait for them. -/
def OnlyChan (a b : Block) (n : Nat) : Prop :=
  quiet b = { quiet a with chn := b.chn } ∧ b.chn = { a.chn with chans := b.chn.chans } ∧ ∀ m, m ≠ n → chanAt b m = chanAt a m

/-- From `a` to `b` only group `g` and the field-side status of its channels change, apart from what events leave. -/
def OnlyGroup (a b : Block) (g : Nat) : Prop :=
  quiet b = { quiet a with chn := b.chn } ∧ b.chn = { a.chn with groups := b.chn.groups, chans := b.chn.chans } ∧
  (∀ h, h ≠ g → groupAt b h = groupAt a h) ∧ ∀ m, m / 24 ≠ g → chanAt b m = chanAt a m

/-- A fault of a source at a location has opened a record in the next free slot (R461, R463). -/
def Recorded (a b : Block) (source : Nat) (l : Word) : Prop :=
  let x := tget {} b.flt.recs (nextSlot a.flt)
  x.source = source ∧ x.loc = l ∧ x.isOpen = true ∧ x.first = a.tb ∧ x.seq = (a.flt.seq + 1) % 0x10000

end Sys2Proof.Safety
end

