-- ==== Sys2Proof/Certificates/Slice0/Obligations.lean ====
section
/-! DEFINITION. The statements for the provers. Each docstring names the rule of spec/ it formalises or the section it rests on; a choice of
the model is named with its log entry. A clause that ends in `Does c s Q` says that `exec c s` answers a next state in which `Q` holds, on conditions
on the state and the operands alone; a docstring's last sentence names the constructors of Instr that its clauses so complete by their own effect. -/

open Sys2Proof Sys2Proof.Machine Sys2Proof.Safety

/-! The step and the whole machine. -/

/-- One step takes the command at the front of the queue and runs it on the queue's rest. -/
def Obligations.StepRunsFront : Prop :=
  ∀ (c : Instr) (s : State), step { s with pending := c :: s.pending } = exec c s

/-- Every command answers a next state with the queue as it stood, and as many steps as commands wait empty the queue: no fault and no refusal stops
the module. -/
def Obligations.QueueDrains : Prop :=
  (∀ (c : Instr) (s : State), Does c s fun _ => True) ∧
  ∀ s : State, ∃ t, Reaches s.pending.length s t ∧ t.pending = []

/-- In Off, with the logic power off (Table 17.6, Table 17.8), whatever commands wait, steps change nothing but the queue until POWER_UP comes; with
an empty queue the module in Off stays as it is. -/
def Obligations.OffOnlyPowerUp : Prop :=
  ∀ (n : Nat) (s t : State), s.blk.sec.power = 3 → (∀ c ∈ s.pending.take n, ∀ i, c ≠ .powerUp i) → Reaches n s t →
    t.blk = s.blk ∧ t.pending = s.pending.drop n

/-- With no command waiting, one tick of the timebase passes (the model's choice, log 4): the count advances by exactly 1 (R412), and with no captured
write waiting both shadow clocks advance by their increments modulo 2^48 seconds (R414). -/
def Obligations.IdleTick : Prop :=
  ∀ s : State, s.pending = [] → On s → s.blk.glb.start = none → ∃ t, step s = .next t ∧ t.pending = [] ∧
    t.blk.tb = (s.blk.tb + 1) % 2 ^ 64 ∧
    (s.blk.tim.acts = [] → t.blk.tim.sc0 = (s.blk.tim.sc0 + s.blk.tim.inc0) % clkMod ∧
      t.blk.tim.sc1 = (s.blk.tim.sc1 + s.blk.tim.inc1) % clkMod)

/-- No command but POWER_UP, which starts a new tick 0, moves the timebase count: it advances only by the ticks themselves (R412). -/
def Obligations.TimebaseKept : Prop :=
  ∀ (c : Instr) (s t : State), (∀ i, c ≠ .powerUp i) → exec c s = .next t → t.blk.tb = s.blk.tb

/-- Every step keeps the non-volatile stores of the configuration and of the lifecycle (R58, R59, R523), unless the command at the front is one of
those that write them, or the start-up sequence runs; at a seed boundary a copy of the selector that has been lost takes the other's value (R59). -/
def Obligations.VaultKept : Prop :=
  ∀ s t : State, step s = .next t → (∀ c ∈ s.pending.head?, opensVault c = false) → (s.pending = [] → s.blk.glb.start = none) →
    vault t.blk = vault s.blk ∨ s.pending.head? = some .seedBoundary ∧ vault t.blk =
      { vault s.blk with selA := s.blk.glb.selA.or s.blk.glb.selB, selB := s.blk.glb.selB.or s.blk.glb.selA }

/-- Every step, from every state, keeps both banks of the configuration store in canonical form. -/
def Obligations.BanksStayCanonical : Prop := ∀ s t : State, BanksCanonical s.blk → step s = .next t → BanksCanonical t.blk

/-! Commands of CMD rings (chapter 3). -/

/-- A READ returns its value and changes nothing but its own descriptor, which will be written back with OK and the tick (R96, R100: in every role).
The value is the target's value in force, or what the row's field names: VALUE of the value table (MEASURED, R163), the status word of the unit, the
last process value or output of a loop, a breakpoint of a gain table, or the nanoseconds of vessel time. Rows: READ, MEASURED, CHANNEL_STATUS,
HART_STATUS, LOOP_PV, LOOP_OUT, LOOP_STATUS, GAIN_TABLE_READ, INTAKE_STATUS, DP_STATUS, ROLE_STATUS, OBJECT_STATUS, TIME_STATUS, VT_NSEC_READ,
RECORDER_STATUS, DISPLAY_STATUS. Completes: read, measured, channelStatus, hartStatus, loopPv, loopOut, loopStatus, gainTableRead, intakeStatus,
dpStatus, roleStatus, objectStatus, timeStatus, vtNsecRead, recorderStatus, displayStatus. -/
def Obligations.ReadsReturn : Prop :=
  ∀ (k : CmdKind) (n : Nat) (d : Desc) (s : State), k ∈ readRows → On s → Accepts s.blk k n d →
    Does (cmdRow k n) s fun b =>
      b = { s.blk with rng := b.rng } ∧
      OnlyFetched s.blk b n (withDone (ring s.blk n).fetched d.idx
        { status := stOK, result := readValue k s.blk (cmdClass d) (cmdIndex d) (cmdField d), tick := s.blk.tb }) ∧
      (k = .measured → readValue k s.blk (cmdClass d) (cmdIndex d) (cmdField d) = (chanAt s.blk (cmdIndex d)).cur.value)

/-- A READ of a status field returns what a read of that status register through the set-up window returns at the same tick: CHN_CH_STATUS,
CHN_CH_HART_STATUS, the context registers PV, OUT and STATUS of a loop, DPE_IN_STATUS, DPE_SNS_STATUS, DPE_STATUS, DPE_THR_STATUS, PTN_STATUS,
CAN_OBJ_STATUS, TIM_STATUS, REC_STATUS, DSP_STATUS. -/
def Obligations.ReadsShowRegisters : Prop :=
  ∀ (k : CmdKind) (n src off : Nat) (d : Desc) (s : State), shownAt k (cmdIndex d) = some off → On s → s.blk.glb.ready = true →
    Accepts s.blk k n d →
    Does (cmdRow k n) s fun b =>
      (ring b n).fetched = withDone (ring s.blk n).fetched d.idx
        { status := stOK, result := readReg s.blk src off, tick := s.blk.tb }

/-- A WRITE of a field that takes standing orders places the order of its ring on the target, with the ring's PRIO, and awaits the target's next
resolution (R101, R104); an earlier order of the ring gives way and its command waits as superseded. A RELEASE withdraws the ring's order and awaits
the next resolution too. Nothing else changes. Rows: WRITE, SELECT, FUSION_MODE, DP_ENABLE, GROUP_EN, TX_EN, DISPLAY_VALUE, RELEASE. Completes: write,
select, fusionMode, dpEnable, groupEn, txEn, displayValue, release. -/
def Obligations.OrdersStand : Prop :=
  ∀ (k : CmdKind) (n : Nat) (d : Desc) (s : State), On s → Accepts s.blk k n d →
    let old := targetAt s.blk (cmdKey d)
    let gets := fun (t : Target) (b : Block) => b = { s.blk with rng := b.rng } ∧
      OnlyTarget s.blk b (cmdKey d) t n (withStarted (ring s.blk n).fetched d.idx)
    (k ∈ orderRows → isOrder (cmdClass d) (cmdIndex d) (cmdField d) = true → Does (cmdRow k n) s (gets { old with
      orders := old.orders.filter (fun o => o.ring != n) ++
        [{ ring := n, prio := (ring s.blk n).prio, val := cmdValue d, waits := some d.idx }]
      superseded := old.superseded ++ waitingOf old n })) ∧
    (k = .release → Does (.release n) s (gets { old with
      orders := old.orders.filter (fun o => o.ring != n)
      superseded := old.superseded ++ waitingOf old n
      releases := old.releases ++ [(n, d.idx)] }))

/-- A command that a rule of R100 refuses completes with that refusal's status and changes nothing but its own descriptor, on every row; its RESULT is
a free value (log 1). -/
def Obligations.RefusedCommand : Prop :=
  ∀ (k : CmdKind) (n st : Nat) (d : Desc) (s : State), n < 128 → On s → cmdNext s.blk n = some d → cmdKindOf d = k →
    cmdRefusal s.blk n d = some st →
    Does (cmdRow k n) s fun b =>
      b = { s.blk with rng := b.rng, free := b.free } ∧
      ∃ v, OnlyFetched s.blk b n (withDone (ring s.blk n).fetched d.idx { status := st, result := v, tick := s.blk.tb })

/-- The CANCEL of an MTX descriptor (R99): one not fetched yet is remembered, one fetched and not handed to its bus will be written back with
CANCELLED, one that has its status already keeps it; the CANCEL itself completes with OK. Completes: cancel. -/
def Obligations.CancelActs : Prop :=
  ∀ (n : Nat) (d : Desc) (s : State), On s → Accepts s.blk .cancel n d →
    let m := cmdIndex d
    let i := (cmdValue d).toNat
    Does (.cancel n) s fun b =>
      (∃ v, (ring b n).fetched = withDone (ring s.blk n).fetched d.idx { status := stOK, result := v, tick := s.blk.tb }) ∧
      (descAt s.blk m i = none → (ring b m).cancels = (ring s.blk m).cancels.filter (fun k => k != i) ++ [i]) ∧
      ∀ x, descAt s.blk m i = some x →
        (x.done.isSome = true → ring b m = ring s.blk m) ∧
        (x.done = none → x.handed = false →
          (ring b m).fetched = withDone (ring s.blk m).fetched i { status := stCANCELLED, result := 0, tick := s.blk.tb })

/-- The commands that act once and complete at once (R568): FIRE takes a snapshot of the trigger's list at a firing that is due and finds none held;
REFRESH asks for a full refresh of the display; LOCK locks a free object for its ring and unlocks the ring's own object, moving a full shadow into the
main buffer (R394); TUNE ACCEPT puts the proposed gains of a tune that is DONE in force and frees its slot, TUNE REJECT frees it, TUNE ABORT ends a
running tune with reason ABORTED (R264, R265); NOP does nothing else. Each completes with OK, its RESULT a free value where the spec states none (log
1). Completes: nop, fire, refresh, lock, tuneAccept, tuneReject, tuneAbort. -/
def Obligations.OnceActs : Prop :=
  ∀ (k : CmdKind) (n : Nat) (d : Desc) (s : State), On s → Accepts s.blk k n d →
    let i := cmdIndex d
    let ok := fun b : Block =>
      ∃ v, (ring b n).fetched = withDone (ring s.blk n).fetched d.idx { status := stOK, result := v, tick := s.blk.tb }
    (k = .nop → Does (.nop n) s fun b => ok b ∧ b = { s.blk with rng := b.rng, free := b.free }) ∧
    (k = .fire → recTakes s.blk = true → (s.blk.recorder.held.find? fun h => h.kind == 1 && h.trigger == i) = none →
      tget 0 s.blk.recorder.fired i % max 1 (fld (trgArg s.blk i) 8 16) = 0 →
      Does (.fire n) s fun b => ok b ∧ ∃ h, b.recorder.held = s.blk.recorder.held ++ [h] ∧ h.kind = 1 ∧ h.trigger = i ∧
        h.tick = s.blk.tb ∧ h.detail = 0) ∧
    (k = .refresh → Does (.refresh n) s fun b => ok b ∧ b.dsp = { s.blk.dsp with wanted := some (s.blk.dsp.wanted.getD 3) }) ∧
    (k = .lock → cmdValue d = 1 → (objAt s.blk i).locked = none →
      Does (.lock n) s fun b => ok b ∧ objAt b i = { objAt s.blk i with locked := some (n, s.blk.tb) }) ∧
    (k = .lock → cmdValue d = 0 → ∀ t, (objAt s.blk i).locked = some (n, t) →
      Does (.lock n) s fun b => ok b ∧ objAt b i =
        { objAt s.blk i with locked := none, main := (objAt s.blk i).newest, shadow := none, third := none }) ∧
    (k = .tuneAccept → ∀ z, (List.range 4).find? (fun z => (tuneAt s.blk z).state == 2 && (tuneAt s.blk z).loop == i) = some z →
      (∀ f ∈ [2, 3, 4], (targetAt s.blk (targetKey 2 i f)).orders = []) →
      Does (.tuneAccept n) s fun b => ok b ∧ tuneAt b z = {} ∧
        ctxAt b i = { ctxAt s.blk i with accept := some ((tuneAt s.blk z).kp, (tuneAt s.blk z).ki, (tuneAt s.blk z).kd) }) ∧
    (k = .tuneReject → ∀ z, (List.range 4).find? (fun z => ((tuneAt s.blk z).state == 2 || (tuneAt s.blk z).state == 3) &&
        (tuneAt s.blk z).loop == i) = some z →
      Does (.tuneReject n) s fun b => ok b ∧ tuneAt b z = {}) ∧
    (k = .tuneAbort → ∀ z, (List.range 4).find? (fun z => (tuneAt s.blk z).state == 1 && (tuneAt s.blk z).loop == i) = some z →
      Does (.tuneAbort n) s fun b => ok b ∧ tuneAt b z = { tuneAt s.blk z with state := 3, reason := 1 })

/-- The commands that act once and await their time (R568): RESTART_ACK the next frame boundary, READMIT, RE_ORIGIN and SP_HERE the next DP cycle
boundary, HANDOVER its boundary B at least 10 ms ahead on the seed cadence, with H 500 000 ticks later (R371). Each stays with its ring until then.
Completes: restartAck, readmit, reOrigin, spHere, handover. -/
def Obligations.OnceAwaits : Prop :=
  ∀ (k : CmdKind) (n : Nat) (d : Desc) (s : State), On s → Accepts s.blk k n d →
    let i := cmdIndex d
    let waits := fun b : Block => (ring b n).fetched = withStarted (ring s.blk n).fetched d.idx
    (k = .restartAck → Does (.restartAck n) s fun b => waits b ∧
      chanAt b i = { chanAt s.blk i with acks := (chanAt s.blk i).acks ++ [(n, d.idx)] }) ∧
    (k = .readmit → Does (.readmit n) s fun b => waits b ∧ b.dp = { s.blk.dp with readmits := s.blk.dp.readmits ++ [(n, d.idx, i)] }) ∧
    (k = .reOrigin → Does (.reOrigin n) s fun b => waits b ∧ b.dp = { s.blk.dp with reOrigins := s.blk.dp.reOrigins ++ [(n, d.idx)] }) ∧
    (k = .spHere → Does (.spHere n) s fun b => waits b ∧ b.dp = { s.blk.dp with spHeres := s.blk.dp.spHeres ++ [(n, d.idx)] }) ∧
    (k = .handover → Does (.handover n) s fun b => waits b ∧
      ∃ h, b.ptn = { s.blk.ptn with handover := some h } ∧ h.ring = n ∧ h.idx = d.idx ∧ h.b % 1000000 = 0 ∧ s.blk.tb + 1000000 ≤ h.b ∧
        h.b < s.blk.tb + 2000000 ∧ h.h = h.b + 500000 ∧ h.captured = false)

/-- BUFFERED commands whose buffer has been read (R96): ENTRY returns the channel's table entry with its SAMPLE_TICK, DATA the object's frame with its
tick and status and clears OVERRUN (R394), TIME_SNAPSHOT the timebase and the three clocks; TUNE_START takes the lowest idle slot when the request
keeps the rules (R262); a HART pass-through is sent, or queued while another transaction is in
flight, and one to a channel whose link is neither ONLINE nor BURST is answered at once (R175). Each of the others completes with OK,
with RESULT the length of the reply and the reply cut to LEN. Completes: entry, timeSnapshot, data, tuneStart, hartPassThrough. -/
def Obligations.BufferedReplies : Prop :=
  ∀ (k : CmdKind) (n : Nat) (d : Desc) (bytes : List Byte) (s : State), On s → Accepts s.blk k n d → descAt s.blk n d.idx = some d →
    d.buf = .data bytes →
    let i := cmdIndex d
    let gives := fun (r : List Byte) (b : Block) => (ring b n).fetched = withDone (ring s.blk n).fetched d.idx
      { status := stOK, result := w32 r.length, tick := s.blk.tb, reply := r.take (cmdLen d) }
    (k = .entry → Does (.entry n) s fun b => b = { s.blk with rng := b.rng } ∧
      gives (bytesOf (entryWords i (chanAt s.blk i).cur 0) ++ leBytes 8 (chanAt s.blk i).cur.tick) b) ∧
    (k = .timeSnapshot → Does (.timeSnapshot n) s fun b => b = { s.blk with rng := b.rng } ∧ gives (timSnapshotBytes s.blk) b) ∧
    (k = .data → Does (.data n) s fun b => gives (canData i s.blk).1 b ∧ objAt b i = { objAt s.blk i with overrun := false } ∧
      b = { s.blk with rng := b.rng, can := b.can }) ∧
    (k = .tuneStart → ∀ z c, tuneStart i bytes s.blk = some (z, c) →
      Does (.tuneStart n) s fun b => (ring b n).fetched = withDone (ring c n).fetched d.idx
          { status := stOK, result := 1, tick := s.blk.tb, reply := ([BitVec.ofNat 8 z] : List Byte).take (cmdLen d) } ∧
        (tuneAt s.blk z).state = 0 ∧ (tuneAt b z).state = 1 ∧ (tuneAt b z).loop = i ∧ (tuneAt b z).startAt = s.blk.tb ∧
        ∀ y, y < z → (tuneAt s.blk y).state ≠ 0) ∧
    (k = .hartPassThrough → 3 + leAt bytes 2 1 ≤ cmdLen d → (chanAt s.blk i).hart.state ≠ 2 → (chanAt s.blk i).hart.state ≠ 3 →
      Does (.hartPassThrough n) s fun b => b = { s.blk with rng := b.rng } ∧ ∃ q, (ring b n).fetched =
        withDone (withStarted (ring s.blk n).fetched d.idx) d.idx
          { status := stOK, result := w32 q.length, tick := s.blk.tb, reply := q.take (cmdLen d) } ∧ q = hartReplyBytes 5 0 0 []) ∧
    (k = .hartPassThrough → 3 + leAt bytes 2 1 ≤ cmdLen d →
      let h := (chanAt s.blk i).hart
      let t : HartTrans := { kind := 3, ring := n, idx := d.idx, request := bytes }
      let started := fun (b : Block) => (ring b n).fetched = withStarted (ring s.blk n).fetched d.idx
      h.state = 2 ∨ h.state = 3 → h.queue.length < 4 →
      (h.flight.isSome = true ∨ hartMay s.blk i = false → Does (.hartPassThrough n) s fun b =>
        started b ∧ (chanAt b i).hart = { h with queue := h.queue ++ [t] } ∧ b.out = s.blk.out) ∧
      (h.flight = none → h.queue = [] → hartMay s.blk i = true → Does (.hartPassThrough n) s fun b =>
        started b ∧ (chanAt b i).hart = { h with flight := some { t with sentAt := s.blk.tb } } ∧
        b.out = .hart i (List.replicate (max 5 h.preambles) 0xFF ++ hartFrame s.blk i t) :: s.blk.out))

/-! Registers of the set-up window, host links and rings (chapters 0 and 3). -/

/-- A read of the low word of a 64-bit register shows that word and loads the link's latch with the high word; a write to the low word is held for the
link and reaches no register; the write to the high word then commits both, here shown on GLB_CFG_ADDR, where the low word present stands in when none
is held (R13). Completes: lowWordRead, lowWordWrite, highWordWrite. -/
def Obligations.LongRegisters : Prop :=
  ∀ (link off : Nat) (v : Word) (s : State), link < 2 → On s → s.blk.glb.ready = true → s.blk.glb.owned = false → off < 0x100000 → off % 4 = 0 →
    (isLow64 off = true →
      Does (.lowWordRead link off 4) s fun b => (hostLink b link).latch = some (off, readReg s.blk link (off + 4)) ∧
        b.out.head? = some (.regValue link off (w32 (fld (readThrough s.blk link off) 0 32))) ∧
        b = { s.blk with links := b.links, out := b.out }) ∧
    (isLow64 off = true →
      Does (.lowWordWrite link off v) s fun b => (hostLink b link).held = some (off, v) ∧ b = { s.blk with links := b.links }) ∧
    (∀ lo, (hostLink s.blk link).held = some (0x40, lo) →
      Does (.highWordWrite link 0x44 v) s fun b => (hostLink b link).held = none ∧
        b = { s.blk with links := b.links, glb := { s.blk.glb with addrLo := lo, addrHi := v } }) ∧
    ((hostLink s.blk link).held = none →
      Does (.highWordWrite link 0x44 v) s fun b =>
        b = { s.blk with links := b.links, glb := { s.blk.glb with addrHi := v } })

/-- A narrow or misaligned write is discarded; GLB_CFG_LEN, a vector holdoff and the activity selector take what is written, a W1C latch clears the
bits written 1 that the module has not set at this tick (R15, R16), and SEC_POLICY is written in Factory and Open only. Completes: registerWrite. -/
def Obligations.RegisterWrites : Prop :=
  ∀ (link off : Nat) (v : Word) (s : State), link < 2 → off < 0x100000 → On s → s.blk.glb.ready = true → s.blk.glb.owned = false →
    Idle (.registerWrite link off v false) s ∧
    (off % 4 ≠ 0 → Idle (.registerWrite link off v true) s) ∧
    (Does (.registerWrite link 0x48 v true) s fun b => b = { s.blk with links := b.links, glb := { s.blk.glb with len := v } }) ∧
    (∀ k, k < 32 → Does (.registerWrite link (0x10200 + 4 * k) v true) s fun b =>
      holdoffT b k = v.toNat % 0x10000 * 100 ∧ b = { s.blk with links := b.links, rng := { s.blk.rng with holdoff := b.rng.holdoff } }) ∧
    (Does (.registerWrite link 0xF0020 v true) s fun b =>
      b = { s.blk with links := b.links, prf := { s.blk.prf with actSel := v &&& 0xFFFF#32 } }) ∧
    (Does (.registerWrite link 0x20018 v true) s fun b => b = { s.blk with
      links := b.links, tim := { s.blk.tim with latch := s.blk.tim.latch &&& (~~~v ||| freshBits s.blk 0x20018) } }) ∧
    (Does (.registerWrite link 0xC0014 v true) s fun b => b = { s.blk with
      links := b.links, recorder := { s.blk.recorder with latch := s.blk.recorder.latch &&& (~~~v ||| freshBits s.blk 0xC0014) } }) ∧
    (Does (.registerWrite link 0xE0004 v true) s fun b => b = { s.blk with
      links := b.links, sec := { s.blk.sec with policy := if s.blk.sec.lifecycle ≤ 1 then v &&& 0xF#32 else s.blk.sec.policy } })

/-- No register write through a host link reaches the registers of the safety engine, the loop engine or the DP engine: they take none, whatever is
written, and no other register changes either (R98 says it of the safety engine; Tables 6.10, 8.7 and 9.12 give only registers to read). -/
def Obligations.ReadOnlyBlocks : Prop :=
  ∀ (link off : Nat) (v : Word) (wide : Bool) (s : State), link < 2 → 0x40000 ≤ off → off < 0x70000 → On s →
    Does (.registerWrite link off v wide) s fun b => b = { s.blk with links := b.links }

/-- A read of FLT_RECn_W0 shows W0 and latches words W1 to W7 of that record for the reading link (R463). Completes: faultRecordW0Read. -/
def Obligations.RecordLatched : Prop :=
  ∀ (link n : Nat) (s : State), link < 2 → n < 16 → On s →
    Does (.faultRecordW0Read link n) s fun b =>
      (hostLink b link).recLatch = some (n, (List.range 7).map fun i => readReg s.blk link (0xB1000 + 0x20 * n + 4 + 4 * i)) ∧
      b.out = .regValue link (0xB1000 + 0x20 * n) (w32 (fld (readReg s.blk link (0xB1000 + 0x20 * n)) 0 32)) :: s.blk.out ∧
      b = { s.blk with links := b.links, out := b.out }

/-- Host links: a link that is down, not fenced, comes up from step 2 of Table 2.1 on, with the DEGRADED it trained to, and nothing but what its event
ES006 leaves changes elsewhere (R565, R566); a link that goes down takes every ring bound to it to DOWN and leaves the state of every other ring
(R79); an up link that retrains shows its new DEGRADED (R78). Completes: linkUp, linkDown, linkRetrain. -/
def Obligations.LinksUpDown : Prop :=
  ∀ (link : Nat) (deg : Bool) (s : State), link < 2 → On s →
    ((hostLink s.blk link).up = false → isFenced s.blk (.hostLink link) = false → 2 ≤ s.blk.glb.phase →
      Does (.linkUp link deg) s fun b => hostLink b link = { hostLink s.blk link with up := true, degraded := deg } ∧
        (∀ k, k ≠ link → hostLink b k = hostLink s.blk k) ∧ Spared { s.blk with links := b.links } b) ∧
    ((hostLink s.blk link).up = true →
      Does (.linkDown link) s fun b => (hostLink b link).up = false ∧ (hostLink b (1 - link)).up = (hostLink s.blk (1 - link)).up ∧
        (∀ n, (ring s.blk n).link ≠ link → (ring b n).state = (ring s.blk n).state) ∧
        ∀ n, n < 128 → (ring s.blk n).link = link → (ring b n).state = if (ring s.blk n).state = .disabled then .disabled else .down) ∧
    ((hostLink s.blk link).up = true → (hostLink s.blk link).degraded ≠ deg →
      Does (.linkRetrain link deg) s fun b => hostLink b link = { hostLink s.blk link with degraded := deg } ∧
        (∀ k, k ≠ link → hostLink b k = hostLink s.blk k) ∧ Spared { s.blk with links := b.links } b)

/-- A ring is enabled by EN = 1 when its configuration is valid, RUNNING where its link is up and DOWN where it is not, with its indices at 0 (R79,
R81); an invalid configuration leaves it DISABLED with CFG_INVALID. STOP puts a running ring in STOPPED; RESET returns a ring that holds no fetched
descriptor to DISABLED with EN clear and its indices at 0 (R83). While a ring is not DISABLED, a write to RNG_RING_CFG with EN = 0 acts as RESET and
one with EN = 1 does nothing; writes to RNG_RING_BASE_LO, RNG_RING_BASE_HI and RNG_RING_CFG2 have no effect (R82). Completes: ringEnable, ringStop,
ringReset. -/
def Obligations.RingStates : Prop :=
  ∀ (link n : Nat) (cfg : Word) (s : State), link < 2 → n < 128 → On s → s.blk.glb.ready = true →
    let c := putBit cfg 0 true &&& 0x3FFFFFFF#32
    let x := modRing n (fun r => { r with cfg := c }) s.blk
    ((ring s.blk n).state = .disabled → ringEnableOk (imgLen s.blk) x n = true →
      Does (.ringEnable link n cfg) s fun b => (ring b n).cfg = c ∧
        (ring b n).state = (if linkUp b (ring b n).link then RingState.running else RingState.down) ∧
        (ring b n).hIdx = 0 ∧ (ring b n).mIdx = 0 ∧ (ring b n).fIdx = 0 ∧ (ring b n).count = 0) ∧
    ((ring s.blk n).state = .disabled → ringEnableOk (imgLen s.blk) x n = false →
      Does (.ringEnable link n cfg) s fun b => (ring b n).state = .disabled ∧ (ring b n).err = erCFG_INVALID) ∧
    ((ring s.blk n).state = .running → Does (.ringStop link n) s fun b => (ring b n).state = .stopped) ∧
    ((ring s.blk n).state ≠ .disabled → (ring s.blk n).fetched = [] →
      Does (.ringReset link n) s fun b => (ring b n).state = .disabled ∧ bit (ring b n).cfg 0 = false ∧ (ring b n).hIdx = 0 ∧
        (ring b n).mIdx = 0 ∧ (ring b n).err = 0) ∧
    ((ring s.blk n).state ≠ .disabled →
      let wr := fun off => Instr.registerWrite link (0x11000 + 0x40 * n + off) cfg true
      let untouched := fun b : Block => b.rng = s.blk.rng ∧ b = { s.blk with links := b.links }
      (bit cfg 0 = false → exec (wr 8) s = exec (.ringReset link n) s) ∧ (bit cfg 0 = true → Does (wr 8) s untouched) ∧
      Does (wr 0) s untouched ∧ Does (wr 4) s untouched ∧ Does (wr 0xC) s untouched)

/-- A doorbell hands descriptors over: the host index takes the value written when no more than the ring's size lies between it and the module index,
captured with its tick for use two ticks later (R24); a doorbell beyond that stops the ring with DB_RANGE (R85). Completes: doorbell. -/
def Obligations.DoorbellHands : Prop :=
  ∀ (link n h : Nat) (s : State), link < 2 → n < 128 → h < 0x20000 → On s → s.blk.glb.ready = true → (ring s.blk n).state = .running →
    h ≠ (ring s.blk n).hIdx →
    ((h + ringMod - (ring s.blk n).mIdx) % ringMod ≤ (ring s.blk n).size →
      Does (.doorbell link n h) s fun b =>
        ring b n = { ring s.blk n with hIdx := h, bells := (ring s.blk n).bells ++ [(s.blk.tb, h)] } ∧
        (∀ m, m ≠ n → ring b m = ring s.blk m) ∧
        b = { s.blk with links := b.links, rng := { s.blk.rng with rings := b.rng.rings }, prf := { s.blk.prf with cnt := b.prf.cnt } }) ∧
    ((ring s.blk n).size < (h + ringMod - (ring s.blk n).mIdx) % ringMod →
      Does (.doorbell link n h) s fun b => (ring b n).state = .stopped ∧
        (ring b n).err = if (ring s.blk n).err = 0 then erDB_RANGE else (ring s.blk n).err)

/-- A fetch read that fails or times out stops its ring with FETCH_DMA, and one that returns a descriptor that the doorbell covers, but without OWN,
with OWN_ERR, the first error of a ring standing (R87, R90, R114); a descriptor that the module owns is taken when there is credit for it: it stands
among the fetched ones with the words read, and the ring's fetch index advances; that of a READ has nothing done yet. A data buffer that was asked for
arrives, cut to LEN, or fails or times out, which for an MTX ring ends its descriptor with DMA. Completes: descriptorFetch, bufferReadCompletion,
completionTimeout. -/
def Obligations.FetchTakes : Prop :=
  ∀ (n : Nat) (ws : List Word) (s : State), n < 128 → On s → (ring s.blk n).state = .running →
    let r := ring s.blk n
    let stops := fun (code : Nat) (b : Block) => (ring b n).state = .stopped ∧ (ring b n).err = if r.err = 0 then code else r.err
    (0 < r.asked → Does (.descriptorFetch n none) s (stops erFETCH_DMA)) ∧
    (0 < r.asked → Does (.completionTimeout n none) s (stops erFETCH_DMA)) ∧
    (0 < r.asked → ringAvail r ≠ 0 → bit (wAt ws 7) 31 = false → Does (.descriptorFetch n (some ws)) s (stops erOWN_ERR)) ∧
    (r.asked = 1 → ringAvail r ≠ 0 → bit (wAt ws 7) 31 = true → creditFor s.blk n { idx := r.fIdx, w := ws.take 8 } = true →
      Does (.descriptorFetch n (some ws)) s fun b => (ring b n).state = .running ∧ (ring b n).fIdx = (r.fIdx + 1) % ringMod ∧ (ring b n).asked = 0 ∧
        ∃ d ∈ (ring b n).fetched, d.idx = r.fIdx ∧ d.w = ws.take 8) ∧
    (r.asked = 1 → ringAvail r ≠ 0 → r.kind = tCMD → bit (wAt ws 7) 31 = true → fld (wAt ws 4) 0 9 = 2 →
      Does (.descriptorFetch n (some ws)) s fun b =>
        (ring b n).fetched = r.fetched ++ [{ idx := r.fIdx, w := ws.take 8 }] ∧ (ring b n).fIdx = (r.fIdx + 1) % ringMod) ∧
    (∀ idx d, descAt s.blk n idx = some d → d.buf = .requested → d.done = none → r.kind = tMTX →
      let fails := fun (b : Block) => ∃ e ∈ (ring b n).fetched, e.idx = idx ∧ e.done = some { status := stDMA, result := 0, tick := s.blk.tb }
      Does (.bufferReadCompletion n idx none) s fails ∧ Does (.completionTimeout n (some idx)) s fails) ∧
    (∀ idx d bytes, descAt s.blk n idx = some d → d.buf = .requested → d.done = none → (ring s.blk n).kind = tCMD →
      let gets := fun (x : Buf) (b : Block) => b = { s.blk with rng := b.rng } ∧
        OnlyFetched s.blk b n ((ring s.blk n).fetched.map fun y => if y.idx = idx then { y with buf := x } else y)
      Does (.bufferReadCompletion n idx (some bytes)) s (gets (.data (bytes.take (cmdLen d)))) ∧
      Does (.bufferReadCompletion n idx none) s (gets .failed) ∧ Does (.completionTimeout n (some idx)) s (gets .failed))

/-- A write-back of a command writes words DW0 to DW6 and then the control word with the count's low 16 bits into the descriptor's slot; the ring's
count, module index and fetched list advance (R89, Table 3.5); the fields marked 0 come back as 0 (R91). Completes: descriptorWriteback. -/
def Obligations.WritesBack : Prop :=
  ∀ (n : Nat) (d : Desc) (x : Done) (q : List Desc) (s : State), n < 128 → On s → (ring s.blk n).state = .running →
    linkUp s.blk (ring s.blk n).link = true → (ring s.blk n).kind = tCMD → (ring s.blk n).resetting = false →
    (ring s.blk n).fetched = d :: q → d.done = some x → x.reply = [] →
    let r := ring s.blk n
    let slot := r.base + 32 * (d.idx % r.size)
    Does (.descriptorWriteback n .ok) s fun b =>
      (ring b n).count = (r.count + 1) % 2 ^ 32 ∧ (ring b n).mIdx = (r.mIdx + 1) % ringMod ∧ (ring b n).fetched = q ∧
      .hostWrite r.link slot (bytesOf [wAt d.w 0, wAt d.w 1, wAt d.w 2, wAt d.w 3, zeroed (wAt d.w 4) 0xFFFF01FF, x.result, loW x.tick]) ∈ b.out ∧
      .hostWrite r.link (slot + 28) (wordBytes (wbControl (wAt d.w 7) x.status ((r.count + 1) % 2 ^ 32 % 0x10000))) ∈ b.out

/-- Message-signalled interrupts (R112): at the end of a holdoff that a request met, one message goes out and the holdoff starts again; with none it
just ends; an unmask sends the message that waited. Completes: msixHoldoffEnd, vectorUnmask. -/
def Obligations.VectorsSend : Prop :=
  ∀ (l v t : Nat) (s : State), l < 2 → v < 32 → On s →
    ((vecAt s.blk l v).holdEnd = some t → t ≤ s.blk.tb → (vecAt s.blk l v).merged = true → (vecAt s.blk l v).masked = false →
      Does (.msixHoldoffEnd l v) s fun b => b.out = .msix l v :: s.blk.out ∧ (vecAt b l v).merged = false ∧
        (vecAt b l v).holdEnd = (if holdoffT s.blk v = 0 then none else some (s.blk.tb + holdoffT s.blk v))) ∧
    ((vecAt s.blk l v).holdEnd = some t → t ≤ s.blk.tb → (vecAt s.blk l v).merged = false →
      Does (.msixHoldoffEnd l v) s fun b => b.out = s.blk.out ∧ (vecAt b l v).holdEnd = none) ∧
    ((vecAt s.blk l v).pending = true → linkUp s.blk l = true →
      Does (.vectorUnmask l v) s fun b => b.out = .msix l v :: s.blk.out ∧ (vecAt b l v).pending = false ∧ (vecAt b l v).masked = false)

/-- A target that resolves at the start of one of its cycles takes the value that resolution gives from the orders and candidates that stand, with
none left waiting, superseded or released (R102, R104). Completes: targetResolve. -/
def Obligations.TargetsResolve : Prop :=
  ∀ (cls i f : Nat) (info : TInfo) (s : State), cls < 256 → i < 0x10000 → f < 256 → On s →
    targetInfo s.blk (targetKey cls i f) = some info → targetCycle s.blk (targetKey cls i f) = true →
    (targetAt s.blk (targetKey cls i f)).resolved ≠ s.blk.tb + 1 →
    Does (.targetResolve cls i f) s fun b =>
      let t := targetAt s.blk (targetKey cls i f)
      let u := targetAt b (targetKey cls i f)
      u.inForce = (resolution (t.settled s.blk.tb) info).value ∧ u.resolved = s.blk.tb + 1 ∧ u.superseded = [] ∧ u.releases = [] ∧ u.cands = t.cands ∧
      u.orders = t.orders.map (fun o => { o with waits := none }) ∧ b = { s.blk with
        rng := b.rng, flt := b.flt, dsp := b.dsp, prf := b.prf, recorder := b.recorder, fresh := b.fresh, can := b.can }

/-! Start-up and configuration (chapter 2). -/

/-- The state right after reset, before the supply is qualified: no command waits, the timebase reads 0 (R412), vessel time and the shadow clocks read
0 and are not valid, and the three increments hold the nominal 10 ns in 32.32 fixed point (R414, R415); no ring is enabled (R81), no link is up,
neither bank holds an image and both are in canonical form, and the module is not Ready. -/
def Obligations.ResetValues : Prop :=
  State.reset.pending = [] ∧ State.reset.blk.tb = 0 ∧ State.reset.blk.tim.vt = 0 ∧ State.reset.blk.tim.sc0 = 0 ∧ State.reset.blk.tim.sc1 = 0 ∧
  State.reset.blk.tim.vtValid = false ∧ State.reset.blk.tim.inc0 = 0x0000000A00000000 ∧ State.reset.blk.tim.inc1 = 0x0000000A00000000 ∧
  State.reset.blk.tim.vtInc = 0x0000000A00000000 ∧ (∀ n, (ring State.reset.blk n).state = .disabled) ∧
  (∀ l, (hostLink State.reset.blk l).up = false) ∧ State.reset.blk.glb.bank0.present = false ∧ State.reset.blk.glb.bank1.present = false ∧
  State.reset.blk.glb.ready = false ∧ BanksCanonical State.reset.blk

/-- POWER_UP, in Off or before Ready, with a logic feed in range, begins tick 0 with the contents of the MRAM and everything else as after reset: the
banks, the selector and lifecycle copies, the policy and its counts, the recorder's records, what the display shows, the age, the marks and the growth
sites, the trim request and the seed slots stay; the feeds and the pair position are those found, every front end listens, the safety supply is on, the
standing trim request is sent again, and the start-up sequence runs (R49, R50, R58). Without a feed in range, or once Ready and not in Off, it does
nothing. READY, once step 9 is complete, ends start-up: GLB_START_STATUS shows phase 15, the module is Ready, and the lease logic counts from this tick.
Completes: powerUp, ready. -/
def Obligations.PowersUp : Prop :=
  ∀ (i : StartInfo) (s : State),
    let g := s.blk.glb
    let r := s.blk.recorder
    let c := s.blk.sec
    let w := s.blk.growth
    (g.ready = false ∨ c.power = 3 → i.feedA = true ∨ i.feedB = true →
      Does (.powerUp i) s fun b => b.tb = 0 ∧ b.freeze = none ∧
        b.glb = { bank0 := g.bank0, bank1 := g.bank1, selA := g.selA, selB := g.selB, start := some i } ∧
        b.ptn = { slot0 := s.blk.ptn.slot0, slot1 := s.blk.ptn.slot1, pos := b1 i.posOpen } ∧
        b.recorder = { seq := r.seq, sapNext := r.sapNext, hwCount := r.hwCount, hwOpened := r.hwOpened, sap := r.sap, hw := r.hw } ∧
        b.dsp = { shown := s.blk.dsp.shown, dirty := s.blk.dsp.dirty } ∧
        b.sec = { lcA := c.lcA, lcB := c.lcB, policy := c.policy, seals := c.seals, unseals := c.unseals, survived := c.survived
                  powerDowns := c.powerDowns, lastLoss := c.lastLoss, feedA := i.feedA, feedB := i.feedB } ∧
        b.growth.age = w.age ∧ b.growth.closed = w.closed ∧ b.growth.marks = w.marks ∧ b.growth.trimReq = w.trimReq ∧ b.growth.trimApplied = 0 ∧
        (∀ k, siteAt b k = { siteAt s.blk k with window := [] }) ∧ (∀ n, n < 192 → chanAt b n = { fe := 2 }) ∧ b.saf = { supplyOk := true } ∧
        b.out = .carrier (trimFrame w.trimReq b.growth.trimSeq) :: s.blk.out ∧ b.links = [] ∧ b.rng = {} ∧ b.tim = {} ∧ b.lpe = {} ∧ b.dp = {} ∧
        b.can = {} ∧ b.eth = {} ∧ b.ser = {} ∧ b.flt = {} ∧ b.prf = {}) ∧
    (g.ready = true → c.power ≠ 3 → Idle (.powerUp i) s) ∧
    (i.feedA = false → i.feedB = false → Idle (.powerUp i) s) ∧
    (On s → g.phase = 9 →
      Does .ready s fun b => b.glb.phase = 15 ∧ b.glb.ready = true ∧ b.tb = s.blk.tb ∧ vault b = vault s.blk ∧ b.ptn.readyTick = s.blk.tb)

/-- The configuration channel's actions through a link to which it belongs or that finds it free (R51, R63 to R73). LOAD clears the shadow bank and
starts the DMA read, with at most eight reads of at most the read size outstanding; SWITCH of an admitted image that may come into force makes it
PENDING for a multiple of 2 000 000 ticks at least 1 000 000 ahead; ABORT before that tick cancels it; CONFIRM with matching typed CRCs sets the
shadow bank's confirmation flag, and a mismatch counts, locking at the third. Completes: load, switch, abort, confirm. -/
def Obligations.ConfigActions : Prop :=
  ∀ (link : Nat) (s : State), link < 2 → On s → (s.blk.glb.owned = false ∨ s.blk.glb.owner = link) → s.blk.glb.ready = true →
    let g := s.blk.glb
    (s.blk.sec.power ≠ 2 → g.shadow ≠ .loading → g.shadow ≠ .checking → g.shadow ≠ .pending → s.blk.sec.lifecycle ≠ 3 →
      Does (.load link) s fun b => b.glb = { g.setBank g.shadowNo {} with
        owner := link, owned := true, reject := 0, dmaFailed := false, shadow := .loading, recheck := false, growthStep := none
        readsOut := min 8 (readCount (readCap s.blk link) (loadLen s.blk)) } ∧
        ∀ j, j < b.glb.readsOut → .hostRead link (join64 g.addrLo g.addrHi + readCap s.blk link * j)
          (min (readCap s.blk link) (loadLen s.blk - readCap s.blk link * j)) ∈ b.out) ∧
    (s.blk.sec.power ≠ 2 → g.shadow = .admitted → s.blk.ptn.role ≠ 2 → s.blk.sec.lifecycle ≠ 3 →
      (s.blk.sec.lifecycle = 2 → g.shadowBank.confirmed = true) →
      Does (.switch link) s fun b => ∃ t, b.glb = { g with shadow := .pending, switchAt := some t } ∧ t % 2000000 = 0 ∧
        s.blk.tb + 1000000 ≤ t ∧ t < s.blk.tb + 3000000) ∧
    (∀ t, g.switchAt = some t → s.blk.tb < t → g.shadow = .pending →
      Does (.abort link) s fun b => b.glb = { g with shadow := .admitted, switchAt := none }) ∧
    (s.blk.sec.power ≠ 2 → g.confirmLock = false → confirmOpen s.blk = true → confirmMatch s.blk = true →
      Does (.confirm link) s fun b => b.glb = { g.setBank g.shadowNo { g.shadowBank with confirmed := true } with confirmFails := 0 }) ∧
    (s.blk.sec.power ≠ 2 → g.confirmLock = false → confirmOpen s.blk = true → confirmMatch s.blk = false →
      Does (.confirm link) s fun b => b.glb = { g with
        confirmFails := min 3 (g.confirmFails + 1), confirmLock := decide (3 ≤ g.confirmFails + 1) })

/-- Where the configuration channel turns an action away: before Ready, in Ride-through (LOAD, SWITCH, CONFIRM), while the shadow bank is busy (LOAD)
or not admitted (SWITCH) or the confirmation is not open, CMD_ERR is set and nothing else changes (R51, R67, R73, R536); through the link that does
not own the channel BUSY_REFUSED is set (R64). -/
def Obligations.ConfigRefuses : Prop :=
  ∀ (link : Nat) (s : State), link < 2 → On s →
    let g := s.blk.glb
    let err := fun b : Block => b.glb = { g with cmdErr := true } ∧ quiet b = { quiet s.blk with glb := b.glb, links := b.links }
    let busy := fun b : Block => b.glb = { g with busyRefused := true } ∧ quiet b = { quiet s.blk with glb := b.glb }
    ((g.owned = false ∨ g.owner = link) → (g.ready = false ∨ s.blk.sec.power = 2) →
      Does (.load link) s err ∧ Does (.switch link) s err ∧ Does (.confirm link) s err) ∧
    ((g.owned = false ∨ g.owner = link) → g.ready = false → Does (.abort link) s err) ∧
    ((g.owned = false ∨ g.owner = link) → (g.shadow = .loading ∨ g.shadow = .checking ∨ g.shadow = .pending) → Does (.load link) s err) ∧
    ((g.owned = false ∨ g.owner = link) → g.shadow ≠ .admitted → Does (.switch link) s err) ∧
    (g.owned = true → g.owner ≠ link → Does (.load link) s busy ∧ Does (.switch link) s busy ∧ Does (.abort link) s busy ∧
      Does (.confirm link) s busy ∧ ∀ v, Does (.confirmImgWrite link v) s busy ∧ Does (.confirmSafWrite link v) s busy)

/-- A typed CRC is kept, with its tick, only while KEY is asserted (R72); KEY_ASSERTED sets KEY, and KEY_RELEASED clears it, discards the typed values
and clears CONFIRM_LOCK and the count of failures (R71). Completes: confirmImgWrite, confirmSafWrite, keyAsserted, keyReleased. -/
def Obligations.KeyAndTyped : Prop :=
  ∀ (link : Nat) (v : Word) (s : State), link < 2 → On s → (s.blk.glb.owned = false ∨ s.blk.glb.owner = link) →
    (s.blk.glb.ready = true →
      Does (.confirmImgWrite link v) s (fun b => b.glb = { s.blk.glb with typedImg := if s.blk.glb.key then some (v, s.blk.tb) else none }) ∧
      Does (.confirmSafWrite link v) s (fun b => b.glb = { s.blk.glb with typedSaf := if s.blk.glb.key then some (v, s.blk.tb) else none })) ∧
    Does .keyAsserted s (fun b => b = { s.blk with glb := { s.blk.glb with key := true } }) ∧
    Does .keyReleased s (fun b => b.glb = { s.blk.glb with
      key := false, typedImg := none, typedSaf := none, confirmLock := false, confirmFails := 0 })

/-- The image that the DMA read has brought, cut to the length asked for, stands in the shadow bank, and the checks begin (R63); they end with the
shadow bank ADMITTED, or REJECTED with the code and section of the failed check, and release the channel (R65); a GROWTH check that a further trim
step may cure asks for it and repeats 10 ms later, and without one rejects with code 0x0B (R480). Completes: imageReadComplete, admissionComplete,
growthRetry. -/
def Obligations.AdmissionEnds : Prop :=
  ∀ s : State, On s →
    let g := s.blk.glb
    let fails := growthReject s.blk g.shadowBank.mem true
    let steps := s.blk.growth.trimReq < 6 ∧ isFenced s.blk .growth = false
    let grown := fun (k : Option Int) (b : Block) =>
      (fails = none → b.glb = { g with
        shadow := .admitted, reject := 0, owned := false, recheck := false, growthStep := none, dmaFailed := false }) ∧
      (fails ≠ none → steps → b.glb = { g with growthStep := some (k.getD s.blk.growth.trimReq), growthAt := s.blk.tb + 1000000 } ∧
        b.growth.trimReq = s.blk.growth.trimReq + 1) ∧
      (fails ≠ none → ¬ steps → b.glb.shadow = .rejected ∧ b.glb.owned = false ∧ fld b.glb.reject 0 8 = 0xB)
    (∀ l, g.shadow = .loading → Does (.imageReadComplete (some l)) s fun b => b = { s.blk with
      glb := { g.setBank g.shadowNo {
          mem := putBytes [] 0 (l.bytes.take (loadLen s.blk)), present := true, events := l.events, completions := l.completions } with
        shadow := .checking, readsOut := max g.readsOut (min (loadLen s.blk) (readCount (readCap s.blk g.owner) (loadLen s.blk))) }
      out := b.out }) ∧
    (g.shadow = .checking → g.growthStep = none → (g.recheck && !g.shadowBank.present) = false →
      (∀ r, shadowFails s.blk = some r → Does .admissionComplete s fun b => b.glb.shadow = .rejected ∧ b.glb.owned = false ∧
        fld b.glb.reject 0 8 = r.code % 256 ∧ fld b.glb.reject 8 8 = r.sec % 256) ∧
      (shadowFails s.blk = none → Does .admissionComplete s (grown none))) ∧
    (∀ k, g.shadow = .checking → g.growthStep = some k → g.growthAt ≤ s.blk.tb → Does .growthRetry s (grown (some k)))

/-- At its boundary a pending switch brings the shadow bank into force: both selector copies name it, and the banks stay as they are (R59, R68).
Completes: bankSwitch. -/
def Obligations.BankSwitches : Prop :=
  ∀ (t : Nat) (s : State), On s → s.blk.glb.switchAt = some t → s.blk.glb.shadow = .pending → s.blk.freeze = some t →
    Does .bankSwitch s fun b => vault b = { vault s.blk with selA := some s.blk.glb.shadowNo, selB := some s.blk.glb.shadowNo } ∧
      b.glb.bank = s.blk.glb.shadowNo ∧ b.glb.active = true ∧ b.tb = s.blk.tb

/-! Field channels (chapters 4 and 5). -/

/-- Coupler frames and front-end states (R26, R39, R139, R145, R147, R148, R152, Table 4.9). At a frame boundary every channel is sent the output that
its state and its value in force give, which the front end applies within 100 ticks after the frame's end, and an input channel of the Active module
goes from LISTEN to SERVE; in the freeze window a front end that is neither in SERVE nor in HOLD stays as it is; between frame boundaries nothing
happens. A frame that fails its CRC counts as an error and sets LINKERR; a good one sets the measurements. A front end without commands falls to
LISTEN with its output at 0, the self-test of INIT or RETEST ends in LISTEN or FENCED, one whose supply fails goes OFF, RETEST starts the test of a
fenced channel, and CLR_LINKERR clears the counts. Each changes its own channel alone. Completes: couplerFrameBoundary, fieldFrameReceive, feWatchdog,
feSelfTestEnd, retest, clrLinkerr, fePowerOff. -/
def Obligations.FrontEndStates : Prop :=
  ∀ (link n : Nat) (f : FieldFrame) (s : State), link < 2 → n < 192 → On s →
    let c := chanAt s.blk n
    (s.blk.tb % 400 ≠ 0 → Idle .couplerFrameBoundary s) ∧
    (s.blk.tb % 400 = 0 → s.blk.freeze = none → Does .couplerFrameBoundary s fun b =>
      (chanAt b n).cmds.head? = some (frameApply s.blk.tb, chnDrive b n) ∧
      (isActive s.blk = true → s.blk.glb.active = true → c.fe = 2 → chnMode s.blk n ≠ 0 → isOut (chnMode s.blk n) = false →
        keepListen s.blk n = false → holdCause c = false → (chanAt b n).fe = 3)) ∧
    (s.blk.tb % 400 = 0 → s.blk.freeze.isSome = true → c.fe ≠ 3 → c.fe ≠ 4 → Does .couplerFrameBoundary s fun b => chanAt b n = c) ∧
    (Does (.fieldFrameReceive n none) s fun b => OnlyChan s.blk b n ∧ (chanAt b n).errCount = sat16 c.errCount 1 ∧
      (chanAt b n).errRun = sat16 c.errRun 1 ∧ (chanAt b n).stBit 16 = true ∧ (chanAt b n).fe = c.fe) ∧
    (Does (.fieldFrameReceive n (some f)) s fun b =>
      (chanAt b n).meas = (if c.fe = 2 then listenCurrent (chnMode s.blk n) (chnType s.blk n) f.meas else f.meas) ∧ (chanAt b n).load = f.load ∧
      (chanAt b n).limited = f.limited ∧ (chanAt b n).errRun = 0 ∧ (chanAt b n).stBit 16 = false) ∧
    (c.fe = 3 ∨ c.fe = 4 → Does (.feWatchdog n) s fun b => OnlyChan s.blk b n ∧ (chanAt b n).fe = 2 ∧ (chanAt b n).applied = 0 ∧
      (chanAt b n).cmds = [] ∧ (chanAt b n).restart = true) ∧
    (c.fe = 1 → selfTestForce s.blk n = none → Does (.feSelfTestEnd n true) s fun b => OnlyChan s.blk b n ∧ (chanAt b n).fe = 2) ∧
    (c.fe = 1 → selfTestForce s.blk n = none → isFenced s.blk (.channel n) = false → openSlot s.blk.flt 1 = none →
      Does (.feSelfTestEnd n false) s fun b => Recorded s.blk b 0x0C (chnLoc n 0) ∧ (chanAt b n).fe = 5 ∧
        b.flt.fenced = s.blk.flt.fenced ++ [.channel n]) ∧
    (c.fe = 6 → selfTestForce s.blk n = none → Does (.feSelfTestEnd n true) s fun b => OnlyChan s.blk b n ∧ (chanAt b n).fe = 2 ∧
      b.flt.fenced = s.blk.flt.fenced.filter (fun u => u != .channel n)) ∧
    (c.fe = 6 → selfTestForce s.blk n = none → Does (.feSelfTestEnd n false) s fun b => OnlyChan s.blk b n ∧ (chanAt b n).fe = 5) ∧
    (c.fe ≠ 5 → Does (.fePowerOff n) s fun b => OnlyChan s.blk b n ∧ (chanAt b n).fe = 0 ∧ (chanAt b n).applied = 0 ∧
      (chanAt b n).cmds = []) ∧
    (c.fe = 5 → s.blk.glb.ready = true → Does (.retest link n) s fun b => (chanAt b n).fe = 6 ∧ ∀ m, m ≠ n → chanAt b m = chanAt s.blk m) ∧
    (s.blk.glb.ready = true → Does (.clrLinkerr link n) s fun b => chanAt b n = { c with errCount := 0, errLongest := 0 } ∧
      (∀ m, m ≠ n → chanAt b m = chanAt s.blk m) ∧
      b = { s.blk with links := b.links, chn := { s.blk.chn with chans := b.chn.chans } })

/-- The protective functions of a front end (R123, R127 to R129, R132, R135, R139, R147, Tables 4.6, 4.7 and 4.10): a condition that holds sets its
status bit, and the channel goes to HOLD where Table 4.9 says so; a retry releases it; each changes its own channel alone. A deviation and the loss of
the coupler report a fault, which opens a record; after the loss the channel is fenced. Completes: foldback, foldbackRetry, compliance, openLoad,
deviation, deviationRetry, overload, overloadRetry, thermal, wireBreak, couplerLoss. -/
def Obligations.FrontEndProtects : Prop :=
  ∀ (n : Nat) (s : State), n < 192 → On s →
    let c := chanAt s.blk n
    let m := chnMode s.blk n
    let alone := fun (b : Block) => OnlyChan s.blk b n
    (isAI m = true → c.fe = 3 → c.limited = true → Does (.foldback n) s fun b => alone b ∧ (chanAt b n).stBit 7 = true ∧
      (chanAt b n).foldAt = s.blk.tb ∧ (chanAt b n).foldRelease = none) ∧
    (c.stBit 7 = true → c.foldRelease = none → c.foldAt + 100000000 ≤ s.blk.tb →
      Does (.foldbackRetry n) s fun b => alone b ∧ chanAt b n = { c with foldRelease := some s.blk.tb }) ∧
    (m = 3 → c.fe = 3 → fLt mA02 ((num (appliedOf s.blk n)).sub (num c.meas)).v = true →
      Does (.compliance n) s fun b => alone b ∧ (chanAt b n).stBit 10 = true ∧ (chanAt b n).fe = 3) ∧
    (m = 3 → c.fe = 4 → offBy c.meas (appliedOf s.blk n) mA01 = false →
      Does (.compliance n) s fun b => alone b ∧ (chanAt b n).stBit 10 = false ∧ (chanAt b n).fe = 4) ∧
    (m = 3 → c.fe = 3 → chnOpenDet s.blk n = true → fLe mA1 (appliedOf s.blk n) = true → fLt c.meas mA01 = true →
      Does (.openLoad n) s fun b => alone b ∧ (chanAt b n).stBit 10 = true ∧ (chanAt b n).stBit 11 = true ∧ (chanAt b n).fe = 3) ∧
    (m = 5 → c.fe = 3 → chnOpenDet s.blk n = true → appliedOf s.blk n = 1 →
      Does (.openLoad n) s fun b => alone b ∧ (chanAt b n).stBit 11 = fLt c.load amp5m ∧ (chanAt b n).fe = 3) ∧
    (m = 5 ∨ m = 8 → c.fe = 3 → c.limited = true → Does (.overload n) s fun b => alone b ∧ (chanAt b n).stBit 8 = true ∧
      (chanAt b n).fe = 4 ∧ (chanAt b n).overAt = s.blk.tb ∧ (chanAt b n).applied = 0 ∧ (chanAt b n).cmds = []) ∧
    (c.stBit 8 = true → chnRetry s.blk n = true → c.stBit 9 = false → c.overAt + 100000000 ≤ s.blk.tb →
      outOn s.blk n = true → Does (.overloadRetry n) s fun b => alone b ∧ (chanAt b n).stBit 8 = false ∧
      (chanAt b n).fe = c.fe) ∧
    (isOut m = true → c.fe = 3 ∨ c.fe = 4 → Does (.thermal n true) s fun b => alone b ∧ (chanAt b n).stBit 9 = true ∧ (chanAt b n).fe = 4) ∧
    (isOut m = true → Does (.thermal n false) s fun b => alone b ∧ (chanAt b n).stBit 9 = false ∧ (chanAt b n).fe = c.fe) ∧
    (m = 6 → chnWb s.blk n = true → c.fe = 2 ∨ c.fe = 3 ∨ c.fe = 4 → c.cls = false → fLt c.meas mA02 = true →
      Does (.wireBreak n) s fun b => alone b ∧ (chanAt b n).stBit 12 = true ∧ (chanAt b n).fe = c.fe) ∧
    (c.fe = 4 → c.stBit 19 = true → c.stBit 8 = false → c.stBit 9 = false → c.stBit 17 = false → c.devAt + 10000000 ≤ s.blk.tb →
      Does (.deviationRetry n) s fun b => alone b ∧ (chanAt b n).stBit 19 = false ∧ (chanAt b n).devRetry = some s.blk.tb ∧
      (chanAt b n).fe = 3) ∧
    (m = 3 → c.fe = 3 → c.stBit 10 = false → c.stBit 19 = false → offBy c.meas (appliedOf s.blk n) mA05 = true → c.devRetry = none →
      forceArmed s.blk.flt 0x0C (chnLoc n 1) 0 = false → openSlot s.blk.flt 1 = none →
      Does (.deviation n) s fun b => alone b ∧ Recorded s.blk b 0x0C (chnLoc n 1) ∧ (chanAt b n).stBit 19 = true ∧ (chanAt b n).fe = 4 ∧
        (chanAt b n).devAt = s.blk.tb) ∧
    (c.fe ≠ 5 → isFenced s.blk (.channel n) = false → openSlot s.blk.flt 1 = none →
      Does (.couplerLoss n) s fun b => alone b ∧ Recorded s.blk b 0x0D (chnLoc n 3) ∧ (chanAt b n).fe = 5 ∧
        b.flt.fenced = s.blk.flt.fenced ++ [.channel n])

/-- Group supply (R145, R149) and the LISTEN window (R142). A feed that is lost shows in its group's bits; with the last one the group's converters go
off and FIELD_LOST is set in the group and its channels. A feed that returns turns the converters on, and front ends that are OFF begin INIT.
OVERCURRENT follows the sum of the currents. Each changes its own group alone. The end of the window ends LISTEN. Completes: fieldFeedLost,
fieldFeedRestored, overcurrent, listenWindowEnd. -/
def Obligations.GroupSupply : Prop :=
  ∀ (g feed v w : Nat) (s : State), g < 8 → feed < 2 → On s →
    let x := groupAt s.blk g
    let okOf := fun (y : Group) (f : Nat) => if f = 0 then y.okA else y.okB
    let voltOf := fun (y : Group) (f : Nat) => if f = 0 then y.voltA else y.voltB
    (okOf x feed = true → v < 320 → Does (.fieldFeedLost g feed v) s fun b => OnlyGroup s.blk b g ∧
      okOf (groupAt b g) feed = false ∧ voltOf (groupAt b g) feed = v ∧ okOf (groupAt b g) (1 - feed) = okOf x (1 - feed) ∧
      (groupAt b g).latch = x.latch ||| regOf [(feed, 1, 1), (2, 1, b1 (!okOf x (1 - feed)))] ∧
      (okOf x (1 - feed) = true → (groupAt b g).converters = x.converters) ∧
      (okOf x (1 - feed) = false → (groupAt b g).fieldLost = true ∧ (groupAt b g).converters = false ∧
        ∀ n, n < 192 → n / 24 = g → (chanAt b n).stBit 15 = true ∧ (chanAt b n).fe = (chanAt s.blk n).fe)) ∧
    (okOf x feed = false → 340 ≤ v → Does (.fieldFeedRestored g feed v) s fun b => OnlyGroup s.blk b g ∧
      okOf (groupAt b g) feed = true ∧ voltOf (groupAt b g) feed = v ∧ (groupAt b g).fieldLost = false ∧ (groupAt b g).converters = true ∧
      (groupAt b g).latch = x.latch ∧
      (x.converters = false → ∀ n, n < 192 → n / 24 = g → (chanAt b n).stBit 15 = false ∧
        (chanAt b n).fe = if (chanAt s.blk n).fe = 0 then 1 else (chanAt s.blk n).fe)) ∧
    (Does (.overcurrent g v w) s fun b => OnlyGroup s.blk b g ∧ b.chn.chans = s.blk.chn.chans ∧
      groupAt b g = { x with
        curA := v, curB := w, overcurrent := decide (6000 < v + w), latch := if 6000 < v + w then x.latch ||| 8 else x.latch }) ∧
    (s.blk.chn.listen = true → s.blk.chn.listenEnd ≤ s.blk.tb →
      Does .listenWindowEnd s fun b => b = { s.blk with chn := { s.blk.chn with listen := false } })

/-- Sampling and images (R131, R153 to R160, R165 to R167, R424). A firing of a time trigger is counted, and the channels whose instant it is await
their sample, with their status as it stands; the sample then becomes the channel's entry with the tick of its instant and the next sequence number,
and the entry before it is kept; a filtered current is the value of an AI channel, the state of terminal A that of a DO. The debounced state of a DI
channel follows its classification once that has stood for DEBOUNCE. A write or an image that a freeze has deferred waits for those before it in the
order of R29, and images for the writes (R155). The assembly of an image takes its snapshot and runs; one of no duration ends at once: it is counted
and goes to every running ring of it that has room. Completes: timeTrigger, sampleWrite, diDebounce, imageAssembly. -/
def Obligations.SamplesAndImages : Prop :=
  ∀ (n t dur : Nat) (x : Word) (high : Bool) (s : State), On s →
    let c := chanAt s.blk n
    (∀ k, k < 64 → pointOpen (3 + k) s.blk = true → ttFires s.blk k s.blk.tb = true → tget 0 s.blk.tim.ttCount k ≤ ttIndex s.blk k →
      Does (.timeTrigger k) s fun b => tget 0 b.tim.ttCount k = ttIndex s.blk k + 1 ∧
        (n < 192 → smpTrig s.blk n = k → smpEn s.blk n = true → ttIndex s.blk k % max 1 (smpDiv s.blk n) = 0 → c.due = none →
          (chanAt b n).due = some s.blk.tb ∧
          ((∀ m, (chanAt s.blk m).due = none) → (chanAt b n).dueSt = fld (chnStatus s.blk n) 0 20))) ∧
    (n < 192 → c.due = some t → writeFirst s.blk n t = true → Idle (.sampleWrite n x high) s) ∧
    (∀ i, i < 64 → (imageAt s.blk i).due = some t → (imageAt s.blk i).deferred = true → writesDeferred s.blk = true ∨ imageFirst s.blk i t = true →
      Idle (.imageAssembly i dur) s) ∧
    (n < 192 → c.due = some t → s.blk.freeze = none → writeFirst s.blk n t = false → Does (.sampleWrite n x high) s fun b =>
      quiet b = { quiet s.blk with chn := b.chn, dp := b.dp } ∧ (∀ m, m ≠ n → chanAt b m = chanAt s.blk m) ∧
      (chanAt b n).due = none ∧ (chanAt b n).prev = c.cur ∧ (chanAt b n).cur.tick = t ∧ (chanAt b n).cur.seq = (c.cur.seq + 1) % 0x10000 ∧
      (isAI (chnMode s.blk n) = true → c.dueSt % 8 = 3 → (chanAt b n).cur.value = iirNext s.blk n t (if fLt mA25 x then mA25 else x) ∧
        (chanAt b n).y = (chanAt b n).cur.value) ∧
      (chnMode s.blk n = 5 → c.dueSt % 8 = 3 → (chanAt b n).cur =
        { value := if high then 1 else 0, aux := x, status := c.dueSt, seq := (c.cur.seq + 1) % 0x10000, tick := t })) ∧
    (n < 192 → chnMode s.blk n = 4 ∨ chnMode s.blk n = 7 → c.fe = 2 ∨ c.fe = 3 ∨ c.fe = 4 →
      c.clsAt + chnDebounce s.blk n ≤ s.blk.tb → c.cls ≠ c.on → Does (.diDebounce n) s fun b =>
        chanAt b n = { c with on := c.cls, changes := (s.blk.tb :: c.changes).take 64 } ∧ (∀ m, m ≠ n → chanAt b m = chanAt s.blk m) ∧
        b = { s.blk with chn := { s.blk.chn with chans := b.chn.chans } }) ∧
    (∀ i, i < 64 → (imageAt s.blk i).due = some t → t + 2000 ≤ s.blk.tb → s.blk.freeze = none → s.blk.glb.active = true →
      (imageAt s.blk i).endAt ≤ s.blk.tb →
      ((imageAt s.blk i).deferred = true → writesDeferred s.blk = false ∧ imageFirst s.blk i t = false) →
      (isFenced s.blk .growth = true ∨ dur ≤ dCurAt s.blk (0x400 + i) 32) → Does (.imageAssembly i dur) s fun b =>
        let started := { imageAt s.blk i with due := none, skipped := false, deferred := false, endAt := s.blk.tb + dur, dur := dur }
        imageAt b i = (if dur = 0 then { started with inHand := none, count := wrap32 (imageAt s.blk i).count 1 }
          else { started with inHand := some { image := i, tick := t, body := imageBytes s.blk i t } }) ∧
        (∀ j, j ≠ i → imageAt b j = imageAt s.blk j) ∧ quiet b = { quiet s.blk with chn := b.chn, growth := b.growth } ∧
        ∀ m, dur = 0 → m < 128 → (ring s.blk m).kind = tTLM → (ring s.blk m).image = i → (ring s.blk m).state = .running →
          (ring s.blk m).imgs.length < (ring s.blk m).depth →
          (ring b m).imgs = (ring s.blk m).imgs ++
            [{ image := i, tick := t, body := imageBytes s.blk i t, seq := wrap32 (ring s.blk m).imgSeq 1 }])

/-- The HART modem of a channel (R169 to R171, R174, R175, Tables 5.7 to 5.9). A poll that is due goes out as Command 0 while the link is sought and
as Command 3 while it is ONLINE. A valid reply to Command 3 brings a new set of dynamic variables, one to a pass-through request goes to the host; an
invalid or a missing one counts, and the attempt is repeated while attempts are left. A burst frame of Command 3 brings variables and takes the link
from ONLINE to BURST; without one for twice the period the link is ONLINE again. Completes: hartPoll, hartReply, hartReplyTimeout, hartBurstFrame,
hartBurstTimeout. -/
def Obligations.HartModem : Prop :=
  ∀ (n resp dev : Nat) (data : List Byte) (t : HartTrans) (s : State), n < 192 → resp < 256 → dev < 256 → On s →
    let h := (chanAt s.blk n).hart
    let dynVars := fun (source : Nat) (g : Hart) => g.pv = hartVal data 0 ∧ g.sv = hartVal data 1 ∧ g.tv = hartVal data 2 ∧
      g.qv = hartVal data 3 ∧ g.resp = resp ∧ g.devStatus = dev ∧ g.dvSeq = (h.dvSeq + 1) % 0x10000 ∧ g.dvTick = s.blk.tb ∧ g.source = source
    (h.state = 1 ∨ h.state = 2 ∨ h.state = 4 → h.pollAt ≤ s.blk.tb → h.flight = none → h.queue = [] → hartMay s.blk n = true → Does (.hartPoll n) s fun b =>
      OnlyChan s.blk b n ∧ (chanAt b n).hart = { h with
        pollDue := false, pollAt := s.blk.tb + hartPeriod s.blk n
        flight := some { kind := if h.state = 2 then 1 else 0, sentAt := s.blk.tb } } ∧
      b.out = .hart n (List.replicate (max 5 h.preambles) 0xFF ++ hartFrame s.blk n { kind := if h.state = 2 then 1 else 0 }) :: s.blk.out) ∧
    (h.flight = some t → t.kind = 1 → Does (.hartReply n true resp dev data) s fun b => OnlyChan s.blk b n ∧ dynVars 1 (chanAt b n).hart) ∧
    (∀ d, h.flight = some t → t.kind = 3 → descAt s.blk t.ring t.idx = some d → Does (.hartReply n true resp dev data) s fun b =>
      ∃ q, q = hartReplyBytes 0 resp dev data ∧ (ring b t.ring).fetched = withDone (ring s.blk t.ring).fetched t.idx
        { status := stOK, result := w32 q.length, tick := s.blk.tb, reply := q.take (cmdLen d) }) ∧
    (h.flight = some t → t.failed < hartRetries s.blk n → hartMay s.blk n = true → Does (.hartReply n false resp dev data) s fun b => OnlyChan s.blk b n ∧
      (chanAt b n).hart.errors = sat16 h.errors 1 ∧
      (chanAt b n).hart.flight = some { t with failed := t.failed + 1, invalid := true, sentAt := s.blk.tb }) ∧
    (h.flight = some t → t.failed < hartRetries s.blk n → hartMay s.blk n = true → t.sentAt + 25666667 ≤ s.blk.tb → Does (.hartReplyTimeout n) s fun b =>
      OnlyChan s.blk b n ∧ (chanAt b n).hart.errors = sat16 h.errors 1 ∧
      (chanAt b n).hart.flight = some { t with failed := t.failed + 1, sentAt := s.blk.tb }) ∧
    (h.state = 2 ∨ h.state = 3 → Does (.hartBurstFrame n 3 resp dev data) s fun b => OnlyChan s.blk b n ∧ dynVars 2 (chanAt b n).hart ∧
      (chanAt b n).hart.bursts = (h.bursts + 1) % 0x10000 ∧ (chanAt b n).hart.lastBurst = s.blk.tb ∧ (chanAt b n).hart.state = 3) ∧
    (h.state = 3 → h.lastBurst + 2 * hartPeriod s.blk n ≤ s.blk.tb → Does (.hartBurstTimeout n) s fun b =>
      Spared { s.blk with chn := b.chn } b ∧ OnlyChan s.blk b n ∧
      chanAt b n = { chanAt s.blk n with hart := { h with state := 2, pollAt := s.blk.tb + hartPeriod s.blk n } })

/-! Safety (chapters 6 and 7). -/

/-- What a scan leaves (R74, R182, R184, R185, R198, R201, R206, Tables 6.4 and 6.5), in every state in which it starts and within the time its
activity is given: every sample received is processed. With the engine in RUN, no SDO pair is commanded ON unless the engine runs, the role allows it,
no latch of the pair stands and no tripped function acts on it; every port's output is what the functions allow; every function whose demand set
demands is tripped. Outside RUN the pairs, ports and functions stay as they are. A scan that starts before its predecessor has ended trips every
function instead, and keeps its samples for the next. Completes: safetyScan. -/
def Obligations.ScanHoldsSafe : Prop :=
  ∀ (samples : List SafSample) (dur : Nat) (s : State), On s → s.blk.glb.ready = true → s.blk.freeze = none → s.blk.saf.catchUp = false →
    s.blk.tb % 400 = 100 → pointOpen 1 s.blk = true →
    (s.blk.saf.scanEnd ≤ s.blk.tb → isFenced s.blk .growth = true ∨ dur ≤ dCurAt s.blk 1 29 → checkForce s.blk (siteLoc 29) = none →
      Does (.safetyScan samples dur) s fun b => b.saf.scanEnd = s.blk.tb + dur ∧ b.saf.held = [] ∧
        (s.blk.saf.engine = 2 → (∀ p, p < 24 → spType b p = 2 → (pairAt b p).cmd = true → sdoWanted b p = true) ∧
          (∀ n, n < 4 → (portAt b n).out = portWanted b n) ∧
          ∀ f, f < 32 → fnInput b f = true → (fnAt b f).tripped = true) ∧
        (s.blk.saf.engine ≠ 2 → b.saf.pairs = s.blk.saf.pairs ∧ b.saf.ports = s.blk.saf.ports ∧ b.saf.fns = s.blk.saf.fns)) ∧
    (s.blk.tb < s.blk.saf.scanEnd → s.blk.saf.lastCatch = false → openSlot s.blk.flt (locDomain (siteLoc 29)) = none →
      Does (.safetyScan samples dur) s fun b => b.saf.overruns = sat16 s.blk.saf.overruns 1 ∧ Recorded s.blk b 2 (siteLoc 29) ∧
        b.saf.held = s.blk.saf.held ++ samples ∧
        ∀ f, f < 32 → (fnAt b f).tripped = true)

/-- Test pulses and lost data (R186, R187, R191, Table 6.2): at its tick a slot opens the window of its channel, or of its port; an SDO channel that
is on since before the period takes the OFF-test; the pulse, with its first and last tick, goes out at its pin. A safety channel without a valid frame
for 100 µs is listed as lost, with the tick at which they were over, which fires ES059. Completes: testPulseSlot, safetyDataLost. -/
def Obligations.SafetyPulses : Prop :=
  ∀ (k n : Nat) (s : State), On s → n < 192 →
    let p := k / 2
    let side := fun (x : SafPair) => if k % 2 = 0 then x.a else x.b
    let ch := if k % 2 = 0 then spA s.blk p else spB s.blk p
    let opened := fun (kind : Nat) (b : Block) => side (pairAt b p) = { side (pairAt s.blk p) with pulse := some s.blk.tb, kind := kind, offSeen := false } ∧
      (∀ q, q ≠ p → pairAt b q = pairAt s.blk q) ∧ b = { s.blk with saf := { s.blk.saf with pairs := b.saf.pairs }, out := b.out } ∧
      b.out = .testPulse ch s.blk.tb (s.blk.tb + if kind = 1 then spTpw s.blk p - 5000 else spTpw s.blk p) false :: s.blk.out
    (safTpp s.blk ≠ 0 → s.blk.tb % safTpp s.blk = 50000 * k → safActs s.blk = true → s.blk.saf.engine = 2 →
      (k < 48 → (chanAt s.blk ch).fe = 3 → spType s.blk p ≠ 0 → spType s.blk p ≠ 2 → Does (.testPulseSlot k) s (opened 1)) ∧
      (k < 48 → (chanAt s.blk ch).fe = 3 → spType s.blk p = 2 → (pairAt s.blk p).cmd = true → (pairAt s.blk p).cmdSent = true →
        (pairAt s.blk p).cmdAt + 50000 * k < s.blk.tb →
        Does (.testPulseSlot k) s (opened 2)) ∧
      (48 ≤ k → k < 52 → scMode s.blk (k - 48) = 1 → Does (.testPulseSlot k) s fun b =>
        portAt b (k - 48) = { portAt s.blk (k - 48) with
          ch := { (portAt s.blk (k - 48)).ch with pulse := some s.blk.tb, kind := 1, offSeen := false } } ∧
        (∀ q, q ≠ k - 48 → portAt b q = portAt s.blk q) ∧ b = { s.blk with saf := { s.blk.saf with ports := b.saf.ports }, out := b.out } ∧
        b.out = .testPulse (192 + (k - 48)) s.blk.tb (s.blk.tb + (scTpw s.blk (k - 48) - 5000)) false :: s.blk.out)) ∧
    (chnMode s.blk n = 7 ∨ chnMode s.blk n = 8 → n ∉ s.blk.saf.lost → Does (.safetyDataLost n) s fun b =>
      Spared { s.blk with saf := { s.blk.saf with lost := s.blk.saf.lost ++ [n], gaps := s.blk.saf.gaps ++ [(n, s.blk.tb)] } } b)

/-- The Safe Layer (R217, R219, R224 to R230, Tables 7.3 and 7.4). In a freeze window a frame waits with its receive timestamp. A frame that passes
every check within the sequence window is accepted by its sub-channel in RUN, which restarts the watchdog; one that no identity's CRC fits counts in
ERR_CRC and changes no sub-channel unless a failure stands within CORRUPT_WIN. A watchdog that expires takes the sub-channel to SYNC; the end of
CORRUPT_WIN takes FAILED to SYNC. A transmit connection whose transport can take a frame sends with the next SEQ at its period, and at the end of an
event frame's delay. Completes: uslFrameReceive, uslFailedEnd, uslWatchdog, uslPeriodicSend, uslEventHoldoffEnd. -/
def Obligations.SafeLayer : Prop :=
  ∀ (c q t : Nat) (bytes : List Byte) (s : State), c < 24 → q < 2 → On s →
    let x := connAt s.blk c
    let sub := getSub x q
    let f := uslParse bytes
    let d := (f.seq + 0x10000 - sub.seq) % 0x10000
    let a := uslAge s.blk.tim.vt f
    let crc := [0, 1].find? fun i => subId s.blk c i != 0 && uslCrc (subId s.blk c i) (bytes.take 24) == w32 (leAt bytes 24 4)
    let others := fun (b : Block) => ∀ e, e ≠ c → connAt b e = connAt s.blk e
    let sends := fun (b : Block) => (connAt b c).txSeq = (x.txSeq + 1) % 65536 ∧ (connAt b c).lastSeq = x.txSeq ∧ (connAt b c).sent = true ∧
      (connAt b c).a = x.a ∧ (connAt b c).b = x.b ∧ others b ∧
      (cnBus s.blk c = 2 → ∀ l ∈ lansUp s.blk (cnPort s.blk c), ∃ q, .uslEth (cnPort s.blk c) l c q (uslFrame c s.blk).1 ∈ b.out)
    (s.blk.freeze.isSome = true → Does (.uslFrameReceive c bytes) s fun b => b = { s.blk with saf := { s.blk.saf with
      waiting := s.blk.saf.waiting ++ [{ conn := c, bytes := bytes, tick := s.blk.tb, vt := s.blk.tim.vt, vtValid := s.blk.tim.vtValid }] } }) ∧
    (s.blk.freeze = none → s.blk.glb.active = true → cnEn s.blk c = true → cnTx s.blk c = false →
      (bytes.length = 28 → leAt bytes 0 1 = 0x11 → crc = some q → f.connId = subId s.blk c q → s.blk.tim.vtValid = true →
        (-(cnSkew s.blk c * 100000 : Int) ≤ a) → a < (cnAgeMax s.blk c * 1000000 : Int) → sub.state = 2 → s.blk.tb < sub.deadline → 0 < d → d ≤ cnSeqWin s.blk c →
        Does (.uslFrameReceive c bytes) s fun b => getSub (connAt b c) q = { sub with
            hasRef := true, seq := f.seq, runWord := f.runWord, resetWord := f.resetWord, role := f.role, run := f.run, rejects := 0
            deadline := s.blk.tb + cnPeriod s.blk c } ∧
          getSub (connAt b c) (1 - q) = getSub x (1 - q) ∧ (connAt b c).lost = sat16 x.lost (d - 1) ∧ (connAt b c).lastSeq = f.seq ∧ others b ∧
          quiet b = { quiet s.blk with saf := b.saf }) ∧
      (bytes.length = 28 → leAt bytes 0 1 = 0x11 → crc = none → x.corruptAt = none → Does (.uslFrameReceive c bytes) s fun b =>
        connAt b c = { x with errCrc := sat8 x.errCrc 1, corruptAt := some s.blk.tb } ∧ others b ∧ Spared { s.blk with saf := b.saf } b)) ∧
    (s.blk.freeze = none → sub.state = 1 ∨ sub.state = 2 → sub.deadline ≤ s.blk.tb → Does (.uslWatchdog c q) s fun b =>
      getSub (connAt b c) q = { sub with state := 1, rejects := 0, hasRef := false, deadline := sub.deadline + cnPeriod s.blk c } ∧
      getSub (connAt b c) (1 - q) = getSub x (1 - q) ∧ (connAt b c).timeouts = sat8 x.timeouts 1 ∧ others b ∧ Spared { s.blk with saf := b.saf } b) ∧
    (s.blk.freeze = none → x.corruptAt = some t → t + cnCorrupt s.blk c ≤ s.blk.tb → Does (.uslFailedEnd c) s fun b =>
      (getSub (connAt b c) q).state = (if sub.state = 3 then 1 else sub.state) ∧ (sub.state ≠ 3 → getSub (connAt b c) q = sub) ∧ others b ∧
      Spared { s.blk with saf := b.saf } b) ∧
    (cnSends s.blk c = true → cnReady s.blk c = true → cnPeriod s.blk c ≠ 0 → s.blk.tb % cnPeriod s.blk c = 0 → x.delayed = false → x.lastEvent ≠ some s.blk.tb →
      Does (.uslPeriodicSend c) s sends) ∧
    (x.delayed = true → x.lastEvent = some t → t + 10000 ≤ s.blk.tb → cnSends s.blk c = true → cnReady s.blk c = true → Does (.uslEventHoldoffEnd c) s fun b =>
      sends b ∧ (connAt b c).delayed = false ∧ (connAt b c).lastEvent = some s.blk.tb)

/-! Control loops and dynamic positioning (chapters 8 to 10). -/

/-- The evaluation of a loop (R40, R44, R245, R254, R258 to R260, Table 8.14) and the end of a tune that takes too long (R264). LOOP_EVALUATION starts
the instance that its lane has taken: the snapshot of that tick and the terms of R254 stand in the context, and the lane is busy until its end. A tick
of an empty queue, in which the tick of the loop engine stands, brings the end: with a valid process value and no running tune the context then holds
the terms of R254 and: in MANUAL the value in force of its target as u; after a tune u0; when it tracks, or with a value in force that is not its own,
that value; else the i and u of R254. Without a valid process value it goes to HOLD_PV with u as it was. Other contexts stay as they are, but for the
cascade input of the one that the output names. No force makes a check fail here. Completes: loopEvaluation, tuneTimeout. -/
def Obligations.LoopsEvaluate : Prop :=
  (∀ (l c t dur : Nat) (s : State), On s → l < 16 → s.blk.freeze = none → lpeOn s.blk = true → enginesHeld s.blk = false →
    (lanePhys s.blk l).isSome = true → laneBusy s.blk l = false → laneNext s.blk l = some (c, t) → laneTake s.blk l + 100 ≤ s.blk.tb →
    Does (.loopEvaluation l dur) s fun b =>
      ctxAt b c = { ctxAt s.blk c with ready := none, run := some (lpeSnapshot c t dur (instanceStart (0x100 + c) s.blk)) } ∧
      (∀ d, d ≠ c → ctxAt b d = ctxAt s.blk d) ∧ tget 0 b.lpe.laneEnd l = s.blk.tb + dur ∧
      b = { s.blk with lpe := { s.blk.lpe with ctxs := b.lpe.ctxs, laneEnd := b.lpe.laneEnd }, prf := { s.blk.prf with cnt := b.prf.cnt } }) ∧
  (∀ s : State, On s → s.pending = [] → step s = .next { s with blk := dpTick (lpeTick (imageTick (ringTick (startTick (idleTick (overrunTick s.blk)))))) }) ∧
  (∀ (c : Nat) (r : LpeRun) (b : Block), b.freeze = none → enginesHeld b = false → (ctxAt b c).run = some r → r.stop ≤ b.tb →
    (∀ p ∈ b.lpe.ctxs, ∀ q, p.2.run = some q → q.stop ≤ b.tb → p.1 = c) →
    let phys := (lanePhys b (lpeLane b c)).getD 0
    checkForce b (siteLoc phys) = none → isFenced b .growth = true ∨ r.dur ≤ dCurAt b (0x100 + c) phys →
    let e := modCtx c (fun x => { x with run := none }) b
    let x := ctxAt b c
    let y := lpeTick b
    let cascades := fun d => tgKind (lpeOut b c) == 3 && tgA (lpeOut b c) == d
    let ended := (ctxAt y c).run = none ∧ (ctxAt y c).evalAt = some b.tb ∧ (ctxAt y c).mode = r.mode ∧
      ∀ d, d ≠ c → ctxAt y d = { ctxAt b d with casc := if cascades d then (ctxAt y d).casc else (ctxAt b d).casc }
    let holds := fun (z : LpeTerms) (w : LpeResult) => ended ∧ (ctxAt y c).u = w.u.v ∧ (ctxAt y c).i = w.i.v ∧
      (ctxAt y c).pv = z.pv.v ∧ (ctxAt y c).e = z.e.v ∧ (ctxAt y c).d = z.d.v ∧ (ctxAt y c).spR = z.spR.v ∧ (ctxAt y c).state = w.state ∧
      (tgKind (lpeOut b c) = 1 → w.write = true →
        ∃ o ∈ (targetAt y (engKey (lpeOut b c))).cands, o.src = c ∧ o.val = w.u.v ∧ o.prio = chnLoopPrio b (tgA (lpeOut b c))) ∧
      ∀ d, d ≠ c → cascades d = true → (ctxAt y d).casc = if w.write then some w.u.v else none
    (∀ z, r.terms = some z → r.slot = none →
      let takes := fun (u : Word) => holds z { u := num u, i := trackI e c z u }
      (r.mode = 0 → holds z { u := num r.v, i := trackI e c z r.v, write := false }) ∧
      (r.mode ≠ 0 →
        (∀ u0, r.exit = some u0 → takes u0) ∧
        (r.exit = none → r.track = true → takes r.v) ∧
        (r.exit = none → r.track = false → x.first = false → beyond e c r.v x.u = true →
          holds z { u := num r.v, i := trackI e c z r.v, state := 3 }) ∧
        (r.exit = none → r.track = false → x.first = true ∨ beyond e c r.v x.u = false → holds z (lpeAuto e c z)))) ∧
    (r.terms = none → ended ∧ (ctxAt y c).state = 4 ∧ (ctxAt y c).u = x.u ∧ (ctxAt y c).i = x.i ∧ bit (ctxAt y c).st 10 = true)) ∧
  (∀ (z : Nat) (s : State), z < 4 → On s → s.blk.freeze = none → (tuneAt s.blk z).state = 1 →
    (tuneAt s.blk z).startAt + (tuneAt s.blk z).tmax * 100000000 ≤ s.blk.tb →
    Does (.tuneTimeout z) s fun b => tuneAt b z = { tuneAt s.blk z with state := 3, reason := 4 } ∧
      (∀ y, y ≠ z → tuneAt b y = tuneAt s.blk y) ∧ Spared { s.blk with lpe := b.lpe } b ∧
      ((tuneAt s.blk z).begun = true → (ctxAt b (tuneAt s.blk z).loop).exit = some (tuneAt s.blk z).u0) ∧
      ((tuneAt s.blk z).begun = false → b.lpe.ctxs = s.blk.lpe.ctxs))

/-- A DP cycle opens and runs through its stages in order (R301, R306, R313, R323, R326, R331). At a boundary that finds no stage running the cycle
begins with intake, and sensors named by a READMIT are admitted again. Each stage, started no earlier than 100 ticks after the one before and run
within its time, with no force that makes its check fail, leaves what its rules work out and hands on to the next: intake a record output at the
boundary, the estimator the state and its covariance, the control law the demand, the intact solve the groups to solve. Completes: dpCycleBoundary,
intakeStage, estimatorStage, controlLawStage, intactSolve. -/
def Obligations.CycleStages : Prop :=
  ∀ (dur : Nat) (s : State), On s →
    let d := s.blk.dp
    let inTime := fun (a site : Nat) => isFenced s.blk .growth = true ∨ dur ≤ dCurAt s.blk a site
    let passes := fun (site : Nat) => checkForce s.blk (siteLoc site) = none
    let phys := (solverPhys (solverRemap s.blk) (solverLu s.blk) 0).getD 8
    let next := fun (k : Nat) (b : Block) => b.dp.cycle.stage = k ∧ b.dp.cycle.endAt = s.blk.tb + dur ∧ b.dp.cycle.b = d.cycle.b
    (pointOpen 2 s.blk = true → s.blk.tb % 2000000 = 0 → dpOn s.blk = true → enginesHeld s.blk = false → d.cycle.stage = 0 → d.safe = 0 →
      Does .dpCycleBoundary s fun b => b.dp.cycle = { b := s.blk.tb, stage := 1, endAt := s.blk.tb } ∧ b.dp.readmits = [] ∧ b.dp.reOrigins = [] ∧
        b.dp.cycles = d.cycles ∧ (d.reOrigins = [] → b.dp.satNow = false ∧ ∀ x ∈ d.readmits, (dpSlot b x.2.2).votedOut = false ∧ (dpSlot b x.2.2).voteCount = 0)) ∧
    (stageReady s.blk 1 = true → inTime 0x200 27 → passes 27 → Does (.intakeStage dur) s fun b => next 2 b ∧ b.dp.rec0 = d.rec1 ∧
      b.dp.records = wrap32 d.records 1 ∧ (∃ r, b.dp.rec1 = some r ∧ r.outTick = d.cycle.b ∧ r.mode = d.mode) ∧ b.dp.x = d.x ∧ b.dp.est = d.est) ∧
    (stageReady s.blk 2 = true → inTime 0x201 27 → passes 27 → ∀ r, d.rec1 = some r → Does (.estimatorStage dur) s fun b =>
      let e := estimate r (instanceStart 0x201 s.blk)
      next 3 b ∧ b.dp.x = e.dp.x ∧ b.dp.p = e.dp.p ∧ b.dp.est = e.dp.est ∧ b.dp.hat = e.dp.hat ∧ b.dp.rec1 = d.rec1) ∧
    (stageReady s.blk 3 = true → inTime 0x202 28 → passes 28 → Does (.controlLawStage dur) s fun b =>
      let e := controlLaw (instanceStart 0x202 s.blk)
      next 4 b ∧ b.dp.tau = e.dp.tau ∧ b.dp.sp = e.dp.sp ∧ b.dp.integ = e.dp.integ ∧ b.dp.x = d.x) ∧
    (stageReady s.blk 4 = true → inTime 0x203 (18 + phys) → passes (18 + phys) → d.state = 3 → Does (.intactSolve dur) s fun b =>
      next 5 b ∧ b.dp.cycle.deliver = true ∧ b.dp.cycle.runs = [] ∧ b.dp.cycle.todo = (List.range 32).filter (grpOn s.blk) ∧
        b.dp.cycle.lu = solverLu s.blk ∧ b.dp.x = d.x)

/-- The end of a DP cycle (R295, R315, R334, R335, R338). Delivery makes the command of each selected and available fixed-pitch thruster the candidate
of its target. A consequence solve starts on its group's lane, once that is free, and runs for its time; the tick of the DP engine at which it ends
leaves the group's result. The cut-off at B + 1 900 000 leaves the verdict NOT_DONE for every group whose solve waits or still runs. Late samples are
judged at the end of each 10 s window, and the sensor's state follows. Completes: lateWindowEnd, delivery, consequenceSolve, consequenceCutoff. -/
def Obligations.CycleEnds : Prop :=
  ∀ (g dur : Nat) (s : State), g < 32 → On s →
    let d := s.blk.dp
    let c := d.cycle
    let lane := groupLane c g
    let mayRun := dpOn s.blk = true ∧ enginesHeld s.blk = false ∧ c.stage = 5 ∧ s.blk.freeze = none
    (mayRun → c.deliver = true → c.endAt ≤ s.blk.tb → c.todo ≠ [] → Does .delivery s fun b => b.dp.cycle = { c with deliver := false } ∧
      ∀ n, d.state = 3 → n ∈ thrusters s.blk → thSelected s.blk n = true → thType s.blk n = 1 → (dpThr s.blk n).avail = true →
        tgKind (thOut s.blk n 0) = 2 ∨ tgKind (thOut s.blk n 0) = 5 →
        ∃ o ∈ (targetAt b (engKey (thOut s.blk n 0))).cands, o.src = dpSrc n ∧ o.val = inFmt (thOut s.blk n 0) (dpThr s.blk n).cmdA) ∧
    (∀ p, mayRun → (c.todo.find? fun x => groupLane c x == lane) = some g → laneFree s.blk lane = true → s.blk.tb < c.b + 1900000 →
      solverPhys s.blk c.lu lane = some p → Does (.consequenceSolve g dur) s fun b =>
        b = { s.blk with prf := { s.blk.prf with cnt := b.prf.cnt }, dp := { d with cycle := { c with
          todo := c.todo.filter (· != g), laneEnd := tset 0 c.laneEnd lane (s.blk.tb + dur)
          runs := c.runs ++ [{ g := g, lane := lane, phys := p, stop := s.blk.tb + dur, dur := dur }] } } }) ∧
    (∀ r, s.blk.freeze = none → enginesHeld s.blk = false → c.stage = 5 →
      (c.runs.filter fun q => decide (q.stop ≤ s.blk.tb) && decide (q.stop ≤ c.b + 1900000)) = [r] →
      c.deliver = true ∨ c.todo ≠ [] ∨ c.runs.filter (· != r) ≠ [] → checkForce s.blk (siteLoc (18 + r.phys)) = none →
      isFenced s.blk .growth = true ∨ r.dur ≤ dCurAt s.blk 0x203 (18 + r.phys) →
      let e := modCycle (fun x => { x with runs := x.runs.filter (· != r) }) s.blk
      (dpTick s.blk).dp.cycle = { c with runs := c.runs.filter (· != r) } ∧ dpGrp (dpTick s.blk) r.g = dpGrp (groupSolve r.g e) r.g ∧
        ∀ f, f ≠ r.g → dpGrp (dpTick s.blk) f = dpGrp s.blk f) ∧
    (c.stage = 5 → c.b + 1900000 ≤ s.blk.tb → g ∈ c.todo ∨ (∃ r ∈ c.runs, r.g = g) → Does .consequenceCutoff s fun b =>
      b.dp.cycle.todo = [] ∧ b.dp.cycle.runs = [] ∧ (dpGrp b g).verdict = 4 ∧
      ∀ f, f ∉ c.todo → (∀ r ∈ c.runs, r.g ≠ f) → dpGrp b f = dpGrp s.blk f) ∧
    (s.blk.tb % 1000000000 = 0 → dpOn s.blk = true → Does .lateWindowEnd s fun b => Spared { s.blk with dp := { d with slots := b.dp.slots } } b ∧
      ∀ k, k ∈ slotsOf s.blk 0 28 →
        let x := dpSlot s.blk k
        let beyondLimit := decide (snLateLim s.blk k * (x.lateN + x.onN) < x.lateN * 1000)
        dpSlot b k = { x with
          lateN := 0, onN := 0
          late := if snLateLim s.blk k = 1000 then false else if x.late then decide (x.lateN + x.onN = 0) || beyondLimit else beyondLimit
          state := slotState b k })

/-! The partner, the lease and the seed (chapter 11). -/

/-- Roles and the lease (R350 to R363, R384, Table 11.4). ROLE messages go out on each link that carries messages, and a GRANT extends the Standby's
own expiry; a message that R351 discards is only counted, a valid one is what the module then knows of its partner, and to a module whose bank gives
it no partner it is as if none came (R3). A link without an echo within ST is no longer live; with neither live the partner is not heard. An Active
module without SOLE isolates itself G before its lease ends; a Standby becomes Active at the expiry of its own lease, by START_ALONE or by TAKE, where
the rules allow it. Completes: roleSend, roleReceive, departSend, livenessLoss, leaseFence, leaseExpiry, take, clrErrs, startAlone, drillDue,
partnerLinkChange. -/
def Obligations.LeaseRoles : Prop :=
  ∀ (k link t : Nat) (m : List Byte) (s : State), k < 2 → link < 2 → On s →
    let p := s.blk.ptn
    let f := w32 (leAt m 1 1)
    let active := fun (cause : Nat) (b : Block) => b.ptn.role = 0 ∧ b.ptn.cause = cause ∧ b.ptn.activeSince = s.blk.tb ∧
      (b.ptn.takeover.map Prod.fst) = some s.blk.tb ∧ b.ptn.takeovers = sat8 p.takeovers 1
    (s.blk.glb.ready = true → paired s.blk = true → p.handedOver = none → s.blk.tb % 500000 = 0 → Does .roleSend s fun b =>
      (plinkUp s.blk k = true → (∃ q, .partner k q ∈ b.out) ∧ (plink b k).txSeq = nextSeq (plink s.blk k).txSeq ∧ (plink b k).flags = some (roleFlags s.blk k) ∧
        (grants s.blk k = true → s.blk.tb + leaseL s.blk ≤ b.ptn.eS)) ∧
      (plinkUp s.blk k = false → plink b k = plink s.blk k) ∧ b = { s.blk with ptn := b.ptn, out := b.out } ∧ b.ptn.role = p.role) ∧
    (plinkUp s.blk k = true → noPartner s.blk = false → msgOk m = false → Does (.roleReceive k m) s fun b =>
      (plink b k) = { plink s.blk k with errs := sat16 (plink s.blk k).errs 1 } ∧ plink b (1 - k) = plink s.blk (1 - k) ∧
      b = { s.blk with ptn := b.ptn } ∧ b.ptn.partner = p.partner ∧ b.ptn.role = p.role) ∧
    (plinkUp s.blk k = true → noPartner s.blk = false → msgOk m = true → leAt m 0 1 = 1 → Does (.roleReceive k m) s fun b =>
      (plink b k).rxSeq = leAt m 4 4 ∧ (plink b k).rxTick = some s.blk.tb ∧ b.ptn.partnerKnown = true ∧ b.ptn.partner.role = fld f 0 2 ∧
      b.ptn.partner.sole = bit f 5 ∧ b.ptn.partner.activeSince = leAt m 32 8) ∧
    (0 < p.departLeft → p.departAt ≤ s.blk.tb → paired s.blk = true → Does .departSend s fun b =>
      b.ptn.departLeft = p.departLeft - 1 ∧ b.ptn.departAt = s.blk.tb + 10000 ∧
      (plink b k).txSeq = (if plinkUp s.blk k then nextSeq (plink s.blk k).txSeq else (plink s.blk k).txSeq) ∧
      b = { s.blk with ptn := b.ptn, out := b.out } ∧ b.ptn.role = p.role) ∧
    ((plink s.blk k).live = true → plinkLive s.blk k = false → Does (.livenessLoss k) s fun b => (plink b k).live = false ∧
      ((plink s.blk (1 - k)).live = true → b.ptn.role = p.role ∧ b.ptn.heard = p.heard ∧ Spared { s.blk with ptn := b.ptn } b) ∧
      ((plink s.blk (1 - k)).live = false → b.ptn.heard = false ∧ b.ptn.silentFrom = s.blk.tb)) ∧
    (noPartner s.blk = true → Idle (.roleReceive k m) s) ∧
    (p.role = 0 → p.eA = some t → paired s.blk = true → overlapMode s.blk = false → p.sole = false → t ≤ s.blk.tb + 500000 →
      Does .leaseFence s fun b => b.ptn.role = 2 ∧ b.ptn.cause = 9) ∧
    (p.role = 1 → mayActivate s.blk = true → paired s.blk = true →
      (overlapMode s.blk = false → p.eS ≤ s.blk.tb → heardRole s.blk 0 = false → p.partner.soleAsActive = some false → 0 < p.grantsSent →
        Does .leaseExpiry s (active 2)) ∧
      (startAlone s.blk = true → p.heardSinceReady = false → p.readyTick + 2 * silentT s.blk ≤ s.blk.tb →
        Does .startAlone s fun b => active 7 b ∧ b.ptn.sole = true)) ∧
    (p.role = 1 → mayActivate s.blk = true → p.heard = false → p.silentFrom + silentT s.blk ≤ s.blk.tb → overlapMode s.blk = true ∨ p.eS < s.blk.tb →
      Does (.take link) s fun b => active 6 b ∧ b.ptn.sole = true) ∧
    (s.blk.glb.ready = true → Does (.clrErrs link) s fun b => plink b k = { plink s.blk k with errs := 0 } ∧
      b = { s.blk with links := b.links, ptn := b.ptn } ∧ b.ptn.role = p.role ∧ b.ptn.partner = p.partner) ∧
    (∀ up, (plink s.blk k).up ≠ up → Does (.partnerLinkChange k up) s fun b => (plink b k).up = up ∧ plink b (1 - k) = plink s.blk (1 - k) ∧
      (up = true → (plink b k).txSeq = 0 ∧ (plink b k).rxSeq = 0 ∧ (plink b k).sent = []) ∧ b.ptn.role = p.role ∧
      Spared { s.blk with ptn := b.ptn } b) ∧
    (s.blk.glb.ready = true → p.role = 1 → drillDue s.blk ≠ 0 → drillDue s.blk + p.drillDone ≤ (s.blk.tb - p.ageFrom) / dayT →
      Does .drillDue s fun b => Spared { s.blk with ptn := { p with drillDone := p.drillDone + 1 } } b)

/-- The seed (R26, R28, R366, R376, R380 to R382). At a boundary the freeze starts, and an Active module builds its seed; the capture that ends in
time is the next SEED_SEQ, goes out on both links, starts its commit and ends the freeze, the buffer of the capture before it standing for a commit
under way (R36); one that is not complete at B + 4 000 is discarded with SEED_OVERRUN, and the sends that the freeze has deferred advance their
sequence counters (R370). A valid newer seed of the partner is held; the commit leaves the seed in its slot; the end of a takeover's restore frees the
engines. A Safe Layer frame from the partner reaches its connection. Completes: seedBoundary, seedCaptureComplete, freezeTimeout, seedRestoreComplete,
seedReceive, partnerUslReceive, seedCommitComplete. -/
def Obligations.SeedCarried : Prop :=
  ∀ (k t c : Nat) (ok : Bool) (m : List Byte) (s : State), k < 2 → On s →
    let p := s.blk.ptn
    let body := (m.drop 32).take (m.length - 36)
    let seed := seedOf body
    let flags := w32 (leAt m 1 1)
    (pointOpen 0 s.blk = true → s.blk.tb % 1000000 = 0 → s.blk.freeze = none → s.blk.glb.ready = true → Does .seedBoundary s fun b => b.freeze = some s.blk.tb ∧ b.ptn.role = p.role ∧
      (p.role = 0 → s.blk.glb.active = true → p.takeover = none → s.blk.sec.downAt = none → p.handover = none →
        b.ptn = { p with
          capturing := some s.blk.tb, buffer := buildSeed false (selectorRewrite (safRefresh { s.blk with freeze := some s.blk.tb, tim := b.tim })), buffer1 := p.buffer
          commitPrev := p.commit.isSome }) ∧
      (p.role ≠ 0 → b.ptn = p)) ∧
    (p.capturing = some t → t < s.blk.tb → s.blk.tb < t + 4000 → p.role = 0 →
      isFenced s.blk .growth = true ∨ s.blk.tb - t ≤ dCurAt s.blk 0x300 30 → Does .seedCaptureComplete s fun b =>
        b.freeze = none ∧ b.ptn.capturing = none ∧ b.ptn.capSeq = p.buffer.seq ∧ b.ptn.lastCap = p.buffer.seq ∧
        b.ptn.commit = (if s.blk.glb.mramOk then some p.nextSlot else none) ∧
        (paired s.blk = true → plinkUp s.blk k = true → ∃ q, .partner k q ∈ b.out) ∧
        (s.blk.glb.mramOk = true → (if p.nextSlot = 0 then b.ptn.slot0 else b.ptn.slot1) = none)) ∧
    (s.blk.freeze = some t → t + 4000 ≤ s.blk.tb →
      (p.role ≠ 0 → Does .freezeTimeout s fun b => b.freeze = none ∧ b.ptn = { p with capturing := none }) ∧
      (p.role = 0 → p.capturing = none → Does .freezeTimeout s fun b => b.freeze = none ∧ b.ptn = { p with txSeqs := b.ptn.txSeqs }) ∧
      (p.role = 0 → p.capturing.isSome = true → openSlot s.blk.flt (locDomain (siteLoc 30)) = none → Does .freezeTimeout s fun b =>
        b.freeze = none ∧ b.ptn = { p with capturing := none, discarded := sat8 p.discarded 1, txSeqs := b.ptn.txSeqs } ∧ Recorded s.blk b 3 (siteLoc 30))) ∧
    (plinkUp s.blk k = true → noPartner s.blk = false → msgOk m = false → leAt m 0 1 = 2 → p.role ≠ 0 → Does (.seedReceive k m) s fun b =>
      b.ptn.held = p.held ∧ b.ptn.rejected = sat8 p.rejected 1 ∧ (plink b k).errs = sat16 (plink s.blk k).errs 1 ∧ Spared { s.blk with ptn := b.ptn } b) ∧
    (plinkUp s.blk k = true → msgOk m = true → leAt m 0 1 = 2 → p.role ≠ 0 → paired s.blk = true → overlapMode s.blk = false → p.partnerKnown = true →
      p.partner.role = 0 → fld flags 0 2 = 0 → bit flags 4 = false → seedRefusal s.blk seed body.length = none → Does (.seedReceive k m) s fun b =>
        b.ptn.held = some { seed := seed, ofs := b.ptn.ofs.getD 0 } ∧ b.ptn.anySeq = false) ∧
    (plinkUp s.blk k = true → noPartner s.blk = false → msgOk m = true → leAt m 0 1 = 3 → s.blk.freeze.isSome = true → connOf s.blk 3 0 (leAt m 32 1) false = some c →
      Does (.partnerUslReceive k m) s fun b => (plink b k).rxSeq = leAt m 4 4 ∧
        ∃ w ∈ b.saf.waiting, w.conn = c ∧ w.bytes = (m.drop 36).take 28 ∧ w.tick = s.blk.tb) ∧
    (∀ x, p.takeover = some x → Does .seedRestoreComplete s fun b => b.ptn.takeover = none ∧ b.ptn.role = p.role) ∧
    (∀ n, p.commit = some n → s.blk.glb.oldSeeds = false → Does (.seedCommitComplete ok) s fun b =>
      b.ptn.commit = none ∧ (if n = 0 then b.ptn.slot0 else b.ptn.slot1) =
        (if ok then some (if p.commitPrev then p.buffer1 else p.buffer) else if n = 0 then p.slot0 else p.slot1) ∧
      (if n = 0 then b.ptn.slot1 = p.slot1 else b.ptn.slot0 = p.slot0) ∧ Spared { s.blk with ptn := b.ptn } b)

/-- The planned handover (R371 to R373). At B its seed becomes the handover seed and the loops and the DP cycle stop; the Standby restores it; at H
the roles exchange in lease mode where the Standby has confirmed, the window opens in overlap mode, and an unconfirmed handover is cancelled. The
former Active module leaves at the end of the window. Completes: handoverBoundary, handoverRestore, handoverTick, overlapWindowEnd. -/
def Obligations.HandoverRuns : Prop :=
  ∀ s : State, On s →
    let p := s.blk.ptn
    (∀ h, p.handover = some h →
      (h.b = s.blk.tb → h.captured = false → Does .handoverBoundary s fun b =>
        b.ptn = { p with handover := some { h with captured := true, seedSeq := nextSeq p.capSeq } } ∧ b.dp = { s.blk.dp with cycle := {} } ∧
        (∀ c, (ctxAt b c).ready = none) ∧ b = { s.blk with ptn := b.ptn, lpe := { s.blk.lpe with ctxs := b.lpe.ctxs }, dp := b.dp }) ∧
      (h.h ≤ s.blk.tb → p.overlap = none →
        (h.captured = false ∨ h.confirmed = false → Does .handoverTick s fun b => b.ptn = { p with handover := none, overlap := none }) ∧
        (h.captured = true → h.confirmed = true →
          (overlapMode s.blk = true → Does .handoverTick s fun b => b = { s.blk with ptn := { p with
            overlap := some { start := h.h, stop := h.h + overlapW s.blk, former := true, vals := seedVals p.buffer } } }) ∧
          (overlapMode s.blk = false → p.role = 0 → Does .handoverTick s fun b => b.ptn.role = 1 ∧ b.ptn.cause = 5 ∧ b.ptn.handover = none ∧
            b.ptn.handedOver = some s.blk.tb ∧ b.ptn.handovers = sat8 p.handovers 1)))) ∧
    (∀ h x, p.handoverIn = some h → p.held = some x → p.role = 1 →
      (h.restored = false → x.seed.isHandover = true → (usableSeed s.blk).isSome = true → Does .handoverRestore s fun b =>
        b.ptn.handoverIn = some { h with restored := true, seedSeq := x.seed.seq } ∧ b.ptn.role = 1) ∧
      (h.restored = true → p.handover = none → h.h ≤ s.blk.tb → mayActivate s.blk = true → overlapMode s.blk = true ∨ h.go = true →
        Does .handoverTick s fun b => b.ptn.role = 0 ∧ b.ptn.cause = 5 ∧ b.ptn.handoverIn = none ∧ b.ptn.capSeq = x.seed.seq ∧
          b.ptn.takeovers = p.takeovers)) ∧
    (∀ o, p.overlap = some o → o.stop ≤ s.blk.tb →
      (o.former = false → Does .overlapWindowEnd s fun b =>
        b = { s.blk with ptn := { p with overlap := none, handovers := sat8 p.handovers 1 } }) ∧
      (∀ h, o.former = true → p.handover = some h → p.role = 0 → Does .overlapWindowEnd s fun b => b.ptn.role = 1 ∧ b.ptn.cause = 5 ∧
        b.ptn.overlap = none ∧ b.ptn.handover = none ∧ b.ptn.handovers = sat8 p.handovers 1))

/-! CAN (chapter 12). -/

/-- Frames on a CAN bus (R393, R394, R400 to R404, R408). A valid frame from another node enters the object that takes it, or its shadow while the
object is locked; a descriptor whose time has come becomes its object's pending frame with its sequence counters written (R370), or ends with
TX_FAILED where nothing may be sent; at bus idle the frame that arbitration prefers starts; one that succeeds is sent, counted and completed with its
start-of-frame tick, one that loses arbitration waits again; a lock held too long is released and latched. Completes: canFrameReceive, canLaunch,
canAttemptStart, canTxComplete, canAttemptFailed, lockTmo. -/
def Obligations.CanFrames : Prop :=
  ∀ (c n o r t tdcv : Nat) (frame : CanFrame) (e : CanFailure) (s : State), c < 16 → n < 128 → tdcv < 128 → e.lec < 8 → On s →
    let x := ctlAt s.blk c
    let f : CanFrame := { id := frame.id &&& 0x7FFFFFFF, ctl := frame.ctl &&& 0x7F, data := frame.data }
    (ctlEn s.blk c = true → x.state ≤ 1 → isFenced s.blk (.can c) = false → f.fdf = false ∨ ctlFd s.blk c = true →
      f.data.length = (if f.rtr then 0 else dlcLen f.fdf f.dlc) → canTaker s.blk c f = some o → connOf s.blk 1 c o false = none → o < 128 →
      let q := objAt s.blk (128 * c + o)
      (q.locked = none ∨ q.locked = some (r, s.blk.tb) → Does (.canFrameReceive c frame) s fun b =>
        (objAt b (128 * c + o)).main = some { frame := f, tick := s.blk.tb } ∧ (objAt b (128 * c + o)).shadow = q.shadow ∧
        (ctlAt b c).rx = wrap32 x.rx 1) ∧
      (q.locked = some (r, t) → t ≠ s.blk.tb → q.shadow ≠ none → Does (.canFrameReceive c frame) s fun b =>
        (objAt b (128 * c + o)).third = some { frame := f, tick := s.blk.tb } ∧ (objAt b (128 * c + o)).main = q.main ∧
        (objAt b (128 * c + o)).shadow = q.shadow) ∧
      (q.locked = some (r, t) → t ≠ s.blk.tb → q.shadow = none → Does (.canFrameReceive c frame) s fun b =>
        (objAt b (128 * c + o)).shadow = some { frame := f, tick := s.blk.tb } ∧ (objAt b (128 * c + o)).main = q.main ∧
        (objAt b (128 * c + o)).locked = q.locked ∧ (ctlAt b c).rx = wrap32 x.rx 1)) ∧
    (∀ d bytes, mtxNext s.blk n = some d → mtxPayload d = some bytes → mtxBus d = 1 → d.late = true ∨ mtxLaunch d ≤ s.blk.tb →
      let k := 128 * mtxPort d + mtxObject d
      let may := isActive s.blk = true ∧ objStopped s.blk k = false ∧ (ctlAt s.blk (k / 128)).state ≠ 3
      let out := { frameOf bytes with data := putSeq s.blk 1 (k / 128) (k % 128) 0 (frameOf bytes).data }
      (may → (objAt s.blk k).pend = none → Does (.canLaunch n) s fun b =>
        objAt b k = { objAt s.blk k with pend := some { frame := out, mtx := some (n, d.idx), late := d.late } } ∧
        (ring b n).fetched = (ring s.blk n).fetched.map (fun y => if y.idx = d.idx then { y with handed := true } else y) ∧
        b = { s.blk with rng := b.rng, can := { s.blk.can with objs := b.can.objs } }) ∧
      (¬ may → Does (.canLaunch n) s fun b => b = { s.blk with rng := b.rng } ∧ OnlyFetched s.blk b n
        (withDone (ring s.blk n).fetched d.idx { status := stTX_FAILED, result := 0, tick := s.blk.tb }))) ∧
    (let w := canModeChange c (canSweep s.blk);
      (ctlAt w c).state ≤ 1 → (ctlAt w c).monitor = false → ctlHolding w c = false → inArbObj w c = none → o ∈ ctlPending w c →
        (objAt w o).pend.isSome = true → Does (.canAttemptStart c) s fun b => ∃ i ∈ ctlPending w c, ∃ p, (objAt w i).pend = some p ∧
          (objAt b i).pend = some { p with inArb := some s.blk.tb } ∧
          ∀ j ∈ ctlPending w c, ∀ q, (objAt w j).pend = some q → arbKey p.frame ≤ arbKey q.frame) ∧
    (∀ i p, inArbObj s.blk c = some i → (objAt s.blk i).pend = some p → p.next = none →
      (p.cancel = false → x.tec < 256 → Does (.canTxComplete c tdcv) s fun b => .can c (i % 128) (p.frame.withEsi (x.state == 1)).bytes ∈ b.out ∧
        (objAt b i).pend = none ∧ (objAt b i).sent = some { frame := p.frame, tick := p.inArb.getD s.blk.tb } ∧ (ctlAt b c).tx = wrap32 x.tx 1 ∧
        (ctlAt b c).tec = x.tec - 1 ∧ ∀ m k, p.mtx = some (m, k) →
          (ring b m).fetched = withDone (ring s.blk m).fetched k { status := mtxSent p.late, result := 0, tick := p.inArb.getD s.blk.tb }) ∧
      (p.cancel = false → x.tec < 256 → e.lost = true → p.frame.oneShot = false → objStopped s.blk i = false → isActive s.blk = true →
        Does (.canAttemptFailed c e tdcv) s fun b => (objAt b i).pend = some { p with inArb := none } ∧ (ctlAt b c).tec = x.tec ∧
          (ctlAt b c).errs = x.errs)) ∧
    (o < 2048 → (objAt s.blk o).locked = some (r, t) → t + 10000000 ≤ s.blk.tb → Does (.lockTmo o) s fun b =>
      objAt b o = { objAt s.blk o with locked := none, main := (objAt s.blk o).newest, shadow := none, third := none } ∧
      (∀ i, i ≠ o → objAt b i = objAt s.blk i) ∧ bit (ctlAt b (o / 128)).latch clLOCK = true ∧ Spared { s.blk with can := b.can } b)

/-- The error state of a CAN controller (R389, R404 to R406, R443, Table 12.7). An error of its own attempt adds 8 and what ISO 11898-1 adds to TEC,
and 256 takes it to bus-off with every pending frame ended; an error while it receives adds to REC. A write of RECOVER, followed by 128 occurrences of
11 recessive bits, brings it back with its counts at 0. The mode follows the role at bus idle; CLR_COUNTS clears the counters. Other controllers stay
as they are. Completes: canAttemptFailed, recover, recovered, canClrCounts, canModeChange, errorFrameDetected. -/
def Obligations.CanErrors : Prop :=
  ∀ (c link lec eights tdcv : Nat) (one : Bool) (e : CanFailure) (s : State), c < 16 → link < 2 → lec < 8 → e.lec < 8 → On s →
    let x := ctlAt s.blk c
    let alone := fun (b : Block) => (∀ k, k ≠ c → ctlAt b k = ctlAt s.blk k)
    (∀ i p, inArbObj s.blk c = some i → (objAt s.blk i).pend = some p → e.lost = false → e.exempt = false → e.lec ≠ 3 → x.state ≤ 1 →
      let tooLate := tdcOver s.blk c tdcv p.frame
      (e.lec = 7 → tooLate = true) →
      Does (.canAttemptFailed c e tdcv) s fun b => alone b ∧ (ctlAt b c).lec = (if tooLate then 7 else e.lec) ∧ (ctlAt b c).errs = sat16 x.errs 1 ∧
        (ctlAt b c).tec = min 511 (x.tec + 8 + 8 * e.eights) ∧
        (256 ≤ (ctlAt b c).tec → (ctlAt b c).state = 2 ∧ (ctlAt b c).busOff = sat8 x.busOff 1 ∧
          ∀ o, o < 128 → (objAt b (128 * c + o)).pend = none)) ∧
    (x.state ≤ 1 → x.monitor = false → x.tec < 256 → Does (.errorFrameDetected c lec one eights) s fun b => alone b ∧ (ctlAt b c).lec = lec ∧
      (ctlAt b c).errs = sat16 x.errs 1 ∧ (ctlAt b c).recc = min 255 (x.recc + b1 one + 8 * eights) ∧
      (ctlAt b c).state = (if 128 ≤ x.tec ∨ 128 ≤ (ctlAt b c).recc then 1 else 0) ∧ b.can.objs = s.blk.can.objs) ∧
    (x.state = 2 → s.blk.glb.ready = true → Does (.recover link c) s fun b => alone b ∧ ctlAt b c = { x with recovering := true } ∧
      b = { s.blk with links := b.links, can := { s.blk.can with ctls := b.can.ctls } }) ∧
    (x.state = 2 → x.recovering = true → Does (.recovered c) s fun b => alone b ∧
      ctlAt b c = { x with state := 0, recovering := false, tec := 0, recc := 0, latch := (ctlAt b c).latch } ∧
      bit (ctlAt b c).latch clRECOVERED = true ∧ Spared { s.blk with can := { s.blk.can with ctls := b.can.ctls } } b) ∧
    (x.state ≤ 1 → inArbObj s.blk c = none → Does (.canModeChange c) s fun b => alone b ∧ ctlAt b c = { x with monitor := !isActive s.blk } ∧
      b = { s.blk with can := { s.blk.can with ctls := b.can.ctls } }) ∧
    (s.blk.glb.ready = true → Does (.canClrCounts link c) s fun b => alone b ∧ ctlAt b c =
        { x with rx := 0, tx := 0, catchDrops := 0, unmatched := 0, errs := 0, busOff := 0, lateCancels := 0 } ∧
      b = { s.blk with links := b.links, can := { s.blk.can with ctls := b.can.ctls } })

/-! Time and Ethernet (chapter 13). -/

/-- Discipline writes (R415 to R420): one from a source that may discipline is captured with the tick, to take effect at the next one; an increment
out of range sets INC_ERR, a source that may not discipline, a reserved source of vessel time and a SET_TIME that is not allowed set REFUSED, and
nothing is captured. Completes: incWrite, stepWrite, sel, setTime, setValid, clrValid, snap. -/
def Obligations.DisciplineCaptured : Prop :=
  ∀ (link k source : Nat) (v : BitVec 64) (s : State), link < 2 → source < 4 → On s → s.blk.glb.ready = true →
    let m := s.blk.tim
    let takes := fun (a : TimAct) (b : Block) => b = { s.blk with links := b.links, tim := { m with applyTick := s.blk.tb, acts := m.acts ++ [a] } }
    let refuses := fun (i : Nat) (b : Block) => b.tim = { m with latch := b.tim.latch } ∧ bit b.tim.latch i = true ∧
      Spared { s.blk with links := b.links, tim := b.tim } b
    (mayDiscipline link s.blk = true →
      (k < 3 → incMin ≤ v.toNat → v.toNat ≤ incMax → Does (.incWrite link k v) s (takes (.inc k v.toNat))) ∧
      (k < 3 → v.toNat < incMin ∨ incMax < v.toNat → Does (.incWrite link k v) s (refuses tlIncErr)) ∧
      (k < 2 → Does (.stepWrite link k v) s (takes (.stepBy k v.toInt))) ∧
      (source < 3 → Does (.sel link source) s (takes (.sel source))) ∧
      (source = 3 → Does (.sel link source) s (refuses tlRefused)) ∧
      (m.vtValid = false → m.sel = 2 → m.setNsec.toNat ≤ 999999999 →
        Does (.setTime link) s (takes (.setTime (m.setSecLo.toNat + 2 ^ 32 * fld m.setSecHi 0 16) m.setNsec.toNat))) ∧
      (m.vtValid = true ∨ m.sel ≠ 2 ∨ 999999999 < m.setNsec.toNat → Does (.setTime link) s (refuses tlRefused)) ∧
      Does (.setValid link) s (takes .setValid) ∧ Does (.clrValid link) s (takes .clrValid)) ∧
    (mayDiscipline link s.blk = false →
      (k < 3 → Does (.incWrite link k v) s (refuses tlRefused)) ∧ (k < 2 → Does (.stepWrite link k v) s (refuses tlRefused)) ∧
      Does (.sel link source) s (refuses tlRefused) ∧ Does (.setTime link) s (refuses tlRefused) ∧
      Does (.setValid link) s (refuses tlRefused) ∧ Does (.clrValid link) s (refuses tlRefused)) ∧
    Does (.snap link) s fun b => b = { s.blk with links := b.links, tim := { m with acts := m.acts ++ [.snap] } }

/-- The clocks at work (R413 to R420, R427, R428): the tick after its capture an increment is in force, SET_TIME has loaded vessel time and SNAP has
captured the clocks. The external reference shows and latches its loss; vessel time loses VT_VALID when no write came for DISC_HOLD; slewing ends
within a step of its source. Edges of a PPS input are captured and, three in range, make it OK; it fails without one for 1.5 s. A PPS output rises at
the whole second of its source and falls WIDTH later. Completes: refQualified, refLost, discHoldExpiry, ppsInEdge, ppsInTimeout, ppsOutRise,
ppsOutFall, slewComplete. -/
def Obligations.ClocksRun : Prop :=
  ∀ (i k v c n : Nat) (s : State), i < 2 → On s →
    let m := s.blk.tim
    let x := ppsIn s.blk i
    let o := ppsOut s.blk i
    let gap := s.blk.tb - x.tb
    let good := 0 < x.good ∧ 99980000 ≤ gap ∧ gap ≤ 100020000
    (s.pending = [] → s.blk.glb.start = none → ∃ t, step s = .next t ∧
      (m.acts = [.inc k v] → t.blk.tim.incOf k = v) ∧
      (m.acts = [.setTime c n] → t.blk.tim.vt = c * unitsPerSecond + n * 2 ^ 32) ∧
      (m.acts = [.setValid] → t.blk.tim.vtValid = true) ∧ (m.acts = [.clrValid] → t.blk.tim.vtValid = false) ∧
      (m.acts = [.sel v] → t.blk.tim.sel = v) ∧
      (m.acts = [.snap] → t.blk.tim.snap = { tb := t.blk.tb, vt := t.blk.tim.vt, sc0 := t.blk.tim.sc0, sc1 := t.blk.tim.sc1 })) ∧
    (m.refFrom + (if m.refWasLost then 1000000000 else 10000000) ≤ s.blk.tb → Does .refQualified s fun b =>
      Spared { s.blk with tim := { m with extRef := true, refQualified := true } } b) ∧
    (s.blk.tb < m.refFrom + (if m.refWasLost then 1000000000 else 10000000) → Idle .refQualified s) ∧
    (m.extRef = true → Does .refLost s fun b => Spared { s.blk with tim := { m with
      extRef := false, refQualified := false, refFrom := s.blk.tb, refWasLost := true, latch := putBit m.latch tlRefLost true } } b) ∧
    (m.vtValid = true → discHold s.blk ≠ 0 → m.holdFrom + discHold s.blk * 100000000 ≤ s.blk.tb → Does .discHoldExpiry s fun b =>
      Spared { s.blk with out := b.out, tim := { m with
        vtValid := false, latch := putBit m.latch tlHoldExpired true, outA := b.tim.outA, outB := b.tim.outB } } b ∧
      ppsOut b i = if ppsOutOpen { s.blk with tim := { m with vtValid := false } } i then o else { o with level := false }) ∧
    (m.slewing = true → m.sel < 2 → m.diff.natAbs ≤ slewStep s.blk → Does .slewComplete s fun b =>
      Spared { s.blk with tim := { m with vt := m.sc m.sel, slewing := false } } b) ∧
    (Does (.ppsInEdge i) s fun b => ppsIn b (1 - i) = ppsIn s.blk (1 - i) ∧ Spared { s.blk with tim := b.tim } b ∧
      ppsIn b i = {
        tb := s.blk.tb, vtSec := clkSec m.vt % 2 ^ 32, vtNsec := clkNs m.vt, sc0Nsec := clkNs m.sc0, sc1Nsec := clkNs m.sc1
        count := (x.count + 1) % 2 ^ 32, ok := (ppsIn b i).ok, good := (ppsIn b i).good } ∧
      (good → (ppsIn b i).good = x.good + 1 ∧ (ppsIn b i).ok = (x.ok || decide (2 ≤ x.good))) ∧
      (¬ good → (ppsIn b i).good = 1 ∧ (0 < x.good → (ppsIn b i).ok = false))) ∧
    (x.ok = true → x.tb + 150000000 ≤ s.blk.tb → Does (.ppsInTimeout i) s fun b =>
      ppsIn b i = { x with ok := false, good := 0 } ∧ bit b.tim.latch (4 + i) = true ∧ Spared { s.blk with tim := b.tim } b) ∧
    (ppsPasses s.blk i = true → ppsOutOpen s.blk i = true → o.riseAt ≠ some s.blk.tb → Does (.ppsOutRise i) s fun b =>
      b.out = .pin 1 i true :: s.blk.out ∧ b = { s.blk with tim := b.tim, out := b.out } ∧ ppsOut b i =
        { level := true, riseAt := some s.blk.tb, fallAt := s.blk.tb + fld (timPpsOutCfg s.blk i) 4 9 * 100000 }) ∧
    (ppsPasses s.blk i = false ∨ ppsOutOpen s.blk i = false → Idle (.ppsOutRise i) s) ∧
    (o.level = true → o.fallAt ≤ s.blk.tb → Does (.ppsOutFall i) s fun b => b.out = .pin 1 i false :: s.blk.out ∧
      b = { s.blk with tim := b.tim, out := b.out } ∧ ppsOut b i = { o with level := false })

/-- Ethernet networks (R429 to R437, Tables 13.3 and 13.11). A frame that the port's FIFO drops is counted and latched; one that the network's records
know is discarded as a duplicate, with its node's entry refreshed; one without a trailer goes to the ring of the receive filter that claims it, or is
counted as unmatched. Supervision frames leave on each LAN of each pair; an entry that ENTRY_FORGET has passed is forgotten; a stream without
datagrams for 2 s receives no longer; a link change shows and latches; CLR_COUNTS clears the counters. Other networks stay as they are. Completes:
ethFrameReceive, nodeForget, prpSupervision, receivingTimeout, ethLinkChange, ethClrCounts. -/
def Obligations.NetworksHear : Prop :=
  ∀ (p n link rx mac sq j : Nat) (up : Bool) (f : List Byte) (s : State), p < 8 → n < 4 → link < 2 → j < 16 → On s →
    let q := p / 2
    let lan := p % 2
    let x := netAt s.blk q
    let hears := netEn s.blk q = true ∧ lanUp s.blk q lan = true ∧ (netSingle s.blk q = false ∨ lan = 0) ∧ frLenOk f = true ∧ frType f ≠ 0x8808
    let only := fun (k : Nat) (y : Net) (b : Block) => netAt b k = y ∧ ∀ m, m ≠ k → netAt b m = netAt s.blk m
    let heard := x.nodes.map fun y => if y.mac = frSrc f then { y with lastTick := s.blk.tb } else y
    let strange := rctOf f = none ∧ ptpDomain s.blk q lan f = none ∧ frFragment f = false ∧ frOwnUdp f = none ∧ ethOwnTraffic s.blk q f = none
    (hears → Does (.ethFrameReceive p f rx true) s fun b => Spared { s.blk with eth := { s.blk.eth with nets := b.eth.nets } } b ∧ only q { x with
        dropsA := if lan = 0 then sat16 x.dropsA 1 else x.dropsA, dropsB := if lan = 0 then x.dropsB else sat16 x.dropsB 1
        latch := putBit x.latch nlFIFO true } b) ∧
    (let g := f.take (f.length - 6);
      hears → rctOf f = some (sq, if lan = 0 then 0xA else 0xB) → netSingle s.blk q = false → ptpDomain s.blk q lan g = none →
      ∀ y, (x.nodes.find? fun y => y.mac == frSrc g) = some y → y.smax = sq →
        Does (.ethFrameReceive p f rx false) s fun b => Spared { s.blk with eth := { s.blk.eth with nets := b.eth.nets } } b ∧ only q { x with
          prpDup := wrap32 x.prpDup 1
          nodes := x.nodes.map fun z => if z.mac = frSrc g then { y with lastTick := s.blk.tb } else z } b) ∧
    (hears → strange →
      (rxFilter s.blk q f = none → netDefaultEn s.blk q = false → Does (.ethFrameReceive p f rx false) s fun b =>
        Spared { s.blk with eth := { s.blk.eth with nets := b.eth.nets } } b ∧ only q { x with nodes := heard, unmatched := sat8 x.unmatched 1 } b) ∧
      (∀ k, rxFilter s.blk q f = some k →
        let r := fld (rxfCfg s.blk q k) 3 7
        (ring s.blk r).kind = tMRX → (ring s.blk r).state = .running → mrxUsed s.blk + f.length ≤ 131072 →
        Does (.ethFrameReceive p f rx false) s fun b => quiet b = quiet { s.blk with eth := { s.blk.eth with nets := b.eth.nets } } ∧
          only q { x with nodes := heard } b ∧ (∀ m, m ≠ r → ring b m = ring s.blk m) ∧ ring b r =
          { ring s.blk r with frames := (ring s.blk r).frames ++ [{ bus := 2, port := q, obj := 0, time := rx, flags := lan + 5, body := f }] })) ∧
    (s.blk.tb % 200000000 = 0 → isActive s.blk = true → moduleForce s.blk = false → Does .prpSupervision s fun b =>
      b = { s.blk with eth := { s.blk.eth with nets := b.eth.nets }, out := b.out } ∧
      (netEn s.blk n = true → netSingle s.blk n = false → netAt b n = { netAt s.blk n with seqNr := ((netAt s.blk n).seqNr + 1) % 65536 } ∧
        ∀ l ∈ lansUp s.blk n, .ethOwn n l 2 0 (netAt s.blk n).seqNr ∈ b.out) ∧
      (netEn s.blk n = false ∨ netSingle s.blk n = true → netAt b n = netAt s.blk n)) ∧
    (Does (.nodeForget n mac) s fun b => b = { s.blk with eth := { s.blk.eth with nets := b.eth.nets } } ∧ only n { netAt s.blk n with nodes := (netAt b n).nodes } b ∧
      ∀ y, y ∈ (netAt b n).nodes ↔ y ∈ (netAt s.blk n).nodes ∧ ¬ (y.mac = mac ∧ y.lastTick + netForget s.blk n ≤ s.blk.tb)) ∧
    ((strAt s.blk j).receiving = true → (strAt s.blk j).lastTick + 200000000 ≤ s.blk.tb → Does (.receivingTimeout j) s fun b =>
      Spared { s.blk with eth := { s.blk.eth with streams := b.eth.streams } } b ∧ strAt b j = { strAt s.blk j with receiving := false } ∧
      ∀ i, i ≠ j → strAt b i = strAt s.blk i) ∧
    ((if lan = 0 then x.upA else x.upB) ≠ up → isFenced s.blk (.eth p) = false → Does (.ethLinkChange p up) s fun b =>
      (if lan = 0 then (netAt b q).upA = up ∧ (netAt b q).upB = x.upB else (netAt b q).upA = x.upA ∧ (netAt b q).upB = up) ∧
      bit (netAt b q).latch nlLINK = true ∧ (netAt b q).nodes = x.nodes ∧ ∀ m, m ≠ q → netAt b m = netAt s.blk m) ∧
    ((if lan = 0 then x.upA else x.upB) = up → Idle (.ethLinkChange p up) s) ∧
    (s.blk.glb.ready = true → Does (.ethClrCounts link n) s fun b =>
      b = { s.blk with links := b.links, eth := { s.blk.eth with nets := b.eth.nets } } ∧ only n { netAt s.blk n with
        dropsA := 0, dropsB := 0, prpDup := 0, wrongLan := 0, nodeOvf := 0, outOfWindow := 0, unmatched := 0 } b)

/-- Host frames and serial payloads (R108, R426, R430, R434, R435, R453). The next descriptor of an MTX ring, once its launch tick has come, is handed
to its network, ahead of the frames queued there when it is timed, or to its port, whose first start bit leaves at this tick; where nothing may be
sent it ends with TX_FAILED. The oldest frame leaves on every LAN that carries frames, each with its trailer; its descriptor completes with its
transmit timestamp, that of a PTP event message in its domain's clock; under a module force a frame does not leave and ends with TX_FAILED (R196). A
serial descriptor completes, with the tick of its start, when its last character has left. Completes: ethLaunch, ethFrameSent, serialTransmit,
serialTxComplete. -/
def Obligations.PayloadsSent : Prop :=
  ∀ (r n p : Nat) (tx : TxStamps) (s : State), r < 128 → n < 4 → p < 24 → On s →
    let x := netAt s.blk n
    let left := fun (z : EthTx) => if (ethTxLans s.blk n z.ptp).contains 0 then tx.lanA else tx.lanB
    let handed := fun (idx : Nat) (b : Block) => ring b r = { ring s.blk r with
      fetched := (ring s.blk r).fetched.map fun y => if y.idx = idx then { y with handed := true } else y }
    let ends := fun (st idx : Nat) (b : Block) => b = { s.blk with rng := b.rng } ∧ OnlyFetched s.blk b r
      (withDone (ring s.blk r).fetched idx { status := st, result := 0, tick := s.blk.tb })
    (∀ d bytes, mtxNext s.blk r = some d → mtxPayload d = some bytes → d.late = true ∨ mtxLaunch d ≤ s.blk.tb →
      (mtxBus d = 2 →
        let e := mtxPort d
        let ptp := ptpDomain s.blk e 2 bytes
        let z : EthTx := { ring := r, idx := d.idx, bytes := bytes, late := d.late, ptp := ptp }
        let old := (netAt s.blk e).txq
        let may := ethTxLans s.blk e ptp ≠ [] ∧ (ptp = none → isActive s.blk = true ∧ moduleForce s.blk = false)
        (may → Does (.ethLaunch r) s fun b => handed d.idx b ∧ netAt b e = { netAt s.blk e with
            txq := if d.late = false ∧ mtxLaunch d ≠ 0 then old.take 1 ++ [z] ++ old.drop 1 else old ++ [z] } ∧
          (∀ m, m ≠ e → netAt b m = netAt s.blk m) ∧ b = { s.blk with rng := b.rng, eth := { s.blk.eth with nets := b.eth.nets } }) ∧
        (¬ may → Does (.ethLaunch r) s (ends stTX_FAILED d.idx))) ∧
      (mtxBus d = 3 →
        let e := mtxPort d
        (serRefuses s.blk e = none → (serAt s.blk e).tx = none → serAhead s.blk r d = false → Does (.serialTransmit r) s fun b => handed d.idx b ∧
          serAt b e = { serAt s.blk e with tx := some (r, d.idx, s.blk.tb, d.late) } ∧ b.out = .serial e bytes :: s.blk.out ∧
          (∀ m, m ≠ e → serAt b m = serAt s.blk m) ∧ b = { s.blk with rng := b.rng, out := b.out, ser := { s.blk.ser with ports := b.ser.ports } }) ∧
        (serRefuses s.blk e = none → (serAt s.blk e).tx ≠ none ∨ serAhead s.blk r d = true → Idle (.serialTransmit r) s) ∧
        (∀ st, serRefuses s.blk e = some st → Does (.serialTransmit r) s (ends st d.idx)))) ∧
    (∀ z, x.txq = [z] → z.ptp = none → moduleForce s.blk = true → Does (.ethFrameSent n tx) s fun b =>
      netAt b n = { x with txq := [] } ∧ (∀ m, m ≠ n → netAt b m = netAt s.blk m) ∧ OnlyFetched s.blk b z.ring
        (withDone (ring s.blk z.ring).fetched z.idx { status := stTX_FAILED, result := 0, tick := s.blk.tb })) ∧
    (∀ z zs, x.txq = z :: zs → netEn s.blk n = true → moduleForce s.blk = false → (∀ y ∈ x.txq, ethTxLans s.blk n y.ptp ≠ []) →
      (z.ptp = none → Does (.ethFrameSent n tx) s fun b => (netAt b n).txq = zs ∧ (∀ m, m ≠ n → netAt b m = netAt s.blk m) ∧
        (let body := z.bytes ++ List.replicate (60 - z.bytes.length) 0;
          ∀ l ∈ lansUp s.blk n, .eth n l (body ++ if netSingle s.blk n then [] else rctBytes x.seqNr l (lsduSize body)) ∈ b.out) ∧
        (netAt b n).seqNr = (if netSingle s.blk n then x.seqNr else (x.seqNr + 1) % 65536) ∧
        (ring b z.ring).fetched = withDone (ring s.blk z.ring).fetched z.idx { status := mtxSent z.late, result := 0, tick := left z } ∧
        b = { s.blk with rng := b.rng, out := b.out, eth := { s.blk.eth with nets := b.eth.nets } }) ∧
      (∀ k, z.ptp = some (k, true) → Does (.ethFrameSent n tx) s fun b => netAt b n = { x with txq := zs } ∧
        (ring b z.ring).fetched = withDone (ring s.blk z.ring).fetched z.idx
          { status := mtxSent z.late, result := 0, tick := ptpTime s.blk k (left z) })) ∧
    (∀ m idx start late, (serAt s.blk p).tx = some (m, idx, start, late) → Does (.serialTxComplete p) s fun b =>
      serAt b p = { serAt s.blk p with tx := none, quietFrom := start, quiet := s.blk.tb + serCharT s.blk p } ∧ (∀ e, e ≠ p → serAt b e = serAt s.blk e) ∧
      OnlyFetched s.blk b m (withDone (ring s.blk m).fetched idx { status := mtxSent late, result := 0, tick := start }) ∧
      b = { s.blk with rng := b.rng, ser := { s.blk.ser with ports := b.ser.ports } })

/-! Serial ports (chapter 14). -/

/-- Sentences and chunks (R444 to R449, R452, Table 14.1). A sentence that fails a check is counted under it and latched; one that passes, with a
talker that passes, is counted with its tick and, where the port forwards all, goes to its ring; a gap within a sentence counts as FORMAT. The end of
a chunk shows in RECEIVING and its characters go to the ring. Other ports stay as they are. Completes: sentenceReceive, sentenceGap, chunkEnd. -/
def Obligations.LinesRead : Prop :=
  ∀ (p rx : Nat) (line bytes : List Byte) (bad : List Nat) (s : State), p < 24 → serHears s.blk p rx = true → On s →
    let x := serAt s.blk p
    let framing := badWithin bad (lineStart line) line.length
    let form := (splitLine line).2
    let others := fun (b : Block) => ∀ q, q ≠ p → serAt b q = serAt s.blk q
    let r := serRawRing s.blk p
    let room := fun (l : List Byte) => (ring s.blk r).kind = tMRX ∧ (ring s.blk r).state = .running ∧ mrxUsed s.blk + l.length ≤ 131072
    let raw : RxFrame :=
      { bus := 3, port := p, obj := 0, time := rx, body := form
        flags := b1 (csumState (sentenceText form) == .absent) + 2 * b1 (splitLine line).1.isSome }
    let counted := fun (i : Nat) (b : Block) => others b ∧ Spared { s.blk with ser := { s.blk.ser with ports := b.ser.ports } } b ∧ serAt b p = { x with
      framing := if i = 0 then sat8 x.framing 1 else x.framing, csum := if i = 1 then sat8 x.csum 1 else x.csum
      format := if i = 2 then sat8 x.format 1 else x.format, bufDrop := if i = 3 then sat8 x.bufDrop 1 else x.bufDrop
      latch := putBit x.latch i true }
    let staged := fun (f : RxFrame) (b : Block) => (ring b r).frames = (ring s.blk r).frames ++ [f]
    (serMode s.blk p = 0 → serDeaf s.blk p s.blk.tb = false → line.length ≤ 1024 → cutStarts form = [form] → form ≠ [] →
      (∀ i, sentenceFail framing (serReqCsum s.blk p) (splitLine line).1 form = some i →
        Does (.sentenceReceive p line rx bad true) s (counted i)) ∧
      (Does (.sentenceReceive p line rx bad false) s (counted 3)) ∧
      (sentenceFail framing (serReqCsum s.blk p) (splitLine line).1 form = none →
        (talkerPass s.blk p (sentenceAddr form) = false → Does (.sentenceReceive p line rx bad true) s fun b =>
          b = { s.blk with ser := { s.blk.ser with ports := b.ser.ports } } ∧ others b ∧ serAt b p = { x with talker := sat16 x.talker 1 }) ∧
        (talkerPass s.blk p (sentenceAddr form) = true → Does (.sentenceReceive p line rx bad true) s fun b => others b ∧
          serAt b p = { x with good := (x.good + 1) % 0x10000, goodAt := some s.blk.tb } ∧
          (serRawEn s.blk p = true → serRawAll s.blk p = true → room form → staged raw b)))) ∧
    (serMode s.blk p = 0 → Does (.sentenceGap p) s (counted 2)) ∧
    (serMode s.blk p = 1 → bytes ≠ [] → bytes.length ≤ (if fld (spCfg s.blk p) 19 8 = 0 then 256 else fld (spCfg s.blk p) 19 8) → Does (.chunkEnd p bytes rx 0 0) s fun b => others b ∧
      serAt b p = { x with goodAt := some s.blk.tb } ∧
      (serRawEn s.blk p = true → room bytes → staged { bus := 3, port := p, obj := 0, time := rx, flags := 4, body := bytes } b))

/-! Faults and ageing (chapter 15). -/

/-- The fault collector (R31, R457 to R469, Tables 15.1, 15.2 and 15.4). A location that Table 1.3 does not list is not reported. A fault in a domain
without an open record opens one in the next slot; one in a domain with an open record merges into it; a forced fault counts as injected, and without
an armed force nothing is reported, nor is a mismatch of credits between seed boundaries (R35). The fault of the timebase and of the core supply
isolate the module. A record closes once the handling of each of its faults has ended, unless its reaction is ISOLATE. A stage that hangs is a fault
of its site; the end of a scrub pass notes its tick. The force registers take a write in Factory and Open or at debug level Full; otherwise it is
refused. Completes: timebaseFault, faultDetected, faultHandlingEnd, stageHang, coreSupply, scrubPassEnd, forceWrite. -/
def Obligations.FaultsRecorded : Prop :=
  ∀ (source domain k a site area corrected link which : Nat) (loc val : Word) (persistent forced : Bool) (info : FaultInfo) (s : State),
    1 ≤ source → source ≤ 0x17 → domain < 8 → site < 33 → area < 2 → link < 2 → On s →
    let f := s.blk.flt
    let isolates := fun (src : Nat) (l : Word) (b : Block) => Recorded s.blk b src l ∧ b.flt.isolated = true ∧ b.ptn.role = 2 ∧ b.ptn.cause = 11
    let puts := fun (x : Flt) (b : Block) => b = { s.blk with links := b.links, flt := x }
    let act := match info with
      | .activity i => i
      | _ => 0
    (locOk loc = false ∨ source = 7 ∧ s.blk.tb % 1000000 ≠ 0 → Idle (.faultDetected source loc persistent forced info) s) ∧
    (locOk loc = true → (source = 7 → s.blk.tb % 1000000 = 0) → (source = 0x12 → act < 0x400) → openSlot f (locDomain loc) = none →
      Does (.faultDetected source loc persistent false info) s (fun b => Recorded s.blk b source loc) ∧
      (forceArmed f source loc act = true → Does (.faultDetected source loc persistent true info) s fun b => Recorded s.blk b source loc ∧
        b.flt.injected = (f.injected + 1) % 0x10000)) ∧
    (forceArmed f source loc act = false → Idle (.faultDetected source loc persistent true info) s) ∧
    (locOk loc = true → openSlot f (locDomain loc) = some k → (tget {} f.recs k).reaction ≠ 3 → source ≠ 7 → srcAlways source = true ∨ persistent = false →
      Does (.faultDetected source loc persistent false info) s fun b =>
        let x := tget {} f.recs k
        let y := tget {} b.flt.recs k
        y.merges = sat8 x.merges 1 ∧ y.lastSource = source ∧ y.lastLoc = loc ∧ y.last = s.blk.tb ∧ y.isOpen = true ∧ y.source = x.source ∧
          y.loc = x.loc ∧ y.first = x.first ∧ b.flt.merges = sat8 f.merges 1 ∧ ∀ j, j ≠ k → tget {} b.flt.recs j = tget {} f.recs j) ∧
    (f.isolated = false → openSlot f 4 = none → Does .timebaseFault s (isolates 0x01 (locOf 4 0 0 0x1F 0x3F 0xFF))) ∧
    (f.isolated = false → openSlot f 7 = none → Does .coreSupply s (isolates 0x17 0xFFFFFFFF)) ∧
    (openSlot f domain = some k →
      let x := tget {} f.recs k
      let done := x.members.all (memberDone s.blk x.reaction)
      (x.reaction ≠ 3 → done = true → Does (.faultHandlingEnd domain) s fun b => tget {} b.flt.recs k = { x with isOpen := false, last := s.blk.tb } ∧
        (∀ j, j ≠ k → tget {} b.flt.recs j = tget {} f.recs j) ∧ b.flt.corrected = (if x.reaction = 0 then sat16 f.corrected 1 else f.corrected) ∧
        Spared { s.blk with flt := { f with recs := b.flt.recs, corrected := b.flt.corrected } } b) ∧
      (x.reaction = 3 ∨ done = false → Idle (.faultHandlingEnd domain) s)) ∧
    (actExists s.blk a = true → site ∈ actSites s.blk a → openSlot f (locDomain (siteLoc site)) = none →
      Does (.stageHang a site) s fun b => Recorded s.blk b 0x04 (siteLoc site)) ∧
    (Does (.scrubPassEnd area corrected) s fun b =>
      Spared { s.blk with flt := if area = 0 then { f with sramPass := s.blk.tb } else { f with mramPass := s.blk.tb } } b) ∧
    (s.blk.glb.ready = true →
      (forceAllowed s.blk = true → Does (.forceWrite link 2 val) s (puts { f with forceLoc := val, spent := [] })) ∧
      (forceAllowed s.blk = true → fld val 0 2 ≠ 3 → Does (.forceWrite link 3 val) s (puts { f with forceMode := fld val 0 2, spent := [] })) ∧
      (forceAllowed s.blk = true → ∀ lo, (hostLink s.blk link).held = some (0xB0020, lo) → Does (.forceWrite link 1 val) s
        (puts { f with forceLo := lo &&& ~~~0x00600000#32, forceHi := val, spent := [] })) ∧
      (Does (.forceWrite link 0 val) s fun b => b = { s.blk with links := b.links } ∧ (hostLink b link).held = some (0xB0020, val)) ∧
      (forceAllowed s.blk = false ∨ which = 3 ∧ fld val 0 2 = 3 → 1 ≤ which → which < 4 → Does (.forceWrite link which val) s fun b =>
        b = { s.blk with links := b.links, fresh := b.fresh, flt := { f with forceRefused := true } }))

/-- Replicas, age and trim (R471, R474 to R482, R484, R556). Every working reading joins its site's window and its largest readings, every bark
reading its hour. Every 0.1 h the age grows; every 730.5 h a mark closes with the entry of each site. D_cur over its budget for 10 ms is a fault of
its activity. A step down is requested with the next sequence and sent to the carrier; a request without an echo is sent again; an answer brings the
step in force; one that differs for 10 ms is a fault. CLR clears a monitor at the next tick. Completes: replicaMeasurement, barkMeasurement,
marginOut, ageSave, markClose, trimStepDown, trimReqRepeat, trimAck, trim, clr. -/
def Obligations.GrowthAges : Prop :=
  ∀ (i a t mon link : Nat) (readings : List Nat) (step seq : Byte) (s : State), i < 33 → mon < 32 → link < 2 → On s →
    let g := s.blk.growth
    let x := siteAt s.blk i
    let key := trimKey g.trimApplied
    (s.blk.tb % 10000 = 0 → isFenced s.blk .growth = false → Does (.replicaMeasurement readings) s fun b =>
      let r := readings.getD i 0
      (siteAt b i).window = (s.blk.tb, r) :: x.window.filter (fun p => decide (s.blk.tb < p.1 + 10000000)) ∧
      (s.blk.glb.mramOk = true → tget 0 (siteAt b i).obsRing key = max r (tget 0 x.obsRing key) ∧
        tget 0 (siteAt b i).obsMark key = max r (tget 0 x.obsMark key)) ∧
      (siteAt b i).k = x.k ∧ b.growth.age = g.age) ∧
    (s.blk.tb % 100000000 = 0 → isFenced s.blk .growth = false → s.blk.glb.mramOk = true → ∀ w, x.window.head? = some (t, w) → Does (.barkMeasurement readings) s fun b =>
      let v := (fOfNat w).div (fOfNat (readings.getD i 0))
      siteAt b i = { x with
        gHour := ((num x.gHour).add v).v, gHourN := x.gHourN + 1, gMax := if fLt x.gMax v.v then v.v else x.gMax } ∧
      b = { s.blk with growth := { g with sites := b.growth.sites } }) ∧
    (s.blk.tb % 36000000000 = 0 → s.blk.tb ≠ 0 → isFenced s.blk .growth = false → s.blk.glb.mramOk = true → Does .ageSave s fun b =>
      b = { s.blk with growth := { g with age := (g.age + 1) % 2 ^ 32, sites := b.growth.sites } }) ∧
    (g.age % 7305 = 0 → g.closed < g.age / 7305 → isFenced s.blk .growth = false → s.blk.glb.mramOk = true → Does .markClose s fun b =>
      let n := g.age / 7305 - 1
      let m := tget {} b.growth.marks (markKey (1 + n / 12) (n % 12))
      b.growth.closed = g.age / 7305 ∧ m.valid = true ∧ m.startAge = g.age - 7305 ∧ m.endAge = g.age ∧ m.trim = g.trimApplied ∧
        tget {} m.sites i = markEntry g.trimApplied x ∧ (siteAt b i).gMarkN = 0 ∧ (siteAt b i).gMax = 0 ∧ b.growth.age = g.age) ∧
    (tget 0 g.exceed a ≠ 0 → tget 0 g.exceed a + 1000000 ≤ s.blk.tb + 1 → a ∉ g.outRaised → isFenced s.blk .growth = false →
      let y := carrierSite s.blk a (dCurAt s.blk a)
      let out := fun (b : Block) => b.growth = { g with outRaised := a :: g.outRaised, state := 2 }
      openSlot s.blk.flt (locDomain (siteLoc y)) = none →
      (a < 0x400 → Does (.marginOut a) s fun b => Recorded s.blk b 0x12 (siteLoc y) ∧ out b) ∧
      (0x400 ≤ a → Does (.marginOut a) s fun b => out b ∧
        let x := tget {} b.flt.recs (nextSlot s.blk.flt)
        x.source = 0x12 ∧ x.loc = siteLoc y ∧ x.reaction = 2 ∧ x.isOpen = false)) ∧
    (g.quietSince = some t → t + 8640000000000 ≤ s.blk.tb → -4 < g.trimReq → isFenced s.blk .growth = false → s.blk.glb.growthStep = none →
      Does .trimStepDown s fun b => b.out = .carrier (trimFrame (g.trimReq - 1) ((g.trimSeq + 1) % 256)) :: s.blk.out ∧ b.growth = { g with
        trimReq := g.trimReq - 1, trimPending := true, trimAt := s.blk.tb, trimRaised := false, trimEcho := false
        trimSeq := (g.trimSeq + 1) % 256, trimSent := s.blk.tb, quietSince := none, afterDown := true }) ∧
    (g.trimEcho = false → g.trimSent + 2000000 ≤ s.blk.tb → Does .trimReqRepeat s fun b => b = { s.blk with
      growth := { g with trimSent := s.blk.tb }, out := .carrier (trimFrame g.trimReq g.trimSeq) :: s.blk.out }) ∧
    (Does (.trimAck [0x41, step, seq, crc8 0x07 [0x41, step, seq]]) s fun b => b = { s.blk with growth := b.growth } ∧
      b.growth.trimEcho = (g.trimEcho || seq.toNat == g.trimSeq) ∧
      (isFenced s.blk .growth = false → b.growth.trimApplied = step.toInt ∧
        b.growth.trimPending = (g.trimPending && decide (step.toInt ≠ g.trimReq))) ∧
      (isFenced s.blk .growth = true → b.growth.trimApplied = g.trimApplied ∧ b.growth.trimPending = g.trimPending) ∧ b.growth.trimReq = g.trimReq ∧ b.growth.sites = g.sites) ∧
    (∀ c, c ≠ crc8 0x07 [0x41, step, seq] → Idle (.trimAck [0x41, step, seq, c]) s) ∧
    (let y := carrierSite s.blk (worstAct s.blk) (dCurAt s.blk (worstAct s.blk));
      g.trimApplied ≠ g.trimReq → g.trimRaised = false → g.trimAt + 1000000 ≤ s.blk.tb → isFenced s.blk .growth = false →
      openSlot s.blk.flt (locDomain (siteLoc y)) = none →
      Does .trim s fun b => Recorded s.blk b 0x14 (siteLoc y) ∧ b.growth = { g with trimRaised := true }) ∧
    (s.blk.glb.ready = true → isFenced s.blk .monitors = false → Does (.clr link mon) s fun b =>
      b = { s.blk with links := b.links, prf := { s.blk.prf with clears := s.blk.prf.clears ++ [mon] } }) ∧
    (isFenced s.blk .monitors = false → (idleTick s.blk).prf.clears = [] ∧
      ∀ m, (m ∈ s.blk.prf.clears → tget {} (idleTick s.blk).prf.mons m = {}) ∧
        (m ∉ s.blk.prf.clears → tget {} (idleTick s.blk).prf.mons m = tget {} s.blk.prf.mons m))

/-! The recorder and the display (chapter 16). -/

/-- The recorder writes the next part of the snapshot that comes first, with the next sequence number, into the next sapwood slot, and drops the
snapshot once its last part is written (R492, R498, R500). A list of up to 22 values gives one record; a longer one gives two: part 0 holds its first
22 values, and part 1 holds the rest (R497). Completes: recordWritten. -/
def Obligations.RecordsWritten : Prop :=
  ∀ (i : Nat) (x : Snapshot) (s : State), On s →
    let r := s.blk.recorder
    r.logicFenced = false → s.blk.glb.mramOk = true → nextHeld r.held = some i → r.held[i]? = some x → s.blk.sec.lifecycle ≠ 3 →
    Does .recordWritten s fun b =>
      let seq := if r.seq = 2 ^ 32 - 1 then 1 else r.seq + 1
      partCount x = (if x.vals.length ≤ 22 then 1 else 2) ∧
      (x.written = 0 → (tget {} b.recorder.sap r.sapNext).data = x.vals.take 22) ∧
      (x.written = 1 → x.vals.length ≤ 44 → (tget {} b.recorder.sap r.sapNext).data = x.vals.drop 22) ∧
      tget {} b.recorder.sap r.sapNext = recordOf x x.written seq ∧ b.recorder.sapNext = (r.sapNext + 1) % 32768 ∧ b.recorder.seq = seq ∧
      (∀ k, k ≠ r.sapNext → tget {} b.recorder.sap k = tget {} r.sap k) ∧
      (hwOpen r = false → x.opens = false → b.recorder.hw = r.hw ∧ b.recorder.hwCount = r.hwCount) ∧
      (hwOpen r = true → tget {} b.recorder.hw r.hwCount = recordOf x x.written seq ∧ b.recorder.hwCount = r.hwCount + 1 ∧
        ∀ k, k ≠ r.hwCount → tget {} b.recorder.hw k = tget {} r.hw k) ∧
      (hwOpen r = false ∨ r.hwCount + 1 ≠ 4096 → x.opens = false →
        b.recorder.held = (if x.written + 1 = partCount x then r.held.eraseIdx i else r.held.set i { x with written := x.written + 1 }) ∧
        b = { s.blk with recorder := b.recorder })

/-- The display driver (R506 to R517). An update, or a full refresh that is wanted, starts a waveform with its first frame; a frame's end begins the
next, and the end of an update shows its segments. A refresh is wanted after REFRESH_PERIOD. The thermistor and the rails set temperature, band and
RAILS_OK; a rail out of range latches and asks for a refresh. The heartbeat toggles at its period. Completes: displayUpdateStart, displayFrame,
fullRefresh, refreshPeriod, thermistorRead, railCheck, heartbeat. -/
def Obligations.DisplayDrives : Prop :=
  ∀ (c pos neg vcom : Nat) (v : Int) (w : Block) (s : State), On s →
    let d := s.blk.dsp
    let only := fun (x : Dsp) (b : Block) => b = { s.blk with dsp := x }
    let rails := 14250 ≤ pos ∧ pos ≤ 15750 ∧ 14250 ≤ neg ∧ neg ≤ 15750 ∧ vcom ≤ 3000
    (s.blk.glb.active = true → bit (dspCfg s.blk) 0 = true → dspFree s.blk = true → d.wanted = none →
      gapOver s.blk = true → (∃ n, n < 384 ∧ (wantsDark s.blk n || wantsLight s.blk n) = true) →
      Does .displayUpdateStart s fun b => b = { s.blk with dsp := b.dsp, out := b.out } ∧ b.dsp.state = 1 ∧ b.dsp.dirty = true ∧ b.dsp.band = d.bandNow ∧
        b.dsp.frame = 0 ∧ b.dsp.frameAt = s.blk.tb ∧ b.dsp.toDark = segWords (wantsDark s.blk) ∧ b.dsp.toLight = segWords (wantsLight s.blk) ∧
        b.dsp.shown = d.shown) ∧
    (d.state = 1 ∨ d.state = 2 → d.frameAt + d.frameT ≤ s.blk.tb → d.compensating = false → d.stopAsked = false →
      (d.frame + 1 < d.frames → Does .displayFrame s fun b => b = { s.blk with dsp := b.dsp, out := b.out } ∧ b.dsp.frame = d.frame + 1 ∧
        b.dsp.frameAt = s.blk.tb ∧ b.dsp.state = d.state ∧
        b.dsp.imbDark = d.imbDark + (if d.maskDark.testBit (d.frame + 1) then (if (d.frame + 1) % 2 = 0 then 1 else -1) else 0)) ∧
      (d.frames ≤ d.frame + 1 → d.state = 1 → Does .displayFrame s fun b => only { d with
        shown := d.next, dirty := false, phase := 0, toDark := [], toLight := [], state := 0, lastEnd := some s.blk.tb
        updates := (d.updates + 1) % 0x10000 } b)) ∧
    (d.wanted = some c → dspView s.blk = some w → dspFree s.blk = true → Does .fullRefresh s fun b => quiet b = quiet s.blk ∧
      b.dsp.wanted = none ∧ b.dsp.cause = c ∧ b.dsp.state = 2 ∧ b.dsp.phase = 1 ∧ b.dsp.toDark = [] ∧ b.dsp.shown = d.shown ∧ b.dsp.dirty = true) ∧
    (let h := fld (dspCfg s.blk) 15 8;
      h ≠ 0 → d.refreshFrom + h * 360000000000 ≤ s.blk.tb → d.wanted = none →
        Does .refreshPeriod s (only { d with wanted := some 4, refreshFrom := s.blk.tb })) ∧
    (s.blk.tb % 10000000 = 0 → dspView s.blk = some w →
      (-400 ≤ v → v ≤ 850 → Does (.thermistorRead (some v)) s fun b => b.dsp.temp = v ∧ b.dsp.tempOk = true ∧
        b.dsp.bandNow = (if d.tempOk then bandNext w d.bandNow v else bandOf w v) ∧ b.dsp.band = d.band ∧ quiet b = quiet s.blk) ∧
      (∀ x : Option Int, (∀ y, x = some y → y < -400 ∨ 850 < y) → Does (.thermistorRead x) s fun b => b.dsp.tempOk = false ∧
        bit b.dsp.latch dlTempBad = true ∧ b.dsp.bandNow = fld (dspCfg w) 23 3 ∧ b.dsp.temp = x.getD d.temp ∧ quiet b = quiet s.blk)) ∧
    (s.blk.tb % 100000 = 0 →
      (rails → Does (.railCheck pos neg vcom) s fun b =>
        Spared { s.blk with dsp := { d with railP := pos / 20, railN := neg / 20, vcom := vcom / 10, railsOk := true } } b) ∧
      (¬ rails → d.railsOk = true → Does (.railCheck pos neg vcom) s fun b => b.dsp.railsOk = false ∧ b.dsp.wanted = some (d.wanted.getD 2) ∧
        bit b.dsp.latch dlRailsLost = true ∧ (d.state = 1 ∨ d.state = 2 → isFenced s.blk .display = false → b.dsp.state = 0) ∧ quiet b = quiet s.blk)) ∧
    (let h := fld (dspCfg s.blk) 1 6;
      (h = 0 → Does .heartbeat s (only { d with heartbeat := false })) ∧
      (h ≠ 0 → d.hbAt + h * 100000000 ≤ s.blk.tb → Does .heartbeat s (only { d with heartbeat := !d.heartbeat, hbAt := s.blk.tb })) ∧
      (h ≠ 0 → s.blk.tb < d.hbAt + h * 100000000 → Idle .heartbeat s))

/-! Lifecycle, debug and power (chapter 17). -/

/-- Lifecycle actions and debug levels (R523 to R532, Tables 17.2 and 17.3). SEC_CONFIRM keeps what is typed while the key is asserted. OPEN, SEAL,
UNSEAL and RETIRE take effect when their conditions hold: the lifecycle and both its copies take the new value, the debug level falls to Closed, and
RETIRE empties both banks and both seed slots; OPEN through a host link is refused. DBG_SET lowers the level at once and raises it where the policy
allows. The operations of the debug port act at the level they need. Completes: secConfirmWrite, openAction, seal, unseal, retire, dbgSet, regRead,
regWrite, arrayRead, dbgNop. -/
def Obligations.LifecycleTurns : Prop :=
  ∀ (src lvl : Nat) (val addr loc : Word) (s : State), src < 2 → On s → s.blk.glb.ready = true →
    let c := s.blk.sec
    let lives := fun (lc : Nat) (b : Block) => b.sec.lifecycle = lc ∧ b.sec.lcA = some lc ∧ b.sec.lcB = some lc ∧ b.sec.level = 0 ∧ b.sec.typed = none
    let typed := fun (v : Word) => s.blk.glb.key = true ∧ c.typed = some v ∧ s.blk.tb < c.typedAt + 6000000000 ∧ c.power < 2 ∧ c.lcLock = false ∧
      s.blk.glb.shadow ≠ .loading ∧ s.blk.glb.shadow ≠ .checking ∧ s.blk.glb.shadow ≠ .pending
    let port := fun (err : Bool) (b : Block) => b.sec.dbgErr = err ∧ b.out = .debug c.dbgErr c.dbgData :: s.blk.out ∧
      b = { s.blk with sec := { c with dbgErr := err, dbgData := b.sec.dbgData }, out := b.out, free := b.free, links := b.links }
    (Does (.secConfirmWrite src val) s fun b => b = { s.blk with
      links := b.links, sec := { c with typed := if s.blk.glb.key then some val else none, typedAt := s.blk.tb } }) ∧
    (c.level = 2 → c.lifecycle = 0 → c.power < 2 → Does (.openAction 2) s (lives 1)) ∧
    (c.lifecycle = 0 → c.power < 2 → Does (.openAction src) s fun b => b.sec.lifecycle = 0 ∧ b.sec.refuse = rfSOURCE ∧ bit b.sec.latch 0 = true) ∧
    (typed (bankCrc s.blk) → c.lifecycle = 1 → activeConfirmed s.blk = true → Does (.seal src) s fun b => lives 2 b ∧
      b.sec.seals = sat8 c.seals 1 ∧ b.flt.forceLo = 0 ∧ b.flt.forceHi = 0 ∧ b.flt.forceMode = 0 ∧ b.glb = s.blk.glb) ∧
    (typed (if s.blk.glb.active then bankCrc s.blk else loW Sys2Proof.Config.serial.toNat) → c.lifecycle = 2 → bit c.policy 3 = true →
      Does (.unseal src) s fun b => lives 1 b ∧ b.sec.unseals = sat8 c.unseals 1 ∧ b.glb = s.blk.glb) ∧
    (typed (loW Sys2Proof.Config.serial.toNat) → c.lifecycle = 1 ∨ c.lifecycle = 2 → s.blk.ptn.role ≠ 0 → paired s.blk = false ∨ s.blk.ptn.heard = false →
      Does (.retire src) s fun b => lives 3 b ∧ b.glb.active = false ∧ b.glb.bank0 = {} ∧ b.glb.bank1 = {} ∧ b.glb.selA = none ∧ b.glb.selB = none ∧
        b.ptn.slot0 = none ∧ b.ptn.slot1 = none) ∧
    (lvl ≤ c.level → lvl < 4 → Does (.dbgSet src lvl) s fun b => b.sec = { c with level := lvl }) ∧
    (c.level < lvl → lvl < 3 → c.lifecycle ≠ 2 → c.power < 2 → bit c.policy 2 = true → Does (.dbgSet src lvl) s fun b => b.sec = { c with level := lvl }) ∧
    (addr.toNat < 0x100000 → addr.toNat % 4 = 0 →
      (1 ≤ c.level → Does (.regRead addr) s fun b => port false b ∧ b.sec.dbgData = (readThrough s.blk 2 addr.toNat).setWidth 64) ∧
      (c.level = 0 → Does (.regRead addr) s fun b => port true b ∧ b.sec.dbgData = 0) ∧
      (c.level < 2 → Does (.regWrite addr val) s (port true))) ∧
    (2 ≤ c.level → Does (.regWrite 0xF0020 val) s fun b => b.sec.dbgErr = false ∧ b.prf = { s.blk.prf with actSel := val &&& 0xFFFF#32 }) ∧
    (1 ≤ c.level → c.power ≠ 1 ∨ gatedTile loc = false → Does (.arrayRead loc none) s (port false)) ∧
    (1 ≤ c.level → c.power ≠ 1 ∨ gatedTile loc = false → locOk loc = true → openSlot s.blk.flt (locDomain loc) = none → Does (.arrayRead loc (some 8)) s fun b =>
      Recorded s.blk b 8 loc ∧ b.flt.sramCorrected = sat16 s.blk.flt.sramCorrected 1) ∧
    (1 ≤ c.level → c.power = 1 → gatedTile loc = true → Does (.arrayRead loc none) s (port true)) ∧
    (1 ≤ c.level → Does .dbgNop s (port false))

/-- Supply and power states (R51, R382, R533 to R537, R560). Before the hold-up store has its charge the loss of both logic feeds ends start-up, with
what is non-volatile as it was. After that, with the second logic feed lost the module rides through; a feed that returns before the power-down
sequence ends that, one lost or restored alone only shows. After 20 ms, or at the reserve, the power-down sequence starts and the module is Isolated;
it ends in Off, the seed of a commit in progress standing in its slot by then (R382). The test of the gated tiles on leaving Hold fences a lane that
fails. Completes: logicFeedLost, logicFeedRestored, rideThroughTimeout, holdupReserve, powerOff, wakeTest, holdupLow. -/
def Obligations.PowerRides : Prop :=
  ∀ (feed mj lane : Nat) (l : Word) (s : State), feed < 2 → mj < 4096 → On s →
    let c := s.blk.sec
    let up := fun (x : Sec) (i : Nat) => if i = 0 then x.feedA else x.feedB
    let set := fun (x : Sec) (v : Bool) => if feed = 0 then { x with feedA := v } else { x with feedB := v }
    let falls := fun (b : Block) => b.sec.downAt = some s.blk.tb ∧ b.sec.powerDowns = sat8 c.powerDowns 1 ∧ b.ptn.role = 2 ∧ b.ptn.capturing = none ∧
      b.sec.power = 2 ∧ b.tb = s.blk.tb
    (c.power < 2 → up c (1 - feed) = true → Does (.logicFeedLost feed) s fun b => b = { s.blk with sec := set c false }) ∧
    (s.blk.glb.mramOk = false → up c (1 - feed) = false → Does (.logicFeedLost feed) s fun b => b.sec.power = 3 ∧ b.glb.start = none ∧
      vault b = vault s.blk ∧ b.sec.lastLoss = c.lastLoss ∧ b.sec.survived = c.survived ∧ b.sec.powerDowns = c.powerDowns ∧ b.tb = s.blk.tb) ∧
    (s.blk.glb.mramOk = true → c.power < 2 → up c (1 - feed) = false → Does (.logicFeedLost feed) s fun b => b.sec = { set c false with
      before := c.power, rideFrom := s.blk.tb, lastLoss := s.blk.growth.age, latch := putBit c.latch 1 true, power := 2 } ∧ b.ptn = s.blk.ptn) ∧
    (c.power < 2 → Does (.logicFeedRestored feed) s fun b => b = { s.blk with sec := set c true }) ∧
    (c.power = 2 → c.downAt = none → Does (.logicFeedRestored feed) s fun b => b.sec.power < 2 ∧ up b.sec feed = true ∧
      b.sec.survived = sat8 c.survived 1 ∧ b.sec.downAt = none) ∧
    (c.power = 2 → c.downAt = none → c.rideFrom + 2000000 ≤ s.blk.tb → Does .rideThroughTimeout s falls) ∧
    (c.power = 2 → c.downAt = none → mj ≤ 400 → Does (.holdupReserve mj) s fun b => falls b ∧ b.sec.holdupMj = mj) ∧
    (c.power < 2 → mj < 1600 → Does (.holdupLow mj) s fun b => Spared { s.blk with sec := { c with
      holdupMj := mj, chargedAt := c.chargedAt.filter fun t => decide (s.blk.tb < t) } } b) ∧
    (c.power = 2 → c.downAt.isSome = true → s.blk.dsp.state ≠ 1 → s.blk.dsp.state ≠ 2 → Does .powerOff s fun b =>
      Spared { commitFinish s.blk with sec := { c with power := 3 } } b ∧ b.ptn.commit = none ∧
      ∀ n, s.blk.ptn.commit = some n → (if n = 0 then b.ptn.slot0 else b.ptn.slot1) =
        some (if s.blk.ptn.commitPrev then s.blk.ptn.buffer1 else s.blk.ptn.buffer)) ∧
    (c.waking = true →
      (Does (.wakeTest []) s fun b => b = { s.blk with sec := { c with waking := false } }) ∧
      (locOk l = true → unitAt l = .fence (.loopLane lane) → isFenced s.blk (.loopLane lane) = false → openSlot s.blk.flt (locDomain l) = none →
        Does (.wakeTest [l]) s fun b => Recorded s.blk b 0x05 l ∧ b.flt.fenced = s.blk.flt.fenced ++ [.loopLane lane] ∧ b.sec.waking = false ∧
          bit b.sec.latch 2 = true))
end

