-- ==== Sys2Proof/Laws/Residue.lean ====
section
/-! SUPPORT. The paths of R43 keep the residue of their values, so that a result without a fault passes its check, and a fault that changes one bit
does not. -/

namespace Sys2Proof.Machine

theorem residue31_cast (n : Int) : (residue31 n : Int) = n % 31 := by
  unfold residue31; omega

theorem RInt.ok_iff (x : RInt) : x.ok = true ↔ (x.r : Int) = x.v % 31 := by
  have := residue31_cast x.v
  simp only [RInt.ok, beq_iff_eq]; omega

theorem RInt.of_ok (n : Int) : (RInt.of n).ok = true := by simp [RInt.of, RInt.ok]

theorem RInt.add_ok {a b : RInt} (ha : a.ok = true) (hb : b.ok = true) : (a.add b).ok = true := by
  rw [RInt.ok_iff] at *; simp only [RInt.add]; omega

theorem RInt.neg_ok {a : RInt} (ha : a.ok = true) : a.neg.ok = true := by
  rw [RInt.ok_iff] at *; simp only [RInt.neg]; omega

theorem RInt.mul_ok {a b : RInt} (ha : a.ok = true) (hb : b.ok = true) : (a.mul b).ok = true := by
  rw [RInt.ok_iff] at *
  simp only [RInt.mul]
  push_cast
  rw [ha, hb]
  exact (Int.mul_emod _ _ _).symm

theorem RInt.mac_ok {a b c : RInt} (ha : a.ok = true) (hb : b.ok = true) (hc : c.ok = true) : (a.mac b c).ok = true :=
  RInt.add_ok (RInt.mul_ok ha hb) hc

theorem RInt.round_ok {a : RInt} (ha : a.ok = true) (n : Int) : (a.round n).ok = true := RInt.add_ok ha (RInt.of_ok n)

/-- 2^5 is 1 modulo 31. -/
theorem two_pow_mod31 (k : Nat) : (2 ^ k : Int) % 31 = 2 ^ (k % 5) % 31 := by
  have h : k = 5 * (k / 5) + k % 5 := by omega
  have one : ∀ q : Nat, (2 ^ (5 * q) : Int) % 31 = 1 := by
    intro q
    induction q with
    | zero => decide
    | succ q ih =>
      have : (2 : Int) ^ (5 * (q + 1)) = 2 ^ (5 * q) * 32 := by rw [Nat.mul_succ, Int.pow_add]; norm_num
      rw [this]; omega
  rw [h, Int.pow_add, Int.mul_emod, one]
  simp [Nat.add_mod]

theorem RInt.shl_ok {a : RInt} (ha : a.ok = true) (k : Nat) : (a.shl k).ok = true := by
  rw [RInt.ok_iff] at *
  simp only [RInt.shl]
  push_cast
  rw [ha, Int.mul_emod a.v, two_pow_mod31, ← Int.mul_emod]
  simp [Int.mul_emod]

theorem RInt.shr_ok {a : RInt} (ha : a.ok = true) (k : Nat) : (a.shr k).ok = true := by
  have hd : (a.add (RInt.of (a.v % 2 ^ k)).neg).ok = true := RInt.add_ok ha (RInt.neg_ok (RInt.of_ok _))
  rw [RInt.ok_iff] at *
  have hv : (a.add (RInt.of (a.v % 2 ^ k)).neg).v = 2 ^ k * (a.v / 2 ^ k) := by
    simp only [RInt.add, RInt.neg, RInt.of]
    have := Int.mul_ediv_add_emod a.v (2 ^ k)
    omega
  rw [hv] at hd
  simp only [RInt.shr]
  push_cast
  rw [hd]
  generalize a.v / 2 ^ k = q
  have h5 : (2 ^ k * 2 ^ ((5 - k % 5) % 5) : Int) % 31 = 1 := by
    rw [← Int.pow_add, two_pow_mod31]
    have : (k + (5 - k % 5) % 5) % 5 = 0 := by omega
    rw [this]; decide
  calc (2 ^ k * q % 31 * 2 ^ ((5 - k % 5) % 5) : Int) % 31
      = (2 ^ k * 2 ^ ((5 - k % 5) % 5)) * q % 31 := by
        rw [Int.mul_emod, Int.emod_emod_of_dvd _ (dvd_refl _), ← Int.mul_emod]; ring_nf
    _ = q % 31 := by rw [Int.mul_emod, h5, one_mul, Int.emod_emod_of_dvd _ (dvd_refl _)]

theorem normPath_ok {m : RInt} (hm : m.ok = true) (e : Int) (st : Bool) : (normPath m e st).1.ok = true := by
  unfold normPath
  have hx : ∀ x : RInt × Int, x.1.ok = true → (if x.1.v = 2 ^ 24 then (x.1.shr 1, x.2 + 1) else x).1.ok = true := by
    intro x hx
    split
    · exact RInt.shr_ok hx 1
    · exact hx
  apply hx
  split
  · exact RInt.shl_ok hm _
  · exact RInt.round_ok (RInt.shr_ok hm _) _

/-- A result of a path without a fault passes the check of R44. -/
theorem RSig.of_ok (neg : Bool) {m : RInt} (hm : m.ok = true) (e : Int) (st : Bool) : (RSig.of neg m e st).ok = true := by
  unfold RSig.of RSig.ok
  split
  · simp [hm]
  · simp [normPath_ok hm]

theorem alignPath_ok (w : Word) : (alignPath w).ok = true := by
  unfold alignPath
  dsimp only
  split
  · exact RInt.neg_ok (RInt.shl_ok (RInt.of_ok _) _)
  · exact RInt.shl_ok (RInt.of_ok _) _

theorem addPath_ok (a b : Word) : (addPath a b).ok = true := by
  apply RSig.of_ok
  have h := RInt.add_ok (alignPath_ok a) (alignPath_ok b)
  split
  · exact RInt.neg_ok h
  · exact h

theorem mulPath_ok (a b : Word) : (mulPath a b).ok = true := RSig.of_ok _ (RInt.mul_ok (RInt.of_ok _) (RInt.of_ok _)) _ _

/-- The check refuses a value whose bit `k` a fault has turned, up or down (R44). -/
theorem bit_fault_caught {x : RInt} (hx : x.ok = true) (k : Nat) : ({ x with v := x.v + 2 ^ k } : RInt).ok = false ∧ ({ x with v := x.v - 2 ^ k } : RInt).ok = false := by
  have h2 : (2 ^ k : Int) % 31 = 1 ∨ (2 ^ k : Int) % 31 = 2 ∨ (2 ^ k : Int) % 31 = 4 ∨ (2 ^ k : Int) % 31 = 8 ∨ (2 ^ k : Int) % 31 = 16 := by
    rw [two_pow_mod31]
    have : k % 5 < 5 := Nat.mod_lt _ (by omega)
    generalize k % 5 = j at this
    interval_cases j <;> simp
  rw [RInt.ok_iff] at hx
  rw [← Bool.not_eq_true, ← Bool.not_eq_true, RInt.ok_iff, RInt.ok_iff]
  dsimp only
  generalize (2 ^ k : Int) = p at *
  omega

theorem sigOf_ok (w : Word) : (sigOf w).ok = true := by simp [sigOf, RSig.ok, RInt.of_ok]

/-- A force makes the check fail. -/
theorem upset_fails (w : Word) (s : Nat) : ((sigOf w).upset s).ok = false := by
  unfold RSig.upset
  split
  · have h := (RInt.ok_iff _).mp (RInt.of_ok (fMant w))
    rw [← Bool.not_eq_true]
    simp only [RSig.ok, sigOf, Bool.and_eq_true, RInt.ok_iff, not_and_or]
    left
    simp only [RInt.of] at *
    omega
  · simp [RSig.ok, sigOf]

/-- The significand path has the value of the rounding (R42, R43). -/
theorem normPath_eq (m : RInt) (hm : 0 ≤ m.v) (e : Int) (st : Bool) :
    (normPath m e st).1.v = (fNorm m.v.toNat e st).1 ∧ (normPath m e st).2 = (fNorm m.v.toNat e st).2 := by
  obtain ⟨v, r⟩ := m
  obtain ⟨n, rfl⟩ := Int.eq_ofNat_of_zero_le hm
  unfold normPath fNorm
  dsimp only
  simp only [Int.toNat_natCast]
  have renorm : ∀ (x : RInt) (y : Nat) (k : Int), x.v = y →
      ((if x.v = 2 ^ 24 then (x.shr 1, k + 1) else (x, k)).1.v = ((if y = 2 ^ 24 then (2 ^ 23, k + 1) else (y, k)).1 : Nat)) ∧
        (if x.v = 2 ^ 24 then (x.shr 1, k + 1) else (x, k)).2 = (if y = 2 ^ 24 then (2 ^ 23, k + 1) else (y, k)).2 := by
    intro x y k h
    by_cases g : y = 2 ^ 24
    · have g' : x.v = 2 ^ 24 := by rw [h, g]; norm_num
      simp [g, g', RInt.shr]
    · have g' : ¬ x.v = 2 ^ 24 := by rw [h]; exact_mod_cast g
      rw [if_neg g, if_neg g']
      exact ⟨h, rfl⟩
  by_cases h : bitLen n ≤ 24
  · simp only [h, if_true]
    exact renorm ((⟨(n : Int), r⟩ : RInt).shl (24 - bitLen n)) _ _ (by simp [RInt.shl])
  · simp only [h, if_false]
    exact renorm (((⟨(n : Int), r⟩ : RInt).shr (bitLen n - 24)).round (b1 (roundUp n (bitLen n - 24) st))) _ _
      (by simp [RInt.shr, RInt.round, RInt.add, RInt.of])

theorem fNorm_ne_zero {n : Nat} (hn : ¬ n = 0) (e : Int) (st : Bool) : (fNorm n e st).1 ≠ 0 := by
  unfold fNorm
  have h2 : ∀ k : Nat, 2 ^ k ≠ 0 := fun k => by positivity
  have hx : ∀ (y : Nat) (k : Int), y ≠ 0 → (if y = 2 ^ 24 then ((2 ^ 23 : Nat), k + 1) else (y, k)).1 ≠ 0 := by
    intro y k h
    split
    · show (2 ^ 23 : Nat) ≠ 0
      decide
    · exact h
  by_cases h : bitLen n ≤ 24
  · simp only [h, if_true]
    exact hx _ _ (Nat.mul_ne_zero hn (h2 _))
  · simp only [h, if_false]
    apply hx
    have hl : 2 ^ (bitLen n - 24) ≤ n := by
      have : bitLen n - 24 ≤ Nat.log2 n := by unfold bitLen; split <;> omega
      exact le_trans (Nat.pow_le_pow_right (by omega) this) (Nat.log2_self_le hn)
    have := Nat.div_pos hl (by positivity)
    omega

/-- A result of the significand path is the rounded value. -/
theorem RSig.of_num (neg : Bool) (m : RInt) (hm : 0 ≤ m.v) (e : Int) (st : Bool) : (RSig.of neg m e st).num = fRound neg m.v.toNat e st := by
  unfold RSig.of RSig.num fRound
  by_cases h : m.v = 0
  · simp [h]
  · have h' : ¬ m.v.toNat = 0 := by omega
    obtain ⟨h1, h2⟩ := normPath_eq m hm e st
    have hp := fNorm_ne_zero h' e st
    simp only [h, h', if_false]
    rw [h1, h2]
    simp [hp]

theorem alignPath_v (w : Word) : (alignPath w).v = fInt w := by
  unfold alignPath fInt
  dsimp only
  split <;> simp [RInt.shl, RInt.neg, RInt.of]

/-- The adder path has the value of the sum (R42, R43). -/
theorem addPath_num (a b : Num) (h : fInt a.v + fInt b.v ≠ 0) : (addPath a.v b.v).num.v = (a.add b).v := by
  have hs : ((alignPath a.v).add (alignPath b.v)).v = fInt a.v + fInt b.v := by simp [RInt.add, alignPath_v]
  unfold addPath Num.add
  dsimp only
  rw [if_neg h, hs]
  unfold fRoundInt
  by_cases g : fInt a.v + fInt b.v < 0
  · rw [if_pos g, RSig.of_num _ _ (by simp only [RInt.neg, hs]; omega)]
    simp only [RInt.neg, hs]
    congr 2
    omega
  · rw [if_neg g, RSig.of_num _ _ (by rw [hs]; omega), hs]
    congr 2
    omega

/-- The multiplier path has the value of the product (R42, R43). -/
theorem mulPath_num (a b : Num) : (mulPath a.v b.v).num.v = (a.mul b).v := by
  unfold mulPath Num.mul
  rw [RSig.of_num _ _ (by simp only [RInt.mul, RInt.of]; positivity)]
  rfl

end Sys2Proof.Machine
end

