-- ==== Sys2Proof/Laws/Check.lean ====
section
/-! SUPPORT. What the check of R44 does where no force is armed: it passes. -/

namespace Sys2Proof.Machine

theorem checkOnce_unforced {b : Block} {l : Word} (ws : List Word) (h : checkForce b l = none) : checkOnce l ws b = (true, 5, b) := by
  simp [checkOnce, h, sigOf_ok]

/-- Without an armed force the results are written. -/
theorem checkedWrite_unforced {b : Block} {l : Word} (ws : List Word) (f : Block → Block) (h : checkForce b l = none) :
    checkedWrite l ws f b = f b := by
  simp [checkedWrite, checkOnce_unforced ws h]

/-- A force is armed for no source while FLT_FORCE_MODE is off. -/
theorem checkForce_off {b : Block} (l : Word) (h : b.flt.forceMode = 0) : checkForce b l = none := by
  simp [checkForce, forceArmed, h]

end Sys2Proof.Machine
end

