-- ==== Sys2Proof/Laws/Tab.lean ====
section
/-! SUPPORT. Laws of sparse tables: reading after writing, and the canonical form. -/

namespace Sys2Proof.Laws

open Sys2Proof.Machine

variable {α : Type} {d v w : α} {t : Tab α} {k m : Nat}

theorem tget_tput_self (h : ∀ p ∈ t, p.1 ≠ k) : tget d (tput k v t) k = v := by
  induction t with
  | nil => simp [tput, tget]
  | cons p t ih =>
    obtain ⟨j, w⟩ := p
    have hj : j ≠ k := h (j, w) (by simp)
    unfold tput
    split
    · simp [tget]
    · simp only [tget, hj, if_false]
      exact ih fun p hp => h p (by simp [hp])

theorem tget_tput_ne (hk : m ≠ k) : tget d (tput k v t) m = tget d t m := by
  induction t with
  | nil => simp [tput, tget, Ne.symm hk]
  | cons p t ih =>
    obtain ⟨j, w⟩ := p
    unfold tput
    split
    · simp [tget, Ne.symm hk]
    · simp only [tget, ih]

theorem tget_filter_self : tget d (t.filter fun p => p.1 != k) k = d := by
  induction t with
  | nil => rfl
  | cons p t ih =>
    obtain ⟨j, w⟩ := p
    by_cases h : j = k <;> simp [h, tget, ih]

theorem tget_filter_ne (hk : m ≠ k) : tget d (t.filter fun p => p.1 != k) m = tget d t m := by
  induction t with
  | nil => rfl
  | cons p t ih =>
    obtain ⟨j, w⟩ := p
    by_cases h : j = k
    · subst h
      simp [tget, Ne.symm hk, ih]
    · simp [h, tget, ih]

variable [DecidableEq α]

/-- A key reads as what was last written to it. -/
@[simp] theorem tget_tset_self : tget d (tset d t k v) k = v := by
  by_cases h : v = d
  · simp only [tset, h, if_true]
    exact tget_filter_self
  · simp only [tset, h, if_false]
    exact tget_tput_self fun p hp => by simpa using (List.mem_filter.mp hp).2

/-- A write leaves every other key alone. -/
theorem tget_tset_ne (hk : m ≠ k) : tget d (tset d t k v) m = tget d t m := by
  by_cases h : v = d
  · simp only [tset, h, if_true]
    exact tget_filter_ne hk
  · simp only [tset, h, if_false]
    rw [tget_tput_ne hk, tget_filter_ne hk]

/-- What a key reads as after a write. -/
theorem tget_tset : tget d (tset d t k v) m = if m = k then v else tget d t m := by
  split
  · rename_i h
    subst h
    exact tget_tset_self
  · exact tget_tset_ne (by assumption)

theorem tget_tmod {f : α → α} : tget d (tmod d t k f) m = if m = k then f (tget d t k) else tget d t m := tget_tset

omit [DecidableEq α] in
theorem filter_tput : (tput k v t).filter (fun p => p.1 != k) = t.filter (fun p => p.1 != k) := by
  induction t with
  | nil => simp [tput]
  | cons p t ih =>
    obtain ⟨j, w⟩ := p
    unfold tput
    split
    · simp
    · by_cases h : j = k <;> simp [h, ih]

/-- Of two writes to one key the second stands. -/
@[simp] theorem tset_tset : tset d (tset d t k v) k w = tset d t k w := by
  have : (tset d t k v).filter (fun p => p.1 != k) = t.filter (fun p => p.1 != k) := by
    by_cases h : v = d
    · simp [tset, h]
    · simp [tset, h, filter_tput]
  simp only [tset] at this ⊢
  rw [this]

omit [DecidableEq α] in
theorem tabove_mono {i : Nat} (h : tabove k t = true) (hi : i ≤ k) : tabove i t = true := by
  simp only [tabove, List.all_eq_true, decide_eq_true_eq] at h ⊢
  intro p hp
  have := h p hp
  omega

omit [DecidableEq α] in
theorem tabove_tput {i : Nat} (h : tabove i t = true) (hi : i < k) : tabove i (tput k v t) = true := by
  induction t with
  | nil => simp [tput, tabove, hi]
  | cons p t ih =>
    obtain ⟨j, w⟩ := p
    simp only [tabove, List.all_cons, Bool.and_eq_true, decide_eq_true_eq] at h ih ⊢
    unfold tput
    split
    · simp only [List.all_cons, Bool.and_eq_true, decide_eq_true_eq]
      exact ⟨hi, h⟩
    · simp only [List.all_cons, Bool.and_eq_true, decide_eq_true_eq]
      exact ⟨h.1, ih h.2⟩

theorem twf_filter (h : twf d t = true) : twf d (t.filter fun p => p.1 != k) = true := by
  induction t with
  | nil => rfl
  | cons p t ih =>
    obtain ⟨j, w⟩ := p
    simp only [twf, Bool.and_eq_true, decide_eq_true_eq] at h
    simp only [List.filter_cons]
    split
    · simp only [twf, Bool.and_eq_true, decide_eq_true_eq]
      refine ⟨⟨?_, h.1.2⟩, ih h.2⟩
      simp only [tabove, List.all_eq_true, decide_eq_true_eq] at h ⊢
      exact fun p hp => h.1.1 p (List.mem_filter.mp hp).1
    · exact ih h.2

theorem twf_tput (h : twf d t = true) (hv : v ≠ d) (hk : ∀ p ∈ t, p.1 ≠ k) : twf d (tput k v t) = true := by
  induction t with
  | nil => simp [tput, twf, tabove, hv]
  | cons p t ih =>
    obtain ⟨j, w⟩ := p
    have hj : j ≠ k := hk (j, w) (by simp)
    simp only [twf, Bool.and_eq_true, decide_eq_true_eq] at h
    unfold tput
    split
    · rename_i l
      simp only [twf, tabove, List.all_cons, Bool.and_eq_true, decide_eq_true_eq]
      exact ⟨⟨⟨l, tabove_mono h.1.1 (Nat.le_of_lt l)⟩, hv⟩, h⟩
    · simp only [twf, Bool.and_eq_true, decide_eq_true_eq]
      exact ⟨⟨tabove_tput h.1.1 (by omega), h.1.2⟩, ih h.2 fun p hp => hk p (by simp [hp])⟩

/-- Writing keeps the canonical form. -/
theorem twf_tset (h : twf d t = true) : twf d (tset d t k v) = true := by
  by_cases hv : v = d
  · simp only [tset, hv, if_true]
    exact twf_filter h
  · simp only [tset, hv, if_false]
    exact twf_tput (twf_filter h) hv fun p hp => by simpa using (List.mem_filter.mp hp).2

theorem twf_tmod {f : α → α} (h : twf d t = true) : twf d (tmod d t k f) = true := twf_tset h

/-- Storing bytes keeps the canonical form of a memory. -/
theorem memWf_putBytes (bs : List Byte) (m : Tab Byte) (a : Nat) (h : memWf m = true) : memWf (putBytes m a bs) = true := by
  induction bs generalizing m a with
  | nil => exact h
  | cons x xs ih => exact ih _ _ (twf_tset h)

end Sys2Proof.Laws
end

