-- ==== Sys2Proof/Laws/Exec.lean ====
section
/-! SUPPORT. How a command's outcome unfolds, and what completing a command does to its ring. -/

namespace Sys2Proof.Laws

open Sys2Proof.Machine Sys2Proof.Safety

/-- A command that names something of a module that is not Off does its meaning. -/
theorem does_act {c : Instr} {f : Block → Block} {s : State} {Q : Block → Prop} (he : exec c s = act c f s) (hok : c.ok = true)
    (hon : On s) (hq : Q (f s.blk)) : Does c s Q := by
  refine ⟨{ s with blk := f s.blk }, ?_, rfl, hq⟩
  rw [he]
  simp [act, actAlways, hok, show ¬ s.blk.sec.power = 3 from hon]

/-- Every command but POWER_UP is an operation on a module that is not Off, applied where the operands name something. -/
theorem exec_act (c : Instr) (s : State) (h : ∀ i, c ≠ .powerUp i) : ∃ f, exec c s = act c f s := by
  cases c
  case powerUp i => exact absurd rfl (h i)
  case descriptorFetch n d => exact ⟨fun b => canDrain (descriptorFetch n d b), rfl⟩
  case descriptorWriteback n r => exact ⟨fun b => canDrain (descriptorWriteback n r b), rfl⟩
  all_goals exact ⟨_, rfl⟩

/-- Every command is an operation on the module, applied where the operands name something. -/
theorem exec_actAlways (c : Instr) (s : State) : ∃ f, exec c s = actAlways c f s := by
  by_cases h : ∃ i, c = .powerUp i
  · obtain ⟨i, rfl⟩ := h
    exact ⟨_, rfl⟩
  · obtain ⟨f, h⟩ := exec_act c s fun i e => h ⟨i, e⟩
    exact ⟨_, h⟩

theorem exec_cmdRow (k : CmdKind) (n : Nat) (s : State) : exec (cmdRow k n) s = act (cmdRow k n) (runCmd k n) s := by
  cases k <;> rfl

theorem ok_cmdRow (k : CmdKind) {n : Nat} (h : n < 128) : (cmdRow k n).ok = true := by
  cases k <;> simp [cmdRow, Instr.ok, h]

/-- A command row that its ring's next command belongs to, and that nothing refuses, is carried out. -/
theorem runCmd_accepts {b : Block} {k : CmdKind} {n : Nat} {d : Desc} (h : Accepts b k n d) : runCmd k n b = cmdAct k n d b := by
  simp [runCmd, h.next, h.kind, h.allowed]

theorem does_cmd {k : CmdKind} {n : Nat} {d : Desc} {s : State} {Q : Block → Prop} (hon : On s) (h : Accepts s.blk k n d)
    (hq : Q (cmdAct k n d s.blk)) : Does (cmdRow k n) s Q :=
  does_act (exec_cmdRow k n s) (ok_cmdRow k h.ring) hon (by rw [runCmd_accepts h]; exact hq)

/-! Rings. -/

@[simp] theorem ring_modRing_self (n : Nat) (f : Ring → Ring) (b : Block) : ring (modRing n f b) n = f (ring b n) := by
  simp [ring, modRing, setRing, modRng]

theorem ring_modRing_ne {n m : Nat} {f : Ring → Ring} {b : Block} (h : m ≠ n) : ring (modRing n f b) m = ring b m :=
  tget_tset_ne h

@[simp] theorem modRing_rng (n : Nat) (f : Ring → Ring) (b : Block) : modRing n f b = { b with rng := (modRing n f b).rng } := rfl

theorem modDesc_ring (n idx : Nat) (f : Desc → Desc) (b : Block) :
    ring (modDesc n idx f b) n = { ring b n with fetched := (ring b n).fetched.map fun d => if d.idx = idx then f d else d } :=
  ring_modRing_self ..

/-- Changing a descriptor leaves every other ring alone. -/
theorem modDesc_other {n m idx : Nat} {f : Desc → Desc} {b : Block} (h : m ≠ n) : ring (modDesc n idx f b) m = ring b m :=
  ring_modRing_ne h

theorem completeWith_ring (n idx st : Nat) (v : Word) (b : Block) :
    ring (completeWith n idx st v b) n =
      { ring b n with fetched := withDone (ring b n).fetched idx { status := st, result := v, tick := b.tb } } :=
  modDesc_ring ..

/-- The next command of a ring is one of its descriptors, and has no status yet. -/
theorem cmdNext_mem {b : Block} {n : Nat} {d : Desc} (h : cmdNext b n = some d) :
    d ∈ (ring b n).fetched ∧ d.done = none ∧ d.started = false := by
  unfold cmdNext at h
  split at h
  · have := List.find?_some h
    simp only [Bool.and_eq_true, Option.isNone_iff_eq_none, Bool.not_eq_true'] at this
    exact ⟨List.mem_of_find?_eq_some h, this.1, this.2⟩
  · cases h

/-- Completing a command changes its own descriptor and nothing else. -/
theorem completeWith_only {b : Block} {n idx st : Nat} {v : Word} :
    completeWith n idx st v b = { b with rng := (completeWith n idx st v b).rng } ∧
    OnlyFetched b (completeWith n idx st v b) n (withDone (ring b n).fetched idx { status := st, result := v, tick := b.tb }) :=
  ⟨rfl, rfl, completeWith_ring .., fun _ hm => modDesc_other hm⟩

/-- As `completeWith_only`, with the free value that a refusal or a once-acting write takes. -/
theorem refuse_only {b : Block} {n idx st : Nat} :
    refuse n idx st b = { b with rng := (refuse n idx st b).rng, free := (refuse n idx st b).free } ∧
    ∃ v, OnlyFetched b (refuse n idx st b) n (withDone (ring b n).fetched idx { status := st, result := v, tick := b.tb }) :=
  ⟨rfl, (takeFree b).1, rfl, completeWith_ring .., fun _ hm => modDesc_other (b := (takeFree b).2) hm⟩

end Sys2Proof.Laws
end

