-- ==== Sys2Proof/Laws/Fire.lean ====
section
/-! SUPPORT. What the firing of an event source leaves alone: everything but the events staged in EVT rings, the latches, the display's drill bit,
the counters, the recorder's snapshots and the marks of R16. -/

namespace Sys2Proof.Laws

open Sys2Proof.Machine Sys2Proof.Safety

/-- What a firing leaves alone. -/
@[irreducible] def calm (b : Block) : Block × (Nat → Ring) × Rng × Flt × Dsp × Prf × Rec × List Output × Nat :=
  (quiet b, (fun n => { ring b n with evts := [] }), { b.rng with rings := [] }, { b.flt with latches := [] },
    { b.dsp with drillSeen := false }, { b.prf with cnt := [] },
    { b.recorder with held := [], fired := [], missed := [], latch := 0 }, b.out, b.free)

theorem calm_upd {b c : Block} (hq : quiet c = quiet b) (hr : c.rng = b.rng) (hf : { c.flt with latches := [] } = { b.flt with latches := [] })
    (hd : { c.dsp with drillSeen := false } = { b.dsp with drillSeen := false })
    (hp : { c.prf with cnt := [] } = { b.prf with cnt := [] }) (hs : { c.recorder with held := [], fired := [], missed := [], latch := 0 } =
      { b.recorder with held := [], fired := [], missed := [], latch := 0 }) (ho : c.out = b.out) (hn : c.free = b.free) : calm c = calm b := by
  unfold calm
  rw [hq, hf, hd, hp, hs, ho, hn]
  simp only [ring, hr]

theorem calm_foldl {α : Type} {f : Block → α → Block} (hf : ∀ b a, calm (f b a) = calm b) (l : List α) (b : Block) :
    calm (l.foldl f b) = calm b := by
  induction l generalizing b with
  | nil => rfl
  | cons a l ih => exact (ih _).trans (hf _ _)

theorem calm_stage (n : Nat) (f : List Evt → List Evt) (b : Block) :
    calm (modRing n (fun r => { r with evts := f r.evts }) b) = calm b := by
  have h : (fun m => { ring (modRing n (fun r => { r with evts := f r.evts }) b) m with evts := [] }) =
      fun m => { ring b m with evts := [] } := by
    funext m
    by_cases e : m = n
    · subst e
      rw [ring_modRing_self]
    · rw [ring_modRing_ne e]
  unfold calm
  rw [h]
  rfl

theorem calm_markSet (off : Nat) (bits : Word) (b : Block) : calm (markSet off bits b) = calm b := calm_upd rfl rfl rfl rfl rfl rfl rfl rfl

theorem calm_markBit (off i : Nat) (b : Block) : calm (markBit off i b) = calm b := calm_markSet ..

theorem calm_stageFor (src : Nat) (detail : Word) (link : Nat) (b : Block) : calm (stageFor src detail link b) = calm b := by
  unfold stageFor
  split
  · split
    · exact calm_stage _ (stageEvt (evtArea b) b.tb src detail) _
    · rfl
  · rfl

theorem calm_perf (ev arg wild : Nat) (b : Block) : calm (perf ev arg wild b) = calm b := by
  unfold perf
  split
  · rfl
  · exact calm_upd rfl rfl rfl rfl rfl rfl rfl rfl

theorem calm_holdSnapshot (kind trigger : Nat) (detail : Word) (vals : List Word) (b : Block) :
    calm (holdSnapshot kind trigger detail vals b) = calm b := by
  unfold holdSnapshot
  split
  · exact calm_upd rfl rfl rfl rfl rfl rfl rfl rfl
  · rfl

theorem calm_fireTrigger (t : Nat) (detail : Word) (b : Block) : calm (fireTrigger t detail b).1 = calm b := by
  unfold fireTrigger
  split
  · rfl
  · dsimp only
    split
    · exact calm_upd rfl rfl rfl rfl rfl rfl rfl rfl
    · split
      · exact (calm_markBit ..).trans (calm_upd rfl rfl rfl rfl rfl rfl rfl rfl)
      · exact (calm_holdSnapshot ..).trans (calm_upd rfl rfl rfl rfl rfl rfl rfl rfl)

theorem calm_fireTrigger_eq {t : Nat} {detail : Word} {b c : Block} {x : Option Nat} (h : fireTrigger t detail b = (c, x)) :
    calm c = calm b := by
  have e := calm_fireTrigger t detail b
  rw [h] at e
  exact e

theorem calm_fireBase (src : Nat) (detail : Word) (b : Block) : calm (fireBase src detail b) = calm b := by
  unfold fireBase
  exact ((calm_stageFor ..).trans (calm_stageFor ..)).trans ((calm_perf ..).trans (calm_upd rfl rfl rfl rfl rfl rfl rfl rfl))

theorem calm_fireFuel (fuel src : Nat) (detail : Word) (b : Block) : calm (fireFuel fuel src detail b) = calm b := by
  induction fuel generalizing src detail b with
  | zero => exact calm_fireBase ..
  | succ n ih =>
    unfold fireFuel
    refine (calm_foldl (fun _ _ => ?_) ..).trans (calm_fireBase ..)
    split
    · exact (ih ..).trans (calm_fireTrigger_eq (by assumption))
    · exact calm_fireTrigger_eq (by assumption)

theorem calm_fire (src : Nat) (detail : Word) (b : Block) : calm (fire src detail b) = calm b := calm_fireFuel ..

theorem calm_fireIf (c : Bool) (src : Nat) (detail : Word) (b : Block) : calm (fireIf c src detail b) = calm b := by
  unfold fireIf
  split
  · exact calm_fire ..
  · rfl

theorem calm_fireTriggerOf (t : Nat) (b : Block) : calm (fireTriggerOf t b) = calm b := by
  unfold fireTriggerOf
  split
  · exact (calm_fire ..).trans (calm_fireTrigger_eq (by assumption))
  · exact calm_fireTrigger_eq (by assumption)

/-! Reading one part off. -/

theorem quiet_of_calm {b c : Block} (h : calm c = calm b) : quiet c = quiet b := by
  unfold calm at h
  exact congrArg Prod.fst h

theorem ring_of_calm {b c : Block} (h : calm c = calm b) (n : Nat) : ring c n = { ring b n with evts := (ring c n).evts } := by
  unfold calm at h
  have e := congrFun (congrArg (fun p => p.2.1) h) n
  simp only [Ring.mk.injEq] at e
  cases hc : ring c n
  simp_all

theorem fetched_of_calm {b c : Block} (h : calm c = calm b) (n : Nat) : (ring c n).fetched = (ring b n).fetched := by
  rw [ring_of_calm h]

theorem targets_of_calm {b c : Block} (h : calm c = calm b) : c.rng.targets = b.rng.targets := by
  unfold calm at h
  have e := congrArg (fun p => p.2.2.1) h
  simp only [Rng.mk.injEq] at e
  simp_all

/-- What leaves `calm` alone leaves everything alone but what events leave. -/
theorem spared_of_calm {b c : Block} (h : calm c = calm b) : Spared b c := by
  have hr := ring_of_calm h
  unfold calm at h
  have h2 := congrArg (fun p => p.2.2.1) h
  have h3 := congrArg (fun p => p.2.2.2.1) h
  have h4 := congrArg (fun p => p.2.2.2.2.1) h
  have h5 := congrArg (fun p => p.2.2.2.2.2.1) h
  have h6 := congrArg (fun p => p.2.2.2.2.2.2.1) h
  have h7 := congrArg (fun p => p.2.2.2.2.2.2.2.1) h
  have h8 := congrArg (fun p => p.2.2.2.2.2.2.2.2) h
  exact ⟨congrArg Prod.fst h, hr, (congrArg (fun x : Rng => { x with rings := c.rng.rings }) h2 :),
    (congrArg (fun x : Flt => { x with latches := c.flt.latches }) h3 :),
    (congrArg (fun x : Dsp => { x with drillSeen := c.dsp.drillSeen }) h4 :),
    (congrArg (fun x : Prf => { x with cnt := c.prf.cnt }) h5 :),
    (congrArg (fun x : Rec => { x with
      held := c.recorder.held, fired := c.recorder.fired, missed := c.recorder.missed, latch := c.recorder.latch }) h6 :), h7, h8⟩

theorem chn_of_calm {b c : Block} (h : calm c = calm b) : c.chn = b.chn := (congrArg Block.chn (quiet_of_calm h) :)
theorem dp_of_calm {b c : Block} (h : calm c = calm b) : c.dp = b.dp := (congrArg Block.dp (quiet_of_calm h) :)
theorem lpe_of_calm {b c : Block} (h : calm c = calm b) : c.lpe = b.lpe := (congrArg Block.lpe (quiet_of_calm h) :)
theorem ptn_of_calm {b c : Block} (h : calm c = calm b) : c.ptn = b.ptn := (congrArg Block.ptn (quiet_of_calm h) :)
theorem tim_of_calm {b c : Block} (h : calm c = calm b) : c.tim = b.tim := (congrArg Block.tim (quiet_of_calm h) :)
theorem saf_of_calm {b c : Block} (h : calm c = calm b) : c.saf = b.saf := (congrArg Block.saf (quiet_of_calm h) :)
theorem can_of_calm {b c : Block} (h : calm c = calm b) : c.can = b.can := (congrArg Block.can (quiet_of_calm h) :)
theorem eth_of_calm {b c : Block} (h : calm c = calm b) : c.eth = b.eth := (congrArg Block.eth (quiet_of_calm h) :)
theorem ser_of_calm {b c : Block} (h : calm c = calm b) : c.ser = b.ser := (congrArg Block.ser (quiet_of_calm h) :)
theorem glb_of_calm {b c : Block} (h : calm c = calm b) : c.glb = b.glb := (congrArg Block.glb (quiet_of_calm h) :)
theorem sec_of_calm {b c : Block} (h : calm c = calm b) : c.sec = b.sec := (congrArg Block.sec (quiet_of_calm h) :)
theorem growth_of_calm {b c : Block} (h : calm c = calm b) : c.growth = b.growth := (congrArg Block.growth (quiet_of_calm h) :)
theorem tb_of_calm {b c : Block} (h : calm c = calm b) : c.tb = b.tb := (congrArg Block.tb (quiet_of_calm h) :)
theorem freeze_of_calm {b c : Block} (h : calm c = calm b) : c.freeze = b.freeze := (congrArg Block.freeze (quiet_of_calm h) :)
theorem links_of_calm {b c : Block} (h : calm c = calm b) : c.links = b.links := (congrArg Block.links (quiet_of_calm h) :)

end Sys2Proof.Laws
end

