-- ==== Sys2Proof/Laws/Keep.lean ====
section
/-! SUPPORT. What the shared operations leave alone: the timebase count and the stores of the module. -/

namespace Sys2Proof.Laws

open Sys2Proof.Machine Sys2Proof.Safety

set_option linter.unusedTactic false
set_option linter.unreachableTactic false

/-- What nearly every operation leaves alone: the timebase count, and the stores of the configuration and of the lifecycle. -/
@[irreducible] def keep (b : Block) : Nat × Vault := (b.tb, vault b)

theorem keep_ite {c : Prop} [Decidable c] {x y : Block} {k : Nat × Vault} (hx : keep x = k) (hy : keep y = k) :
    keep (if c then x else y) = k := by split <;> assumption

theorem keep_ite_fst {α : Type} {c : Prop} [Decidable c] {x y : Block × α} {k : Nat × Vault} (hx : keep x.1 = k) (hy : keep y.1 = k) :
    keep (if c then x else y).1 = k := by split <;> assumption

theorem keep_ite_snd {α : Type} {c : Prop} [Decidable c] {x y : α × Block} {k : Nat × Vault} (hx : keep x.2 = k) (hy : keep y.2 = k) :
    keep (if c then x else y).2 = k := by split <;> assumption

theorem keep_foldl {α : Type} {f : Block → α → Block} (hf : ∀ b a, keep (f b a) = keep b) (l : List α) (b : Block) :
    keep (l.foldl f b) = keep b := by
  induction l generalizing b with
  | nil => rfl
  | cons a l ih => exact (ih _).trans (hf _ _)

/-- A record update that leaves the timebase, the configuration and the security unit alone. -/
theorem keep_upd {b c : Block} (ht : c.tb = b.tb) (hg : c.glb = b.glb) (hs : c.sec = b.sec) : keep c = keep b := by
  simp [keep, vault, ht, hg, hs]

theorem keep_foldl_snd {α β : Type} {f : β × Block → α → β × Block} (hf : ∀ p a, keep (f p a).2 = keep p.2) (l : List α)
    (p : β × Block) : keep (l.foldl f p).2 = keep p.2 := by
  induction l generalizing p with
  | nil => rfl
  | cons a l ih => exact (ih _).trans (hf _ _)

theorem keep_foldl_fst {α β : Type} {f : Block × β → α → Block × β} (hf : ∀ p a, keep (f p a).1 = keep p.1) (l : List α)
    (p : Block × β) : keep (l.foldl f p).1 = keep p.1 := by
  induction l generalizing p with
  | nil => rfl
  | cons a l ih => exact (ih _).trans (hf _ _)

/-! Event. -/

theorem keep_markSet (off : Nat) (bits : Word) (b : Block) : keep (markSet off bits b) = keep b := keep_upd rfl rfl rfl

theorem keep_markBit (off i : Nat) (b : Block) : keep (markBit off i b) = keep b := by
  unfold markBit
  repeat' first
    | with_reducible rfl
    | with_reducible refine (keep_markSet ..).trans ?_
    | with_reducible exact keep_upd rfl rfl rfl

theorem keep_emit (o : Output) (b : Block) : keep (emit o b) = keep b := by
  unfold emit
  repeat' first
    | with_reducible rfl
    | with_reducible exact keep_upd rfl rfl rfl

theorem keep_takeFree (b : Block) : keep (takeFree b).2 = keep b := by
  unfold takeFree
  repeat' first
    | with_reducible rfl
    | with_reducible refine keep_ite_fst ?_ ?_
    | with_reducible refine keep_ite_snd ?_ ?_
    | with_reducible exact keep_upd rfl rfl rfl
    | with_reducible dsimp only

theorem keep_takeFree_eq {b : Block} {x : Sys2Proof.Word} {bo : Block} (h : takeFree b = (x, bo)) : keep bo = keep b := by
  have e := keep_takeFree b
  rw [h] at e
  exact e

theorem keep_modRng (f : Rng → Rng) (b : Block) : keep (modRng f b) = keep b := by
  unfold modRng
  repeat' first
    | with_reducible rfl
    | with_reducible exact keep_upd rfl rfl rfl

theorem keep_setRing (n : Nat) (r : Ring) (b : Block) : keep (setRing n r b) = keep b := by
  unfold setRing
  repeat' first
    | with_reducible rfl
    | with_reducible refine (keep_modRng ..).trans ?_
    | with_reducible exact keep_upd rfl rfl rfl

theorem keep_modRing (n : Nat) (f : Ring → Ring) (b : Block) : keep (modRing n f b) = keep b := by
  unfold modRing
  repeat' first
    | with_reducible rfl
    | with_reducible refine (keep_setRing ..).trans ?_
    | with_reducible exact keep_upd rfl rfl rfl

theorem keep_modLink (l : Nat) (f : HostLink → HostLink) (b : Block) : keep (modLink l f b) = keep b := by
  unfold modLink
  repeat' first
    | with_reducible rfl
    | with_reducible exact keep_upd rfl rfl rfl

theorem keep_stageFor (src : Nat) (detail : Sys2Proof.Word) (link : Nat) (b : Block) : keep (stageFor src detail link b) = keep b := by
  unfold stageFor
  repeat' first
    | with_reducible rfl
    | with_reducible refine keep_ite ?_ ?_
    | with_reducible refine (keep_modRing ..).trans ?_
    | with_reducible split
    | with_reducible exact keep_upd rfl rfl rfl

theorem keep_perf (ev arg wild : Nat) (b : Block) : keep (perf ev arg wild b) = keep b := by
  unfold perf
  repeat' first
    | with_reducible rfl
    | with_reducible refine keep_ite ?_ ?_
    | with_reducible (refine (keep_foldl (fun _ _ => ?_) ..).trans ?_)
    | with_reducible split
    | with_reducible exact keep_upd rfl rfl rfl
    | with_reducible dsimp only

theorem keep_holdSnapshot (kind trigger : Nat) (detail : Sys2Proof.Word) (vals : List Sys2Proof.Word) (b : Block) : keep (holdSnapshot kind trigger detail vals b) = keep b := by
  unfold holdSnapshot
  repeat' first
    | with_reducible rfl
    | with_reducible refine keep_ite ?_ ?_
    | with_reducible split
    | with_reducible exact keep_upd rfl rfl rfl

theorem keep_fireTrigger (t : Nat) (detail : Sys2Proof.Word) (b : Block) : keep (fireTrigger t detail b).1 = keep b := by
  unfold fireTrigger
  repeat' first
    | with_reducible rfl
    | with_reducible refine keep_ite_fst ?_ ?_
    | with_reducible refine keep_ite_snd ?_ ?_
    | with_reducible refine keep_ite ?_ ?_
    | with_reducible refine (keep_holdSnapshot ..).trans ?_
    | with_reducible refine (keep_markBit ..).trans ?_
    | with_reducible split
    | with_reducible exact keep_upd rfl rfl rfl
    | with_reducible dsimp only

theorem keep_fireTrigger_eq {t : Nat} {detail : Sys2Proof.Word} {b : Block} {x : Option Nat} {bo : Block} (h : fireTrigger t detail b = (bo, x)) : keep bo = keep b := by
  have e := keep_fireTrigger t detail b
  rw [h] at e
  exact e

theorem keep_fireBase (src : Nat) (detail : Sys2Proof.Word) (b : Block) : keep (fireBase src detail b) = keep b := by
  unfold fireBase
  repeat' first
    | with_reducible rfl
    | with_reducible refine keep_ite ?_ ?_
    | with_reducible refine (keep_perf ..).trans ?_
    | with_reducible refine (keep_stageFor ..).trans ?_
    | with_reducible split
    | with_reducible exact keep_upd rfl rfl rfl
    | with_reducible dsimp only

theorem keep_fireFuel (fuel src : Nat) (detail : Word) (b : Block) : keep (fireFuel fuel src detail b) = keep b := by
  induction fuel generalizing src detail b with
  | zero => exact keep_fireBase ..
  | succ n ih =>
    unfold fireFuel
    refine (keep_foldl (fun _ _ => ?_) ..).trans (keep_fireBase ..)
    split
    · exact (ih ..).trans (keep_fireTrigger_eq (by assumption))
    · exact keep_fireTrigger_eq (by assumption)


theorem keep_fire (src : Nat) (detail : Sys2Proof.Word) (b : Block) : keep (fire src detail b) = keep b := by
  unfold fire
  repeat' first
    | with_reducible rfl
    | with_reducible refine (keep_fireFuel ..).trans ?_
    | with_reducible exact keep_upd rfl rfl rfl

theorem keep_fireTriggerOf (t : Nat) (b : Block) : keep (fireTriggerOf t b) = keep b := by
  unfold fireTriggerOf
  repeat' first
    | with_reducible rfl
    | with_reducible refine (keep_fire ..).trans ?_
    | with_reducible refine (keep_fireTrigger ..).trans ?_
    | with_reducible refine (keep_fireTrigger_eq (by assumption)).trans ?_
    | with_reducible split
    | with_reducible exact keep_upd rfl rfl rfl

theorem keep_fireIf (c : Bool) (src : Nat) (detail : Sys2Proof.Word) (b : Block) : keep (fireIf c src detail b) = keep b := by
  unfold fireIf
  repeat' first
    | with_reducible rfl
    | with_reducible refine keep_ite ?_ ?_
    | with_reducible refine (keep_fire ..).trans ?_
    | with_reducible split
    | with_reducible exact keep_upd rfl rfl rfl

/-! Tim. -/

theorem keep_modTim (f : Tim → Tim) (b : Block) : keep (modTim f b) = keep b := by
  unfold modTim
  repeat' first
    | with_reducible rfl
    | with_reducible exact keep_upd rfl rfl rfl

theorem keep_timLatch (i : Nat) (b : Block) : keep (timLatch i b) = keep b := by
  unfold timLatch
  repeat' first
    | with_reducible rfl
    | with_reducible refine keep_ite ?_ ?_
    | with_reducible refine (keep_fire ..).trans ?_
    | with_reducible refine (keep_markBit ..).trans ?_
    | with_reducible refine (keep_modTim ..).trans ?_
    | with_reducible split
    | with_reducible exact keep_upd rfl rfl rfl
    | with_reducible dsimp only

theorem keep_atPoint (rank : Nat) (f : Block → Block) (b : Block) (hf : ∀ c, keep (f c) = keep c) : keep (atPoint rank f b) = keep b := by
  unfold atPoint
  split
  · rfl
  · exact (hf _).trans (keep_modTim ..)


theorem keep_setVtValid (v : Bool) (cause : Nat) (b : Block) : keep (setVtValid v cause b) = keep b := by
  unfold setVtValid
  repeat' first
    | with_reducible rfl
    | with_reducible refine (keep_fireIf ..).trans ?_
    | with_reducible refine (keep_modTim ..).trans ?_
    | with_reducible exact keep_upd rfl rfl rfl

theorem keep_setSlewing (v : Bool) (b : Block) : keep (setSlewing v b) = keep b := by
  unfold setSlewing
  repeat' first
    | with_reducible rfl
    | with_reducible refine (keep_fireIf ..).trans ?_
    | with_reducible refine (keep_modTim ..).trans ?_
    | with_reducible exact keep_upd rfl rfl rfl
    | with_reducible dsimp only

theorem keep_timApply (a : TimAct) (b : Block) : keep (timApply a b) = keep b := by
  unfold timApply
  repeat' first
    | with_reducible rfl
    | with_reducible refine keep_ite ?_ ?_
    | with_reducible refine (keep_modTim ..).trans ?_
    | with_reducible refine (keep_setVtValid ..).trans ?_
    | with_reducible split
    | with_reducible exact keep_upd rfl rfl rfl

theorem keep_modPpsIn (i : Nat) (f : PpsIn → PpsIn) (b : Block) : keep (modPpsIn i f b) = keep b := by
  unfold modPpsIn
  repeat' first
    | with_reducible rfl
    | with_reducible refine keep_ite ?_ ?_
    | with_reducible refine (keep_modTim ..).trans ?_
    | with_reducible split
    | with_reducible exact keep_upd rfl rfl rfl

theorem keep_modPpsOut (i : Nat) (f : PpsOut → PpsOut) (b : Block) : keep (modPpsOut i f b) = keep b := by
  unfold modPpsOut
  repeat' first
    | with_reducible rfl
    | with_reducible refine keep_ite ?_ ?_
    | with_reducible refine (keep_modTim ..).trans ?_
    | with_reducible split
    | with_reducible exact keep_upd rfl rfl rfl

theorem keep_ppsOutFall (i : Nat) (b : Block) : keep (ppsOutFall i b) = keep b := by
  unfold ppsOutFall
  repeat' first
    | with_reducible rfl
    | with_reducible refine keep_ite ?_ ?_
    | with_reducible refine (keep_emit ..).trans ?_
    | with_reducible refine (keep_modPpsOut ..).trans ?_
    | with_reducible split
    | with_reducible exact keep_upd rfl rfl rfl

theorem keep_ppsGate (b : Block) : keep (ppsGate b) = keep b := by
  unfold ppsGate
  repeat' first
    | with_reducible rfl
    | with_reducible refine keep_ite ?_ ?_
    | with_reducible refine (keep_ppsOutFall ..).trans ?_
    | with_reducible (refine (keep_foldl (fun _ _ => ?_) ..).trans ?_)
    | with_reducible split
    | with_reducible exact keep_upd rfl rfl rfl

theorem keep_timTick (b : Block) : keep (timTick b) = keep b := by
  unfold timTick
  repeat' first
    | with_reducible rfl
    | with_reducible refine keep_ite ?_ ?_
    | with_reducible refine (keep_fireIf ..).trans ?_
    | with_reducible refine (keep_modTim ..).trans ?_
    | with_reducible refine (keep_ppsGate ..).trans ?_
    | with_reducible refine (keep_timApply ..).trans ?_
    | with_reducible (refine (keep_foldl (fun _ _ => ?_) ..).trans ?_)
    | with_reducible split
    | with_reducible exact keep_upd rfl rfl rfl
    | with_reducible dsimp only

theorem keep_slewComplete (b : Block) : keep (slewComplete b) = keep b := by
  unfold slewComplete
  repeat' first
    | with_reducible rfl
    | with_reducible refine keep_ite ?_ ?_
    | with_reducible refine (keep_modTim ..).trans ?_
    | with_reducible refine (keep_setSlewing ..).trans ?_
    | with_reducible split
    | with_reducible exact keep_upd rfl rfl rfl
    | with_reducible dsimp only

theorem keep_timIncWrite (src k v : Nat) (b : Block) : keep (timIncWrite src k v b) = keep b := by
  unfold timIncWrite
  repeat' first
    | with_reducible rfl
    | with_reducible refine keep_ite ?_ ?_
    | with_reducible refine (keep_modTim ..).trans ?_
    | with_reducible refine (keep_timLatch ..).trans ?_
    | with_reducible split
    | with_reducible exact keep_upd rfl rfl rfl

theorem keep_timStepWrite (src k v : Nat) (b : Block) : keep (timStepWrite src k v b) = keep b := by
  unfold timStepWrite
  repeat' first
    | with_reducible rfl
    | with_reducible refine keep_ite ?_ ?_
    | with_reducible refine (keep_modTim ..).trans ?_
    | with_reducible refine (keep_timLatch ..).trans ?_
    | with_reducible split
    | with_reducible exact keep_upd rfl rfl rfl
    | with_reducible dsimp only

theorem keep_timVtSetWrite (src which v : Nat) (b : Block) : keep (timVtSetWrite src which v b) = keep b := by
  unfold timVtSetWrite
  repeat' first
    | with_reducible rfl
    | with_reducible refine keep_ite ?_ ?_
    | with_reducible refine (keep_modTim ..).trans ?_
    | with_reducible refine (keep_timLatch ..).trans ?_
    | with_reducible split
    | with_reducible exact keep_upd rfl rfl rfl

theorem keep_timCtrlWrite (src : Nat) (v : Sys2Proof.Word) (b : Block) : keep (timCtrlWrite src v b) = keep b := by
  unfold timCtrlWrite
  repeat' first
    | with_reducible rfl
    | with_reducible refine keep_ite ?_ ?_
    | with_reducible refine (keep_modTim ..).trans ?_
    | with_reducible refine (keep_timLatch ..).trans ?_
    | with_reducible split
    | with_reducible exact keep_upd rfl rfl rfl
    | with_reducible dsimp only

theorem keep_discHoldExpiry (b : Block) : keep (discHoldExpiry b) = keep b := by
  unfold discHoldExpiry
  repeat' first
    | with_reducible rfl
    | with_reducible refine keep_ite ?_ ?_
    | with_reducible refine (keep_ppsGate ..).trans ?_
    | with_reducible refine (keep_setVtValid ..).trans ?_
    | with_reducible refine (keep_timLatch ..).trans ?_
    | with_reducible split
    | with_reducible exact keep_upd rfl rfl rfl

theorem keep_setExtRef (v : Bool) (b : Block) : keep (setExtRef v b) = keep b := by
  unfold setExtRef
  repeat' first
    | with_reducible rfl
    | with_reducible refine (keep_fireIf ..).trans ?_
    | with_reducible refine (keep_modTim ..).trans ?_
    | with_reducible exact keep_upd rfl rfl rfl

theorem keep_refQualified (b : Block) : keep (refQualified b) = keep b := by
  unfold refQualified
  repeat' first
    | with_reducible rfl
    | with_reducible refine keep_ite ?_ ?_
    | with_reducible refine (keep_modTim ..).trans ?_
    | with_reducible refine (keep_setExtRef ..).trans ?_
    | with_reducible split
    | with_reducible exact keep_upd rfl rfl rfl

theorem keep_refLost (b : Block) : keep (refLost b) = keep b := by
  unfold refLost
  repeat' first
    | with_reducible rfl
    | with_reducible refine keep_ite ?_ ?_
    | with_reducible refine (keep_modTim ..).trans ?_
    | with_reducible refine (keep_refQualified ..).trans ?_
    | with_reducible refine (keep_setExtRef ..).trans ?_
    | with_reducible refine (keep_timLatch ..).trans ?_
    | with_reducible split
    | with_reducible exact keep_upd rfl rfl rfl
    | with_reducible dsimp only

theorem keep_setPpsOk (i : Nat) (v : Bool) (b : Block) : keep (setPpsOk i v b) = keep b := by
  unfold setPpsOk
  repeat' first
    | with_reducible rfl
    | with_reducible refine keep_ite ?_ ?_
    | with_reducible refine (keep_fire ..).trans ?_
    | with_reducible refine (keep_modPpsIn ..).trans ?_
    | with_reducible refine (keep_timLatch ..).trans ?_
    | with_reducible split
    | with_reducible exact keep_upd rfl rfl rfl
    | with_reducible dsimp only

theorem keep_ppsInEdge (i : Nat) (b : Block) : keep (ppsInEdge i b) = keep b := by
  unfold ppsInEdge
  repeat' first
    | with_reducible rfl
    | with_reducible refine keep_ite ?_ ?_
    | with_reducible refine (keep_fire ..).trans ?_
    | with_reducible refine (keep_modPpsIn ..).trans ?_
    | with_reducible refine (keep_setPpsOk ..).trans ?_
    | with_reducible split
    | with_reducible exact keep_upd rfl rfl rfl
    | with_reducible dsimp only

theorem keep_ppsInTimeout (i : Nat) (b : Block) : keep (ppsInTimeout i b) = keep b := by
  unfold ppsInTimeout
  repeat' first
    | with_reducible rfl
    | with_reducible refine keep_ite ?_ ?_
    | with_reducible refine (keep_modPpsIn ..).trans ?_
    | with_reducible refine (keep_setPpsOk ..).trans ?_
    | with_reducible split
    | with_reducible exact keep_upd rfl rfl rfl

theorem keep_ppsOutRise (i : Nat) (b : Block) : keep (ppsOutRise i b) = keep b := by
  unfold ppsOutRise
  repeat' first
    | with_reducible rfl
    | with_reducible refine keep_ite ?_ ?_
    | with_reducible refine (keep_emit ..).trans ?_
    | with_reducible refine (keep_modPpsOut ..).trans ?_
    | with_reducible split
    | with_reducible exact keep_upd rfl rfl rfl

theorem keep_timBankFirst (b : Block) : keep (timBankFirst b) = keep b := by
  unfold timBankFirst
  repeat' first
    | with_reducible rfl
    | with_reducible refine keep_ite ?_ ?_
    | with_reducible refine (keep_fire ..).trans ?_
    | with_reducible refine (keep_modTim ..).trans ?_
    | with_reducible split
    | with_reducible exact keep_upd rfl rfl rfl
    | with_reducible dsimp only

/-! Base. -/

theorem keep_modDesc (n idx : Nat) (f : Desc → Desc) (b : Block) : keep (modDesc n idx f b) = keep b := by
  unfold modDesc
  repeat' first
    | with_reducible rfl
    | with_reducible refine keep_ite ?_ ?_
    | with_reducible refine (keep_modRing ..).trans ?_
    | with_reducible split
    | with_reducible exact keep_upd rfl rfl rfl

theorem keep_complete (n idx : Nat) (d : Done) (b : Block) : keep (complete n idx d b) = keep b := by
  unfold complete
  repeat' first
    | with_reducible rfl
    | with_reducible refine keep_ite ?_ ?_
    | with_reducible refine (keep_modDesc ..).trans ?_
    | with_reducible split
    | with_reducible exact keep_upd rfl rfl rfl
    | with_reducible dsimp only

theorem keep_completeWith (n idx status : Nat) (result : Sys2Proof.Word) (b : Block) : keep (completeWith n idx status result b) = keep b := by
  unfold completeWith
  repeat' first
    | with_reducible rfl
    | with_reducible refine (keep_complete ..).trans ?_
    | with_reducible exact keep_upd rfl rfl rfl
    | with_reducible dsimp only

theorem keep_refuse (n idx status : Nat) (b : Block) : keep (refuse n idx status b) = keep b := by
  unfold refuse
  repeat' first
    | with_reducible rfl
    | with_reducible refine (keep_completeWith ..).trans ?_
    | with_reducible refine (keep_takeFree ..).trans ?_
    | with_reducible refine (keep_takeFree_eq (by assumption)).trans ?_
    | with_reducible split
    | with_reducible exact keep_upd rfl rfl rfl
    | with_reducible dsimp only

theorem keep_modGlb (f : Glb → Glb) (b : Block) (h : ∀ g, (f g).bank0 = g.bank0 ∧ (f g).bank1 = g.bank1 ∧ (f g).selA = g.selA ∧ (f g).selB = g.selB) :
    keep (modGlb f b) = keep b := by
  simp [keep, vault, modGlb, h b.glb]

theorem keep_modPtn (f : Ptn → Ptn) (b : Block) : keep (modPtn f b) = keep b := by
  unfold modPtn
  repeat' first
    | with_reducible rfl
    | with_reducible exact keep_upd rfl rfl rfl

theorem keep_modSec (f : Sec → Sec) (b : Block) (h : ∀ s, (f s).lcA = s.lcA ∧ (f s).lcB = s.lcB ∧ (f s).lifecycle = s.lifecycle) :
    keep (modSec f b) = keep b := by
  simp [keep, vault, modSec, h b.sec]

theorem keep_modFlt (f : Flt → Flt) (b : Block) : keep (modFlt f b) = keep b := by
  unfold modFlt
  repeat' first
    | with_reducible rfl
    | with_reducible exact keep_upd rfl rfl rfl

theorem keep_modRec (f : Rec → Rec) (b : Block) : keep (modRec f b) = keep b := by
  unfold modRec
  repeat' first
    | with_reducible rfl
    | with_reducible exact keep_upd rfl rfl rfl

theorem keep_modDsp (f : Dsp → Dsp) (b : Block) : keep (modDsp f b) = keep b := by
  unfold modDsp
  repeat' first
    | with_reducible rfl
    | with_reducible exact keep_upd rfl rfl rfl

theorem keep_modGrowth (f : Growth → Growth) (b : Block) : keep (modGrowth f b) = keep b := by
  unfold modGrowth
  repeat' first
    | with_reducible rfl
    | with_reducible exact keep_upd rfl rfl rfl

theorem keep_modPrf (f : Prf → Prf) (b : Block) : keep (modPrf f b) = keep b := by
  unfold modPrf
  repeat' first
    | with_reducible rfl
    | with_reducible exact keep_upd rfl rfl rfl

theorem keep_modEth (f : Eth → Eth) (b : Block) : keep (modEth f b) = keep b := by
  unfold modEth
  repeat' first
    | with_reducible rfl
    | with_reducible exact keep_upd rfl rfl rfl

theorem keep_completeReply (n idx : Nat) (bytes : List Sys2Proof.Byte) (b : Block) : keep (completeReply n idx bytes b) = keep b := by
  unfold completeReply
  repeat' first
    | with_reducible rfl
    | with_reducible refine (keep_complete ..).trans ?_
    | with_reducible split
    | with_reducible exact keep_upd rfl rfl rfl
    | with_reducible dsimp only

theorem keep_modTarget (k : Nat) (f : Target → Target) (b : Block) : keep (modTarget k f b) = keep b := by
  unfold modTarget
  repeat' first
    | with_reducible rfl
    | with_reducible refine (keep_modRng ..).trans ?_
    | with_reducible exact keep_upd rfl rfl rfl

theorem keep_setCand (k src prio : Nat) (v : Sys2Proof.Word) (b : Block) : keep (setCand k src prio v b) = keep b := by
  unfold setCand
  repeat' first
    | with_reducible rfl
    | with_reducible refine (keep_modTarget ..).trans ?_
    | with_reducible exact keep_upd rfl rfl rfl
    | with_reducible dsimp only

theorem keep_dropCand (k src : Nat) (b : Block) : keep (dropCand k src b) = keep b := by
  unfold dropCand
  repeat' first
    | with_reducible rfl
    | with_reducible refine (keep_modTarget ..).trans ?_
    | with_reducible exact keep_upd rfl rfl rfl

theorem keep_dropMrx (n : Nat) (b : Block) : keep (dropMrx n b) = keep b := by
  unfold dropMrx
  repeat' first
    | with_reducible rfl
    | with_reducible refine keep_ite ?_ ?_
    | with_reducible refine (keep_modRing ..).trans ?_
    | with_reducible refine (keep_perf ..).trans ?_
    | with_reducible split
    | with_reducible exact keep_upd rfl rfl rfl
    | with_reducible dsimp only

theorem keep_stageMrx (n : Nat) (f : RxFrame) (b : Block) : keep (stageMrx n f b) = keep b := by
  unfold stageMrx
  repeat' first
    | with_reducible rfl
    | with_reducible refine keep_ite ?_ ?_
    | with_reducible refine (keep_dropMrx ..).trans ?_
    | with_reducible refine (keep_modRing ..).trans ?_
    | with_reducible split
    | with_reducible exact keep_upd rfl rfl rfl
    | with_reducible dsimp only

theorem keep_seqAdvance (bus port obj : Nat) (b : Block) : keep (seqAdvance bus port obj b) = keep b := by
  unfold seqAdvance
  repeat' first
    | with_reducible rfl
    | with_reducible refine keep_ite_fst ?_ ?_
    | with_reducible refine keep_ite_snd ?_ ?_
    | with_reducible refine (keep_modPtn ..).trans ?_
    | with_reducible (refine (keep_foldl_snd (fun _ _ => ?_) ..).trans ?_)
    | with_reducible (refine (keep_foldl_fst (fun _ _ => ?_) ..).trans ?_)
    | with_reducible (refine (keep_foldl (fun _ _ => ?_) ..).trans ?_)
    | with_reducible exact keep_upd rfl rfl rfl

/-! ChnBase. -/

theorem keep_modChn (f : Chn → Chn) (b : Block) : keep (modChn f b) = keep b := by
  unfold modChn
  repeat' first
    | with_reducible rfl
    | with_reducible exact keep_upd rfl rfl rfl

theorem keep_modChan (n : Nat) (f : Chan → Chan) (b : Block) : keep (modChan n f b) = keep b := by
  unfold modChan
  repeat' first
    | with_reducible rfl
    | with_reducible refine (keep_modChn ..).trans ?_
    | with_reducible exact keep_upd rfl rfl rfl

theorem keep_modGroup (g : Nat) (f : Group → Group) (b : Block) : keep (modGroup g f b) = keep b := by
  unfold modGroup
  repeat' first
    | with_reducible rfl
    | with_reducible refine (keep_modChn ..).trans ?_
    | with_reducible exact keep_upd rfl rfl rfl

theorem keep_modImage (i : Nat) (f : Image → Image) (b : Block) : keep (modImage i f b) = keep b := by
  unfold modImage
  repeat' first
    | with_reducible rfl
    | with_reducible refine (keep_modChn ..).trans ?_
    | with_reducible exact keep_upd rfl rfl rfl

theorem keep_modHart (n : Nat) (f : Hart → Hart) (b : Block) : keep (modHart n f b) = keep b := by
  unfold modHart
  repeat' first
    | with_reducible rfl
    | with_reducible refine (keep_modChan ..).trans ?_
    | with_reducible exact keep_upd rfl rfl rfl

theorem keep_hartEvent (n cause : Nat) (b : Block) : keep (hartEvent n cause b) = keep b := by
  unfold hartEvent
  repeat' first
    | with_reducible rfl
    | with_reducible refine (keep_fire ..).trans ?_
    | with_reducible exact keep_upd rfl rfl rfl

theorem keep_hartOut (n : Nat) (b : Block) : keep (hartOut n b) = keep b := by
  unfold hartOut
  repeat' first
    | with_reducible rfl
    | with_reducible refine keep_ite ?_ ?_
    | with_reducible refine (keep_hartEvent ..).trans ?_
    | with_reducible refine (keep_modHart ..).trans ?_
    | with_reducible split
    | with_reducible exact keep_upd rfl rfl rfl
    | with_reducible dsimp only

theorem keep_setStBits (n : Nat) (bits : Sys2Proof.Word) (v : Bool) (b : Block) : keep (setStBits n bits v b) = keep b := by
  unfold setStBits
  repeat' first
    | with_reducible rfl
    | with_reducible refine keep_ite ?_ ?_
    | with_reducible refine (keep_fireIf ..).trans ?_
    | with_reducible refine (keep_hartOut ..).trans ?_
    | with_reducible refine (keep_markSet ..).trans ?_
    | with_reducible refine (keep_modChan ..).trans ?_
    | with_reducible split
    | with_reducible exact keep_upd rfl rfl rfl
    | with_reducible dsimp only

theorem keep_setSt (n i : Nat) (v : Bool) (b : Block) : keep (setSt n i v b) = keep b := by
  unfold setSt
  repeat' first
    | with_reducible rfl
    | with_reducible refine keep_ite ?_ ?_
    | with_reducible refine (keep_setStBits ..).trans ?_
    | with_reducible split
    | with_reducible exact keep_upd rfl rfl rfl

theorem keep_hartEnd (t : HartTrans) (result : Nat) (b : Block) : keep (hartEnd t result b) = keep b := by
  unfold hartEnd
  repeat' first
    | with_reducible rfl
    | with_reducible refine keep_ite ?_ ?_
    | with_reducible refine (keep_completeReply ..).trans ?_
    | with_reducible split
    | with_reducible exact keep_upd rfl rfl rfl
    | with_reducible dsimp only

theorem keep_hartOff (n : Nat) (b : Block) : keep (hartOff n b) = keep b := by
  unfold hartOff
  repeat' first
    | with_reducible rfl
    | with_reducible refine keep_ite ?_ ?_
    | with_reducible refine (keep_hartEnd ..).trans ?_
    | with_reducible refine (keep_hartEvent ..).trans ?_
    | with_reducible refine (keep_modHart ..).trans ?_
    | with_reducible (refine (keep_foldl (fun _ _ => ?_) ..).trans ?_)
    | with_reducible split
    | with_reducible exact keep_upd rfl rfl rfl
    | with_reducible dsimp only

theorem keep_hartFence (b : Block) : keep (hartFence b) = keep b := by
  unfold hartFence
  repeat' first
    | with_reducible rfl
    | with_reducible refine keep_ite_fst ?_ ?_
    | with_reducible refine keep_ite_snd ?_ ?_
    | with_reducible refine keep_ite ?_ ?_
    | with_reducible refine (keep_hartEnd ..).trans ?_
    | with_reducible refine (keep_hartEvent ..).trans ?_
    | with_reducible refine (keep_modHart ..).trans ?_
    | with_reducible (refine (keep_foldl_snd (fun _ _ => ?_) ..).trans ?_)
    | with_reducible (refine (keep_foldl_fst (fun _ _ => ?_) ..).trans ?_)
    | with_reducible (refine (keep_foldl (fun _ _ => ?_) ..).trans ?_)
    | with_reducible split
    | with_reducible exact keep_upd rfl rfl rfl
    | with_reducible dsimp only

theorem keep_hartSearch (n : Nat) (b : Block) : keep (hartSearch n b) = keep b := by
  unfold hartSearch
  repeat' first
    | with_reducible rfl
    | with_reducible refine keep_ite ?_ ?_
    | with_reducible refine (keep_modHart ..).trans ?_
    | with_reducible split
    | with_reducible exact keep_upd rfl rfl rfl

theorem keep_hartDrop (n : Nat) (b : Block) : keep (hartDrop n b) = keep b := by
  unfold hartDrop
  repeat' first
    | with_reducible rfl
    | with_reducible refine keep_ite ?_ ?_
    | with_reducible refine (keep_completeWith ..).trans ?_
    | with_reducible refine (keep_hartOff ..).trans ?_
    | with_reducible refine (keep_modHart ..).trans ?_
    | with_reducible (refine (keep_foldl (fun _ _ => ?_) ..).trans ?_)
    | with_reducible split
    | with_reducible exact keep_upd rfl rfl rfl
    | with_reducible dsimp only

theorem keep_setFe (n v : Nat) (b : Block) : keep (setFe n v b) = keep b := by
  unfold setFe
  repeat' first
    | with_reducible rfl
    | with_reducible refine keep_ite ?_ ?_
    | with_reducible refine (keep_hartOff ..).trans ?_
    | with_reducible refine (keep_hartOut ..).trans ?_
    | with_reducible refine (keep_hartSearch ..).trans ?_
    | with_reducible refine (keep_modChan ..).trans ?_
    | with_reducible refine (keep_setSt ..).trans ?_
    | with_reducible refine (keep_setStBits ..).trans ?_
    | with_reducible split
    | with_reducible exact keep_upd rfl rfl rfl
    | with_reducible dsimp only

theorem keep_fenceEvent (n : Nat) (v : Bool) (b : Block) : keep (fenceEvent n v b) = keep b := by
  unfold fenceEvent
  repeat' first
    | with_reducible rfl
    | with_reducible refine (keep_fire ..).trans ?_
    | with_reducible exact keep_upd rfl rfl rfl

theorem keep_chnFence (n : Nat) (b : Block) : keep (chnFence n b) = keep b := by
  unfold chnFence
  repeat' first
    | with_reducible rfl
    | with_reducible refine (keep_fenceEvent ..).trans ?_
    | with_reducible refine (keep_setFe ..).trans ?_
    | with_reducible exact keep_upd rfl rfl rfl

theorem keep_listenStop (b : Block) : keep (listenStop b) = keep b := by
  unfold listenStop
  repeat' first
    | with_reducible rfl
    | with_reducible refine keep_ite ?_ ?_
    | with_reducible refine (keep_modChn ..).trans ?_
    | with_reducible split
    | with_reducible exact keep_upd rfl rfl rfl

theorem keep_chnRole (old new : Nat) (b : Block) : keep (chnRole old new b) = keep b := by
  unfold chnRole
  repeat' first
    | with_reducible rfl
    | with_reducible refine keep_ite ?_ ?_
    | with_reducible refine (keep_listenStop ..).trans ?_
    | with_reducible refine (keep_modChn ..).trans ?_
    | with_reducible split
    | with_reducible exact keep_upd rfl rfl rfl

/-! SafBase. -/

theorem keep_modSaf (f : Saf → Saf) (b : Block) : keep (modSaf f b) = keep b := by
  unfold modSaf
  repeat' first
    | with_reducible rfl
    | with_reducible exact keep_upd rfl rfl rfl

theorem keep_modPair (p : Nat) (f : SafPair → SafPair) (b : Block) : keep (modPair p f b) = keep b := by
  unfold modPair
  repeat' first
    | with_reducible rfl
    | with_reducible refine (keep_modSaf ..).trans ?_
    | with_reducible exact keep_upd rfl rfl rfl

theorem keep_modPort (n : Nat) (f : SafPort → SafPort) (b : Block) : keep (modPort n f b) = keep b := by
  unfold modPort
  repeat' first
    | with_reducible rfl
    | with_reducible refine (keep_modSaf ..).trans ?_
    | with_reducible exact keep_upd rfl rfl rfl

theorem keep_modFn (k : Nat) (f : SafFn → SafFn) (b : Block) : keep (modFn k f b) = keep b := by
  unfold modFn
  repeat' first
    | with_reducible rfl
    | with_reducible refine (keep_modSaf ..).trans ?_
    | with_reducible exact keep_upd rfl rfl rfl

theorem keep_modConn (c : Nat) (f : UslConn → UslConn) (b : Block) : keep (modConn c f b) = keep b := by
  unfold modConn
  repeat' first
    | with_reducible rfl
    | with_reducible refine (keep_modSaf ..).trans ?_
    | with_reducible exact keep_upd rfl rfl rfl

theorem keep_tripFn (f cause src tick : Nat) (b : Block) : keep (tripFn f cause src tick b) = keep b := by
  unfold tripFn
  repeat' first
    | with_reducible rfl
    | with_reducible refine keep_ite ?_ ?_
    | with_reducible refine (keep_fire ..).trans ?_
    | with_reducible refine (keep_modFn ..).trans ?_
    | with_reducible split
    | with_reducible exact keep_upd rfl rfl rfl

theorem keep_tripAll (cause : Nat) (b : Block) : keep (tripAll cause b) = keep b := by
  unfold tripAll
  repeat' first
    | with_reducible rfl
    | with_reducible refine (keep_tripFn ..).trans ?_
    | with_reducible (refine (keep_foldl (fun _ _ => ?_) ..).trans ?_)
    | with_reducible exact keep_upd rfl rfl rfl

theorem keep_clearFn (f : Nat) (b : Block) : keep (clearFn f b) = keep b := by
  unfold clearFn
  repeat' first
    | with_reducible rfl
    | with_reducible refine (keep_fire ..).trans ?_
    | with_reducible refine (keep_modFn ..).trans ?_
    | with_reducible exact keep_upd rfl rfl rfl

theorem keep_portOff (n : Nat) (b : Block) : keep (portOff n b) = keep b := by
  unfold portOff
  repeat' first
    | with_reducible rfl
    | with_reducible refine keep_ite ?_ ?_
    | with_reducible refine (keep_emit ..).trans ?_
    | with_reducible refine (keep_modPort ..).trans ?_
    | with_reducible split
    | with_reducible exact keep_upd rfl rfl rfl

theorem keep_pulsesOff (b : Block) : keep (pulsesOff b) = keep b := by
  unfold pulsesOff
  repeat' first
    | with_reducible rfl
    | with_reducible refine (keep_modSaf ..).trans ?_
    | with_reducible exact keep_upd rfl rfl rfl

theorem keep_safOutputsOff (b : Block) : keep (safOutputsOff b) = keep b := by
  unfold safOutputsOff
  repeat' first
    | with_reducible rfl
    | with_reducible refine keep_ite ?_ ?_
    | with_reducible refine (keep_modSaf ..).trans ?_
    | with_reducible refine (keep_portOff ..).trans ?_
    | with_reducible refine (keep_pulsesOff ..).trans ?_
    | with_reducible (refine (keep_foldl (fun _ _ => ?_) ..).trans ?_)
    | with_reducible split
    | with_reducible exact keep_upd rfl rfl rfl

theorem keep_setEngine (v : Nat) (b : Block) : keep (setEngine v b) = keep b := by
  unfold setEngine
  repeat' first
    | with_reducible rfl
    | with_reducible refine keep_ite ?_ ?_
    | with_reducible refine (keep_fire ..).trans ?_
    | with_reducible refine (keep_modSaf ..).trans ?_
    | with_reducible refine (keep_safOutputsOff ..).trans ?_
    | with_reducible refine (keep_tripAll ..).trans ?_
    | with_reducible split
    | with_reducible exact keep_upd rfl rfl rfl
    | with_reducible dsimp only

theorem keep_safRefresh (b : Block) : keep (safRefresh b) = keep b := by
  unfold safRefresh
  repeat' first
    | with_reducible rfl
    | with_reducible refine keep_ite ?_ ?_
    | with_reducible refine (keep_setEngine ..).trans ?_
    | with_reducible split
    | with_reducible exact keep_upd rfl rfl rfl

theorem keep_safFail (b : Block) : keep (safFail b) = keep b := by
  unfold safFail
  repeat' first
    | with_reducible rfl
    | with_reducible refine (keep_setEngine ..).trans ?_
    | with_reducible exact keep_upd rfl rfl rfl

theorem keep_latchPair (p cause tick slot : Nat) (b : Block) : keep (latchPair p cause tick slot b) = keep b := by
  unfold latchPair
  repeat' first
    | with_reducible rfl
    | with_reducible refine keep_ite ?_ ?_
    | with_reducible refine (keep_fire ..).trans ?_
    | with_reducible refine (keep_modPair ..).trans ?_
    | with_reducible split
    | with_reducible exact keep_upd rfl rfl rfl
    | with_reducible dsimp only

theorem keep_latchPort (n cause tick slot : Nat) (b : Block) : keep (latchPort n cause tick slot b) = keep b := by
  unfold latchPort
  repeat' first
    | with_reducible rfl
    | with_reducible refine keep_ite ?_ ?_
    | with_reducible refine (keep_fire ..).trans ?_
    | with_reducible refine (keep_modPort ..).trans ?_
    | with_reducible split
    | with_reducible exact keep_upd rfl rfl rfl
    | with_reducible dsimp only

theorem keep_clearPair (p : Nat) (b : Block) : keep (clearPair p b) = keep b := by
  unfold clearPair
  repeat' first
    | with_reducible rfl
    | with_reducible refine (keep_fire ..).trans ?_
    | with_reducible refine (keep_modPair ..).trans ?_
    | with_reducible exact keep_upd rfl rfl rfl

theorem keep_clearPort (n : Nat) (b : Block) : keep (clearPort n b) = keep b := by
  unfold clearPort
  repeat' first
    | with_reducible rfl
    | with_reducible refine (keep_fire ..).trans ?_
    | with_reducible refine (keep_modPort ..).trans ?_
    | with_reducible exact keep_upd rfl rfl rfl

theorem keep_clearFaults (b : Block) : keep (clearFaults b) = keep b := by
  unfold clearFaults
  repeat' first
    | with_reducible rfl
    | with_reducible refine keep_ite ?_ ?_
    | with_reducible refine (keep_clearPair ..).trans ?_
    | with_reducible refine (keep_clearPort ..).trans ?_
    | with_reducible (refine (keep_foldl (fun _ _ => ?_) ..).trans ?_)
    | with_reducible split
    | with_reducible exact keep_upd rfl rfl rfl
    | with_reducible dsimp only

theorem keep_tripBank (b : Block) : keep (tripBank b) = keep b := by
  unfold tripBank
  repeat' first
    | with_reducible rfl
    | with_reducible refine (keep_modFn ..).trans ?_
    | with_reducible refine (keep_tripFn ..).trans ?_
    | with_reducible (refine (keep_foldl (fun _ _ => ?_) ..).trans ?_)
    | with_reducible exact keep_upd rfl rfl rfl

theorem keep_fitPair (p : Nat) (b : Block) : keep (fitPair p b) = keep b := by
  unfold fitPair
  repeat' first
    | with_reducible rfl
    | with_reducible refine keep_ite ?_ ?_
    | with_reducible refine (keep_modPair ..).trans ?_
    | with_reducible split
    | with_reducible exact keep_upd rfl rfl rfl
    | with_reducible dsimp only

theorem keep_fitPort (n : Nat) (b : Block) : keep (fitPort n b) = keep b := by
  unfold fitPort
  repeat' first
    | with_reducible rfl
    | with_reducible refine keep_ite ?_ ?_
    | with_reducible refine (keep_modPort ..).trans ?_
    | with_reducible refine (keep_portOff ..).trans ?_
    | with_reducible split
    | with_reducible exact keep_upd rfl rfl rfl

theorem keep_safBank (oldCrc : Option Sys2Proof.Word) (b : Block) : keep (safBank oldCrc b) = keep b := by
  unfold safBank
  repeat' first
    | with_reducible rfl
    | with_reducible refine keep_ite ?_ ?_
    | with_reducible refine (keep_clearFaults ..).trans ?_
    | with_reducible refine (keep_fitPair ..).trans ?_
    | with_reducible refine (keep_fitPort ..).trans ?_
    | with_reducible refine (keep_modPair ..).trans ?_
    | with_reducible refine (keep_pulsesOff ..).trans ?_
    | with_reducible refine (keep_safRefresh ..).trans ?_
    | with_reducible refine (keep_tripBank ..).trans ?_
    | with_reducible (refine (keep_foldl (fun _ _ => ?_) ..).trans ?_)
    | with_reducible split
    | with_reducible exact keep_upd rfl rfl rfl
    | with_reducible dsimp only

/-! CanBase. -/

theorem keep_modCan (f : Can → Can) (b : Block) : keep (modCan f b) = keep b := by
  unfold modCan
  repeat' first
    | with_reducible rfl
    | with_reducible exact keep_upd rfl rfl rfl

theorem keep_modCtl (c : Nat) (f : CanCtl → CanCtl) (b : Block) : keep (modCtl c f b) = keep b := by
  unfold modCtl
  repeat' first
    | with_reducible rfl
    | with_reducible refine (keep_modCan ..).trans ?_
    | with_reducible exact keep_upd rfl rfl rfl

theorem keep_modObj (o : Nat) (f : CanObj → CanObj) (b : Block) : keep (modObj o f b) = keep b := by
  unfold modObj
  repeat' first
    | with_reducible rfl
    | with_reducible refine (keep_modCan ..).trans ?_
    | with_reducible exact keep_upd rfl rfl rfl

theorem keep_canLatch (c i obj : Nat) (b : Block) : keep (canLatch c i obj b) = keep b := by
  unfold canLatch
  repeat' first
    | with_reducible rfl
    | with_reducible refine keep_ite ?_ ?_
    | with_reducible refine (keep_fireIf ..).trans ?_
    | with_reducible refine (keep_markBit ..).trans ?_
    | with_reducible refine (keep_modCtl ..).trans ?_
    | with_reducible split
    | with_reducible exact keep_upd rfl rfl rfl
    | with_reducible dsimp only

theorem keep_setCtlState (c v : Nat) (b : Block) : keep (setCtlState c v b) = keep b := by
  unfold setCtlState
  repeat' first
    | with_reducible rfl
    | with_reducible refine keep_ite ?_ ?_
    | with_reducible refine (keep_canLatch ..).trans ?_
    | with_reducible refine (keep_modCtl ..).trans ?_
    | with_reducible split
    | with_reducible exact keep_upd rfl rfl rfl

theorem keep_dropPend (o status : Nat) (b : Block) : keep (dropPend o status b) = keep b := by
  unfold dropPend
  repeat' first
    | with_reducible rfl
    | with_reducible refine (keep_completeWith ..).trans ?_
    | with_reducible refine (keep_modObj ..).trans ?_
    | with_reducible split
    | with_reducible exact keep_upd rfl rfl rfl
    | with_reducible dsimp only

theorem keep_dropPending (c : Nat) (inArb : Bool) (b : Block) : keep (dropPending c inArb b) = keep b := by
  unfold dropPending
  repeat' first
    | with_reducible rfl
    | with_reducible refine keep_ite ?_ ?_
    | with_reducible refine (keep_dropPend ..).trans ?_
    | with_reducible (refine (keep_foldl (fun _ _ => ?_) ..).trans ?_)
    | with_reducible split
    | with_reducible exact keep_upd rfl rfl rfl

theorem keep_canSweep (b : Block) : keep (canSweep b) = keep b := by
  unfold canSweep
  repeat' first
    | with_reducible rfl
    | with_reducible refine keep_ite_fst ?_ ?_
    | with_reducible refine keep_ite_snd ?_ ?_
    | with_reducible refine keep_ite ?_ ?_
    | with_reducible refine (keep_dropPend ..).trans ?_
    | with_reducible (refine (keep_foldl_snd (fun _ _ => ?_) ..).trans ?_)
    | with_reducible (refine (keep_foldl_fst (fun _ _ => ?_) ..).trans ?_)
    | with_reducible (refine (keep_foldl (fun _ _ => ?_) ..).trans ?_)
    | with_reducible split
    | with_reducible exact keep_upd rfl rfl rfl

theorem keep_objUnlock (o : Nat) (b : Block) : keep (objUnlock o b) = keep b := by
  unfold objUnlock
  repeat' first
    | with_reducible rfl
    | with_reducible refine (keep_modObj ..).trans ?_
    | with_reducible exact keep_upd rfl rfl rfl

theorem keep_releaseLocks (n : Nat) (b : Block) : keep (releaseLocks n b) = keep b := by
  unfold releaseLocks
  repeat' first
    | with_reducible rfl
    | with_reducible refine keep_ite_fst ?_ ?_
    | with_reducible refine keep_ite_snd ?_ ?_
    | with_reducible refine (keep_objUnlock ..).trans ?_
    | with_reducible (refine (keep_foldl_snd (fun _ _ => ?_) ..).trans ?_)
    | with_reducible (refine (keep_foldl_fst (fun _ _ => ?_) ..).trans ?_)
    | with_reducible (refine (keep_foldl (fun _ _ => ?_) ..).trans ?_)
    | with_reducible split
    | with_reducible exact keep_upd rfl rfl rfl

theorem keep_canFence (c : Nat) (b : Block) : keep (canFence c b) = keep b := by
  unfold canFence
  repeat' first
    | with_reducible rfl
    | with_reducible refine (keep_dropPending ..).trans ?_
    | with_reducible refine (keep_modCtl ..).trans ?_
    | with_reducible refine (keep_setCtlState ..).trans ?_
    | with_reducible exact keep_upd rfl rfl rfl
    | with_reducible dsimp only

theorem keep_canRole (old new : Nat) (b : Block) : keep (canRole old new b) = keep b := by
  unfold canRole
  repeat' first
    | with_reducible rfl
    | with_reducible refine keep_ite ?_ ?_
    | with_reducible refine (keep_dropPending ..).trans ?_
    | with_reducible refine (keep_modObj ..).trans ?_
    | with_reducible (refine (keep_foldl (fun _ _ => ?_) ..).trans ?_)
    | with_reducible split
    | with_reducible exact keep_upd rfl rfl rfl

/-! Resolve. -/

theorem keep_resolveEng (addr : Nat) (w : Sys2Proof.Word) (b : Block) : keep (resolveEng addr w b) = keep b := by
  unfold resolveEng
  repeat' first
    | with_reducible rfl
    | with_reducible refine keep_ite ?_ ?_
    | with_reducible refine (keep_fire ..).trans ?_
    | with_reducible refine (keep_modRng ..).trans ?_
    | with_reducible refine (keep_modTarget ..).trans ?_
    | with_reducible refine (keep_perf ..).trans ?_
    | with_reducible split
    | with_reducible exact keep_upd rfl rfl rfl
    | with_reducible dsimp only

/-! LpeBase. -/

theorem keep_modLpe (f : Lpe → Lpe) (b : Block) : keep (modLpe f b) = keep b := by
  unfold modLpe
  repeat' first
    | with_reducible rfl
    | with_reducible exact keep_upd rfl rfl rfl

theorem keep_modCtx (c : Nat) (f : LpeCtx → LpeCtx) (b : Block) : keep (modCtx c f b) = keep b := by
  unfold modCtx
  repeat' first
    | with_reducible rfl
    | with_reducible refine (keep_modLpe ..).trans ?_
    | with_reducible exact keep_upd rfl rfl rfl

theorem keep_modSlot (s : Nat) (f : TuneSlot → TuneSlot) (b : Block) : keep (modSlot s f b) = keep b := by
  unfold modSlot
  repeat' first
    | with_reducible rfl
    | with_reducible refine (keep_modLpe ..).trans ?_
    | with_reducible exact keep_upd rfl rfl rfl

theorem keep_setCtxState (c v : Nat) (b : Block) : keep (setCtxState c v b) = keep b := by
  unfold setCtxState
  repeat' first
    | with_reducible rfl
    | with_reducible refine keep_ite ?_ ?_
    | with_reducible refine (keep_fire ..).trans ?_
    | with_reducible refine (keep_modCtx ..).trans ?_
    | with_reducible split
    | with_reducible exact keep_upd rfl rfl rfl
    | with_reducible dsimp only

theorem keep_writeTarget (w : Sys2Proof.Word) (src : Nat) (loop : Bool) (v : Sys2Proof.Word) (b : Block) : keep (writeTarget w src loop v b) = keep b := by
  unfold writeTarget
  repeat' first
    | with_reducible rfl
    | with_reducible refine keep_ite ?_ ?_
    | with_reducible refine (keep_modCtx ..).trans ?_
    | with_reducible refine (keep_setCand ..).trans ?_
    | with_reducible split
    | with_reducible exact keep_upd rfl rfl rfl
    | with_reducible dsimp only

theorem keep_dropTarget (w : Sys2Proof.Word) (src : Nat) (b : Block) : keep (dropTarget w src b) = keep b := by
  unfold dropTarget
  repeat' first
    | with_reducible rfl
    | with_reducible refine (keep_dropCand ..).trans ?_
    | with_reducible refine (keep_modCtx ..).trans ?_
    | with_reducible split
    | with_reducible exact keep_upd rfl rfl rfl

theorem keep_writeOut (c : Nat) (v : Sys2Proof.Word) (b : Block) : keep (writeOut c v b) = keep b := by
  unfold writeOut
  repeat' first
    | with_reducible rfl
    | with_reducible refine (keep_writeTarget ..).trans ?_
    | with_reducible exact keep_upd rfl rfl rfl

theorem keep_dropOut (c : Nat) (b : Block) : keep (dropOut c b) = keep b := by
  unfold dropOut
  repeat' first
    | with_reducible rfl
    | with_reducible refine (keep_dropTarget ..).trans ?_
    | with_reducible exact keep_upd rfl rfl rfl

theorem keep_applyFail (c : Nat) (b : Block) : keep (applyFail c b) = keep b := by
  unfold applyFail
  repeat' first
    | with_reducible rfl
    | with_reducible refine (keep_dropOut ..).trans ?_
    | with_reducible refine (keep_writeOut ..).trans ?_
    | with_reducible split
    | with_reducible exact keep_upd rfl rfl rfl

theorem keep_failCtx (c : Nat) (b : Block) : keep (failCtx c b) = keep b := by
  unfold failCtx
  repeat' first
    | with_reducible rfl
    | with_reducible refine keep_ite ?_ ?_
    | with_reducible refine (keep_modCtx ..).trans ?_
    | with_reducible refine (keep_setCtxState ..).trans ?_
    | with_reducible split
    | with_reducible exact keep_upd rfl rfl rfl
    | with_reducible dsimp only

theorem keep_setSlotState (s v reason : Nat) (b : Block) : keep (setSlotState s v reason b) = keep b := by
  unfold setSlotState
  repeat' first
    | with_reducible rfl
    | with_reducible refine keep_ite ?_ ?_
    | with_reducible refine (keep_fire ..).trans ?_
    | with_reducible refine (keep_modSlot ..).trans ?_
    | with_reducible split
    | with_reducible exact keep_upd rfl rfl rfl
    | with_reducible dsimp only

theorem keep_failTune (s reason : Nat) (b : Block) : keep (failTune s reason b) = keep b := by
  unfold failTune
  repeat' first
    | with_reducible rfl
    | with_reducible refine keep_ite ?_ ?_
    | with_reducible refine (keep_modCtx ..).trans ?_
    | with_reducible refine (keep_setSlotState ..).trans ?_
    | with_reducible split
    | with_reducible exact keep_upd rfl rfl rfl
    | with_reducible dsimp only

theorem keep_idleCtx (c : Nat) (b : Block) : keep (idleCtx c b) = keep b := by
  unfold idleCtx
  repeat' first
    | with_reducible rfl
    | with_reducible refine (keep_dropOut ..).trans ?_
    | with_reducible refine (keep_modCtx ..).trans ?_
    | with_reducible refine (keep_setCtxState ..).trans ?_
    | with_reducible exact keep_upd rfl rfl rfl

theorem keep_lpeRole (old new : Nat) (b : Block) : keep (lpeRole old new b) = keep b := by
  unfold lpeRole
  repeat' first
    | with_reducible rfl
    | with_reducible refine keep_ite ?_ ?_
    | with_reducible refine (keep_failTune ..).trans ?_
    | with_reducible refine (keep_idleCtx ..).trans ?_
    | with_reducible refine (keep_setCtxState ..).trans ?_
    | with_reducible (refine (keep_foldl (fun _ _ => ?_) ..).trans ?_)
    | with_reducible split
    | with_reducible exact keep_upd rfl rfl rfl

theorem keep_laneFence (p : Nat) (b : Block) : keep (laneFence p b) = keep b := by
  unfold laneFence
  repeat' first
    | with_reducible rfl
    | with_reducible refine (keep_failCtx ..).trans ?_
    | with_reducible refine (keep_fire ..).trans ?_
    | with_reducible refine (keep_modCtx ..).trans ?_
    | with_reducible refine (keep_modLpe ..).trans ?_
    | with_reducible (refine (keep_foldl (fun _ _ => ?_) ..).trans ?_)
    | with_reducible split
    | with_reducible exact keep_upd rfl rfl rfl
    | with_reducible dsimp only

theorem keep_safeLoops (g : Nat) (b : Block) : keep (safeLoops g b) = keep b := by
  unfold safeLoops
  repeat' first
    | with_reducible rfl
    | with_reducible refine (keep_failCtx ..).trans ?_
    | with_reducible (refine (keep_foldl (fun _ _ => ?_) ..).trans ?_)
    | with_reducible exact keep_upd rfl rfl rfl

theorem keep_safeLoopLane (p : Nat) (b : Block) : keep (safeLoopLane p b) = keep b := by
  unfold safeLoopLane
  repeat' first
    | with_reducible rfl
    | with_reducible refine (keep_failCtx ..).trans ?_
    | with_reducible (refine (keep_foldl (fun _ _ => ?_) ..).trans ?_)
    | with_reducible exact keep_upd rfl rfl rfl

theorem keep_laneMap (b : Block) : keep (laneMap b) = keep b := by
  unfold laneMap
  repeat' first
    | with_reducible rfl
    | with_reducible refine (keep_modLpe ..).trans ?_
    | with_reducible (refine (keep_foldl (fun _ _ => ?_) ..).trans ?_)
    | with_reducible split
    | with_reducible exact keep_upd rfl rfl rfl
    | with_reducible dsimp only

theorem keep_startCtx (c : Nat) (b : Block) : keep (startCtx c b) = keep b := by
  unfold startCtx
  repeat' first
    | with_reducible rfl
    | with_reducible refine (keep_modCtx ..).trans ?_
    | with_reducible exact keep_upd rfl rfl rfl

theorem keep_carryCtx (old : Block) (c : Nat) (b : Block) : keep (carryCtx old c b) = keep b := by
  unfold carryCtx
  repeat' first
    | with_reducible rfl
    | with_reducible refine keep_ite ?_ ?_
    | with_reducible refine (keep_modCtx ..).trans ?_
    | with_reducible refine (keep_setCtxState ..).trans ?_
    | with_reducible split
    | with_reducible exact keep_upd rfl rfl rfl
    | with_reducible dsimp only

theorem keep_lpeBank (old b : Block) : keep (lpeBank old b) = keep b := by
  unfold lpeBank
  repeat' first
    | with_reducible rfl
    | with_reducible refine keep_ite ?_ ?_
    | with_reducible refine (keep_carryCtx ..).trans ?_
    | with_reducible refine (keep_failCtx ..).trans ?_
    | with_reducible refine (keep_failTune ..).trans ?_
    | with_reducible refine (keep_laneMap ..).trans ?_
    | with_reducible refine (keep_modCtx ..).trans ?_
    | with_reducible refine (keep_modLpe ..).trans ?_
    | with_reducible refine (keep_modTarget ..).trans ?_
    | with_reducible refine (keep_setCtxState ..).trans ?_
    | with_reducible refine (keep_startCtx ..).trans ?_
    | with_reducible (refine (keep_foldl (fun _ _ => ?_) ..).trans ?_)
    | with_reducible split
    | with_reducible exact keep_upd rfl rfl rfl
    | with_reducible dsimp only

/-! DpBase. -/

theorem keep_modDp (f : Dp → Dp) (b : Block) : keep (modDp f b) = keep b := by
  unfold modDp
  repeat' first
    | with_reducible rfl
    | with_reducible exact keep_upd rfl rfl rfl

theorem keep_modDpSlot (s : Nat) (f : DpSlot → DpSlot) (b : Block) : keep (modDpSlot s f b) = keep b := by
  unfold modDpSlot
  repeat' first
    | with_reducible rfl
    | with_reducible refine (keep_modDp ..).trans ?_
    | with_reducible exact keep_upd rfl rfl rfl

theorem keep_modThr (n : Nat) (f : DpThr → DpThr) (b : Block) : keep (modThr n f b) = keep b := by
  unfold modThr
  repeat' first
    | with_reducible rfl
    | with_reducible refine (keep_modDp ..).trans ?_
    | with_reducible exact keep_upd rfl rfl rfl

theorem keep_modGrp (g : Nat) (f : DpResult → DpResult) (b : Block) : keep (modGrp g f b) = keep b := by
  unfold modGrp
  repeat' first
    | with_reducible rfl
    | with_reducible refine (keep_modDp ..).trans ?_
    | with_reducible exact keep_upd rfl rfl rfl

theorem keep_slotPush (s rx arr : Nat) (b : Block) : keep (slotPush s rx arr b) = keep b := by
  unfold slotPush
  repeat' first
    | with_reducible rfl
    | with_reducible refine keep_ite ?_ ?_
    | with_reducible refine (keep_modDpSlot ..).trans ?_
    | with_reducible split
    | with_reducible exact keep_upd rfl rfl rfl
    | with_reducible dsimp only

theorem keep_dpFeed (unit : Nat × Nat) (rx arr : Nat) (b : Block) : keep (dpFeed unit rx arr b) = keep b := by
  unfold dpFeed
  repeat' first
    | with_reducible rfl
    | with_reducible refine keep_ite ?_ ?_
    | with_reducible refine (keep_slotPush ..).trans ?_
    | with_reducible (refine (keep_foldl (fun _ _ => ?_) ..).trans ?_)
    | with_reducible split
    | with_reducible exact keep_upd rfl rfl rfl

theorem keep_dpFeedChan (n t : Nat) (b : Block) : keep (dpFeedChan n t b) = keep b := by
  unfold dpFeedChan
  repeat' first
    | with_reducible rfl
    | with_reducible refine keep_ite ?_ ?_
    | with_reducible refine (keep_slotPush ..).trans ?_
    | with_reducible (refine (keep_foldl (fun _ _ => ?_) ..).trans ?_)
    | with_reducible split
    | with_reducible exact keep_upd rfl rfl rfl
    | with_reducible dsimp only

theorem keep_setDpState (v cause : Nat) (b : Block) : keep (setDpState v cause b) = keep b := by
  unfold setDpState
  repeat' first
    | with_reducible rfl
    | with_reducible refine keep_ite ?_ ?_
    | with_reducible refine (keep_fire ..).trans ?_
    | with_reducible refine (keep_modDp ..).trans ?_
    | with_reducible split
    | with_reducible exact keep_upd rfl rfl rfl

theorem keep_setEst (v : Nat) (b : Block) : keep (setEst v b) = keep b := by
  unfold setEst
  repeat' first
    | with_reducible rfl
    | with_reducible refine keep_ite ?_ ?_
    | with_reducible refine (keep_fire ..).trans ?_
    | with_reducible refine (keep_modDp ..).trans ?_
    | with_reducible split
    | with_reducible exact keep_upd rfl rfl rfl

theorem keep_dropThr (n : Nat) (b : Block) : keep (dropThr n b) = keep b := by
  unfold dropThr
  repeat' first
    | with_reducible rfl
    | with_reducible refine (keep_dropTarget ..).trans ?_
    | with_reducible exact keep_upd rfl rfl rfl

theorem keep_dropThrs (b : Block) : keep (dropThrs b) = keep b := by
  unfold dropThrs
  repeat' first
    | with_reducible rfl
    | with_reducible refine (keep_dropThr ..).trans ?_
    | with_reducible refine (keep_modThr ..).trans ?_
    | with_reducible (refine (keep_foldl (fun _ _ => ?_) ..).trans ?_)
    | with_reducible exact keep_upd rfl rfl rfl

theorem keep_setFusion (v cause : Nat) (b : Block) : keep (setFusion v cause b) = keep b := by
  unfold setFusion
  repeat' first
    | with_reducible rfl
    | with_reducible refine keep_ite ?_ ?_
    | with_reducible refine (keep_fire ..).trans ?_
    | with_reducible refine (keep_modDp ..).trans ?_
    | with_reducible refine (keep_modTarget ..).trans ?_
    | with_reducible split
    | with_reducible exact keep_upd rfl rfl rfl
    | with_reducible dsimp only

theorem keep_slotShow (s : Nat) (b : Block) : keep (slotShow s b) = keep b := by
  unfold slotShow
  repeat' first
    | with_reducible rfl
    | with_reducible refine (keep_fireIf ..).trans ?_
    | with_reducible refine (keep_modDpSlot ..).trans ?_
    | with_reducible exact keep_upd rfl rfl rfl
    | with_reducible dsimp only

theorem keep_setOrigin (lat lon : Word) (b : Block) : keep (setOrigin lat lon b) = keep b := by
  unfold setOrigin
  split
  exact keep_modDp ..


theorem keep_slotFresh (s : Nat) (b : Block) : keep (slotFresh s b) = keep b := by
  unfold slotFresh
  repeat' first
    | with_reducible rfl
    | with_reducible refine (keep_modDpSlot ..).trans ?_
    | with_reducible refine (keep_slotShow ..).trans ?_
    | with_reducible exact keep_upd rfl rfl rfl

theorem keep_slotsFresh (b : Block) : keep (slotsFresh b) = keep b := by
  unfold slotsFresh
  repeat' first
    | with_reducible rfl
    | with_reducible refine (keep_slotFresh ..).trans ?_
    | with_reducible (refine (keep_foldl (fun _ _ => ?_) ..).trans ?_)
    | with_reducible exact keep_upd rfl rfl rfl

theorem keep_thrLost (n : Nat) (b : Block) : keep (thrLost n b) = keep b := by
  unfold thrLost
  repeat' first
    | with_reducible rfl
    | with_reducible refine keep_ite ?_ ?_
    | with_reducible refine (keep_fire ..).trans ?_
    | with_reducible refine (keep_modThr ..).trans ?_
    | with_reducible split
    | with_reducible exact keep_upd rfl rfl rfl

theorem keep_verdictEvent (g old new : Nat) (b : Block) : keep (verdictEvent g old new b) = keep b := by
  unfold verdictEvent
  repeat' first
    | with_reducible rfl
    | with_reducible refine (keep_fireIf ..).trans ?_
    | with_reducible exact keep_upd rfl rfl rfl

theorem keep_verdictsGo (b : Block) : keep (verdictsGo b) = keep b := by
  unfold verdictsGo
  repeat' first
    | with_reducible rfl
    | with_reducible refine (keep_fireIf ..).trans ?_
    | with_reducible refine (keep_modDp ..).trans ?_
    | with_reducible refine (keep_verdictEvent ..).trans ?_
    | with_reducible (refine (keep_foldl (fun _ _ => ?_) ..).trans ?_)
    | with_reducible exact keep_upd rfl rfl rfl
    | with_reducible dsimp only

theorem keep_dpStop (cause : Nat) (b : Block) : keep (dpStop cause b) = keep b := by
  unfold dpStop
  repeat' first
    | with_reducible rfl
    | with_reducible refine (keep_dropThrs ..).trans ?_
    | with_reducible refine (keep_modDp ..).trans ?_
    | with_reducible refine (keep_setDpState ..).trans ?_
    | with_reducible refine (keep_setEst ..).trans ?_
    | with_reducible refine (keep_thrLost ..).trans ?_
    | with_reducible refine (keep_verdictsGo ..).trans ?_
    | with_reducible (refine (keep_foldl (fun _ _ => ?_) ..).trans ?_)
    | with_reducible exact keep_upd rfl rfl rfl
    | with_reducible dsimp only

theorem keep_dpSeedTake (b : Block) : keep (dpSeedTake b) = keep b := by
  unfold dpSeedTake
  repeat' first
    | with_reducible rfl
    | with_reducible refine (keep_modDp ..).trans ?_
    | with_reducible exact keep_upd rfl rfl rfl

theorem keep_dpStart (cause fusion : Nat) (b : Block) : keep (dpStart cause fusion b) = keep b := by
  unfold dpStart
  repeat' first
    | with_reducible rfl
    | with_reducible refine keep_ite_fst ?_ ?_
    | with_reducible refine keep_ite_snd ?_ ?_
    | with_reducible refine (keep_dpSeedTake ..).trans ?_
    | with_reducible refine (keep_modTarget ..).trans ?_
    | with_reducible refine (keep_setDpState ..).trans ?_
    | with_reducible refine (keep_setFusion ..).trans ?_
    | with_reducible refine (keep_setOrigin ..).trans ?_
    | with_reducible refine (keep_slotsFresh ..).trans ?_
    | with_reducible (refine (keep_foldl_snd (fun _ _ => ?_) ..).trans ?_)
    | with_reducible (refine (keep_foldl_fst (fun _ _ => ?_) ..).trans ?_)
    | with_reducible (refine (keep_foldl (fun _ _ => ?_) ..).trans ?_)
    | with_reducible exact keep_upd rfl rfl rfl
    | with_reducible dsimp only

theorem keep_dpRole (old new : Nat) (b : Block) : keep (dpRole old new b) = keep b := by
  unfold dpRole
  repeat' first
    | with_reducible rfl
    | with_reducible refine keep_ite ?_ ?_
    | with_reducible refine (keep_dpStart ..).trans ?_
    | with_reducible refine (keep_dpStop ..).trans ?_
    | with_reducible split
    | with_reducible exact keep_upd rfl rfl rfl

theorem keep_dpBank (old b : Block) : keep (dpBank old b) = keep b := by
  unfold dpBank
  repeat' first
    | with_reducible rfl
    | with_reducible refine keep_ite_fst ?_ ?_
    | with_reducible refine keep_ite_snd ?_ ?_
    | with_reducible refine keep_ite ?_ ?_
    | with_reducible refine (keep_dpStart ..).trans ?_
    | with_reducible refine (keep_dpStop ..).trans ?_
    | with_reducible refine (keep_modDp ..).trans ?_
    | with_reducible refine (keep_modTarget ..).trans ?_
    | with_reducible refine (keep_setFusion ..).trans ?_
    | with_reducible refine (keep_setOrigin ..).trans ?_
    | with_reducible refine (keep_slotsFresh ..).trans ?_
    | with_reducible refine (keep_thrLost ..).trans ?_
    | with_reducible (refine (keep_foldl_snd (fun _ _ => ?_) ..).trans ?_)
    | with_reducible (refine (keep_foldl_fst (fun _ _ => ?_) ..).trans ?_)
    | with_reducible (refine (keep_foldl (fun _ _ => ?_) ..).trans ?_)
    | with_reducible split
    | with_reducible exact keep_upd rfl rfl rfl
    | with_reducible dsimp only

theorem keep_dpSafe (b : Block) : keep (dpSafe b) = keep b := by
  unfold dpSafe
  repeat' first
    | with_reducible rfl
    | with_reducible refine keep_ite ?_ ?_
    | with_reducible refine (keep_modDp ..).trans ?_
    | with_reducible split
    | with_reducible exact keep_upd rfl rfl rfl

theorem keep_solverMove (lu l : Nat) (b : Block) : keep (solverMove lu l b) = keep b := by
  unfold solverMove
  repeat' first
    | with_reducible rfl
    | with_reducible refine (keep_modDp ..).trans ?_
    | with_reducible split
    | with_reducible exact keep_upd rfl rfl rfl

theorem keep_solverRemap (b : Block) : keep (solverRemap b) = keep b := by
  unfold solverRemap
  repeat' first
    | with_reducible rfl
    | with_reducible refine keep_ite ?_ ?_
    | with_reducible refine (keep_solverMove ..).trans ?_
    | with_reducible (refine (keep_foldl (fun _ _ => ?_) ..).trans ?_)
    | with_reducible split
    | with_reducible exact keep_upd rfl rfl rfl

theorem keep_intactAgain (p : Nat) (b : Block) : keep (intactAgain p b) = keep b := by
  unfold intactAgain
  repeat' first
    | with_reducible rfl
    | with_reducible refine keep_ite ?_ ?_
    | with_reducible refine (keep_modDp ..).trans ?_
    | with_reducible split
    | with_reducible exact keep_upd rfl rfl rfl
    | with_reducible dsimp only

theorem keep_groupsAgain (p : Nat) (b : Block) : keep (groupsAgain p b) = keep b := by
  unfold groupsAgain
  repeat' first
    | with_reducible rfl
    | with_reducible refine (keep_modDp ..).trans ?_
    | with_reducible (refine (keep_foldl (fun _ _ => ?_) ..).trans ?_)
    | with_reducible exact keep_upd rfl rfl rfl
    | with_reducible dsimp only

theorem keep_solverFence (p : Nat) (b : Block) : keep (solverFence p b) = keep b := by
  unfold solverFence
  repeat' first
    | with_reducible rfl
    | with_reducible refine keep_ite ?_ ?_
    | with_reducible refine (keep_fire ..).trans ?_
    | with_reducible refine (keep_groupsAgain ..).trans ?_
    | with_reducible refine (keep_intactAgain ..).trans ?_
    | with_reducible refine (keep_solverMove ..).trans ?_
    | with_reducible split
    | with_reducible exact keep_upd rfl rfl rfl
    | with_reducible dsimp only

/-! EthBase. -/

theorem keep_modNet (n : Nat) (f : Net → Net) (b : Block) : keep (modNet n f b) = keep b := by
  unfold modNet
  repeat' first
    | with_reducible rfl
    | with_reducible refine (keep_modEth ..).trans ?_
    | with_reducible exact keep_upd rfl rfl rfl

theorem keep_modStream (j : Nat) (f : Stream → Stream) (b : Block) : keep (modStream j f b) = keep b := by
  unfold modStream
  repeat' first
    | with_reducible rfl
    | with_reducible refine (keep_modEth ..).trans ?_
    | with_reducible exact keep_upd rfl rfl rfl

theorem keep_modTd (k : Nat) (f : Datagram → Datagram) (b : Block) : keep (modTd k f b) = keep b := by
  unfold modTd
  repeat' first
    | with_reducible rfl
    | with_reducible refine (keep_modEth ..).trans ?_
    | with_reducible exact keep_upd rfl rfl rfl

theorem keep_netLatch (n i : Nat) (b : Block) : keep (netLatch n i b) = keep b := by
  unfold netLatch
  repeat' first
    | with_reducible rfl
    | with_reducible refine (keep_fireIf ..).trans ?_
    | with_reducible refine (keep_markBit ..).trans ?_
    | with_reducible refine (keep_modNet ..).trans ?_
    | with_reducible exact keep_upd rfl rfl rfl
    | with_reducible dsimp only

theorem keep_ethSend (n : Nat) (f : List Sys2Proof.Byte) (b : Block) : keep (ethSend n f b) = keep b := by
  unfold ethSend
  repeat' first
    | with_reducible rfl
    | with_reducible refine keep_ite ?_ ?_
    | with_reducible refine (keep_emit ..).trans ?_
    | with_reducible refine (keep_modNet ..).trans ?_
    | with_reducible (refine (keep_foldl (fun _ _ => ?_) ..).trans ?_)
    | with_reducible split
    | with_reducible exact keep_upd rfl rfl rfl
    | with_reducible dsimp only

theorem keep_ethSendOwn (n kind arg : Nat) (b : Block) : keep (ethSendOwn n kind arg b) = keep b := by
  unfold ethSendOwn
  repeat' first
    | with_reducible rfl
    | with_reducible refine keep_ite ?_ ?_
    | with_reducible refine (keep_emit ..).trans ?_
    | with_reducible refine (keep_modNet ..).trans ?_
    | with_reducible (refine (keep_foldl (fun _ _ => ?_) ..).trans ?_)
    | with_reducible split
    | with_reducible exact keep_upd rfl rfl rfl
    | with_reducible dsimp only

theorem keep_igmpReports (n : Nat) (gs : List Nat) (b : Block) : keep (igmpReports n gs b) = keep b := by
  unfold igmpReports
  repeat' first
    | with_reducible rfl
    | with_reducible refine (keep_ethSendOwn ..).trans ?_
    | with_reducible (refine (keep_foldl (fun _ _ => ?_) ..).trans ?_)
    | with_reducible exact keep_upd rfl rfl rfl

theorem keep_ethFlush (n : Nat) (b : Block) : keep (ethFlush n b) = keep b := by
  unfold ethFlush
  repeat' first
    | with_reducible rfl
    | with_reducible refine (keep_completeWith ..).trans ?_
    | with_reducible refine (keep_modNet ..).trans ?_
    | with_reducible (refine (keep_foldl (fun _ _ => ?_) ..).trans ?_)
    | with_reducible split
    | with_reducible exact keep_upd rfl rfl rfl
    | with_reducible dsimp only

theorem keep_ethFence (p : Nat) (b : Block) : keep (ethFence p b) = keep b := by
  unfold ethFence
  repeat' first
    | with_reducible rfl
    | with_reducible refine keep_ite ?_ ?_
    | with_reducible refine (keep_ethFlush ..).trans ?_
    | with_reducible refine (keep_modNet ..).trans ?_
    | with_reducible refine (keep_netLatch ..).trans ?_
    | with_reducible split
    | with_reducible exact keep_upd rfl rfl rfl
    | with_reducible dsimp only

theorem keep_ethFailMtx (b : Block) : keep (ethFailMtx b) = keep b := by
  unfold ethFailMtx
  repeat' first
    | with_reducible rfl
    | with_reducible refine (keep_completeWith ..).trans ?_
    | with_reducible (refine (keep_foldl (fun _ _ => ?_) ..).trans ?_)
    | with_reducible exact keep_upd rfl rfl rfl
    | with_reducible dsimp only

theorem keep_ethRole (old new : Nat) (b : Block) : keep (ethRole old new b) = keep b := by
  unfold ethRole
  repeat' first
    | with_reducible rfl
    | with_reducible refine keep_ite ?_ ?_
    | with_reducible refine (keep_ethFailMtx ..).trans ?_
    | with_reducible refine (keep_igmpReports ..).trans ?_
    | with_reducible refine (keep_modEth ..).trans ?_
    | with_reducible (refine (keep_foldl (fun _ _ => ?_) ..).trans ?_)
    | with_reducible split
    | with_reducible exact keep_upd rfl rfl rfl

/-! SerBase. -/

theorem keep_modSer (f : Ser → Ser) (b : Block) : keep (modSer f b) = keep b := by
  unfold modSer
  repeat' first
    | with_reducible rfl
    | with_reducible exact keep_upd rfl rfl rfl

theorem keep_modSerPort (p : Nat) (f : SerPort → SerPort) (b : Block) : keep (modSerPort p f b) = keep b := by
  unfold modSerPort
  repeat' first
    | with_reducible rfl
    | with_reducible refine (keep_modSer ..).trans ?_
    | with_reducible exact keep_upd rfl rfl rfl

theorem keep_serLatch (p i : Nat) (b : Block) : keep (serLatch p i b) = keep b := by
  unfold serLatch
  repeat' first
    | with_reducible rfl
    | with_reducible refine (keep_fireIf ..).trans ?_
    | with_reducible refine (keep_markBit ..).trans ?_
    | with_reducible refine (keep_modSerPort ..).trans ?_
    | with_reducible exact keep_upd rfl rfl rfl
    | with_reducible dsimp only

theorem keep_serTxEnds (p start : Nat) (b : Block) : keep (serTxEnds p start b) = keep b := by
  unfold serTxEnds
  repeat' first
    | with_reducible rfl
    | with_reducible refine (keep_modSerPort ..).trans ?_
    | with_reducible exact keep_upd rfl rfl rfl

theorem keep_serDropTx (p : Nat) (b : Block) : keep (serDropTx p b) = keep b := by
  unfold serDropTx
  repeat' first
    | with_reducible rfl
    | with_reducible refine (keep_completeWith ..).trans ?_
    | with_reducible refine (keep_serTxEnds ..).trans ?_
    | with_reducible split
    | with_reducible exact keep_upd rfl rfl rfl
    | with_reducible dsimp only

/-! RingBase. -/

theorem keep_withdrawRing (n : Nat) (b : Block) : keep (withdrawRing n b) = keep b := by
  unfold withdrawRing
  repeat' first
    | with_reducible rfl
    | with_reducible refine (keep_modRng ..).trans ?_
    | with_reducible exact keep_upd rfl rfl rfl

theorem keep_discardStaged (k n : Nat) (b : Block) : keep (discardStaged k n b) = keep b := by
  unfold discardStaged
  repeat' first
    | with_reducible rfl
    | with_reducible refine (keep_modRing ..).trans ?_
    | with_reducible (refine (keep_foldl (fun _ _ => ?_) ..).trans ?_)
    | with_reducible exact keep_upd rfl rfl rfl
    | with_reducible dsimp only

theorem keep_detachRing (n : Nat) (b : Block) : keep (detachRing n b) = keep b := by
  unfold detachRing
  repeat' first
    | with_reducible rfl
    | with_reducible refine keep_ite ?_ ?_
    | with_reducible split
    | with_reducible exact keep_upd rfl rfl rfl
    | with_reducible dsimp only

theorem keep_unreserve (c : Nat) (b : Block) : keep (unreserve c b) = keep b := by
  unfold unreserve
  repeat' first
    | with_reducible rfl
    | with_reducible refine keep_ite ?_ ?_
    | with_reducible refine (keep_modRng ..).trans ?_
    | with_reducible split
    | with_reducible exact keep_upd rfl rfl rfl

theorem keep_ringDown (n : Nat) (b : Block) : keep (ringDown n b) = keep b := by
  unfold ringDown
  repeat' first
    | with_reducible rfl
    | with_reducible refine keep_ite ?_ ?_
    | with_reducible refine (keep_detachRing ..).trans ?_
    | with_reducible refine (keep_discardStaged ..).trans ?_
    | with_reducible refine (keep_modRing ..).trans ?_
    | with_reducible refine (keep_releaseLocks ..).trans ?_
    | with_reducible refine (keep_unreserve ..).trans ?_
    | with_reducible refine (keep_withdrawRing ..).trans ?_
    | with_reducible split
    | with_reducible exact keep_upd rfl rfl rfl
    | with_reducible dsimp only

theorem keep_ringDisable (n : Nat) (b : Block) : keep (ringDisable n b) = keep b := by
  unfold ringDisable
  repeat' first
    | with_reducible rfl
    | with_reducible refine (keep_detachRing ..).trans ?_
    | with_reducible refine (keep_modRing ..).trans ?_
    | with_reducible exact keep_upd rfl rfl rfl

theorem keep_ringSettle (n : Nat) (b : Block) : keep (ringSettle n b) = keep b := by
  unfold ringSettle
  repeat' first
    | with_reducible rfl
    | with_reducible refine keep_ite ?_ ?_
    | with_reducible refine (keep_ringDisable ..).trans ?_
    | with_reducible split
    | with_reducible exact keep_upd rfl rfl rfl

theorem keep_fireLink (l : Nat) (b : Block) : keep (fireLink l b) = keep b := by
  unfold fireLink
  repeat' first
    | with_reducible rfl
    | with_reducible refine (keep_fire ..).trans ?_
    | with_reducible exact keep_upd rfl rfl rfl

theorem keep_linkDown (l : Nat) (b : Block) : keep (linkDown l b) = keep b := by
  unfold linkDown
  repeat' first
    | with_reducible rfl
    | with_reducible refine keep_ite ?_ ?_
    | with_reducible refine (keep_fireLink ..).trans ?_
    | with_reducible refine (keep_modLink ..).trans ?_
    | with_reducible refine (keep_ringDown ..).trans ?_
    | with_reducible (refine (keep_foldl (fun _ _ => ?_) ..).trans ?_)
    | with_reducible split
    | with_reducible exact keep_upd rfl rfl rfl
    | with_reducible dsimp only

/-! Hooks. -/

theorem keep_dspBreak (b : Block) : keep (dspBreak b) = keep b := by
  unfold dspBreak
  repeat' first
    | with_reducible rfl
    | with_reducible refine keep_ite ?_ ?_
    | with_reducible refine (keep_modDsp ..).trans ?_
    | with_reducible split
    | with_reducible exact keep_upd rfl rfl rfl

theorem keep_dspFence (b : Block) : keep (dspFence b) = keep b := by
  unfold dspFence
  repeat' first
    | with_reducible rfl
    | with_reducible refine keep_ite ?_ ?_
    | with_reducible refine (keep_dspBreak ..).trans ?_
    | with_reducible refine (keep_modDsp ..).trans ?_
    | with_reducible split
    | with_reducible exact keep_upd rfl rfl rfl

theorem keep_recFence (tile : Nat) (b : Block) : keep (recFence tile b) = keep b := by
  unfold recFence
  repeat' first
    | with_reducible rfl
    | with_reducible refine keep_ite ?_ ?_
    | with_reducible refine (keep_fire ..).trans ?_
    | with_reducible refine (keep_markBit ..).trans ?_
    | with_reducible refine (keep_modRec ..).trans ?_
    | with_reducible (refine (keep_foldl (fun _ _ => ?_) ..).trans ?_)
    | with_reducible split
    | with_reducible exact keep_upd rfl rfl rfl
    | with_reducible dsimp only

theorem keep_unitsOnRole (old new : Nat) (b : Block) : keep (unitsOnRole old new b) = keep b := by
  unfold unitsOnRole
  repeat' first
    | with_reducible rfl
    | with_reducible refine (keep_canRole ..).trans ?_
    | with_reducible refine (keep_chnRole ..).trans ?_
    | with_reducible refine (keep_dpRole ..).trans ?_
    | with_reducible refine (keep_ethRole ..).trans ?_
    | with_reducible refine (keep_lpeRole ..).trans ?_
    | with_reducible exact keep_upd rfl rfl rfl

theorem keep_unitsOnFence (u : FUnit) (b : Block) : keep (unitsOnFence u b) = keep b := by
  unfold unitsOnFence
  repeat' first
    | with_reducible rfl
    | with_reducible refine keep_ite ?_ ?_
    | with_reducible refine (keep_canFence ..).trans ?_
    | with_reducible refine (keep_chnFence ..).trans ?_
    | with_reducible refine (keep_dspFence ..).trans ?_
    | with_reducible refine (keep_ethFence ..).trans ?_
    | with_reducible refine (keep_fireIf ..).trans ?_
    | with_reducible refine (keep_hartFence ..).trans ?_
    | with_reducible refine (keep_laneFence ..).trans ?_
    | with_reducible refine (keep_linkDown ..).trans ?_
    | with_reducible refine (keep_recFence ..).trans ?_
    | with_reducible refine (keep_serDropTx ..).trans ?_
    | with_reducible refine (keep_solverFence ..).trans ?_
    | with_reducible split
    | with_reducible exact keep_upd rfl rfl rfl
    | with_reducible dsimp only

theorem keep_unitsOnSafe (u : UnitReaction) (b : Block) : keep (unitsOnSafe u b) = keep b := by
  unfold unitsOnSafe
  repeat' first
    | with_reducible rfl
    | with_reducible refine (keep_dpSafe ..).trans ?_
    | with_reducible refine (keep_modImage ..).trans ?_
    | with_reducible refine (keep_safeLoopLane ..).trans ?_
    | with_reducible refine (keep_safeLoops ..).trans ?_
    | with_reducible split
    | with_reducible exact keep_upd rfl rfl rfl

/-! Ops. -/

theorem keep_cancelSwitch (b : Block) : keep (cancelSwitch b) = keep b := by
  unfold cancelSwitch
  repeat' first
    | with_reducible rfl
    | with_reducible refine keep_ite ?_ ?_
    | with_reducible refine (keep_modGlb _ _ (fun _ => ?_)).trans ?_
    | with_reducible exact ⟨rfl, rfl, rfl, rfl⟩
    | with_reducible split
    | with_reducible exact keep_upd rfl rfl rfl

theorem keep_cancelHandover (reason : Nat) (b : Block) : keep (cancelHandover reason b) = keep b := by
  unfold cancelHandover
  repeat' first
    | with_reducible rfl
    | with_reducible refine (keep_completeWith ..).trans ?_
    | with_reducible refine (keep_fire ..).trans ?_
    | with_reducible refine (keep_modPtn ..).trans ?_
    | with_reducible split
    | with_reducible exact keep_upd rfl rfl rfl
    | with_reducible dsimp only

theorem keep_setPower (v : Nat) (b : Block) : keep (setPower v b) = keep b := by
  unfold setPower
  repeat' first
    | with_reducible rfl
    | with_reducible refine keep_ite ?_ ?_
    | with_reducible refine (keep_fire ..).trans ?_
    | with_reducible refine (keep_modSec _ _ (fun _ => ?_)).trans ?_
    | with_reducible exact ⟨rfl, rfl, rfl⟩
    | with_reducible split
    | with_reducible exact keep_upd rfl rfl rfl
    | with_reducible dsimp only

theorem keep_updatePower (b : Block) : keep (updatePower b) = keep b := by
  unfold updatePower
  repeat' first
    | with_reducible rfl
    | with_reducible refine keep_ite ?_ ?_
    | with_reducible refine (keep_setPower ..).trans ?_
    | with_reducible split
    | with_reducible exact keep_upd rfl rfl rfl

theorem keep_setRole (role cause : Nat) (b : Block) : keep (setRole role cause b) = keep b := by
  unfold setRole
  repeat' first
    | with_reducible rfl
    | with_reducible refine keep_ite ?_ ?_
    | with_reducible refine (keep_cancelHandover ..).trans ?_
    | with_reducible refine (keep_cancelSwitch ..).trans ?_
    | with_reducible refine (keep_fireIf ..).trans ?_
    | with_reducible refine (keep_modDsp ..).trans ?_
    | with_reducible refine (keep_modPtn ..).trans ?_
    | with_reducible refine (keep_unitsOnRole ..).trans ?_
    | with_reducible refine (keep_updatePower ..).trans ?_
    | with_reducible split
    | with_reducible exact keep_upd rfl rfl rfl
    | with_reducible dsimp only

theorem keep_isolate (source : Nat) (b : Block) : keep (isolate source b) = keep b := by
  unfold isolate
  repeat' first
    | with_reducible rfl
    | with_reducible refine keep_ite ?_ ?_
    | with_reducible refine (keep_fire ..).trans ?_
    | with_reducible refine (keep_modFlt ..).trans ?_
    | with_reducible refine (keep_setRole ..).trans ?_
    | with_reducible split
    | with_reducible exact keep_upd rfl rfl rfl
    | with_reducible dsimp only

/-! Fault. -/

theorem keep_applyFence (u : FUnit) (l : Sys2Proof.Word) (b : Block) : keep (applyFence u l b) = keep b := by
  unfold applyFence
  repeat' first
    | with_reducible rfl
    | with_reducible refine keep_ite ?_ ?_
    | with_reducible refine (keep_fire ..).trans ?_
    | with_reducible refine (keep_modFlt ..).trans ?_
    | with_reducible refine (keep_unitsOnFence ..).trans ?_
    | with_reducible split
    | with_reducible exact keep_upd rfl rfl rfl
    | with_reducible dsimp only

theorem keep_applyReaction (r source act : Nat) (l : Sys2Proof.Word) (b : Block) : keep (applyReaction r source act l b) = keep b := by
  unfold applyReaction
  repeat' first
    | with_reducible rfl
    | with_reducible refine keep_ite ?_ ?_
    | with_reducible refine (keep_applyFence ..).trans ?_
    | with_reducible refine (keep_isolate ..).trans ?_
    | with_reducible refine (keep_safFail ..).trans ?_
    | with_reducible refine (keep_unitsOnSafe ..).trans ?_
    | with_reducible split
    | with_reducible exact keep_upd rfl rfl rfl
    | with_reducible dsimp only

theorem keep_openRecord (source act : Nat) (l : Sys2Proof.Word) (persistent forced : Bool) (r : Nat) (b : Block) : keep (openRecord source act l persistent forced r b) = keep b := by
  unfold openRecord
  repeat' first
    | with_reducible rfl
    | with_reducible refine (keep_fire ..).trans ?_
    | with_reducible refine (keep_modFlt ..).trans ?_
    | with_reducible split
    | with_reducible exact keep_upd rfl rfl rfl
    | with_reducible dsimp only

theorem keep_mergeRecord (s source act : Nat) (l : Sys2Proof.Word) (persistent forced : Bool) (r : Nat) (b : Block) : keep (mergeRecord s source act l persistent forced r b) = keep b := by
  unfold mergeRecord
  repeat' first
    | with_reducible rfl
    | with_reducible refine keep_ite ?_ ?_
    | with_reducible refine (keep_fire ..).trans ?_
    | with_reducible refine (keep_modFlt ..).trans ?_
    | with_reducible split
    | with_reducible exact keep_upd rfl rfl rfl
    | with_reducible dsimp only

theorem keep_raiseRecord (s source : Nat) (l : Sys2Proof.Word) (r : Nat) (b : Block) : keep (raiseRecord s source l r b) = keep b := by
  unfold raiseRecord
  repeat' first
    | with_reducible rfl
    | with_reducible refine keep_ite ?_ ?_
    | with_reducible refine (keep_modFlt ..).trans ?_
    | with_reducible split
    | with_reducible exact keep_upd rfl rfl rfl
    | with_reducible dsimp only

theorem keep_applyRecord (s : Nat) (b : Block) : keep (applyRecord s b) = keep b := by
  unfold applyRecord
  repeat' first
    | with_reducible rfl
    | with_reducible refine (keep_applyReaction ..).trans ?_
    | with_reducible (refine (keep_foldl (fun _ _ => ?_) ..).trans ?_)
    | with_reducible exact keep_upd rfl rfl rfl
    | with_reducible dsimp only

theorem keep_closeRecord (s : Nat) (b : Block) : keep (closeRecord s b) = keep b := by
  unfold closeRecord
  repeat' first
    | with_reducible rfl
    | with_reducible refine keep_ite ?_ ?_
    | with_reducible refine (keep_fire ..).trans ?_
    | with_reducible refine (keep_modFlt ..).trans ?_
    | with_reducible split
    | with_reducible exact keep_upd rfl rfl rfl
    | with_reducible dsimp only

theorem keep_imageClose (s : Nat) (b : Block) : keep (imageClose s b) = keep b := by
  unfold imageClose
  repeat' first
    | with_reducible rfl
    | with_reducible refine keep_ite ?_ ?_
    | with_reducible refine (keep_closeRecord ..).trans ?_
    | with_reducible split
    | with_reducible exact keep_upd rfl rfl rfl
    | with_reducible dsimp only

theorem keep_report (source : Nat) (l : Sys2Proof.Word) (persistent forced : Bool) (act : Nat) (b : Block) : keep (report source l persistent forced act b) = keep b := by
  unfold report
  repeat' first
    | with_reducible rfl
    | with_reducible refine keep_ite ?_ ?_
    | with_reducible refine (keep_applyRecord ..).trans ?_
    | with_reducible refine (keep_imageClose ..).trans ?_
    | with_reducible refine (keep_mergeRecord ..).trans ?_
    | with_reducible refine (keep_openRecord ..).trans ?_
    | with_reducible refine (keep_perf ..).trans ?_
    | with_reducible refine (keep_raiseRecord ..).trans ?_
    | with_reducible split
    | with_reducible exact keep_upd rfl rfl rfl
    | with_reducible dsimp only

/-- What a fault report carries beside its location points at no word of the stores. -/
@[reducible] def sparesVault : FaultInfo → Bool
  | .selector _ => false
  | .activeBank => false
  | .shadowBank => false
  | _ => true

theorem keep_mramArea (info : FaultInfo) (b : Block) (h : sparesVault info = true) : keep (mramArea info b) = keep b := by
  unfold mramArea
  split
  all_goals first
    | exact Bool.noConfusion h
    | exact keep_modPtn ..
    | exact keep_modGrowth ..
    | exact ((keep_fire ..).trans (keep_markBit ..)).trans (keep_modRec ..)
    | exact keep_modDsp ..
    | rfl


theorem keep_creditPersistent (l : Sys2Proof.Word) (b : Block) : keep (creditPersistent l b).2 = keep b := by
  unfold creditPersistent
  repeat' first
    | with_reducible rfl
    | with_reducible refine keep_ite_fst ?_ ?_
    | with_reducible refine keep_ite_snd ?_ ?_
    | with_reducible refine (keep_modFlt ..).trans ?_
    | with_reducible exact keep_upd rfl rfl rfl
    | with_reducible dsimp only

theorem keep_creditPersistent_eq {l : Sys2Proof.Word} {b : Block} {x : Bool} {bo : Block} (h : creditPersistent l b = (x, bo)) : keep bo = keep b := by
  have e := keep_creditPersistent l b
  rw [h] at e
  exact e

theorem keep_dropStagedDescs (n : Nat) (b : Block) : keep (dropStagedDescs n b) = keep b := by
  unfold dropStagedDescs
  repeat' first
    | with_reducible rfl
    | with_reducible refine keep_ite ?_ ?_
    | with_reducible refine (keep_modRing ..).trans ?_
    | with_reducible split
    | with_reducible exact keep_upd rfl rfl rfl
    | with_reducible dsimp only

theorem keep_dropStaged (n : Nat) (b : Block) : keep (dropStaged n b) = keep b := by
  unfold dropStaged
  repeat' first
    | with_reducible rfl
    | with_reducible refine keep_ite ?_ ?_
    | with_reducible refine (keep_discardStaged ..).trans ?_
    | with_reducible refine (keep_modRing ..).trans ?_
    | with_reducible refine (keep_ringSettle ..).trans ?_
    | with_reducible split
    | with_reducible exact keep_upd rfl rfl rfl
    | with_reducible dsimp only

theorem keep_creditReset (l : Sys2Proof.Word) (b : Block) : keep (creditReset l b) = keep b := by
  unfold creditReset
  repeat' first
    | with_reducible rfl
    | with_reducible refine keep_ite ?_ ?_
    | with_reducible refine (keep_dropStaged ..).trans ?_
    | with_reducible refine (keep_dropStagedDescs ..).trans ?_
    | with_reducible (refine (keep_foldl (fun _ _ => ?_) ..).trans ?_)
    | with_reducible split
    | with_reducible exact keep_upd rfl rfl rfl
    | with_reducible dsimp only

theorem keep_fault (source : Nat) (l : Word) (persistent forced : Bool) (info : FaultInfo) (b : Block) (h : sparesVault info = true) :
    keep (fault source l persistent forced info b) = keep b := by
  unfold fault
  have hc : keep (if source = 7 then creditPersistent l b else (false, b)).2 = keep b := by
    split
    · exact keep_creditPersistent ..
    · rfl
  generalize (if source = 7 then creditPersistent l b else (false, b)) = p at hc ⊢
  refine (keep_report ..).trans ?_
  repeat' first
    | with_reducible exact hc
    | with_reducible refine keep_ite ?_ ?_
    | with_reducible refine (keep_creditReset ..).trans ?_
    | with_reducible refine (keep_cancelSwitch ..).trans ?_
    | with_reducible refine (keep_mramArea _ _ h).trans ?_
    | with_reducible refine (keep_modFlt ..).trans ?_
    | with_reducible refine (keep_modSaf ..).trans ?_
    | with_reducible refine (keep_fire ..).trans ?_


theorem keep_faultPlain (source : Nat) (l : Sys2Proof.Word) (b : Block) : keep (faultPlain source l b) = keep b := by
  unfold faultPlain
  repeat' first
    | with_reducible rfl
    | with_reducible refine (keep_fault _ _ _ _ _ _ (by rfl)).trans ?_
    | with_reducible exact keep_upd rfl rfl rfl

theorem keep_injectForce (s : Nat) (b : Block) : keep (injectForce s b) = keep b := by
  unfold injectForce
  repeat' first
    | with_reducible rfl
    | with_reducible refine keep_ite ?_ ?_
    | with_reducible refine (keep_fire ..).trans ?_
    | with_reducible refine (keep_modFlt ..).trans ?_
    | with_reducible split
    | with_reducible exact keep_upd rfl rfl rfl

theorem keep_faultDetected (source : Nat) (l : Word) (persistent forced : Bool) (info : FaultInfo) (b : Block) (h : sparesVault info = true) :
    keep (faultDetected source l persistent forced info b) = keep b := by
  unfold faultDetected
  repeat' first
    | with_reducible rfl
    | with_reducible refine keep_ite ?_ ?_
    | with_reducible refine (keep_fault _ _ _ _ _ _ h).trans ?_
    | with_reducible refine (keep_injectForce ..).trans ?_


theorem keep_faultHandlingEnd (domain : Nat) (b : Block) : keep (faultHandlingEnd domain b) = keep b := by
  unfold faultHandlingEnd
  repeat' first
    | with_reducible rfl
    | with_reducible refine keep_ite ?_ ?_
    | with_reducible refine (keep_closeRecord ..).trans ?_
    | with_reducible split
    | with_reducible exact keep_upd rfl rfl rfl
    | with_reducible dsimp only

theorem keep_forceWrite (which : Nat) (v : Sys2Proof.Word) (b : Block) : keep (forceWrite which v b) = keep b := by
  unfold forceWrite
  repeat' first
    | with_reducible rfl
    | with_reducible refine keep_ite ?_ ?_
    | with_reducible refine (keep_markBit ..).trans ?_
    | with_reducible refine (keep_modFlt ..).trans ?_
    | with_reducible split
    | with_reducible exact keep_upd rfl rfl rfl
    | with_reducible dsimp only

theorem keep_clearForces (b : Block) : keep (clearForces b) = keep b := by
  unfold clearForces
  repeat' first
    | with_reducible rfl
    | with_reducible refine (keep_modFlt ..).trans ?_
    | with_reducible exact keep_upd rfl rfl rfl

theorem keep_scrubPassEnd (area corrected : Nat) (b : Block) : keep (scrubPassEnd area corrected b) = keep b := by
  unfold scrubPassEnd
  repeat' first
    | with_reducible rfl
    | with_reducible refine keep_ite ?_ ?_
    | with_reducible refine (keep_fire ..).trans ?_
    | with_reducible refine (keep_modFlt ..).trans ?_
    | with_reducible split
    | with_reducible exact keep_upd rfl rfl rfl

/-! Check. -/

theorem keep_checkOnce (l : Word) (ws : List Word) (b : Block) : keep (checkOnce l ws b).2.2 = keep b := by
  unfold checkOnce
  split
  · rfl
  · exact keep_injectForce ..


theorem keep_checkedWrite (l : Word) (ws : List Word) (write : Block → Block) (b : Block) (h : ∀ c, keep (write c) = keep c) :
    keep (checkedWrite l ws write b) = keep b := by
  unfold checkedWrite
  repeat' first
    | with_reducible rfl
    | with_reducible refine keep_ite ?_ ?_
    | with_reducible refine (h _).trans ?_
    | with_reducible refine (keep_fault _ _ _ _ _ _ (by rfl)).trans ?_
    | with_reducible refine (keep_checkOnce ..).trans ?_
    | dsimp only

/-! Recorder. -/

theorem keep_writeRecord (sap : Bool) (x : Record) (b : Block) : keep (writeRecord sap x b) = keep b := by
  unfold writeRecord
  repeat' first
    | with_reducible rfl
    | with_reducible refine keep_ite ?_ ?_
    | with_reducible refine (keep_fire ..).trans ?_
    | with_reducible refine (keep_markBit ..).trans ?_
    | with_reducible refine (keep_modRec ..).trans ?_
    | with_reducible split
    | with_reducible exact keep_upd rfl rfl rfl
    | with_reducible dsimp only

theorem keep_recordWritten (b : Block) : keep (recordWritten b) = keep b := by
  unfold recordWritten
  repeat' first
    | with_reducible rfl
    | with_reducible refine keep_ite ?_ ?_
    | with_reducible refine (keep_modRec ..).trans ?_
    | with_reducible refine (keep_writeRecord ..).trans ?_
    | with_reducible split
    | with_reducible exact keep_upd rfl rfl rfl
    | with_reducible dsimp only

theorem keep_recordLost (cause hw : Nat) (b : Block) : keep (recordLost cause hw b) = keep b := by
  unfold recordLost
  repeat' first
    | with_reducible rfl
    | with_reducible refine (keep_fire ..).trans ?_
    | with_reducible refine (keep_markBit ..).trans ?_
    | with_reducible refine (keep_modRec ..).trans ?_
    | with_reducible exact keep_upd rfl rfl rfl

theorem keep_startSnapshot (b : Block) : keep (startSnapshot b) = keep b := by
  unfold startSnapshot
  repeat' first
    | with_reducible rfl
    | with_reducible refine (keep_holdSnapshot ..).trans ?_
    | with_reducible exact keep_upd rfl rfl rfl

theorem keep_sealSnapshot (opens : Bool) (b : Block) : keep (sealSnapshot opens b) = keep b := by
  unfold sealSnapshot
  repeat' first
    | with_reducible rfl
    | with_reducible refine keep_ite ?_ ?_
    | with_reducible refine (keep_holdSnapshot ..).trans ?_
    | with_reducible refine (keep_modRec ..).trans ?_
    | with_reducible split
    | with_reducible exact keep_upd rfl rfl rfl
    | with_reducible dsimp only

/-! Display. -/

theorem keep_dspLatch (i : Nat) (b : Block) : keep (dspLatch i b) = keep b := by
  unfold dspLatch
  repeat' first
    | with_reducible rfl
    | with_reducible refine (keep_markBit ..).trans ?_
    | with_reducible refine (keep_modDsp ..).trans ?_
    | with_reducible exact keep_upd rfl rfl rfl

theorem keep_driveFrame (j : Nat) (b : Block) : keep (driveFrame j b) = keep b := by
  unfold driveFrame
  repeat' first
    | with_reducible rfl
    | with_reducible refine keep_ite ?_ ?_
    | with_reducible refine (keep_emit ..).trans ?_
    | with_reducible refine (keep_modDsp ..).trans ?_
    | with_reducible split
    | with_reducible exact keep_upd rfl rfl rfl
    | with_reducible dsimp only

theorem keep_startWave (v : Block) (state phase : Nat) (dark light next : Sys2Proof.Tab Sys2Proof.Word) (frames : Nat) (b : Block) : keep (startWave v state phase dark light next frames b) = keep b := by
  unfold startWave
  repeat' first
    | with_reducible rfl
    | with_reducible refine (keep_driveFrame ..).trans ?_
    | with_reducible refine (keep_modDsp ..).trans ?_
    | with_reducible exact keep_upd rfl rfl rfl
    | with_reducible dsimp only

theorem keep_displayUpdateStart (b : Block) : keep (displayUpdateStart b) = keep b := by
  unfold displayUpdateStart
  repeat' first
    | with_reducible rfl
    | with_reducible refine keep_ite ?_ ?_
    | with_reducible refine (keep_startWave ..).trans ?_
    | with_reducible split
    | with_reducible exact keep_upd rfl rfl rfl
    | with_reducible dsimp only

theorem keep_fullRefresh (b : Block) : keep (fullRefresh b) = keep b := by
  unfold fullRefresh
  repeat' first
    | with_reducible rfl
    | with_reducible refine keep_ite ?_ ?_
    | with_reducible refine (keep_fire ..).trans ?_
    | with_reducible refine (keep_modDsp ..).trans ?_
    | with_reducible refine (keep_startWave ..).trans ?_
    | with_reducible split
    | with_reducible exact keep_upd rfl rfl rfl
    | with_reducible dsimp only

theorem keep_darkPhase (b : Block) : keep (darkPhase b) = keep b := by
  unfold darkPhase
  repeat' first
    | with_reducible rfl
    | with_reducible refine (keep_modDsp ..).trans ?_
    | with_reducible refine (keep_startWave ..).trans ?_
    | with_reducible split
    | with_reducible exact keep_upd rfl rfl rfl
    | with_reducible dsimp only

theorem keep_endWave (b : Block) : keep (endWave b) = keep b := by
  unfold endWave
  repeat' first
    | with_reducible rfl
    | with_reducible refine keep_ite ?_ ?_
    | with_reducible refine (keep_darkPhase ..).trans ?_
    | with_reducible refine (keep_fire ..).trans ?_
    | with_reducible refine (keep_modDsp ..).trans ?_
    | with_reducible split
    | with_reducible exact keep_upd rfl rfl rfl
    | with_reducible dsimp only

theorem keep_endCompensation (b : Block) : keep (endCompensation b) = keep b := by
  unfold endCompensation
  repeat' first
    | with_reducible rfl
    | with_reducible refine keep_ite ?_ ?_
    | with_reducible refine (keep_fire ..).trans ?_
    | with_reducible refine (keep_markBit ..).trans ?_
    | with_reducible refine (keep_modDsp ..).trans ?_
    | with_reducible split
    | with_reducible exact keep_upd rfl rfl rfl
    | with_reducible dsimp only

theorem keep_displayFrame (b : Block) : keep (displayFrame b) = keep b := by
  unfold displayFrame
  repeat' first
    | with_reducible rfl
    | with_reducible refine keep_ite ?_ ?_
    | with_reducible refine (keep_driveFrame ..).trans ?_
    | with_reducible refine (keep_endCompensation ..).trans ?_
    | with_reducible refine (keep_endWave ..).trans ?_
    | with_reducible refine (keep_modDsp ..).trans ?_
    | with_reducible split
    | with_reducible exact keep_upd rfl rfl rfl
    | with_reducible dsimp only

theorem keep_refreshPeriod (b : Block) : keep (refreshPeriod b) = keep b := by
  unfold refreshPeriod
  repeat' first
    | with_reducible rfl
    | with_reducible refine keep_ite ?_ ?_
    | with_reducible refine (keep_modDsp ..).trans ?_
    | with_reducible split
    | with_reducible exact keep_upd rfl rfl rfl
    | with_reducible dsimp only

theorem keep_refreshAsked (b : Block) : keep (refreshAsked b) = keep b := by
  unfold refreshAsked
  repeat' first
    | with_reducible rfl
    | with_reducible refine (keep_modDsp ..).trans ?_
    | with_reducible exact keep_upd rfl rfl rfl

theorem keep_setBand (k : Nat) (b : Block) : keep (setBand k b) = keep b := by
  unfold setBand
  repeat' first
    | with_reducible rfl
    | with_reducible refine keep_ite ?_ ?_
    | with_reducible refine (keep_dspLatch ..).trans ?_
    | with_reducible refine (keep_fire ..).trans ?_
    | with_reducible refine (keep_modDsp ..).trans ?_
    | with_reducible split
    | with_reducible exact keep_upd rfl rfl rfl
    | with_reducible dsimp only

theorem keep_thermistorRead (t : Option Int) (b : Block) : keep (thermistorRead t b) = keep b := by
  unfold thermistorRead
  repeat' first
    | with_reducible rfl
    | with_reducible refine keep_ite ?_ ?_
    | with_reducible refine (keep_dspLatch ..).trans ?_
    | with_reducible refine (keep_modDsp ..).trans ?_
    | with_reducible refine (keep_setBand ..).trans ?_
    | with_reducible split
    | with_reducible exact keep_upd rfl rfl rfl
    | with_reducible dsimp only

theorem keep_railCheck (p n vcom : Nat) (b : Block) : keep (railCheck p n vcom b) = keep b := by
  unfold railCheck
  repeat' first
    | with_reducible rfl
    | with_reducible refine keep_ite ?_ ?_
    | with_reducible refine (keep_dspLatch ..).trans ?_
    | with_reducible refine (keep_fire ..).trans ?_
    | with_reducible refine (keep_modDsp ..).trans ?_
    | with_reducible split
    | with_reducible exact keep_upd rfl rfl rfl
    | with_reducible dsimp only

theorem keep_heartbeat (b : Block) : keep (heartbeat b) = keep b := by
  unfold heartbeat
  repeat' first
    | with_reducible rfl
    | with_reducible refine keep_ite ?_ ?_
    | with_reducible refine (keep_modDsp ..).trans ?_
    | with_reducible split
    | with_reducible exact keep_upd rfl rfl rfl
    | with_reducible dsimp only

/-! Security. -/

theorem keep_secRefuse (code : Nat) (b : Block) : keep (secRefuse code b) = keep b := by
  unfold secRefuse
  repeat' first
    | with_reducible rfl
    | with_reducible refine keep_ite ?_ ?_
    | with_reducible refine (keep_fire ..).trans ?_
    | with_reducible refine (keep_markBit ..).trans ?_
    | with_reducible refine (keep_modSec _ _ (fun _ => ?_)).trans ?_
    | with_reducible exact ⟨rfl, rfl, rfl⟩
    | with_reducible refine (keep_refuse ..).trans ?_
    | with_reducible split
    | with_reducible exact keep_upd rfl rfl rfl
    | with_reducible dsimp only

theorem keep_setLevel (v source : Nat) (b : Block) : keep (setLevel v source b) = keep b := by
  unfold setLevel
  repeat' first
    | with_reducible rfl
    | with_reducible refine keep_ite ?_ ?_
    | with_reducible refine (keep_clearForces ..).trans ?_
    | with_reducible refine (keep_fire ..).trans ?_
    | with_reducible refine (keep_modSec _ _ (fun _ => ?_)).trans ?_
    | with_reducible exact ⟨rfl, rfl, rfl⟩
    | with_reducible split
    | with_reducible exact keep_upd rfl rfl rfl
    | with_reducible dsimp only

theorem keep_dbgSet (src lvl : Nat) (b : Block) : keep (dbgSet src lvl b) = keep b := by
  unfold dbgSet
  repeat' first
    | with_reducible rfl
    | with_reducible refine keep_ite ?_ ?_
    | with_reducible refine (keep_secRefuse ..).trans ?_
    | with_reducible refine (keep_setLevel ..).trans ?_
    | with_reducible split
    | with_reducible exact keep_upd rfl rfl rfl
    | with_reducible dsimp only

theorem keep_secConfirmWrite (v : Sys2Proof.Word) (b : Block) : keep (secConfirmWrite v b) = keep b := by
  unfold secConfirmWrite
  repeat' first
    | with_reducible rfl
    | with_reducible refine keep_ite ?_ ?_
    | with_reducible refine (keep_modSec _ _ (fun _ => ?_)).trans ?_
    | with_reducible exact ⟨rfl, rfl, rfl⟩
    | with_reducible split
    | with_reducible exact keep_upd rfl rfl rfl

theorem keep_secKeyReleased (b : Block) : keep (secKeyReleased b) = keep b := by
  unfold secKeyReleased
  repeat' first
    | with_reducible rfl
    | with_reducible refine keep_ite ?_ ?_
    | with_reducible refine (keep_modSec _ _ (fun _ => ?_)).trans ?_
    | with_reducible exact ⟨rfl, rfl, rfl⟩
    | with_reducible refine (keep_setLevel ..).trans ?_
    | with_reducible split
    | with_reducible exact keep_upd rfl rfl rfl
    | with_reducible dsimp only

theorem keep_logicFeedLost (i : Nat) (b : Block) : keep (logicFeedLost i b) = keep b := by
  unfold logicFeedLost
  repeat' first
    | with_reducible rfl
    | with_reducible refine keep_ite ?_ ?_
    | with_reducible refine (keep_dspBreak ..).trans ?_
    | with_reducible refine (keep_markBit ..).trans ?_
    | with_reducible refine (keep_modGlb _ _ (fun _ => ?_)).trans ?_
    | with_reducible exact ⟨rfl, rfl, rfl, rfl⟩
    | with_reducible refine (keep_modSec _ _ (fun _ => ?_)).trans ?_
    | with_reducible exact ⟨rfl, rfl, rfl⟩
    | with_reducible refine (keep_setPower ..).trans ?_
    | with_reducible split
    | with_reducible exact keep_upd rfl rfl rfl
    | with_reducible dsimp only

theorem keep_logicFeedRestored (i : Nat) (b : Block) : keep (logicFeedRestored i b) = keep b := by
  unfold logicFeedRestored
  repeat' first
    | with_reducible rfl
    | with_reducible refine keep_ite ?_ ?_
    | with_reducible refine (keep_modSec _ _ (fun _ => ?_)).trans ?_
    | with_reducible exact ⟨rfl, rfl, rfl⟩
    | with_reducible refine (keep_setPower ..).trans ?_
    | with_reducible split
    | with_reducible exact keep_upd rfl rfl rfl
    | with_reducible dsimp only

theorem keep_powerDown (b : Block) : keep (powerDown b) = keep b := by
  unfold powerDown
  repeat' first
    | with_reducible rfl
    | with_reducible refine keep_ite ?_ ?_
    | with_reducible refine (keep_modPtn ..).trans ?_
    | with_reducible refine (keep_modSec _ _ (fun _ => ?_)).trans ?_
    | with_reducible exact ⟨rfl, rfl, rfl⟩
    | with_reducible refine (keep_setRole ..).trans ?_
    | with_reducible refine (keep_takeFree ..).trans ?_
    | with_reducible refine (keep_takeFree_eq (by assumption)).trans ?_
    | with_reducible split
    | with_reducible exact keep_upd rfl rfl rfl
    | with_reducible dsimp only

theorem keep_rideThroughTimeout (b : Block) : keep (rideThroughTimeout b) = keep b := by
  unfold rideThroughTimeout
  repeat' first
    | with_reducible rfl
    | with_reducible refine keep_ite ?_ ?_
    | with_reducible refine (keep_powerDown ..).trans ?_
    | with_reducible split
    | with_reducible exact keep_upd rfl rfl rfl

theorem keep_holdupReserve (mj : Nat) (b : Block) : keep (holdupReserve mj b) = keep b := by
  unfold holdupReserve
  repeat' first
    | with_reducible rfl
    | with_reducible refine keep_ite ?_ ?_
    | with_reducible refine (keep_modSec _ _ (fun _ => ?_)).trans ?_
    | with_reducible exact ⟨rfl, rfl, rfl⟩
    | with_reducible refine (keep_powerDown ..).trans ?_
    | with_reducible split
    | with_reducible exact keep_upd rfl rfl rfl
    | with_reducible dsimp only

theorem keep_holdupLow (mj : Nat) (b : Block) : keep (holdupLow mj b) = keep b := by
  unfold holdupLow
  repeat' first
    | with_reducible rfl
    | with_reducible refine keep_ite ?_ ?_
    | with_reducible refine (keep_fire ..).trans ?_
    | with_reducible refine (keep_modSec _ _ (fun _ => ?_)).trans ?_
    | with_reducible exact ⟨rfl, rfl, rfl⟩
    | with_reducible split
    | with_reducible exact keep_upd rfl rfl rfl

theorem keep_dropOldSeeds (b : Block) : keep (dropOldSeeds b) = keep b := by
  unfold dropOldSeeds
  repeat' first
    | with_reducible rfl
    | with_reducible refine keep_ite ?_ ?_
    | with_reducible refine (keep_modGlb _ _ (fun _ => ?_)).trans ?_
    | with_reducible exact ⟨rfl, rfl, rfl, rfl⟩
    | with_reducible refine (keep_modPtn ..).trans ?_
    | with_reducible split
    | with_reducible exact keep_upd rfl rfl rfl

theorem keep_commitFinish (b : Block) : keep (commitFinish b) = keep b := by
  unfold commitFinish
  repeat' first
    | with_reducible rfl
    | with_reducible refine keep_ite ?_ ?_
    | with_reducible refine (keep_dropOldSeeds ..).trans ?_
    | with_reducible refine (keep_modPtn ..).trans ?_
    | with_reducible split
    | with_reducible exact keep_upd rfl rfl rfl
    | with_reducible dsimp only

theorem keep_powerOff (b : Block) : keep (powerOff b) = keep b := by
  unfold powerOff
  repeat' first
    | with_reducible rfl
    | with_reducible refine keep_ite ?_ ?_
    | with_reducible refine (keep_commitFinish ..).trans ?_
    | with_reducible refine (keep_setPower ..).trans ?_
    | with_reducible split
    | with_reducible exact keep_upd rfl rfl rfl

theorem keep_wakeTest (fails : List Sys2Proof.Word) (b : Block) : keep (wakeTest fails b) = keep b := by
  unfold wakeTest
  repeat' first
    | with_reducible rfl
    | with_reducible refine keep_ite ?_ ?_
    | with_reducible refine (keep_fault _ _ _ _ _ _ (by rfl)).trans ?_
    | with_reducible refine (keep_fire ..).trans ?_
    | with_reducible refine (keep_markBit ..).trans ?_
    | with_reducible refine (keep_modSec _ _ (fun _ => ?_)).trans ?_
    | with_reducible exact ⟨rfl, rfl, rfl⟩
    | with_reducible (refine (keep_foldl (fun _ _ => ?_) ..).trans ?_)
    | with_reducible split
    | with_reducible exact keep_upd rfl rfl rfl
    | with_reducible dsimp only

/-! Rings. -/

theorem keep_modVec (l v : Nat) (f : Vec → Vec) (b : Block) : keep (modVec l v f b) = keep b := by
  unfold modVec
  repeat' first
    | with_reducible rfl
    | with_reducible refine (keep_modLink ..).trans ?_
    | with_reducible exact keep_upd rfl rfl rfl

theorem keep_sendVec (l v : Nat) (b : Block) : keep (sendVec l v b) = keep b := by
  unfold sendVec
  repeat' first
    | with_reducible rfl
    | with_reducible refine keep_ite ?_ ?_
    | with_reducible refine (keep_emit ..).trans ?_
    | with_reducible refine (keep_modVec ..).trans ?_
    | with_reducible split
    | with_reducible exact keep_upd rfl rfl rfl
    | with_reducible dsimp only

theorem keep_requestVec (l v : Nat) (b : Block) : keep (requestVec l v b) = keep b := by
  unfold requestVec
  repeat' first
    | with_reducible rfl
    | with_reducible refine keep_ite ?_ ?_
    | with_reducible refine (keep_modVec ..).trans ?_
    | with_reducible refine (keep_sendVec ..).trans ?_
    | with_reducible split
    | with_reducible exact keep_upd rfl rfl rfl

theorem keep_msixHoldoffEnd (l v : Nat) (b : Block) : keep (msixHoldoffEnd l v b) = keep b := by
  unfold msixHoldoffEnd
  repeat' first
    | with_reducible rfl
    | with_reducible refine keep_ite ?_ ?_
    | with_reducible refine (keep_modVec ..).trans ?_
    | with_reducible refine (keep_sendVec ..).trans ?_
    | with_reducible split
    | with_reducible exact keep_upd rfl rfl rfl
    | with_reducible dsimp only

theorem keep_vectorUnmask (l v : Nat) (b : Block) : keep (vectorUnmask l v b) = keep b := by
  unfold vectorUnmask
  repeat' first
    | with_reducible rfl
    | with_reducible refine keep_ite ?_ ?_
    | with_reducible refine (keep_modVec ..).trans ?_
    | with_reducible refine (keep_sendVec ..).trans ?_
    | with_reducible split
    | with_reducible exact keep_upd rfl rfl rfl
    | with_reducible dsimp only

theorem keep_abandonCommands (n : Nat) (b : Block) : keep (abandonCommands n b) = keep b := by
  unfold abandonCommands
  repeat' first
    | with_reducible rfl
    | with_reducible refine keep_ite ?_ ?_
    | with_reducible refine (keep_refuse ..).trans ?_
    | with_reducible (refine (keep_foldl (fun _ _ => ?_) ..).trans ?_)
    | with_reducible split
    | with_reducible exact keep_upd rfl rfl rfl

theorem keep_ringStop (n err : Nat) (b : Block) : keep (ringStop n err b) = keep b := by
  unfold ringStop
  repeat' first
    | with_reducible rfl
    | with_reducible refine keep_ite ?_ ?_
    | with_reducible refine (keep_abandonCommands ..).trans ?_
    | with_reducible refine (keep_discardStaged ..).trans ?_
    | with_reducible refine (keep_fire ..).trans ?_
    | with_reducible refine (keep_modRing ..).trans ?_
    | with_reducible refine (keep_releaseLocks ..).trans ?_
    | with_reducible refine (keep_unreserve ..).trans ?_
    | with_reducible refine (keep_withdrawRing ..).trans ?_
    | with_reducible split
    | with_reducible exact keep_upd rfl rfl rfl
    | with_reducible dsimp only

theorem keep_ringError (n err : Nat) (b : Block) : keep (ringError n err b) = keep b := by
  unfold ringError
  repeat' first
    | with_reducible rfl
    | with_reducible refine keep_ite ?_ ?_
    | with_reducible refine (keep_modRing ..).trans ?_
    | with_reducible refine (keep_ringStop ..).trans ?_
    | with_reducible split
    | with_reducible exact keep_upd rfl rfl rfl

theorem keep_ringReset (n : Nat) (b : Block) : keep (ringReset n b) = keep b := by
  unfold ringReset
  repeat' first
    | with_reducible rfl
    | with_reducible refine (keep_modRing ..).trans ?_
    | with_reducible refine (keep_ringDisable ..).trans ?_
    | with_reducible refine (keep_ringSettle ..).trans ?_
    | with_reducible refine (keep_ringStop ..).trans ?_
    | with_reducible split
    | with_reducible exact keep_upd rfl rfl rfl

theorem keep_readsFrom (link addr cap n k i : Nat) (b : Block) : keep (readsFrom link addr cap n k i b) = keep b := by
  unfold readsFrom
  repeat' first
    | with_reducible rfl
    | with_reducible refine (keep_emit ..).trans ?_
    | with_reducible (refine (keep_foldl (fun _ _ => ?_) ..).trans ?_)
    | with_reducible exact keep_upd rfl rfl rfl

theorem keep_issueFetch (n : Nat) (second : Bool) (b : Block) : keep (issueFetch n second b) = keep b := by
  unfold issueFetch
  repeat' first
    | with_reducible rfl
    | with_reducible refine (keep_emit ..).trans ?_
    | with_reducible refine (keep_modRing ..).trans ?_
    | with_reducible refine (keep_modRng ..).trans ?_
    | with_reducible exact keep_upd rfl rfl rfl
    | with_reducible dsimp only

theorem keep_pumpN (n : Nat) (b : Block) : keep (pumpN n b) = keep b := by
  induction n generalizing b with
  | zero => rfl
  | succ n ih =>
    unfold pumpN
    split
    · rfl
    · exact (ih _).trans (keep_issueFetch ..)


theorem keep_bellsRing (b : Block) : keep (bellsRing b) = keep b := by
  unfold bellsRing
  repeat' first
    | with_reducible rfl
    | with_reducible refine keep_ite_fst ?_ ?_
    | with_reducible refine keep_ite_snd ?_ ?_
    | with_reducible refine keep_ite ?_ ?_
    | with_reducible refine (keep_modRing ..).trans ?_
    | with_reducible (refine (keep_foldl_snd (fun _ _ => ?_) ..).trans ?_)
    | with_reducible (refine (keep_foldl_fst (fun _ _ => ?_) ..).trans ?_)
    | with_reducible (refine (keep_foldl (fun _ _ => ?_) ..).trans ?_)
    | with_reducible split
    | with_reducible exact keep_upd rfl rfl rfl
    | with_reducible dsimp only

theorem keep_ringTick (b : Block) : keep (ringTick b) = keep b := by
  unfold ringTick
  repeat' first
    | with_reducible rfl
    | with_reducible refine keep_ite ?_ ?_
    | with_reducible refine (keep_bellsRing ..).trans ?_
    | with_reducible refine (keep_pumpN ..).trans ?_
    | with_reducible split
    | with_reducible exact keep_upd rfl rfl rfl
    | with_reducible dsimp only

theorem keep_ringCfgWrite (len : Nat → Nat) (n : Nat) (v : Sys2Proof.Word) (b : Block) : keep (ringCfgWrite len n v b) = keep b := by
  unfold ringCfgWrite
  repeat' first
    | with_reducible rfl
    | with_reducible refine keep_ite ?_ ?_
    | with_reducible refine (keep_modRing ..).trans ?_
    | with_reducible refine (keep_ringDown ..).trans ?_
    | with_reducible refine (keep_ringReset ..).trans ?_
    | with_reducible split
    | with_reducible exact keep_upd rfl rfl rfl
    | with_reducible dsimp only

theorem keep_ringCtrlWrite (n : Nat) (v : Sys2Proof.Word) (b : Block) : keep (ringCtrlWrite n v b) = keep b := by
  unfold ringCtrlWrite
  repeat' first
    | with_reducible rfl
    | with_reducible refine keep_ite ?_ ?_
    | with_reducible refine (keep_ringReset ..).trans ?_
    | with_reducible refine (keep_ringStop ..).trans ?_
    | with_reducible split
    | with_reducible exact keep_upd rfl rfl rfl

theorem keep_ringDoorbell (n : Nat) (v : Sys2Proof.Word) (b : Block) : keep (ringDoorbell n v b) = keep b := by
  unfold ringDoorbell
  repeat' first
    | with_reducible rfl
    | with_reducible refine keep_ite ?_ ?_
    | with_reducible refine (keep_modRing ..).trans ?_
    | with_reducible refine (keep_perf ..).trans ?_
    | with_reducible refine (keep_ringStop ..).trans ?_
    | with_reducible split
    | with_reducible exact keep_upd rfl rfl rfl
    | with_reducible dsimp only

theorem keep_wbCpl (n : Nat) (d : Desc) (status : Nat) (b : Block) : keep (wbCpl n d status b) = keep b := by
  unfold wbCpl
  repeat' first
    | with_reducible rfl
    | with_reducible refine keep_ite ?_ ?_
    | with_reducible refine (keep_modRing ..).trans ?_
    | with_reducible split
    | with_reducible exact keep_upd rfl rfl rfl

theorem keep_wbTime (n : Nat) (x : WriteBack) (b : Block) : keep (wbTime n x b).2 = keep b := by
  unfold wbTime
  repeat' first
    | with_reducible rfl
    | with_reducible refine keep_ite_fst ?_ ?_
    | with_reducible refine keep_ite_snd ?_ ?_
    | with_reducible refine keep_ite ?_ ?_
    | with_reducible refine (keep_takeFree ..).trans ?_
    | with_reducible refine (keep_takeFree_eq (by assumption)).trans ?_
    | with_reducible split
    | with_reducible exact keep_upd rfl rfl rfl
    | with_reducible dsimp only

theorem keep_wbTime_eq {n : Nat} {x : WriteBack} {b : Block} {y : WriteBack} {bo : Block} (h : wbTime n x b = (y, bo)) : keep bo = keep b := by
  have e := keep_wbTime n x b
  rw [h] at e
  exact e

theorem keep_writesTo (link addr : Nat) (bs : List Sys2Proof.Byte) (b : Block) : keep (writesTo link addr bs b) = keep b := by
  unfold writesTo
  repeat' first
    | with_reducible rfl
    | with_reducible refine (keep_emit ..).trans ?_
    | with_reducible (refine (keep_foldl (fun _ _ => ?_) ..).trans ?_)
    | with_reducible exact keep_upd rfl rfl rfl

theorem keep_descriptorWriteback (n : Nat) (res : WbResult) (b : Block) : keep (descriptorWriteback n res b) = keep b := by
  unfold descriptorWriteback
  repeat' first
    | with_reducible rfl
    | with_reducible refine keep_ite ?_ ?_
    | with_reducible refine (keep_emit ..).trans ?_
    | with_reducible refine (keep_modRing ..).trans ?_
    | with_reducible refine (keep_perf ..).trans ?_
    | with_reducible refine (keep_requestVec ..).trans ?_
    | with_reducible refine (keep_ringError ..).trans ?_
    | with_reducible refine (keep_ringSettle ..).trans ?_
    | with_reducible refine (keep_wbCpl ..).trans ?_
    | with_reducible refine (keep_wbTime ..).trans ?_
    | with_reducible refine (keep_wbTime_eq (by assumption)).trans ?_
    | with_reducible refine (keep_writesTo ..).trans ?_
    | with_reducible split
    | with_reducible exact keep_upd rfl rfl rfl
    | with_reducible dsimp only

theorem keep_linkCameUp (l : Nat) (degraded : Bool) (b : Block) : keep (linkCameUp l degraded b) = keep b := by
  unfold linkCameUp
  repeat' first
    | with_reducible rfl
    | with_reducible refine keep_ite ?_ ?_
    | with_reducible refine (keep_fireLink ..).trans ?_
    | with_reducible refine (keep_modLink ..).trans ?_
    | with_reducible split
    | with_reducible exact keep_upd rfl rfl rfl

theorem keep_linkRetrain (l : Nat) (degraded : Bool) (b : Block) : keep (linkRetrain l degraded b) = keep b := by
  unfold linkRetrain
  repeat' first
    | with_reducible rfl
    | with_reducible refine keep_ite ?_ ?_
    | with_reducible refine (keep_fireLink ..).trans ?_
    | with_reducible refine (keep_modLink ..).trans ?_
    | with_reducible split
    | with_reducible exact keep_upd rfl rfl rfl

theorem keep_placeOrder (k n idx : Nat) (v : Sys2Proof.Word) (b : Block) : keep (placeOrder k n idx v b) = keep b := by
  unfold placeOrder
  repeat' first
    | with_reducible rfl
    | with_reducible refine keep_ite ?_ ?_
    | with_reducible refine (keep_modDesc ..).trans ?_
    | with_reducible refine (keep_modTarget ..).trans ?_
    | with_reducible split
    | with_reducible exact keep_upd rfl rfl rfl
    | with_reducible dsimp only

theorem keep_releaseOrder (k n idx : Nat) (b : Block) : keep (releaseOrder k n idx b) = keep b := by
  unfold releaseOrder
  repeat' first
    | with_reducible rfl
    | with_reducible refine keep_ite ?_ ?_
    | with_reducible refine (keep_modDesc ..).trans ?_
    | with_reducible refine (keep_modTarget ..).trans ?_
    | with_reducible split
    | with_reducible exact keep_upd rfl rfl rfl
    | with_reducible dsimp only

theorem keep_resolveTarget (k : Nat) (b : Block) : keep (resolveTarget k b) = keep b := by
  unfold resolveTarget
  repeat' first
    | with_reducible rfl
    | with_reducible refine keep_ite_fst ?_ ?_
    | with_reducible refine keep_ite_snd ?_ ?_
    | with_reducible refine keep_ite ?_ ?_
    | with_reducible refine (keep_completeWith ..).trans ?_
    | with_reducible refine (keep_fire ..).trans ?_
    | with_reducible refine (keep_modRng ..).trans ?_
    | with_reducible refine (keep_modTarget ..).trans ?_
    | with_reducible refine (keep_perf ..).trans ?_
    | with_reducible (refine (keep_foldl_snd (fun _ _ => ?_) ..).trans ?_)
    | with_reducible (refine (keep_foldl_fst (fun _ _ => ?_) ..).trans ?_)
    | with_reducible (refine (keep_foldl (fun _ _ => ?_) ..).trans ?_)
    | with_reducible split
    | with_reducible exact keep_upd rfl rfl rfl
    | with_reducible dsimp only

theorem keep_targetResolve (k : Nat) (b : Block) : keep (targetResolve k b) = keep b := by
  unfold targetResolve
  repeat' first
    | with_reducible rfl
    | with_reducible refine keep_ite ?_ ?_
    | with_reducible refine (keep_canSweep ..).trans ?_
    | with_reducible refine (keep_resolveTarget ..).trans ?_
    | with_reducible split
    | with_reducible exact keep_upd rfl rfl rfl

theorem keep_withdrawOrder (k : Nat) (o : Order) (status : Nat) (b : Block) : keep (withdrawOrder k o status b) = keep b := by
  unfold withdrawOrder
  repeat' first
    | with_reducible rfl
    | with_reducible refine (keep_completeWith ..).trans ?_
    | with_reducible refine (keep_modTarget ..).trans ?_
    | with_reducible split
    | with_reducible exact keep_upd rfl rfl rfl
    | with_reducible dsimp only

theorem keep_refitOrders (k : Nat → Bool) (b : Block) : keep (refitOrders k b) = keep b := by
  unfold refitOrders
  repeat' first
    | with_reducible rfl
    | with_reducible refine keep_ite_fst ?_ ?_
    | with_reducible refine keep_ite_snd ?_ ?_
    | with_reducible refine keep_ite ?_ ?_
    | with_reducible refine (keep_completeWith ..).trans ?_
    | with_reducible refine (keep_modTarget ..).trans ?_
    | with_reducible refine (keep_withdrawOrder ..).trans ?_
    | with_reducible (refine (keep_foldl_snd (fun _ _ => ?_) ..).trans ?_)
    | with_reducible (refine (keep_foldl_fst (fun _ _ => ?_) ..).trans ?_)
    | with_reducible (refine (keep_foldl (fun _ _ => ?_) ..).trans ?_)
    | with_reducible split
    | with_reducible exact keep_upd rfl rfl rfl
    | with_reducible dsimp only

theorem keep_initTargets (b : Block) : keep (initTargets b) = keep b := by
  unfold initTargets
  repeat' first
    | with_reducible rfl
    | with_reducible refine (keep_modTarget ..).trans ?_
    | with_reducible (refine (keep_foldl (fun _ _ => ?_) ..).trans ?_)
    | with_reducible split
    | with_reducible exact keep_upd rfl rfl rfl

/-! Growth. -/

theorem keep_monTake (m : Nat) (x : Option Sys2Proof.Word) (b : Block) : keep (monTake m x b) = keep b := by
  unfold monTake
  repeat' first
    | with_reducible rfl
    | with_reducible refine keep_ite ?_ ?_
    | with_reducible refine (keep_modPrf ..).trans ?_
    | with_reducible split
    | with_reducible exact keep_upd rfl rfl rfl

theorem keep_monAll (kind i : Nat) (x : Sys2Proof.Word) (b : Block) : keep (monAll kind i x b) = keep b := by
  unfold monAll
  repeat' first
    | with_reducible rfl
    | with_reducible refine (keep_monTake ..).trans ?_
    | with_reducible (refine (keep_foldl (fun _ _ => ?_) ..).trans ?_)
    | with_reducible exact keep_upd rfl rfl rfl

theorem keep_monClear (m : Nat) (b : Block) : keep (monClear m b) = keep b := by
  unfold monClear
  repeat' first
    | with_reducible rfl
    | with_reducible refine keep_ite ?_ ?_
    | with_reducible refine (keep_modPrf ..).trans ?_
    | with_reducible split
    | with_reducible exact keep_upd rfl rfl rfl

theorem keep_modSite (s : Nat) (f : Site → Site) (b : Block) : keep (modSite s f b) = keep b := by
  unfold modSite
  repeat' first
    | with_reducible rfl
    | with_reducible refine (keep_modGrowth ..).trans ?_
    | with_reducible exact keep_upd rfl rfl rfl

theorem keep_instanceStart (a : Nat) (b : Block) : keep (instanceStart a b) = keep b := by
  unfold instanceStart
  repeat' first
    | with_reducible rfl
    | with_reducible refine (keep_perf ..).trans ?_
    | with_reducible exact keep_upd rfl rfl rfl

theorem keep_overrun (a : Nat) (l : Sys2Proof.Word) (b : Block) : keep (overrun a l b) = keep b := by
  unfold overrun
  repeat' first
    | with_reducible rfl
    | with_reducible refine (keep_faultPlain ..).trans ?_
    | with_reducible refine (keep_perf ..).trans ?_
    | with_reducible exact keep_upd rfl rfl rfl

theorem keep_instanceEnd (a s dur : Nat) (b : Block) : keep (instanceEnd a s dur b) = keep b := by
  unfold instanceEnd
  repeat' first
    | with_reducible rfl
    | with_reducible refine keep_ite ?_ ?_
    | with_reducible refine (keep_fault _ _ _ _ _ _ (by rfl)).trans ?_
    | with_reducible refine (keep_fire ..).trans ?_
    | with_reducible refine (keep_modSite ..).trans ?_
    | with_reducible refine (keep_monAll ..).trans ?_
    | with_reducible split
    | with_reducible exact keep_upd rfl rfl rfl
    | with_reducible dsimp only

theorem keep_trimSend (b : Block) : keep (trimSend b) = keep b := by
  unfold trimSend
  repeat' first
    | with_reducible rfl
    | with_reducible refine (keep_emit ..).trans ?_
    | with_reducible refine (keep_modGrowth ..).trans ?_
    | with_reducible exact keep_upd rfl rfl rfl

theorem keep_trimRequest (t : Int) (b : Block) : keep (trimRequest t b) = keep b := by
  unfold trimRequest
  repeat' first
    | with_reducible rfl
    | with_reducible refine (keep_fire ..).trans ?_
    | with_reducible refine (keep_modGrowth ..).trans ?_
    | with_reducible refine (keep_trimSend ..).trans ?_
    | with_reducible exact keep_upd rfl rfl rfl
    | with_reducible dsimp only

theorem keep_trimRepeat (b : Block) : keep (trimRepeat b) = keep b := by
  unfold trimRepeat
  repeat' first
    | with_reducible rfl
    | with_reducible refine (keep_modGrowth ..).trans ?_
    | with_reducible refine (keep_trimSend ..).trans ?_
    | with_reducible exact keep_upd rfl rfl rfl

theorem keep_trimReqRepeat (b : Block) : keep (trimReqRepeat b) = keep b := by
  unfold trimReqRepeat
  repeat' first
    | with_reducible rfl
    | with_reducible refine keep_ite ?_ ?_
    | with_reducible refine (keep_trimSend ..).trans ?_
    | with_reducible split
    | with_reducible exact keep_upd rfl rfl rfl

theorem keep_marginRefresh (b : Block) : keep (marginRefresh b) = keep b := by
  unfold marginRefresh
  repeat' first
    | with_reducible rfl
    | with_reducible refine keep_ite ?_ ?_
    | with_reducible refine (keep_modGrowth ..).trans ?_
    | with_reducible split
    | with_reducible exact keep_upd rfl rfl rfl
    | with_reducible dsimp only

theorem keep_trimAck (bytes : List Sys2Proof.Byte) (b : Block) : keep (trimAck bytes b) = keep b := by
  unfold trimAck
  repeat' first
    | with_reducible rfl
    | with_reducible refine keep_ite ?_ ?_
    | with_reducible refine (keep_marginRefresh ..).trans ?_
    | with_reducible refine (keep_modGrowth ..).trans ?_
    | with_reducible split
    | with_reducible exact keep_upd rfl rfl rfl
    | with_reducible dsimp only

theorem keep_trimFault (b : Block) : keep (trimFault b) = keep b := by
  unfold trimFault
  repeat' first
    | with_reducible rfl
    | with_reducible refine keep_ite ?_ ?_
    | with_reducible refine (keep_fault _ _ _ _ _ _ (by rfl)).trans ?_
    | with_reducible refine (keep_modGrowth ..).trans ?_
    | with_reducible split
    | with_reducible exact keep_upd rfl rfl rfl
    | with_reducible dsimp only

theorem keep_trimUp (b : Block) : keep (trimUp b) = keep b := by
  unfold trimUp
  repeat' first
    | with_reducible rfl
    | with_reducible refine keep_ite ?_ ?_
    | with_reducible refine (keep_modGrowth ..).trans ?_
    | with_reducible refine (keep_trimRequest ..).trans ?_
    | with_reducible split
    | with_reducible exact keep_upd rfl rfl rfl
    | with_reducible dsimp only

theorem keep_trimStepDown (b : Block) : keep (trimStepDown b) = keep b := by
  unfold trimStepDown
  repeat' first
    | with_reducible rfl
    | with_reducible refine keep_ite ?_ ?_
    | with_reducible refine (keep_modGrowth ..).trans ?_
    | with_reducible refine (keep_trimRequest ..).trans ?_
    | with_reducible split
    | with_reducible exact keep_upd rfl rfl rfl

theorem keep_setMarginState (v act : Nat) (b : Block) : keep (setMarginState v act b) = keep b := by
  unfold setMarginState
  repeat' first
    | with_reducible rfl
    | with_reducible refine keep_ite ?_ ?_
    | with_reducible refine (keep_fire ..).trans ?_
    | with_reducible refine (keep_modGrowth ..).trans ?_
    | with_reducible split
    | with_reducible exact keep_upd rfl rfl rfl

theorem keep_marginStep (b : Block) : keep (marginStep b) = keep b := by
  unfold marginStep
  repeat' first
    | with_reducible rfl
    | with_reducible refine keep_ite ?_ ?_
    | with_reducible refine (keep_fault _ _ _ _ _ _ (by rfl)).trans ?_
    | with_reducible refine (keep_modGrowth ..).trans ?_
    | with_reducible refine (keep_setMarginState ..).trans ?_
    | with_reducible split
    | with_reducible exact keep_upd rfl rfl rfl
    | with_reducible dsimp only

theorem keep_marginOut (a : Nat) (b : Block) : keep (marginOut a b) = keep b := by
  unfold marginOut
  repeat' first
    | with_reducible rfl
    | with_reducible refine keep_ite ?_ ?_
    | with_reducible refine (keep_fault _ _ _ _ _ _ (by rfl)).trans ?_
    | with_reducible refine (keep_modGrowth ..).trans ?_
    | with_reducible refine (keep_setMarginState ..).trans ?_
    | with_reducible split
    | with_reducible exact keep_upd rfl rfl rfl
    | with_reducible dsimp only

theorem keep_replicaMeasurement (readings : List Nat) (b : Block) : keep (replicaMeasurement readings b) = keep b := by
  unfold replicaMeasurement
  repeat' first
    | with_reducible rfl
    | with_reducible refine keep_ite ?_ ?_
    | with_reducible refine (keep_marginStep ..).trans ?_
    | with_reducible refine (keep_modGrowth ..).trans ?_
    | with_reducible refine (keep_modSite ..).trans ?_
    | with_reducible refine (keep_monAll ..).trans ?_
    | with_reducible refine (keep_trimUp ..).trans ?_
    | with_reducible (refine (keep_foldl (fun _ _ => ?_) ..).trans ?_)
    | with_reducible split
    | with_reducible exact keep_upd rfl rfl rfl
    | with_reducible dsimp only

theorem keep_barkMeasurement (barks : List Nat) (b : Block) : keep (barkMeasurement barks b) = keep b := by
  unfold barkMeasurement
  repeat' first
    | with_reducible rfl
    | with_reducible refine keep_ite ?_ ?_
    | with_reducible refine (keep_modSite ..).trans ?_
    | with_reducible (refine (keep_foldl (fun _ _ => ?_) ..).trans ?_)
    | with_reducible split
    | with_reducible exact keep_upd rfl rfl rfl
    | with_reducible dsimp only

theorem keep_ageSave (b : Block) : keep (ageSave b) = keep b := by
  unfold ageSave
  repeat' first
    | with_reducible rfl
    | with_reducible refine keep_ite ?_ ?_
    | with_reducible refine (keep_modGrowth ..).trans ?_
    | with_reducible refine (keep_modSite ..).trans ?_
    | with_reducible (refine (keep_foldl (fun _ _ => ?_) ..).trans ?_)
    | with_reducible split
    | with_reducible exact keep_upd rfl rfl rfl
    | with_reducible dsimp only

theorem keep_fitAll (b : Block) : keep (fitAll b) = keep b := by
  unfold fitAll
  repeat' first
    | with_reducible rfl
    | with_reducible refine keep_ite_fst ?_ ?_
    | with_reducible refine keep_ite_snd ?_ ?_
    | with_reducible refine (keep_modSite ..).trans ?_
    | with_reducible (refine (keep_foldl_snd (fun _ _ => ?_) ..).trans ?_)
    | with_reducible (refine (keep_foldl_fst (fun _ _ => ?_) ..).trans ?_)
    | with_reducible (refine (keep_foldl (fun _ _ => ?_) ..).trans ?_)
    | with_reducible exact keep_upd rfl rfl rfl
    | with_reducible dsimp only

theorem keep_markClose (b : Block) : keep (markClose b) = keep b := by
  unfold markClose
  repeat' first
    | with_reducible rfl
    | with_reducible refine keep_ite ?_ ?_
    | with_reducible refine (keep_fire ..).trans ?_
    | with_reducible refine (keep_fitAll ..).trans ?_
    | with_reducible refine (keep_marginRefresh ..).trans ?_
    | with_reducible refine (keep_modGrowth ..).trans ?_
    | with_reducible refine (keep_modSite ..).trans ?_
    | with_reducible refine (keep_trimUp ..).trans ?_
    | with_reducible (refine (keep_foldl (fun _ _ => ?_) ..).trans ?_)
    | with_reducible split
    | with_reducible exact keep_upd rfl rfl rfl
    | with_reducible dsimp only

/-! Chn. -/

theorem keep_feStep (n : Nat) (b : Block) : keep (feStep n b) = keep b := by
  unfold feStep
  repeat' first
    | with_reducible rfl
    | with_reducible refine keep_ite ?_ ?_
    | with_reducible refine (keep_modChan ..).trans ?_
    | with_reducible refine (keep_setFe ..).trans ?_
    | with_reducible refine (keep_setSt ..).trans ?_
    | with_reducible split
    | with_reducible exact keep_upd rfl rfl rfl
    | with_reducible dsimp only

theorem keep_feCause (n : Nat) (b : Block) : keep (feCause n b) = keep b := by
  unfold feCause
  repeat' first
    | with_reducible rfl
    | with_reducible refine keep_ite ?_ ?_
    | with_reducible refine (keep_setFe ..).trans ?_
    | with_reducible split
    | with_reducible exact keep_upd rfl rfl rfl

theorem keep_feAck (n : Nat) (b : Block) : keep (feAck n b) = keep b := by
  unfold feAck
  repeat' first
    | with_reducible rfl
    | with_reducible refine keep_ite_fst ?_ ?_
    | with_reducible refine keep_ite_snd ?_ ?_
    | with_reducible refine keep_ite ?_ ?_
    | with_reducible refine (keep_completeWith ..).trans ?_
    | with_reducible refine (keep_modChan ..).trans ?_
    | with_reducible refine (keep_setSt ..).trans ?_
    | with_reducible (refine (keep_foldl_snd (fun _ _ => ?_) ..).trans ?_)
    | with_reducible (refine (keep_foldl_fst (fun _ _ => ?_) ..).trans ?_)
    | with_reducible (refine (keep_foldl (fun _ _ => ?_) ..).trans ?_)
    | with_reducible split
    | with_reducible exact keep_upd rfl rfl rfl
    | with_reducible dsimp only

theorem keep_feOverload (n : Nat) (b : Block) : keep (feOverload n b) = keep b := by
  unfold feOverload
  repeat' first
    | with_reducible rfl
    | with_reducible refine keep_ite ?_ ?_
    | with_reducible refine (keep_modChan ..).trans ?_
    | with_reducible refine (keep_setSt ..).trans ?_
    | with_reducible split
    | with_reducible exact keep_upd rfl rfl rfl
    | with_reducible dsimp only

theorem keep_sendFrame (n : Nat) (v : Sys2Proof.Word) (b : Block) : keep (sendFrame n v b) = keep b := by
  unfold sendFrame
  repeat' first
    | with_reducible rfl
    | with_reducible refine (keep_modChan ..).trans ?_
    | with_reducible split
    | with_reducible exact keep_upd rfl rfl rfl

theorem keep_cutOutput (n : Nat) (b : Block) : keep (cutOutput n b) = keep b := by
  unfold cutOutput
  repeat' first
    | with_reducible rfl
    | with_reducible refine (keep_modChan ..).trans ?_
    | with_reducible exact keep_upd rfl rfl rfl

theorem keep_frameReady (n : Nat) (b : Block) : keep (frameReady n b) = keep b := by
  unfold frameReady
  repeat' first
    | with_reducible rfl
    | with_reducible refine keep_ite ?_ ?_
    | with_reducible refine (keep_feAck ..).trans ?_
    | with_reducible refine (keep_feOverload ..).trans ?_
    | with_reducible refine (keep_resolveTarget ..).trans ?_
    | with_reducible split
    | with_reducible exact keep_upd rfl rfl rfl

theorem keep_frameChannel (n : Nat) (b : Block) : keep (frameChannel n b) = keep b := by
  unfold frameChannel
  repeat' first
    | with_reducible rfl
    | with_reducible refine keep_ite ?_ ?_
    | with_reducible refine (keep_feStep ..).trans ?_
    | with_reducible refine (keep_frameReady ..).trans ?_
    | with_reducible refine (keep_modChan ..).trans ?_
    | with_reducible refine (keep_sendFrame ..).trans ?_
    | with_reducible refine (keep_setSt ..).trans ?_
    | with_reducible split
    | with_reducible exact keep_upd rfl rfl rfl
    | with_reducible dsimp only

theorem keep_frameFrozen (n : Nat) (b : Block) : keep (frameFrozen n b) = keep b := by
  unfold frameFrozen
  repeat' first
    | with_reducible rfl
    | with_reducible refine keep_ite ?_ ?_
    | with_reducible refine (keep_feStep ..).trans ?_
    | with_reducible refine (keep_sendFrame ..).trans ?_
    | with_reducible split
    | with_reducible exact keep_upd rfl rfl rfl
    | with_reducible dsimp only

theorem keep_sdoFrame (b : Block) : keep (sdoFrame b) = keep b := by
  unfold sdoFrame
  repeat' first
    | with_reducible rfl
    | with_reducible refine keep_ite ?_ ?_
    | with_reducible refine (keep_modSaf ..).trans ?_
    | with_reducible split
    | with_reducible exact keep_upd rfl rfl rfl

theorem keep_gapEnd (n : Nat) (b : Block) : keep (gapEnd n b) = keep b := by
  unfold gapEnd
  repeat' first
    | with_reducible rfl
    | with_reducible refine keep_ite ?_ ?_
    | with_reducible refine (keep_modSaf ..).trans ?_
    | with_reducible split
    | with_reducible exact keep_upd rfl rfl rfl

theorem keep_couplerFrameBoundary (b : Block) : keep (couplerFrameBoundary b) = keep b := by
  unfold couplerFrameBoundary
  repeat' first
    | with_reducible rfl
    | with_reducible refine keep_ite ?_ ?_
    | with_reducible refine (keep_frameChannel ..).trans ?_
    | with_reducible refine (keep_frameFrozen ..).trans ?_
    | with_reducible refine (keep_listenStop ..).trans ?_
    | with_reducible refine (keep_modChn ..).trans ?_
    | with_reducible refine (keep_sdoFrame ..).trans ?_
    | with_reducible (refine (keep_foldl (fun _ _ => ?_) ..).trans ?_)
    | with_reducible split
    | with_reducible exact keep_upd rfl rfl rfl
    | with_reducible dsimp only

theorem keep_foldbackWatch (n : Nat) (limited : Bool) (b : Block) : keep (foldbackWatch n limited b) = keep b := by
  unfold foldbackWatch
  repeat' first
    | with_reducible rfl
    | with_reducible refine keep_ite ?_ ?_
    | with_reducible refine (keep_modChan ..).trans ?_
    | with_reducible refine (keep_setSt ..).trans ?_
    | with_reducible split
    | with_reducible exact keep_upd rfl rfl rfl

theorem keep_diFollow (n : Nat) (b : Block) : keep (diFollow n b) = keep b := by
  unfold diFollow
  repeat' first
    | with_reducible rfl
    | with_reducible refine keep_ite ?_ ?_
    | with_reducible refine (keep_modChan ..).trans ?_
    | with_reducible split
    | with_reducible exact keep_upd rfl rfl rfl
    | with_reducible dsimp only

theorem keep_diClassify (n : Nat) (b : Block) : keep (diClassify n b) = keep b := by
  unfold diClassify
  repeat' first
    | with_reducible rfl
    | with_reducible refine keep_ite ?_ ?_
    | with_reducible refine (keep_diFollow ..).trans ?_
    | with_reducible refine (keep_modChan ..).trans ?_
    | with_reducible split
    | with_reducible exact keep_upd rfl rfl rfl
    | with_reducible dsimp only

theorem keep_dropFrame (n : Nat) (b : Block) : keep (dropFrame n b) = keep b := by
  unfold dropFrame
  repeat' first
    | with_reducible rfl
    | with_reducible refine keep_ite ?_ ?_
    | with_reducible refine (keep_modChan ..).trans ?_
    | with_reducible refine (keep_setFe ..).trans ?_
    | with_reducible split
    | with_reducible exact keep_upd rfl rfl rfl
    | with_reducible dsimp only

theorem keep_fieldFrameReceive (n : Nat) (frame : Option FieldFrame) (b : Block) : keep (fieldFrameReceive n frame b) = keep b := by
  unfold fieldFrameReceive
  repeat' first
    | with_reducible rfl
    | with_reducible refine keep_ite ?_ ?_
    | with_reducible refine (keep_diClassify ..).trans ?_
    | with_reducible refine (keep_dropFrame ..).trans ?_
    | with_reducible refine (keep_foldbackWatch ..).trans ?_
    | with_reducible refine (keep_gapEnd ..).trans ?_
    | with_reducible refine (keep_modChan ..).trans ?_
    | with_reducible refine (keep_setFe ..).trans ?_
    | with_reducible refine (keep_setSt ..).trans ?_
    | with_reducible split
    | with_reducible exact keep_upd rfl rfl rfl
    | with_reducible dsimp only

theorem keep_feWatchdog (n : Nat) (b : Block) : keep (feWatchdog n b) = keep b := by
  unfold feWatchdog
  repeat' first
    | with_reducible rfl
    | with_reducible refine keep_ite ?_ ?_
    | with_reducible refine (keep_cutOutput ..).trans ?_
    | with_reducible refine (keep_modChan ..).trans ?_
    | with_reducible refine (keep_setFe ..).trans ?_
    | with_reducible split
    | with_reducible exact keep_upd rfl rfl rfl
    | with_reducible dsimp only

theorem keep_selfTestForced (n : Nat) (p : Nat × Sys2Proof.Word) (b : Block) : keep (selfTestForced n p b) = keep b := by
  unfold selfTestForced
  repeat' first
    | with_reducible rfl
    | with_reducible refine keep_ite ?_ ?_
    | with_reducible refine (keep_fault _ _ _ _ _ _ (by rfl)).trans ?_
    | with_reducible refine (keep_injectForce ..).trans ?_
    | with_reducible refine (keep_setFe ..).trans ?_
    | with_reducible split
    | with_reducible exact keep_upd rfl rfl rfl

theorem keep_feSelfTestEnd (n : Nat) (pass : Bool) (b : Block) : keep (feSelfTestEnd n pass b) = keep b := by
  unfold feSelfTestEnd
  repeat' first
    | with_reducible rfl
    | with_reducible refine keep_ite ?_ ?_
    | with_reducible refine (keep_fault _ _ _ _ _ _ (by rfl)).trans ?_
    | with_reducible refine (keep_fenceEvent ..).trans ?_
    | with_reducible refine (keep_modFlt ..).trans ?_
    | with_reducible refine (keep_selfTestForced ..).trans ?_
    | with_reducible refine (keep_setFe ..).trans ?_
    | with_reducible split
    | with_reducible exact keep_upd rfl rfl rfl
    | with_reducible dsimp only

theorem keep_chnRetest (n : Nat) (b : Block) : keep (chnRetest n b) = keep b := by
  unfold chnRetest
  repeat' first
    | with_reducible rfl
    | with_reducible refine keep_ite ?_ ?_
    | with_reducible refine (keep_setFe ..).trans ?_
    | with_reducible split
    | with_reducible exact keep_upd rfl rfl rfl

theorem keep_chnClrLinkerr (n : Nat) (b : Block) : keep (chnClrLinkerr n b) = keep b := by
  unfold chnClrLinkerr
  repeat' first
    | with_reducible rfl
    | with_reducible refine (keep_modChan ..).trans ?_
    | with_reducible exact keep_upd rfl rfl rfl

theorem keep_foldback (n : Nat) (b : Block) : keep (foldback n b) = keep b := by
  unfold foldback
  repeat' first
    | with_reducible rfl
    | with_reducible refine keep_ite ?_ ?_
    | with_reducible refine (keep_modChan ..).trans ?_
    | with_reducible refine (keep_setSt ..).trans ?_
    | with_reducible split
    | with_reducible exact keep_upd rfl rfl rfl
    | with_reducible dsimp only

theorem keep_foldbackRetry (n : Nat) (b : Block) : keep (foldbackRetry n b) = keep b := by
  unfold foldbackRetry
  repeat' first
    | with_reducible rfl
    | with_reducible refine keep_ite ?_ ?_
    | with_reducible refine (keep_modChan ..).trans ?_
    | with_reducible split
    | with_reducible exact keep_upd rfl rfl rfl
    | with_reducible dsimp only

theorem keep_compliance (n : Nat) (b : Block) : keep (compliance n b) = keep b := by
  unfold compliance
  repeat' first
    | with_reducible rfl
    | with_reducible refine keep_ite ?_ ?_
    | with_reducible refine (keep_setSt ..).trans ?_
    | with_reducible refine (keep_setStBits ..).trans ?_
    | with_reducible split
    | with_reducible exact keep_upd rfl rfl rfl
    | with_reducible dsimp only

theorem keep_openLoad (n : Nat) (b : Block) : keep (openLoad n b) = keep b := by
  unfold openLoad
  repeat' first
    | with_reducible rfl
    | with_reducible refine keep_ite ?_ ?_
    | with_reducible refine (keep_setSt ..).trans ?_
    | with_reducible refine (keep_setStBits ..).trans ?_
    | with_reducible split
    | with_reducible exact keep_upd rfl rfl rfl
    | with_reducible dsimp only

theorem keep_deviation (n : Nat) (b : Block) : keep (deviation n b) = keep b := by
  unfold deviation
  repeat' first
    | with_reducible rfl
    | with_reducible refine keep_ite ?_ ?_
    | with_reducible refine (keep_fault _ _ _ _ _ _ (by rfl)).trans ?_
    | with_reducible refine (keep_feCause ..).trans ?_
    | with_reducible refine (keep_injectForce ..).trans ?_
    | with_reducible refine (keep_modChan ..).trans ?_
    | with_reducible refine (keep_setSt ..).trans ?_
    | with_reducible split
    | with_reducible exact keep_upd rfl rfl rfl
    | with_reducible dsimp only

theorem keep_deviationRetry (n : Nat) (b : Block) : keep (deviationRetry n b) = keep b := by
  unfold deviationRetry
  repeat' first
    | with_reducible rfl
    | with_reducible refine keep_ite ?_ ?_
    | with_reducible refine (keep_modChan ..).trans ?_
    | with_reducible refine (keep_setFe ..).trans ?_
    | with_reducible refine (keep_setSt ..).trans ?_
    | with_reducible split
    | with_reducible exact keep_upd rfl rfl rfl
    | with_reducible dsimp only

theorem keep_overload (n : Nat) (b : Block) : keep (overload n b) = keep b := by
  unfold overload
  repeat' first
    | with_reducible rfl
    | with_reducible refine keep_ite ?_ ?_
    | with_reducible refine (keep_cutOutput ..).trans ?_
    | with_reducible refine (keep_feCause ..).trans ?_
    | with_reducible refine (keep_modChan ..).trans ?_
    | with_reducible refine (keep_setSt ..).trans ?_
    | with_reducible split
    | with_reducible exact keep_upd rfl rfl rfl
    | with_reducible dsimp only

theorem keep_overloadRetry (n : Nat) (b : Block) : keep (overloadRetry n b) = keep b := by
  unfold overloadRetry
  repeat' first
    | with_reducible rfl
    | with_reducible refine keep_ite ?_ ?_
    | with_reducible refine (keep_setSt ..).trans ?_
    | with_reducible split
    | with_reducible exact keep_upd rfl rfl rfl
    | with_reducible dsimp only

theorem keep_thermal (n : Nat) (hot : Bool) (b : Block) : keep (thermal n hot b) = keep b := by
  unfold thermal
  repeat' first
    | with_reducible rfl
    | with_reducible refine keep_ite ?_ ?_
    | with_reducible refine (keep_cutOutput ..).trans ?_
    | with_reducible refine (keep_feCause ..).trans ?_
    | with_reducible refine (keep_modChan ..).trans ?_
    | with_reducible refine (keep_setSt ..).trans ?_
    | with_reducible split
    | with_reducible exact keep_upd rfl rfl rfl
    | with_reducible dsimp only

theorem keep_wireBreak (n : Nat) (b : Block) : keep (wireBreak n b) = keep b := by
  unfold wireBreak
  repeat' first
    | with_reducible rfl
    | with_reducible refine keep_ite ?_ ?_
    | with_reducible refine (keep_setSt ..).trans ?_
    | with_reducible refine (keep_setStBits ..).trans ?_
    | with_reducible split
    | with_reducible exact keep_upd rfl rfl rfl
    | with_reducible dsimp only

theorem keep_couplerLoss (n : Nat) (b : Block) : keep (couplerLoss n b) = keep b := by
  unfold couplerLoss
  repeat' first
    | with_reducible rfl
    | with_reducible refine keep_ite ?_ ?_
    | with_reducible refine (keep_fault _ _ _ _ _ _ (by rfl)).trans ?_
    | with_reducible split
    | with_reducible exact keep_upd rfl rfl rfl

theorem keep_groupLatch (g : Nat) (bits : Sys2Proof.Word) (b : Block) : keep (groupLatch g bits b) = keep b := by
  unfold groupLatch
  repeat' first
    | with_reducible rfl
    | with_reducible refine (keep_fireIf ..).trans ?_
    | with_reducible refine (keep_markSet ..).trans ?_
    | with_reducible refine (keep_modGroup ..).trans ?_
    | with_reducible exact keep_upd rfl rfl rfl
    | with_reducible dsimp only

theorem keep_fieldFeedLost (g feed volts : Nat) (b : Block) : keep (fieldFeedLost g feed volts b) = keep b := by
  unfold fieldFeedLost
  repeat' first
    | with_reducible rfl
    | with_reducible refine keep_ite ?_ ?_
    | with_reducible refine (keep_groupLatch ..).trans ?_
    | with_reducible refine (keep_modGroup ..).trans ?_
    | with_reducible refine (keep_setSt ..).trans ?_
    | with_reducible (refine (keep_foldl (fun _ _ => ?_) ..).trans ?_)
    | with_reducible split
    | with_reducible exact keep_upd rfl rfl rfl
    | with_reducible dsimp only

theorem keep_fieldFeedRestored (g feed volts : Nat) (b : Block) : keep (fieldFeedRestored g feed volts b) = keep b := by
  unfold fieldFeedRestored
  repeat' first
    | with_reducible rfl
    | with_reducible refine keep_ite ?_ ?_
    | with_reducible refine (keep_modGroup ..).trans ?_
    | with_reducible refine (keep_setFe ..).trans ?_
    | with_reducible refine (keep_setSt ..).trans ?_
    | with_reducible (refine (keep_foldl (fun _ _ => ?_) ..).trans ?_)
    | with_reducible split
    | with_reducible exact keep_upd rfl rfl rfl
    | with_reducible dsimp only

theorem keep_fePowerOff (n : Nat) (b : Block) : keep (fePowerOff n b) = keep b := by
  unfold fePowerOff
  repeat' first
    | with_reducible rfl
    | with_reducible refine keep_ite ?_ ?_
    | with_reducible refine (keep_cutOutput ..).trans ?_
    | with_reducible refine (keep_setFe ..).trans ?_
    | with_reducible split
    | with_reducible exact keep_upd rfl rfl rfl

theorem keep_overcurrent (g curA curB : Nat) (b : Block) : keep (overcurrent g curA curB b) = keep b := by
  unfold overcurrent
  repeat' first
    | with_reducible rfl
    | with_reducible refine keep_ite ?_ ?_
    | with_reducible refine (keep_groupLatch ..).trans ?_
    | with_reducible refine (keep_modGroup ..).trans ?_
    | with_reducible split
    | with_reducible exact keep_upd rfl rfl rfl
    | with_reducible dsimp only

theorem keep_listenWindowEnd (b : Block) : keep (listenWindowEnd b) = keep b := by
  unfold listenWindowEnd
  repeat' first
    | with_reducible rfl
    | with_reducible refine keep_ite ?_ ?_
    | with_reducible refine (keep_modChn ..).trans ?_
    | with_reducible split
    | with_reducible exact keep_upd rfl rfl rfl

theorem keep_chnSwitch (old b : Block) : keep (chnSwitch old b) = keep b := by
  unfold chnSwitch
  repeat' first
    | with_reducible rfl
    | with_reducible refine keep_ite ?_ ?_
    | with_reducible refine (keep_hartDrop ..).trans ?_
    | with_reducible refine (keep_hartSearch ..).trans ?_
    | with_reducible refine (keep_modChan ..).trans ?_
    | with_reducible refine (keep_modChn ..).trans ?_
    | with_reducible refine (keep_modHart ..).trans ?_
    | with_reducible refine (keep_setFe ..).trans ?_
    | with_reducible refine (keep_setStBits ..).trans ?_
    | with_reducible (refine (keep_foldl (fun _ _ => ?_) ..).trans ?_)
    | with_reducible split
    | with_reducible exact keep_upd rfl rfl rfl
    | with_reducible dsimp only

/-! Lpe. -/

theorem keep_lpeStore (c mode : Nat) (t : LpeTerms) (r : LpeResult) (b : Block) : keep (lpeStore c mode t r b) = keep b := by
  unfold lpeStore
  repeat' first
    | with_reducible rfl
    | with_reducible refine keep_ite ?_ ?_
    | with_reducible refine (keep_dropOut ..).trans ?_
    | with_reducible refine (keep_fireIf ..).trans ?_
    | with_reducible refine (keep_modCtx ..).trans ?_
    | with_reducible refine (keep_setCtxState ..).trans ?_
    | with_reducible refine (keep_writeOut ..).trans ?_
    | with_reducible split
    | with_reducible exact keep_upd rfl rfl rfl
    | with_reducible dsimp only

theorem keep_tuneCycle (s c period : Nat) (amp : Sys2Proof.Machine.Num) (b : Block) : keep (tuneCycle s c period amp b) = keep b := by
  unfold tuneCycle
  repeat' first
    | with_reducible rfl
    | with_reducible refine keep_ite ?_ ?_
    | with_reducible refine (keep_modCtx ..).trans ?_
    | with_reducible refine (keep_modSlot ..).trans ?_
    | with_reducible refine (keep_setSlotState ..).trans ?_
    | with_reducible split
    | with_reducible exact keep_upd rfl rfl rfl
    | with_reducible dsimp only

theorem keep_tuneEval (s c at' mode : Nat) (t : LpeTerms) (v : Sys2Proof.Word) (b : Block) : keep (tuneEval s c at' mode t v b) = keep b := by
  unfold tuneEval
  repeat' first
    | with_reducible rfl
    | with_reducible refine keep_ite ?_ ?_
    | with_reducible refine (keep_failTune ..).trans ?_
    | with_reducible refine (keep_lpeStore ..).trans ?_
    | with_reducible refine (keep_modCtx ..).trans ?_
    | with_reducible refine (keep_modSlot ..).trans ?_
    | with_reducible refine (keep_tuneCycle ..).trans ?_
    | with_reducible split
    | with_reducible exact keep_upd rfl rfl rfl
    | with_reducible dsimp only

theorem keep_tuneStart_eq {c : Nat} {bytes : List Sys2Proof.Byte} {b : Block} {bo : Block} {x : Nat} (h : tuneStart c bytes b = some (x, bo)) : keep bo = keep b := by
  unfold tuneStart at h
  repeat' first
    | cases h
    | split at h
    | dsimp only at h
    | with_reducible rfl
    | with_reducible refine (keep_modSlot ..).trans ?_
    | with_reducible refine (keep_setSlotState ..).trans ?_
    | with_reducible split
    | with_reducible exact keep_upd rfl rfl rfl

theorem keep_tuneTimeout (s : Nat) (b : Block) : keep (tuneTimeout s b) = keep b := by
  unfold tuneTimeout
  repeat' first
    | with_reducible rfl
    | with_reducible refine keep_ite ?_ ?_
    | with_reducible refine (keep_failTune ..).trans ?_
    | with_reducible split
    | with_reducible exact keep_upd rfl rfl rfl
    | with_reducible dsimp only

theorem keep_tuneWrite_eq {c : Nat} {v : Sys2Proof.Word} {b : Block} {bo : Block} (h : tuneWrite c v b = some bo) : keep bo = keep b := by
  unfold tuneWrite at h
  repeat' first
    | cases h
    | split at h
    | dsimp only at h
    | with_reducible rfl
    | with_reducible refine (keep_failTune ..).trans ?_
    | with_reducible refine (keep_modCtx ..).trans ?_
    | with_reducible refine (keep_setSlotState ..).trans ?_
    | with_reducible split
    | with_reducible exact keep_upd rfl rfl rfl

theorem keep_lpeHold (c : Nat) (r : LpeRun) (b : Block) : keep (lpeHold c r b) = keep b := by
  unfold lpeHold
  repeat' first
    | with_reducible rfl
    | with_reducible refine keep_ite ?_ ?_
    | with_reducible refine (keep_applyFail ..).trans ?_
    | with_reducible refine (keep_failTune ..).trans ?_
    | with_reducible refine (keep_modCtx ..).trans ?_
    | with_reducible refine (keep_setCtxState ..).trans ?_
    | with_reducible split
    | with_reducible exact keep_upd rfl rfl rfl
    | with_reducible dsimp only

theorem keep_lpeWrite (c : Nat) (r : LpeRun) (b : Block) : keep (lpeWrite c r b) = keep b := by
  unfold lpeWrite
  repeat' first
    | with_reducible rfl
    | with_reducible refine keep_ite ?_ ?_
    | with_reducible refine (keep_lpeHold ..).trans ?_
    | with_reducible refine (keep_lpeStore ..).trans ?_
    | with_reducible refine (keep_modCtx ..).trans ?_
    | with_reducible refine (keep_tuneEval ..).trans ?_
    | with_reducible split
    | with_reducible exact keep_upd rfl rfl rfl
    | with_reducible dsimp only

theorem keep_lpeCommit (c : Nat) (b : Block) : keep (lpeCommit c b) = keep b := by
  unfold lpeCommit
  repeat' first
    | with_reducible rfl
    | with_reducible refine (keep_checkedWrite _ _ _ _ (fun _ => ?_)).trans ?_
    | with_reducible refine (keep_instanceEnd ..).trans ?_
    | with_reducible refine (keep_lpeWrite ..).trans ?_
    | with_reducible refine (keep_modCtx ..).trans ?_
    | with_reducible split
    | with_reducible exact keep_upd rfl rfl rfl
    | with_reducible dsimp only

theorem keep_lpeTick (b : Block) : keep (lpeTick b) = keep b := by
  unfold lpeTick
  repeat' first
    | with_reducible rfl
    | with_reducible refine keep_ite_fst ?_ ?_
    | with_reducible refine keep_ite_snd ?_ ?_
    | with_reducible refine keep_ite ?_ ?_
    | with_reducible refine (keep_lpeCommit ..).trans ?_
    | with_reducible (refine (keep_foldl_snd (fun _ _ => ?_) ..).trans ?_)
    | with_reducible (refine (keep_foldl_fst (fun _ _ => ?_) ..).trans ?_)
    | with_reducible (refine (keep_foldl (fun _ _ => ?_) ..).trans ?_)
    | with_reducible split
    | with_reducible exact keep_upd rfl rfl rfl

theorem keep_loopEvaluation (l dur : Nat) (b : Block) : keep (loopEvaluation l dur b) = keep b := by
  unfold loopEvaluation
  repeat' first
    | with_reducible rfl
    | with_reducible refine keep_ite ?_ ?_
    | with_reducible refine (keep_instanceStart ..).trans ?_
    | with_reducible refine (keep_modCtx ..).trans ?_
    | with_reducible refine (keep_modLpe ..).trans ?_
    | with_reducible split
    | with_reducible exact keep_upd rfl rfl rfl
    | with_reducible dsimp only

theorem keep_lpeAccept (c : Nat) (b : Block) : keep (lpeAccept c b) = keep b := by
  unfold lpeAccept
  repeat' first
    | with_reducible rfl
    | with_reducible refine keep_ite ?_ ?_
    | with_reducible refine (keep_modCtx ..).trans ?_
    | with_reducible refine (keep_modTarget ..).trans ?_
    | with_reducible split
    | with_reducible exact keep_upd rfl rfl rfl
    | with_reducible dsimp only

theorem keep_lpeOverrun (c : Nat) (b : Block) : keep (lpeOverrun c b) = keep b := by
  unfold lpeOverrun
  repeat' first
    | with_reducible rfl
    | with_reducible refine (keep_fire ..).trans ?_
    | with_reducible refine (keep_modCtx ..).trans ?_
    | with_reducible refine (keep_modLpe ..).trans ?_
    | with_reducible refine (keep_overrun ..).trans ?_
    | with_reducible exact keep_upd rfl rfl rfl
    | with_reducible dsimp only

theorem keep_lpeInstant (c : Nat) (b : Block) : keep (lpeInstant c b) = keep b := by
  unfold lpeInstant
  repeat' first
    | with_reducible rfl
    | with_reducible refine keep_ite ?_ ?_
    | with_reducible refine (keep_applyFail ..).trans ?_
    | with_reducible refine (keep_failTune ..).trans ?_
    | with_reducible refine (keep_lpeAccept ..).trans ?_
    | with_reducible refine (keep_lpeOverrun ..).trans ?_
    | with_reducible refine (keep_modCtx ..).trans ?_
    | with_reducible refine (keep_resolveTarget ..).trans ?_
    | with_reducible (refine (keep_foldl (fun _ _ => ?_) ..).trans ?_)
    | with_reducible split
    | with_reducible exact keep_upd rfl rfl rfl
    | with_reducible dsimp only

theorem keep_lpeInstants (t : Nat) (b : Block) : keep (lpeInstants t b) = keep b := by
  unfold lpeInstants
  repeat' first
    | with_reducible rfl
    | with_reducible refine keep_ite ?_ ?_
    | with_reducible refine (keep_lpeInstant ..).trans ?_
    | with_reducible (refine (keep_foldl (fun _ _ => ?_) ..).trans ?_)
    | with_reducible split
    | with_reducible exact keep_upd rfl rfl rfl

theorem keep_lpeUnfreeze (start : Nat) (b : Block) : keep (lpeUnfreeze start b) = keep b := by
  unfold lpeUnfreeze
  repeat' first
    | with_reducible rfl
    | with_reducible refine keep_ite ?_ ?_
    | with_reducible refine (keep_modLpe ..).trans ?_
    | with_reducible split
    | with_reducible exact keep_upd rfl rfl rfl
    | with_reducible dsimp only

theorem keep_lpeRestore (c : Nat) (r : Option (List Sys2Proof.Byte)) (b : Block) : keep (lpeRestore c r b) = keep b := by
  unfold lpeRestore
  repeat' first
    | with_reducible rfl
    | with_reducible refine keep_ite ?_ ?_
    | with_reducible refine (keep_modCtx ..).trans ?_
    | with_reducible refine (keep_modTarget ..).trans ?_
    | with_reducible (refine (keep_foldl (fun _ _ => ?_) ..).trans ?_)
    | with_reducible split
    | with_reducible exact keep_upd rfl rfl rfl
    | with_reducible dsimp only

/-! DpIntake. -/

theorem keep_classSlot (at' s : Nat) (b : Block) : keep (classSlot at' s b) = keep b := by
  unfold classSlot
  repeat' first
    | with_reducible rfl
    | with_reducible refine keep_ite_fst ?_ ?_
    | with_reducible refine keep_ite_snd ?_ ?_
    | with_reducible refine keep_ite ?_ ?_
    | with_reducible refine (keep_modDpSlot ..).trans ?_
    | with_reducible (refine (keep_foldl_snd (fun _ _ => ?_) ..).trans ?_)
    | with_reducible (refine (keep_foldl_fst (fun _ _ => ?_) ..).trans ?_)
    | with_reducible (refine (keep_foldl (fun _ _ => ?_) ..).trans ?_)
    | with_reducible split
    | with_reducible exact keep_upd rfl rfl rfl
    | with_reducible dsimp only

theorem keep_maskSlot (at' s : Nat) (b : Block) : keep (maskSlot at' s b) = keep b := by
  unfold maskSlot
  repeat' first
    | with_reducible rfl
    | with_reducible refine keep_ite ?_ ?_
    | with_reducible refine (keep_modDpSlot ..).trans ?_
    | with_reducible refine (keep_slotShow ..).trans ?_
    | with_reducible split
    | with_reducible exact keep_upd rfl rfl rfl
    | with_reducible dsimp only

theorem keep_voteCounts (entered : List Nat) (v : VoteOut) (b : Block) : keep (voteCounts entered v b) = keep b := by
  unfold voteCounts
  repeat' first
    | with_reducible rfl
    | with_reducible refine keep_ite ?_ ?_
    | with_reducible refine (keep_modDpSlot ..).trans ?_
    | with_reducible refine (keep_slotShow ..).trans ?_
    | with_reducible (refine (keep_foldl (fun _ _ => ?_) ..).trans ?_)
    | with_reducible split
    | with_reducible exact keep_upd rfl rfl rfl

theorem keep_spend (s : Nat) (m : DpSample) (b : Block) : keep (spend s m b) = keep b := by
  unfold spend
  repeat' first
    | with_reducible rfl
    | with_reducible refine (keep_modDpSlot ..).trans ?_
    | with_reducible exact keep_upd rfl rfl rfl

theorem keep_dropOlder (b : Block) : keep (dropOlder b) = keep b := by
  unfold dropOlder
  repeat' first
    | with_reducible rfl
    | with_reducible refine keep_ite ?_ ?_
    | with_reducible refine (keep_modDpSlot ..).trans ?_
    | with_reducible (refine (keep_foldl (fun _ _ => ?_) ..).trans ?_)
    | with_reducible split
    | with_reducible exact keep_upd rfl rfl rfl

theorem keep_takePositions (at' : Nat) (t : Int) (voters : List Nat) (v : VoteOut) (b : Block) : keep (takePositions at' t voters v b).2 = keep b := by
  unfold takePositions
  repeat' first
    | with_reducible rfl
    | with_reducible refine keep_ite_fst ?_ ?_
    | with_reducible refine keep_ite_snd ?_ ?_
    | with_reducible refine keep_ite ?_ ?_
    | with_reducible refine (keep_modDpSlot ..).trans ?_
    | with_reducible refine (keep_spend ..).trans ?_
    | with_reducible (refine (keep_foldl_snd (fun _ _ => ?_) ..).trans ?_)
    | with_reducible (refine (keep_foldl_fst (fun _ _ => ?_) ..).trans ?_)
    | with_reducible (refine (keep_foldl (fun _ _ => ?_) ..).trans ?_)
    | with_reducible split
    | with_reducible exact keep_upd rfl rfl rfl
    | with_reducible dsimp only

theorem keep_takePositions_eq {at' : Nat} {t : Int} {voters : List Nat} {v : VoteOut} {b : Block} {x : List PosIn} {bo : Block} (h : takePositions at' t voters v b = (x, bo)) : keep bo = keep b := by
  have e := keep_takePositions at' t voters v b
  rw [h] at e
  exact e

theorem keep_alignRefs (t : Int) (ins vs : List PosIn) (v : VoteOut) (b : Block) : keep (alignRefs t ins vs v b).2 = keep b := by
  unfold alignRefs
  repeat' first
    | with_reducible rfl
    | with_reducible refine keep_ite_fst ?_ ?_
    | with_reducible refine keep_ite_snd ?_ ?_
    | with_reducible refine keep_ite ?_ ?_
    | with_reducible refine (keep_modDpSlot ..).trans ?_
    | with_reducible (refine (keep_foldl_snd (fun _ _ => ?_) ..).trans ?_)
    | with_reducible (refine (keep_foldl_fst (fun _ _ => ?_) ..).trans ?_)
    | with_reducible (refine (keep_foldl (fun _ _ => ?_) ..).trans ?_)
    | with_reducible split
    | with_reducible exact keep_upd rfl rfl rfl
    | with_reducible dsimp only

theorem keep_alignRefs_eq {t : Int} {ins vs : List PosIn} {v : VoteOut} {b : Block} {x : List PosIn} {bo : Block} (h : alignRefs t ins vs v b = (x, bo)) : keep bo = keep b := by
  have e := keep_alignRefs t ins vs v b
  rw [h] at e
  exact e

theorem keep_formRecord (at' : Nat) (b : Block) : keep (formRecord at' b) = keep b := by
  unfold formRecord
  repeat' first
    | with_reducible rfl
    | with_reducible refine keep_ite_fst ?_ ?_
    | with_reducible refine keep_ite_snd ?_ ?_
    | with_reducible refine keep_ite ?_ ?_
    | with_reducible refine (keep_alignRefs ..).trans ?_
    | with_reducible refine (keep_alignRefs_eq (by assumption)).trans ?_
    | with_reducible refine (keep_dropOlder ..).trans ?_
    | with_reducible refine (keep_fireIf ..).trans ?_
    | with_reducible refine (keep_modDp ..).trans ?_
    | with_reducible refine (keep_spend ..).trans ?_
    | with_reducible refine (keep_takePositions ..).trans ?_
    | with_reducible refine (keep_takePositions_eq (by assumption)).trans ?_
    | with_reducible refine (keep_voteCounts ..).trans ?_
    | with_reducible (refine (keep_foldl_snd (fun _ _ => ?_) ..).trans ?_)
    | with_reducible (refine (keep_foldl_fst (fun _ _ => ?_) ..).trans ?_)
    | with_reducible (refine (keep_foldl (fun _ _ => ?_) ..).trans ?_)
    | with_reducible split
    | with_reducible exact keep_upd rfl rfl rfl
    | with_reducible dsimp only

theorem keep_intake (at' : Nat) (b : Block) : keep (intake at' b) = keep b := by
  unfold intake
  repeat' first
    | with_reducible rfl
    | with_reducible refine (keep_classSlot ..).trans ?_
    | with_reducible refine (keep_formRecord ..).trans ?_
    | with_reducible refine (keep_maskSlot ..).trans ?_
    | with_reducible (refine (keep_foldl (fun _ _ => ?_) ..).trans ?_)
    | with_reducible exact keep_upd rfl rfl rfl
    | with_reducible dsimp only

theorem keep_lateWindowEnd (b : Block) : keep (lateWindowEnd b) = keep b := by
  unfold lateWindowEnd
  repeat' first
    | with_reducible rfl
    | with_reducible refine keep_ite ?_ ?_
    | with_reducible refine (keep_modDpSlot ..).trans ?_
    | with_reducible refine (keep_slotShow ..).trans ?_
    | with_reducible (refine (keep_foldl (fun _ _ => ?_) ..).trans ?_)
    | with_reducible split
    | with_reducible exact keep_upd rfl rfl rfl
    | with_reducible dsimp only

theorem keep_readmit (s : Nat) (b : Block) : keep (readmit s b) = keep b := by
  unfold readmit
  repeat' first
    | with_reducible rfl
    | with_reducible refine (keep_modDpSlot ..).trans ?_
    | with_reducible refine (keep_slotShow ..).trans ?_
    | with_reducible exact keep_upd rfl rfl rfl

theorem keep_reOrigin_eq {b : Block} {bo : Block} (h : reOrigin b = some bo) : keep bo = keep b := by
  unfold reOrigin at h
  repeat' first
    | cases h
    | split at h
    | dsimp only at h
    | with_reducible rfl
    | with_reducible refine (keep_fire ..).trans ?_
    | with_reducible refine (keep_modDp ..).trans ?_
    | with_reducible refine (keep_setOrigin ..).trans ?_
    | with_reducible split
    | with_reducible exact keep_upd rfl rfl rfl

/-! DpEst. -/

theorem keep_windStep (r : DpRecord) (b : Block) : keep (windStep r b) = keep b := by
  unfold windStep
  repeat' first
    | with_reducible rfl
    | with_reducible refine keep_ite ?_ ?_
    | with_reducible refine (keep_modDp ..).trans ?_
    | with_reducible split
    | with_reducible exact keep_upd rfl rfl rfl
    | with_reducible dsimp only

theorem keep_estInit (t : Nat) (pm : Sys2Proof.Machine.Num × Sys2Proof.Machine.Num × Sys2Proof.Machine.Num) (hm : Sys2Proof.Machine.Num × Sys2Proof.Machine.Num) (b : Block) : keep (estInit t pm hm b) = keep b := by
  unfold estInit
  repeat' first
    | with_reducible rfl
    | with_reducible refine keep_ite ?_ ?_
    | with_reducible refine (keep_modDp ..).trans ?_
    | with_reducible refine (keep_setEst ..).trans ?_
    | with_reducible split
    | with_reducible exact keep_upd rfl rfl rfl
    | with_reducible dsimp only

theorem keep_drStep (both hdg : Bool) (b : Block) : keep (drStep both hdg b) = keep b := by
  unfold drStep
  repeat' first
    | with_reducible rfl
    | with_reducible refine keep_ite ?_ ?_
    | with_reducible refine (keep_modDp ..).trans ?_
    | with_reducible refine (keep_setEst ..).trans ?_
    | with_reducible split
    | with_reducible exact keep_upd rfl rfl rfl
    | with_reducible dsimp only

theorem keep_estUpdate (pm : Option (Sys2Proof.Machine.Num × Sys2Proof.Machine.Num × Sys2Proof.Machine.Num)) (hm : Option (Sys2Proof.Machine.Num × Sys2Proof.Machine.Num)) (xp : Vec' × Mat) (b : Block) : keep (estUpdate pm hm xp b) = keep b := by
  unfold estUpdate
  repeat' first
    | with_reducible rfl
    | with_reducible refine keep_ite ?_ ?_
    | with_reducible refine (keep_drStep ..).trans ?_
    | with_reducible refine (keep_fireIf ..).trans ?_
    | with_reducible refine (keep_modDp ..).trans ?_
    | with_reducible split
    | with_reducible exact keep_upd rfl rfl rfl
    | with_reducible dsimp only

theorem keep_estResume (tf at' : Nat) (pm : Option (Sys2Proof.Machine.Num × Sys2Proof.Machine.Num × Sys2Proof.Machine.Num)) (hm : Option (Sys2Proof.Machine.Num × Sys2Proof.Machine.Num)) (b : Block) : keep (estResume tf at' pm hm b) = keep b := by
  unfold estResume
  repeat' first
    | with_reducible rfl
    | with_reducible refine keep_ite ?_ ?_
    | with_reducible refine (keep_drStep ..).trans ?_
    | with_reducible refine (keep_modDp ..).trans ?_
    | with_reducible split
    | with_reducible exact keep_upd rfl rfl rfl
    | with_reducible dsimp only

theorem keep_estPredict (at' : Nat) (b : Block) : keep (estPredict at' b) = keep b := by
  unfold estPredict
  repeat' first
    | with_reducible rfl
    | with_reducible refine keep_ite ?_ ?_
    | with_reducible refine (keep_modDp ..).trans ?_
    | with_reducible split
    | with_reducible exact keep_upd rfl rfl rfl
    | with_reducible dsimp only

theorem keep_setSpTarget (i : Nat) (v : Sys2Proof.Word) (b : Block) : keep (setSpTarget i v b) = keep b := by
  unfold setSpTarget
  repeat' first
    | with_reducible rfl
    | with_reducible refine (keep_modTarget ..).trans ?_
    | with_reducible exact keep_upd rfl rfl rfl

theorem keep_originMove (b : Block) : keep (originMove b) = keep b := by
  unfold originMove
  repeat' first
    | with_reducible rfl
    | with_reducible refine keep_ite ?_ ?_
    | with_reducible refine (keep_modDp ..).trans ?_
    | with_reducible refine (keep_setSpTarget ..).trans ?_
    | with_reducible split
    | with_reducible exact keep_upd rfl rfl rfl
    | with_reducible dsimp only

theorem keep_estimate (r : DpRecord) (b : Block) : keep (estimate r b) = keep b := by
  unfold estimate
  repeat' first
    | with_reducible rfl
    | with_reducible refine keep_ite ?_ ?_
    | with_reducible refine (keep_estInit ..).trans ?_
    | with_reducible refine (keep_estPredict ..).trans ?_
    | with_reducible refine (keep_estResume ..).trans ?_
    | with_reducible refine (keep_estUpdate ..).trans ?_
    | with_reducible refine (keep_modDp ..).trans ?_
    | with_reducible refine (keep_originMove ..).trans ?_
    | with_reducible refine (keep_windStep ..).trans ?_
    | with_reducible split
    | with_reducible exact keep_upd rfl rfl rfl
    | with_reducible dsimp only

theorem keep_spToEstimate (b : Block) : keep (spToEstimate b) = keep b := by
  unfold spToEstimate
  repeat' first
    | with_reducible rfl
    | with_reducible refine (keep_modDp ..).trans ?_
    | with_reducible refine (keep_setSpTarget ..).trans ?_
    | with_reducible exact keep_upd rfl rfl rfl
    | with_reducible dsimp only

theorem keep_rampDp (b : Block) : keep (rampDp b) = keep b := by
  unfold rampDp
  dsimp only
  refine (keep_modDp ..).trans ?_
  repeat' first
    | with_reducible rfl
    | with_reducible refine (keep_setSpTarget ..).trans ?_
    | split


theorem keep_demand (b : Block) : keep (demand b) = keep b := by
  unfold demand
  repeat' first
    | with_reducible rfl
    | with_reducible refine keep_ite ?_ ?_
    | with_reducible refine (keep_fireIf ..).trans ?_
    | with_reducible refine (keep_modDp ..).trans ?_
    | with_reducible (refine (keep_foldl (fun _ _ => ?_) ..).trans ?_)
    | with_reducible split
    | with_reducible exact keep_upd rfl rfl rfl
    | with_reducible dsimp only

theorem keep_controlLaw (b : Block) : keep (controlLaw b) = keep b := by
  unfold controlLaw
  repeat' first
    | with_reducible rfl
    | with_reducible refine keep_ite_fst ?_ ?_
    | with_reducible refine keep_ite_snd ?_ ?_
    | with_reducible refine keep_ite ?_ ?_
    | with_reducible refine (keep_demand ..).trans ?_
    | with_reducible refine (keep_modDp ..).trans ?_
    | with_reducible refine (keep_rampDp ..).trans ?_
    | with_reducible refine (keep_refuse ..).trans ?_
    | with_reducible refine (keep_setSpTarget ..).trans ?_
    | with_reducible refine (keep_spToEstimate ..).trans ?_
    | with_reducible (refine (keep_foldl_snd (fun _ _ => ?_) ..).trans ?_)
    | with_reducible (refine (keep_foldl_fst (fun _ _ => ?_) ..).trans ?_)
    | with_reducible (refine (keep_foldl (fun _ _ => ?_) ..).trans ?_)
    | with_reducible split
    | with_reducible exact keep_upd rfl rfl rfl
    | with_reducible dsimp only

/-! DpAlloc. -/

theorem keep_thrRefresh (n : Nat) (b : Block) : keep (thrRefresh n b) = keep b := by
  unfold thrRefresh
  repeat' first
    | with_reducible rfl
    | with_reducible refine keep_ite ?_ ?_
    | with_reducible refine (keep_fireIf ..).trans ?_
    | with_reducible refine (keep_modThr ..).trans ?_
    | with_reducible split
    | with_reducible exact keep_upd rfl rfl rfl
    | with_reducible dsimp only

theorem keep_intactSolve (b : Block) : keep (intactSolve b) = keep b := by
  unfold intactSolve
  repeat' first
    | with_reducible rfl
    | with_reducible refine (keep_stageWrite _ _ _ _ (fun _ => ?_)).trans ?_
    | with_reducible refine keep_ite_fst ?_ ?_
    | with_reducible refine keep_ite_snd ?_ ?_
    | with_reducible refine keep_ite ?_ ?_
    | with_reducible refine (keep_modDp ..).trans ?_
    | with_reducible refine (keep_modThr ..).trans ?_
    | with_reducible refine (keep_thrRefresh ..).trans ?_
    | with_reducible refine (keep_verdictEvent ..).trans ?_
    | with_reducible (refine (keep_foldl_snd (fun _ _ => ?_) ..).trans ?_)
    | with_reducible (refine (keep_foldl_fst (fun _ _ => ?_) ..).trans ?_)
    | with_reducible (refine (keep_foldl (fun _ _ => ?_) ..).trans ?_)
    | with_reducible split
    | with_reducible exact keep_upd rfl rfl rfl
    | with_reducible dsimp only

theorem keep_groupSolve (g : Nat) (b : Block) : keep (groupSolve g b) = keep b := by
  unfold groupSolve
  repeat' first
    | with_reducible rfl
    | with_reducible refine keep_ite ?_ ?_
    | with_reducible refine (keep_modDp ..).trans ?_
    | with_reducible refine (keep_modGrp ..).trans ?_
    | with_reducible refine (keep_verdictEvent ..).trans ?_
    | with_reducible split
    | with_reducible exact keep_upd rfl rfl rfl
    | with_reducible dsimp only

theorem keep_deliverThr (n : Nat) (b : Block) : keep (deliverThr n b) = keep b := by
  unfold deliverThr
  repeat' first
    | with_reducible rfl
    | with_reducible refine keep_ite ?_ ?_
    | with_reducible refine (keep_dropThr ..).trans ?_
    | with_reducible refine (keep_modThr ..).trans ?_
    | with_reducible refine (keep_writeTarget ..).trans ?_
    | with_reducible split
    | with_reducible exact keep_upd rfl rfl rfl
    | with_reducible dsimp only

theorem keep_deliver (b : Block) : keep (deliver b) = keep b := by
  unfold deliver
  repeat' first
    | with_reducible rfl
    | with_reducible refine (keep_deliverThr ..).trans ?_
    | with_reducible (refine (keep_foldl (fun _ _ => ?_) ..).trans ?_)
    | with_reducible exact keep_upd rfl rfl rfl

theorem keep_deliverSafe (b : Block) : keep (deliverSafe b) = keep b := by
  unfold deliverSafe
  repeat' first
    | with_reducible rfl
    | with_reducible refine keep_ite ?_ ?_
    | with_reducible refine (keep_dropThr ..).trans ?_
    | with_reducible refine (keep_writeTarget ..).trans ?_
    | with_reducible (refine (keep_foldl (fun _ _ => ?_) ..).trans ?_)
    | with_reducible split
    | with_reducible exact keep_upd rfl rfl rfl

/-! Dp. -/

theorem keep_modCycle (f : DpCycle → DpCycle) (b : Block) : keep (modCycle f b) = keep b := by
  unfold modCycle
  repeat' first
    | with_reducible rfl
    | with_reducible refine (keep_modDp ..).trans ?_
    | with_reducible exact keep_upd rfl rfl rfl

theorem keep_stageWrite (site : Nat) (results : Dp → List Word) (f : Block → Block) (b : Block) (h : ∀ c, keep (f c) = keep c) :
    keep (stageWrite site results f b) = keep b := keep_checkedWrite _ _ _ _ h


theorem keep_conseqStep (b : Block) : keep (conseqStep b) = keep b := by
  unfold conseqStep
  repeat' first
    | with_reducible rfl
    | with_reducible refine keep_ite ?_ ?_
    | with_reducible refine (keep_fireIf ..).trans ?_
    | with_reducible refine (keep_modDp ..).trans ?_
    | with_reducible split
    | with_reducible exact keep_upd rfl rfl rfl
    | with_reducible dsimp only

theorem keep_cycleEnd (b : Block) : keep (cycleEnd b) = keep b := by
  unfold cycleEnd
  repeat' first
    | with_reducible rfl
    | with_reducible refine keep_ite ?_ ?_
    | with_reducible refine (keep_conseqStep ..).trans ?_
    | with_reducible refine (keep_fire ..).trans ?_
    | with_reducible refine (keep_modDp ..).trans ?_
    | with_reducible split
    | with_reducible exact keep_upd rfl rfl rfl
    | with_reducible dsimp only

theorem keep_cycleSettle (b : Block) : keep (cycleSettle b) = keep b := by
  unfold cycleSettle
  repeat' first
    | with_reducible rfl
    | with_reducible refine keep_ite ?_ ?_
    | with_reducible refine (keep_cycleEnd ..).trans ?_
    | with_reducible split
    | with_reducible exact keep_upd rfl rfl rfl

theorem keep_notDone (g : Nat) (b : Block) : keep (notDone g b) = keep b := by
  unfold notDone
  repeat' first
    | with_reducible rfl
    | with_reducible refine (keep_modCycle ..).trans ?_
    | with_reducible refine (keep_modDp ..).trans ?_
    | with_reducible refine (keep_modGrp ..).trans ?_
    | with_reducible refine (keep_verdictEvent ..).trans ?_
    | with_reducible exact keep_upd rfl rfl rfl
    | with_reducible dsimp only

theorem keep_abandonGroups (b : Block) : keep (abandonGroups b) = keep b := by
  unfold abandonGroups
  repeat' first
    | with_reducible rfl
    | with_reducible refine (keep_cycleSettle ..).trans ?_
    | with_reducible refine (keep_modCycle ..).trans ?_
    | with_reducible refine (keep_notDone ..).trans ?_
    | with_reducible (refine (keep_foldl (fun _ _ => ?_) ..).trans ?_)
    | with_reducible exact keep_upd rfl rfl rfl
    | with_reducible dsimp only

theorem keep_consequenceCutoff (b : Block) : keep (consequenceCutoff b) = keep b := by
  unfold consequenceCutoff
  repeat' first
    | with_reducible rfl
    | with_reducible refine keep_ite ?_ ?_
    | with_reducible refine (keep_abandonGroups ..).trans ?_
    | with_reducible split
    | with_reducible exact keep_upd rfl rfl rfl
    | with_reducible dsimp only

theorem keep_solveEnd (r : DpRun) (b : Block) : keep (solveEnd r b) = keep b := by
  unfold solveEnd
  repeat' first
    | with_reducible rfl
    | with_reducible refine (keep_stageWrite _ _ _ _ (fun _ => ?_)).trans ?_
    | with_reducible refine (keep_groupSolve ..).trans ?_
    | with_reducible refine (keep_instanceEnd ..).trans ?_
    | with_reducible refine (keep_modCycle ..).trans ?_
    | with_reducible exact keep_upd rfl rfl rfl
    | with_reducible dsimp only

theorem keep_dpTick (b : Block) : keep (dpTick b) = keep b := by
  unfold dpTick
  repeat' first
    | with_reducible rfl
    | with_reducible refine keep_ite ?_ ?_
    | with_reducible refine (keep_cycleSettle ..).trans ?_
    | with_reducible refine (keep_solveEnd ..).trans ?_
    | with_reducible (refine (keep_foldl (fun _ _ => ?_) ..).trans ?_)
    | with_reducible split
    | with_reducible exact keep_upd rfl rfl rfl
    | with_reducible dsimp only

theorem keep_dpUnfreeze (start : Nat) (b : Block) : keep (dpUnfreeze start b) = keep b := by
  unfold dpUnfreeze
  repeat' first
    | with_reducible rfl
    | with_reducible refine keep_ite ?_ ?_
    | with_reducible refine (keep_modCycle ..).trans ?_
    | with_reducible split
    | with_reducible exact keep_upd rfl rfl rfl
    | with_reducible dsimp only

theorem keep_autoAlign (b : Block) : keep (autoAlign b) = keep b := by
  unfold autoAlign
  repeat' first
    | with_reducible rfl
    | with_reducible refine keep_ite ?_ ?_
    | with_reducible refine (keep_setFusion ..).trans ?_
    | with_reducible split
    | with_reducible exact keep_upd rfl rfl rfl
    | with_reducible dsimp only

theorem keep_enableStep (cause : Nat) (b : Block) : keep (enableStep cause b) = keep b := by
  unfold enableStep
  repeat' first
    | with_reducible rfl
    | with_reducible refine keep_ite ?_ ?_
    | with_reducible refine (keep_dropThrs ..).trans ?_
    | with_reducible refine (keep_setDpState ..).trans ?_
    | with_reducible split
    | with_reducible exact keep_upd rfl rfl rfl
    | with_reducible dsimp only

theorem keep_boundaryActs (b : Block) : keep (boundaryActs b) = keep b := by
  unfold boundaryActs
  repeat' first
    | with_reducible rfl
    | with_reducible refine keep_ite_fst ?_ ?_
    | with_reducible refine keep_ite_snd ?_ ?_
    | with_reducible refine (keep_modDp ..).trans ?_
    | with_reducible refine (keep_reOrigin_eq (by assumption)).trans ?_
    | with_reducible refine (keep_readmit ..).trans ?_
    | with_reducible refine (keep_refuse ..).trans ?_
    | with_reducible (refine (keep_foldl_snd (fun _ _ => ?_) ..).trans ?_)
    | with_reducible (refine (keep_foldl_fst (fun _ _ => ?_) ..).trans ?_)
    | with_reducible (refine (keep_foldl (fun _ _ => ?_) ..).trans ?_)
    | with_reducible split
    | with_reducible exact keep_upd rfl rfl rfl
    | with_reducible dsimp only

theorem keep_stageOverrun (b : Block) : keep (stageOverrun b) = keep b := by
  unfold stageOverrun
  repeat' first
    | with_reducible rfl
    | with_reducible refine keep_ite ?_ ?_
    | with_reducible refine (keep_fire ..).trans ?_
    | with_reducible refine (keep_modDp ..).trans ?_
    | with_reducible refine (keep_overrun ..).trans ?_
    | with_reducible split
    | with_reducible exact keep_upd rfl rfl rfl
    | with_reducible dsimp only

theorem keep_dpInputResolve (k : Nat) (b : Block) : keep (dpInputResolve k b) = keep b := by
  unfold dpInputResolve
  repeat' first
    | with_reducible rfl
    | with_reducible refine (keep_modTarget ..).trans ?_
    | with_reducible refine (keep_resolveEng ..).trans ?_
    | with_reducible exact keep_upd rfl rfl rfl
    | with_reducible dsimp only

theorem keep_dpCycleBoundary (b : Block) : keep (dpCycleBoundary b) = keep b := by
  unfold dpCycleBoundary
  repeat' first
    | with_reducible rfl
    | with_reducible refine keep_ite_fst ?_ ?_
    | with_reducible refine keep_ite_snd ?_ ?_
    | with_reducible refine keep_ite ?_ ?_
    | with_reducible refine (keep_abandonGroups ..).trans ?_
    | with_reducible refine (keep_autoAlign ..).trans ?_
    | with_reducible refine (keep_boundaryActs ..).trans ?_
    | with_reducible refine (keep_cycleEnd ..).trans ?_
    | with_reducible refine (keep_deliverSafe ..).trans ?_
    | with_reducible refine (keep_dpInputResolve ..).trans ?_
    | with_reducible refine (keep_enableStep ..).trans ?_
    | with_reducible refine (keep_modCycle ..).trans ?_
    | with_reducible refine (keep_modDp ..).trans ?_
    | with_reducible refine (keep_resolveTarget ..).trans ?_
    | with_reducible refine (keep_setFusion ..).trans ?_
    | with_reducible refine (keep_slotShow ..).trans ?_
    | with_reducible refine (keep_stageOverrun ..).trans ?_
    | with_reducible (refine (keep_foldl_snd (fun _ _ => ?_) ..).trans ?_)
    | with_reducible (refine (keep_foldl_fst (fun _ _ => ?_) ..).trans ?_)
    | with_reducible (refine (keep_foldl (fun _ _ => ?_) ..).trans ?_)
    | with_reducible split
    | with_reducible exact keep_upd rfl rfl rfl
    | with_reducible dsimp only

theorem keep_stageDone (act site dur next : Nat) (b : Block) : keep (stageDone act site dur next b) = keep b := by
  unfold stageDone
  repeat' first
    | with_reducible rfl
    | with_reducible refine (keep_instanceEnd ..).trans ?_
    | with_reducible refine (keep_modCycle ..).trans ?_
    | with_reducible exact keep_upd rfl rfl rfl

theorem keep_intakeStage (dur : Nat) (b : Block) : keep (intakeStage dur b) = keep b := by
  unfold intakeStage
  repeat' first
    | with_reducible rfl
    | with_reducible refine (keep_stageWrite _ _ _ _ (fun _ => ?_)).trans ?_
    | with_reducible refine keep_ite ?_ ?_
    | with_reducible refine (keep_instanceStart ..).trans ?_
    | with_reducible refine (keep_intake ..).trans ?_
    | with_reducible refine (keep_stageDone ..).trans ?_
    | with_reducible split
    | with_reducible exact keep_upd rfl rfl rfl
    | with_reducible dsimp only

theorem keep_estimatorStage (dur : Nat) (b : Block) : keep (estimatorStage dur b) = keep b := by
  unfold estimatorStage
  repeat' first
    | with_reducible rfl
    | with_reducible refine (keep_stageWrite _ _ _ _ (fun _ => ?_)).trans ?_
    | with_reducible refine keep_ite ?_ ?_
    | with_reducible refine (keep_enableStep ..).trans ?_
    | with_reducible refine (keep_estimate ..).trans ?_
    | with_reducible refine (keep_instanceStart ..).trans ?_
    | with_reducible refine (keep_stageDone ..).trans ?_
    | with_reducible split
    | with_reducible exact keep_upd rfl rfl rfl
    | with_reducible dsimp only

theorem keep_controlLawStage (dur : Nat) (b : Block) : keep (controlLawStage dur b) = keep b := by
  unfold controlLawStage
  repeat' first
    | with_reducible rfl
    | with_reducible refine (keep_stageWrite _ _ _ _ (fun _ => ?_)).trans ?_
    | with_reducible refine keep_ite ?_ ?_
    | with_reducible refine (keep_controlLaw ..).trans ?_
    | with_reducible refine (keep_instanceStart ..).trans ?_
    | with_reducible refine (keep_stageDone ..).trans ?_
    | with_reducible split
    | with_reducible exact keep_upd rfl rfl rfl

theorem keep_intactSolveStage (dur : Nat) (b : Block) : keep (intactSolveStage dur b) = keep b := by
  unfold intactSolveStage
  repeat' first
    | with_reducible rfl
    | with_reducible refine (keep_stageWrite _ _ _ _ (fun _ => ?_)).trans ?_
    | with_reducible refine keep_ite ?_ ?_
    | with_reducible refine (keep_cycleSettle ..).trans ?_
    | with_reducible refine (keep_deliver ..).trans ?_
    | with_reducible refine (keep_instanceStart ..).trans ?_
    | with_reducible refine (keep_intactSolve ..).trans ?_
    | with_reducible refine (keep_modCycle ..).trans ?_
    | with_reducible refine (keep_modGrp ..).trans ?_
    | with_reducible refine (keep_solverRemap ..).trans ?_
    | with_reducible refine (keep_stageDone ..).trans ?_
    | with_reducible refine (keep_verdictEvent ..).trans ?_
    | with_reducible (refine (keep_foldl (fun _ _ => ?_) ..).trans ?_)
    | with_reducible split
    | with_reducible exact keep_upd rfl rfl rfl
    | with_reducible dsimp only

theorem keep_delivery (b : Block) : keep (delivery b) = keep b := by
  unfold delivery
  repeat' first
    | with_reducible rfl
    | with_reducible refine keep_ite ?_ ?_
    | with_reducible refine (keep_cycleSettle ..).trans ?_
    | with_reducible refine (keep_deliver ..).trans ?_
    | with_reducible refine (keep_modCycle ..).trans ?_
    | with_reducible split
    | with_reducible exact keep_upd rfl rfl rfl
    | with_reducible dsimp only

theorem keep_consequenceSolve (g dur : Nat) (b : Block) : keep (consequenceSolve g dur b) = keep b := by
  unfold consequenceSolve
  repeat' first
    | with_reducible rfl
    | with_reducible refine (keep_stageWrite _ _ _ _ (fun _ => ?_)).trans ?_
    | with_reducible refine keep_ite ?_ ?_
    | with_reducible refine (keep_instanceStart ..).trans ?_
    | with_reducible refine (keep_modCycle ..).trans ?_
    | with_reducible split
    | with_reducible exact keep_upd rfl rfl rfl
    | with_reducible dsimp only

theorem keep_dpRestore (r : List Sys2Proof.Byte) (shift : Int) (b : Block) : keep (dpRestore r shift b) = keep b := by
  unfold dpRestore
  repeat' first
    | with_reducible rfl
    | with_reducible refine keep_ite_fst ?_ ?_
    | with_reducible refine keep_ite_snd ?_ ?_
    | with_reducible refine keep_ite ?_ ?_
    | with_reducible refine (keep_dpSeedTake ..).trans ?_
    | with_reducible refine (keep_modDp ..).trans ?_
    | with_reducible refine (keep_modTarget ..).trans ?_
    | with_reducible refine (keep_modThr ..).trans ?_
    | with_reducible refine (keep_setDpState ..).trans ?_
    | with_reducible refine (keep_setEst ..).trans ?_
    | with_reducible refine (keep_setOrigin ..).trans ?_
    | with_reducible (refine (keep_foldl_snd (fun _ _ => ?_) ..).trans ?_)
    | with_reducible (refine (keep_foldl_fst (fun _ _ => ?_) ..).trans ?_)
    | with_reducible (refine (keep_foldl (fun _ _ => ?_) ..).trans ?_)
    | with_reducible split
    | with_reducible exact keep_upd rfl rfl rfl
    | with_reducible dsimp only

/-! Sample. -/

theorem keep_sampleInstant (n : Nat) (b : Block) : keep (sampleInstant n b) = keep b := by
  unfold sampleInstant
  repeat' first
    | with_reducible rfl
    | with_reducible refine keep_ite ?_ ?_
    | with_reducible refine (keep_modChan ..).trans ?_
    | with_reducible refine (keep_modChn ..).trans ?_
    | with_reducible refine (keep_overrun ..).trans ?_
    | with_reducible split
    | with_reducible exact keep_upd rfl rfl rfl
    | with_reducible dsimp only

theorem keep_putEntry (n t : Nat) (value aux : Sys2Proof.Word) (status : Nat) (b : Block) : keep (putEntry n t value aux status b) = keep b := by
  unfold putEntry
  repeat' first
    | with_reducible rfl
    | with_reducible refine (keep_modChan ..).trans ?_
    | with_reducible exact keep_upd rfl rfl rfl

theorem keep_sampleWrite (n : Nat) (x : Sys2Proof.Word) (high : Bool) (b : Block) : keep (sampleWrite n x high b) = keep b := by
  unfold sampleWrite
  repeat' first
    | with_reducible rfl
    | with_reducible refine keep_ite ?_ ?_
    | with_reducible refine (keep_modChan ..).trans ?_
    | with_reducible refine (keep_putEntry ..).trans ?_
    | with_reducible refine (keep_setSt ..).trans ?_
    | with_reducible split
    | with_reducible exact keep_upd rfl rfl rfl
    | with_reducible dsimp only

theorem keep_diDebounce (n : Nat) (b : Block) : keep (diDebounce n b) = keep b := by
  unfold diDebounce
  repeat' first
    | with_reducible rfl
    | with_reducible refine keep_ite ?_ ?_
    | with_reducible refine (keep_diFollow ..).trans ?_
    | with_reducible split
    | with_reducible exact keep_upd rfl rfl rfl
    | with_reducible dsimp only

/-! Saf. -/

theorem keep_pairDisagree (p t : Nat) (b : Block) : keep (pairDisagree p t b) = keep b := by
  unfold pairDisagree
  repeat' first
    | with_reducible rfl
    | with_reducible refine keep_ite ?_ ?_
    | with_reducible refine (keep_latchPair ..).trans ?_
    | with_reducible refine (keep_modPair ..).trans ?_
    | with_reducible split
    | with_reducible exact keep_upd rfl rfl rfl
    | with_reducible dsimp only

theorem keep_pairInputs (p : Nat) (s : SafSample) (b : Block) : keep (pairInputs p s b) = keep b := by
  unfold pairInputs
  repeat' first
    | with_reducible rfl
    | with_reducible refine keep_ite ?_ ?_
    | with_reducible refine (keep_latchPair ..).trans ?_
    | with_reducible refine (keep_modPair ..).trans ?_
    | with_reducible refine (keep_pairDisagree ..).trans ?_
    | with_reducible split
    | with_reducible exact keep_upd rfl rfl rfl
    | with_reducible dsimp only

theorem keep_sdiSample (p : Nat) (s : SafSample) (b : Block) : keep (sdiSample p s b) = keep b := by
  unfold sdiSample
  repeat' first
    | with_reducible rfl
    | with_reducible refine keep_ite ?_ ?_
    | with_reducible refine (keep_demand ..).trans ?_
    | with_reducible refine (keep_modPair ..).trans ?_
    | with_reducible refine (keep_pairInputs ..).trans ?_
    | with_reducible split
    | with_reducible exact keep_upd rfl rfl rfl
    | with_reducible dsimp only

theorem keep_refuseReset (f reason : Nat) (b : Block) : keep (refuseReset f reason b) = keep b := by
  unfold refuseReset
  repeat' first
    | with_reducible rfl
    | with_reducible refine (keep_fire ..).trans ?_
    | with_reducible exact keep_upd rfl rfl rfl

theorem keep_resetSample (p : Nat) (s : SafSample) (b : Block) : keep (resetSample p s b).1 = keep b := by
  unfold resetSample
  repeat' first
    | with_reducible rfl
    | with_reducible refine keep_ite_fst ?_ ?_
    | with_reducible refine keep_ite_snd ?_ ?_
    | with_reducible refine keep_ite ?_ ?_
    | with_reducible refine (keep_clearPair ..).trans ?_
    | with_reducible refine (keep_modPair ..).trans ?_
    | with_reducible refine (keep_pairInputs ..).trans ?_
    | with_reducible refine (keep_refuseReset ..).trans ?_
    | with_reducible (refine (keep_foldl_snd (fun _ _ => ?_) ..).trans ?_)
    | with_reducible (refine (keep_foldl_fst (fun _ _ => ?_) ..).trans ?_)
    | with_reducible (refine (keep_foldl (fun _ _ => ?_) ..).trans ?_)
    | with_reducible split
    | with_reducible exact keep_upd rfl rfl rfl
    | with_reducible dsimp only

theorem keep_resetSample_eq {p : Nat} {s : SafSample} {b : Block} {x : Bool} {bo : Block} (h : resetSample p s b = (bo, x)) : keep bo = keep b := by
  have e := keep_resetSample p s b
  rw [h] at e
  exact e

theorem keep_feedbackSample (p : Nat) (s : SafSample) (b : Block) : keep (feedbackSample p s b) = keep b := by
  unfold feedbackSample
  repeat' first
    | with_reducible rfl
    | with_reducible refine keep_ite ?_ ?_
    | with_reducible refine (keep_latchPair ..).trans ?_
    | with_reducible refine (keep_modPair ..).trans ?_
    | with_reducible split
    | with_reducible exact keep_upd rfl rfl rfl
    | with_reducible dsimp only

theorem keep_sdoSample (p : Nat) (s : SafSample) (b : Block) : keep (sdoSample p s b) = keep b := by
  unfold sdoSample
  repeat' first
    | with_reducible rfl
    | with_reducible refine keep_ite ?_ ?_
    | with_reducible refine (keep_feedbackSample ..).trans ?_
    | with_reducible refine (keep_latchPair ..).trans ?_
    | with_reducible refine (keep_modPair ..).trans ?_
    | with_reducible split
    | with_reducible exact keep_upd rfl rfl rfl
    | with_reducible dsimp only

theorem keep_portDemand (n : Nat) (v : Bool) (b : Block) : keep (portDemand n v b) = keep b := by
  unfold portDemand
  repeat' first
    | with_reducible rfl
    | with_reducible refine keep_ite ?_ ?_
    | with_reducible refine (keep_demand ..).trans ?_
    | with_reducible refine (keep_fire ..).trans ?_
    | with_reducible refine (keep_modPort ..).trans ?_
    | with_reducible split
    | with_reducible exact keep_upd rfl rfl rfl

theorem keep_portSample (n : Nat) (s : SafSample) (b : Block) : keep (portSample n s b) = keep b := by
  unfold portSample
  repeat' first
    | with_reducible rfl
    | with_reducible refine keep_ite ?_ ?_
    | with_reducible refine (keep_demand ..).trans ?_
    | with_reducible refine (keep_latchPort ..).trans ?_
    | with_reducible refine (keep_modPort ..).trans ?_
    | with_reducible refine (keep_portDemand ..).trans ?_
    | with_reducible split
    | with_reducible exact keep_upd rfl rfl rfl
    | with_reducible dsimp only

theorem keep_portDisagree (n t : Nat) (b : Block) : keep (portDisagree n t b) = keep b := by
  unfold portDisagree
  repeat' first
    | with_reducible rfl
    | with_reducible refine keep_ite ?_ ?_
    | with_reducible refine (keep_latchPort ..).trans ?_
    | with_reducible refine (keep_modPort ..).trans ?_
    | with_reducible split
    | with_reducible exact keep_upd rfl rfl rfl
    | with_reducible dsimp only

theorem keep_tripDemands (tick : Nat) (b : Block) : keep (tripDemands tick b) = keep b := by
  unfold tripDemands
  repeat' first
    | with_reducible rfl
    | with_reducible refine keep_ite_fst ?_ ?_
    | with_reducible refine keep_ite_snd ?_ ?_
    | with_reducible refine (keep_tripFn ..).trans ?_
    | with_reducible (refine (keep_foldl_snd (fun _ _ => ?_) ..).trans ?_)
    | with_reducible (refine (keep_foldl_fst (fun _ _ => ?_) ..).trans ?_)
    | with_reducible (refine (keep_foldl (fun _ _ => ?_) ..).trans ?_)
    | with_reducible split
    | with_reducible exact keep_upd rfl rfl rfl

theorem keep_pairSample (p : Nat) (s : SafSample) (b : Block) : keep (pairSample p s b).1 = keep b := by
  unfold pairSample
  repeat' first
    | with_reducible rfl
    | with_reducible refine keep_ite_fst ?_ ?_
    | with_reducible refine keep_ite_snd ?_ ?_
    | with_reducible refine keep_ite ?_ ?_
    | with_reducible refine (keep_resetSample ..).trans ?_
    | with_reducible refine (keep_resetSample_eq (by assumption)).trans ?_
    | with_reducible refine (keep_sdiSample ..).trans ?_
    | with_reducible refine (keep_sdoSample ..).trans ?_
    | with_reducible split
    | with_reducible exact keep_upd rfl rfl rfl
    | with_reducible dsimp only

theorem keep_pairSample_eq {p : Nat} {s : SafSample} {b : Block} {x : Bool} {bo : Block} (h : pairSample p s b = (bo, x)) : keep bo = keep b := by
  have e := keep_pairSample p s b
  rw [h] at e
  exact e

theorem keep_gapCount (n t : Nat) (b : Block) : keep (gapCount n t b) = keep b := by
  unfold gapCount
  repeat' first
    | with_reducible rfl
    | with_reducible refine keep_ite_fst ?_ ?_
    | with_reducible refine keep_ite_snd ?_ ?_
    | with_reducible refine keep_ite ?_ ?_
    | with_reducible refine (keep_pairSample ..).trans ?_
    | with_reducible refine (keep_pairSample_eq (by assumption)).trans ?_
    | with_reducible refine (keep_tripDemands ..).trans ?_
    | with_reducible (refine (keep_foldl_snd (fun _ _ => ?_) ..).trans ?_)
    | with_reducible (refine (keep_foldl_fst (fun _ _ => ?_) ..).trans ?_)
    | with_reducible (refine (keep_foldl (fun _ _ => ?_) ..).trans ?_)
    | with_reducible split
    | with_reducible exact keep_upd rfl rfl rfl

theorem keep_resetFn (fresh : Bool) (f : Nat) (b : Block) : keep (resetFn fresh f b) = keep b := by
  unfold resetFn
  repeat' first
    | with_reducible rfl
    | with_reducible refine keep_ite ?_ ?_
    | with_reducible refine (keep_clearFn ..).trans ?_
    | with_reducible refine (keep_clearPair ..).trans ?_
    | with_reducible refine (keep_clearPort ..).trans ?_
    | with_reducible refine (keep_refuseReset ..).trans ?_
    | with_reducible (refine (keep_foldl (fun _ _ => ?_) ..).trans ?_)
    | with_reducible split
    | with_reducible exact keep_upd rfl rfl rfl
    | with_reducible dsimp only

theorem keep_sdoCommand (p : Nat) (b : Block) : keep (sdoCommand p b) = keep b := by
  unfold sdoCommand
  repeat' first
    | with_reducible rfl
    | with_reducible refine keep_ite ?_ ?_
    | with_reducible refine (keep_latchPair ..).trans ?_
    | with_reducible refine (keep_modPair ..).trans ?_
    | with_reducible split
    | with_reducible exact keep_upd rfl rfl rfl
    | with_reducible dsimp only

theorem keep_portOutput (n : Nat) (b : Block) : keep (portOutput n b) = keep b := by
  unfold portOutput
  repeat' first
    | with_reducible rfl
    | with_reducible refine keep_ite ?_ ?_
    | with_reducible refine (keep_emit ..).trans ?_
    | with_reducible refine (keep_modPort ..).trans ?_
    | with_reducible split
    | with_reducible exact keep_upd rfl rfl rfl
    | with_reducible dsimp only

theorem keep_scanInputs (b : Block) : keep (scanInputs b) = keep b := by
  unfold scanInputs
  repeat' first
    | with_reducible rfl
    | with_reducible refine keep_ite ?_ ?_
    | with_reducible refine (keep_fire ..).trans ?_
    | with_reducible refine (keep_modSaf ..).trans ?_
    | with_reducible (refine (keep_foldl (fun _ _ => ?_) ..).trans ?_)
    | with_reducible split
    | with_reducible exact keep_upd rfl rfl rfl
    | with_reducible dsimp only

theorem keep_foldl_acc {α : Type} {f : ScanAcc → α → ScanAcc} (hf : ∀ p a, keep (f p a).b = keep p.b) (l : List α) (p : ScanAcc) :
    keep (l.foldl f p).b = keep p.b := by
  induction l generalizing p with
  | nil => rfl
  | cons a l ih => exact (ih _).trans (hf _ _)

theorem keep_scanSample (a : ScanAcc) (s : SafSample) : keep (scanSample a s).b = keep a.b := by
  unfold scanSample
  refine (keep_tripDemands ..).trans ?_
  repeat' first
    | with_reducible rfl
    | with_reducible refine keep_ite_fst ?_ ?_
    | with_reducible refine keep_ite ?_ ?_
    | with_reducible (refine (keep_foldl_fst (fun _ _ => ?_) ..).trans ?_)
    | with_reducible (refine (keep_foldl (fun _ _ => ?_) ..).trans ?_)
    | with_reducible refine (keep_portDisagree ..).trans ?_
    | with_reducible refine (keep_portSample ..).trans ?_
    | with_reducible refine (keep_sdiSample ..).trans ?_
    | with_reducible refine (keep_sdoSample ..).trans ?_
    | with_reducible refine (keep_pairSample ..).trans ?_

theorem keep_scanGaps (b : Block) : keep (scanGaps b) = keep b := by
  unfold scanGaps
  repeat' first
    | with_reducible rfl
    | with_reducible refine keep_ite_fst ?_ ?_
    | with_reducible refine keep_ite_snd ?_ ?_
    | with_reducible refine (keep_gapCount ..).trans ?_
    | with_reducible refine (keep_modSaf ..).trans ?_
    | with_reducible (refine (keep_foldl_snd (fun _ _ => ?_) ..).trans ?_)
    | with_reducible (refine (keep_foldl_fst (fun _ _ => ?_) ..).trans ?_)
    | with_reducible (refine (keep_foldl (fun _ _ => ?_) ..).trans ?_)
    | with_reducible exact keep_upd rfl rfl rfl

theorem keep_scanSection (samples : List SafSample) (b : Block) : keep (scanSection samples b).1 = keep b := by
  unfold scanSection
  repeat' first
    | with_reducible rfl
    | with_reducible refine (keep_foldl_acc keep_scanSample ..).trans ?_
    | with_reducible refine keep_ite_fst ?_ ?_
    | with_reducible refine keep_ite_snd ?_ ?_
    | with_reducible refine keep_ite ?_ ?_
    | with_reducible refine (keep_clearFn ..).trans ?_
    | with_reducible refine (keep_modSaf ..).trans ?_
    | with_reducible refine (keep_portOutput ..).trans ?_
    | with_reducible refine (keep_resetFn ..).trans ?_
    | with_reducible refine (keep_scanGaps ..).trans ?_
    | with_reducible refine (keep_scanInputs ..).trans ?_
    | with_reducible refine (keep_sdoCommand ..).trans ?_
    | with_reducible refine (keep_tripDemands ..).trans ?_
    | with_reducible (refine (keep_foldl_snd (fun _ _ => ?_) ..).trans ?_)
    | with_reducible (refine (keep_foldl_fst (fun _ _ => ?_) ..).trans ?_)
    | with_reducible (refine (keep_foldl (fun _ _ => ?_) ..).trans ?_)
    | with_reducible split
    | with_reducible exact keep_upd rfl rfl rfl
    | with_reducible dsimp only

theorem keep_scanSection_eq {samples : List SafSample} {b : Block} {x : List Nat} {bo : Block} (h : scanSection samples b = (bo, x)) : keep bo = keep b := by
  have e := keep_scanSection samples b
  rw [h] at e
  exact e

theorem keep_scanBody (samples : List SafSample) (b : Block) : keep (scanBody samples b).1 = keep b := by
  unfold scanBody
  repeat' first
    | with_reducible rfl
    | with_reducible refine keep_ite_fst ?_ ?_
    | with_reducible refine keep_ite_snd ?_ ?_
    | with_reducible refine keep_ite ?_ ?_
    | with_reducible refine (keep_modSaf ..).trans ?_
    | with_reducible refine (keep_scanInputs ..).trans ?_
    | with_reducible refine (keep_scanSection ..).trans ?_
    | with_reducible refine (keep_scanSection_eq (by assumption)).trans ?_
    | with_reducible split
    | with_reducible exact keep_upd rfl rfl rfl
    | with_reducible dsimp only

theorem keep_scanBody_eq {samples : List SafSample} {b : Block} {x : List Nat} {bo : Block} (h : scanBody samples b = (bo, x)) : keep bo = keep b := by
  have e := keep_scanBody samples b
  rw [h] at e
  exact e

theorem keep_pairPulse (p side k : Nat) (b : Block) : keep (pairPulse p side k b) = keep b := by
  unfold pairPulse
  repeat' first
    | with_reducible rfl
    | with_reducible refine keep_ite ?_ ?_
    | with_reducible refine (keep_emit ..).trans ?_
    | with_reducible refine (keep_modPair ..).trans ?_
    | with_reducible split
    | with_reducible exact keep_upd rfl rfl rfl
    | with_reducible dsimp only

theorem keep_portPulse (n : Nat) (b : Block) : keep (portPulse n b) = keep b := by
  unfold portPulse
  repeat' first
    | with_reducible rfl
    | with_reducible refine (keep_emit ..).trans ?_
    | with_reducible refine (keep_modPort ..).trans ?_
    | with_reducible exact keep_upd rfl rfl rfl

theorem keep_testPulseSlot (s : Nat) (b : Block) : keep (testPulseSlot s b) = keep b := by
  unfold testPulseSlot
  repeat' first
    | with_reducible rfl
    | with_reducible refine keep_ite ?_ ?_
    | with_reducible refine (keep_pairPulse ..).trans ?_
    | with_reducible refine (keep_portPulse ..).trans ?_
    | with_reducible split
    | with_reducible exact keep_upd rfl rfl rfl
    | with_reducible dsimp only

theorem keep_safetyDataLost (n : Nat) (b : Block) : keep (safetyDataLost n b) = keep b := by
  unfold safetyDataLost
  repeat' first
    | with_reducible rfl
    | with_reducible refine keep_ite ?_ ?_
    | with_reducible refine (keep_fire ..).trans ?_
    | with_reducible refine (keep_modSaf ..).trans ?_
    | with_reducible split
    | with_reducible exact keep_upd rfl rfl rfl

/-! Seed. -/

theorem keep_restoreFn (e : List Sys2Proof.Byte) (tx f : Nat) (b : Block) : keep (restoreFn e tx f b) = keep b := by
  unfold restoreFn
  repeat' first
    | with_reducible rfl
    | with_reducible refine keep_ite ?_ ?_
    | with_reducible refine (keep_clearFn ..).trans ?_
    | with_reducible refine (keep_modFn ..).trans ?_
    | with_reducible refine (keep_tripFn ..).trans ?_
    | with_reducible split
    | with_reducible exact keep_upd rfl rfl rfl
    | with_reducible dsimp only

theorem keep_restorePair (e : List Sys2Proof.Byte) (tx p : Nat) (b : Block) : keep (restorePair e tx p b) = keep b := by
  unfold restorePair
  repeat' first
    | with_reducible rfl
    | with_reducible refine keep_ite ?_ ?_
    | with_reducible refine (keep_clearPair ..).trans ?_
    | with_reducible refine (keep_latchPair ..).trans ?_
    | with_reducible refine (keep_modPair ..).trans ?_
    | with_reducible split
    | with_reducible exact keep_upd rfl rfl rfl
    | with_reducible dsimp only

theorem keep_restorePort (e : List Sys2Proof.Byte) (tx n : Nat) (b : Block) : keep (restorePort e tx n b) = keep b := by
  unfold restorePort
  repeat' first
    | with_reducible rfl
    | with_reducible refine keep_ite ?_ ?_
    | with_reducible refine (keep_clearPort ..).trans ?_
    | with_reducible refine (keep_latchPort ..).trans ?_
    | with_reducible refine (keep_modPort ..).trans ?_
    | with_reducible split
    | with_reducible exact keep_upd rfl rfl rfl
    | with_reducible dsimp only

theorem keep_restoreSafety (e : List Sys2Proof.Byte) (tx : Nat) (b : Block) : keep (restoreSafety e tx b) = keep b := by
  unfold restoreSafety
  repeat' first
    | with_reducible rfl
    | with_reducible refine keep_ite ?_ ?_
    | with_reducible refine (keep_restoreFn ..).trans ?_
    | with_reducible refine (keep_restorePair ..).trans ?_
    | with_reducible refine (keep_restorePort ..).trans ?_
    | with_reducible (refine (keep_foldl (fun _ _ => ?_) ..).trans ?_)
    | with_reducible split
    | with_reducible exact keep_upd rfl rfl rfl
    | with_reducible dsimp only

theorem keep_forceValue (k : Nat) (v : Sys2Proof.Word) (b : Block) : keep (forceValue k v b) = keep b := by
  unfold forceValue
  repeat' first
    | with_reducible rfl
    | with_reducible refine (keep_modTarget ..).trans ?_
    | with_reducible exact keep_upd rfl rfl rfl

theorem keep_restoreChannel (e : List Sys2Proof.Byte) (b : Block) : keep (restoreChannel e b) = keep b := by
  unfold restoreChannel
  repeat' first
    | with_reducible rfl
    | with_reducible refine keep_ite ?_ ?_
    | with_reducible refine (keep_forceValue ..).trans ?_
    | with_reducible (refine (keep_foldl (fun _ _ => ?_) ..).trans ?_)
    | with_reducible split
    | with_reducible exact keep_upd rfl rfl rfl

theorem keep_restoreAlarm (e : List Sys2Proof.Byte) (b : Block) : keep (restoreAlarm e b) = keep b := by
  unfold restoreAlarm
  repeat' first
    | with_reducible rfl
    | with_reducible refine (keep_markSet ..).trans ?_
    | with_reducible refine (keep_modChan ..).trans ?_
    | with_reducible refine (keep_modGroup ..).trans ?_
    | with_reducible (refine (keep_foldl (fun _ _ => ?_) ..).trans ?_)
    | with_reducible exact keep_upd rfl rfl rfl
    | with_reducible dsimp only

theorem keep_restoreTxSeq (e : List Sys2Proof.Byte) (n : Nat) (b : Block) : keep (restoreTxSeq e n b) = keep b := by
  unfold restoreTxSeq
  repeat' first
    | with_reducible rfl
    | with_reducible refine (keep_modPtn ..).trans ?_
    | with_reducible (refine (keep_foldl (fun _ _ => ?_) ..).trans ?_)
    | with_reducible exact keep_upd rfl rfl rfl
    | with_reducible dsimp only

theorem keep_restoreClass1 (s : Seed) (tx : Nat) (b : Block) : keep (restoreClass1 s tx b) = keep b := by
  unfold restoreClass1
  repeat' first
    | with_reducible rfl
    | with_reducible refine (keep_modPtn ..).trans ?_
    | with_reducible refine (keep_restoreAlarm ..).trans ?_
    | with_reducible refine (keep_restoreChannel ..).trans ?_
    | with_reducible refine (keep_restoreSafety ..).trans ?_
    | with_reducible refine (keep_restoreTxSeq ..).trans ?_
    | with_reducible split
    | with_reducible exact keep_upd rfl rfl rfl
    | with_reducible dsimp only

theorem keep_leaveTune (c : Nat) (b : Block) : keep (leaveTune c b) = keep b := by
  unfold leaveTune
  repeat' first
    | with_reducible rfl
    | with_reducible refine (keep_modCtx ..).trans ?_
    | with_reducible exact keep_upd rfl rfl rfl

theorem keep_takeoverTune (s c : Nat) (b : Block) : keep (takeoverTune s c b) = keep b := by
  unfold takeoverTune
  repeat' first
    | with_reducible rfl
    | with_reducible refine (keep_modSlot ..).trans ?_
    | with_reducible refine (keep_setSlotState ..).trans ?_
    | with_reducible exact keep_upd rfl rfl rfl

theorem keep_resumeTune (s : Nat) (e : List Sys2Proof.Byte) (b : Block) : keep (resumeTune s e b) = keep b := by
  unfold resumeTune
  repeat' first
    | with_reducible rfl
    | with_reducible refine (keep_modSlot ..).trans ?_
    | with_reducible refine (keep_setSlotState ..).trans ?_
    | with_reducible exact keep_upd rfl rfl rfl
    | with_reducible dsimp only

theorem keep_restoreTunes (e : List Sys2Proof.Byte) (tuning : List Nat) (b : Block) : keep (restoreTunes e tuning b) = keep b := by
  unfold restoreTunes
  repeat' first
    | with_reducible rfl
    | with_reducible refine keep_ite ?_ ?_
    | with_reducible refine (keep_leaveTune ..).trans ?_
    | with_reducible refine (keep_resumeTune ..).trans ?_
    | with_reducible refine (keep_takeoverTune ..).trans ?_
    | with_reducible (refine (keep_foldl (fun _ _ => ?_) ..).trans ?_)
    | with_reducible split
    | with_reducible exact keep_upd rfl rfl rfl
    | with_reducible dsimp only

theorem keep_failTunes (e : List Sys2Proof.Byte) (b : Block) : keep (failTunes e b) = keep b := by
  unfold failTunes
  repeat' first
    | with_reducible rfl
    | with_reducible refine keep_ite ?_ ?_
    | with_reducible refine (keep_takeoverTune ..).trans ?_
    | with_reducible (refine (keep_foldl (fun _ _ => ?_) ..).trans ?_)
    | with_reducible split
    | with_reducible exact keep_upd rfl rfl rfl

theorem keep_restoreStats (s : Seed) (b : Block) : keep (restoreStats s b) = keep b := by
  unfold restoreStats
  repeat' first
    | with_reducible rfl
    | with_reducible refine keep_ite ?_ ?_
    | with_reducible refine (keep_modPrf ..).trans ?_
    | with_reducible (refine (keep_foldl (fun _ _ => ?_) ..).trans ?_)
    | with_reducible split
    | with_reducible exact keep_upd rfl rfl rfl
    | with_reducible dsimp only

theorem keep_clearStats (b : Block) : keep (clearStats b) = keep b := by
  unfold clearStats
  repeat' first
    | with_reducible rfl
    | with_reducible refine keep_ite ?_ ?_
    | with_reducible refine (keep_modPrf ..).trans ?_
    | with_reducible split
    | with_reducible exact keep_upd rfl rfl rfl
    | with_reducible dsimp only

theorem keep_restoreClass23 (s : Seed) (shift : Int) (b : Block) : keep (restoreClass23 s shift b) = keep b := by
  unfold restoreClass23
  repeat' first
    | with_reducible rfl
    | with_reducible refine keep_ite_fst ?_ ?_
    | with_reducible refine keep_ite_snd ?_ ?_
    | with_reducible refine (keep_dpRestore ..).trans ?_
    | with_reducible refine (keep_lpeRestore ..).trans ?_
    | with_reducible refine (keep_restoreStats ..).trans ?_
    | with_reducible refine (keep_restoreTunes ..).trans ?_
    | with_reducible (refine (keep_foldl_snd (fun _ _ => ?_) ..).trans ?_)
    | with_reducible (refine (keep_foldl_fst (fun _ _ => ?_) ..).trans ?_)
    | with_reducible (refine (keep_foldl (fun _ _ => ?_) ..).trans ?_)
    | with_reducible split
    | with_reducible exact keep_upd rfl rfl rfl
    | with_reducible dsimp only

theorem keep_restoreNone23 (s : Option Seed) (b : Block) : keep (restoreNone23 s b) = keep b := by
  unfold restoreNone23
  repeat' first
    | with_reducible rfl
    | with_reducible refine (keep_clearStats ..).trans ?_
    | with_reducible refine (keep_failTunes ..).trans ?_
    | with_reducible refine (keep_lpeRestore ..).trans ?_
    | with_reducible (refine (keep_foldl (fun _ _ => ?_) ..).trans ?_)
    | with_reducible split
    | with_reducible exact keep_upd rfl rfl rfl
    | with_reducible dsimp only

theorem keep_clearEngTargets (b : Block) : keep (clearEngTargets b) = keep b := by
  unfold clearEngTargets
  repeat' first
    | with_reducible rfl
    | with_reducible refine (keep_modRng ..).trans ?_
    | with_reducible exact keep_upd rfl rfl rfl

theorem keep_restoreNoSeed (b : Block) : keep (restoreNoSeed b) = keep b := by
  unfold restoreNoSeed
  repeat' first
    | with_reducible rfl
    | with_reducible refine keep_ite ?_ ?_
    | with_reducible refine (keep_forceValue ..).trans ?_
    | with_reducible refine (keep_initTargets ..).trans ?_
    | with_reducible refine (keep_modObj ..).trans ?_
    | with_reducible refine (keep_restoreNone23 ..).trans ?_
    | with_reducible (refine (keep_foldl (fun _ _ => ?_) ..).trans ?_)
    | with_reducible split
    | with_reducible exact keep_upd rfl rfl rfl
    | with_reducible dsimp only

theorem keep_restoreTakeover (tx : Nat) (h : Option HeldSeed) (b : Block) : keep (restoreTakeover tx h b) = keep b := by
  unfold restoreTakeover
  repeat' first
    | with_reducible rfl
    | with_reducible refine keep_ite ?_ ?_
    | with_reducible refine (keep_clearEngTargets ..).trans ?_
    | with_reducible refine (keep_modPtn ..).trans ?_
    | with_reducible refine (keep_restoreClass1 ..).trans ?_
    | with_reducible refine (keep_restoreClass23 ..).trans ?_
    | with_reducible refine (keep_restoreNoSeed ..).trans ?_
    | with_reducible refine (keep_restoreNone23 ..).trans ?_
    | with_reducible split
    | with_reducible exact keep_upd rfl rfl rfl
    | with_reducible dsimp only

/-! Can. -/

theorem keep_canErrState (c : Nat) (b : Block) : keep (canErrState c b) = keep b := by
  unfold canErrState
  repeat' first
    | with_reducible rfl
    | with_reducible refine keep_ite ?_ ?_
    | with_reducible refine (keep_dropPending ..).trans ?_
    | with_reducible refine (keep_modCtl ..).trans ?_
    | with_reducible refine (keep_setCtlState ..).trans ?_
    | with_reducible split
    | with_reducible exact keep_upd rfl rfl rfl
    | with_reducible dsimp only

theorem keep_pendFrame (o : Nat) (f : CanFrame) (b : Block) : keep (pendFrame o f b) = keep b := by
  unfold pendFrame
  repeat' first
    | with_reducible rfl
    | with_reducible refine keep_ite ?_ ?_
    | with_reducible refine (keep_modObj ..).trans ?_
    | with_reducible split
    | with_reducible exact keep_upd rfl rfl rfl

theorem keep_canAssemble (o : Nat) (b : Block) : keep (canAssemble o b) = keep b := by
  unfold canAssemble
  repeat' first
    | with_reducible rfl
    | with_reducible refine keep_ite ?_ ?_
    | with_reducible refine (keep_modObj ..).trans ?_
    | with_reducible refine (keep_pendFrame ..).trans ?_
    | with_reducible split
    | with_reducible exact keep_upd rfl rfl rfl
    | with_reducible dsimp only

theorem keep_canSendUsl (o : Nat) (bytes : List Sys2Proof.Byte) (b : Block) : keep (canSendUsl o bytes b) = keep b := by
  unfold canSendUsl
  repeat' first
    | with_reducible rfl
    | with_reducible refine keep_ite ?_ ?_
    | with_reducible refine (keep_pendFrame ..).trans ?_
    | with_reducible split
    | with_reducible exact keep_upd rfl rfl rfl
    | with_reducible dsimp only

theorem keep_canLaunch (n : Nat) (b : Block) : keep (canLaunch n b) = keep b := by
  unfold canLaunch
  repeat' first
    | with_reducible rfl
    | with_reducible refine keep_ite ?_ ?_
    | with_reducible refine (keep_completeWith ..).trans ?_
    | with_reducible refine (keep_modDesc ..).trans ?_
    | with_reducible refine (keep_modObj ..).trans ?_
    | with_reducible split
    | with_reducible exact keep_upd rfl rfl rfl
    | with_reducible dsimp only

theorem keep_canModeChange (c : Nat) (b : Block) : keep (canModeChange c b) = keep b := by
  unfold canModeChange
  repeat' first
    | with_reducible rfl
    | with_reducible refine keep_ite ?_ ?_
    | with_reducible refine (keep_modCtl ..).trans ?_
    | with_reducible split
    | with_reducible exact keep_upd rfl rfl rfl

theorem keep_canAttemptStart (c : Nat) (b : Block) : keep (canAttemptStart c b) = keep b := by
  unfold canAttemptStart
  repeat' first
    | with_reducible rfl
    | with_reducible refine keep_ite ?_ ?_
    | with_reducible refine (keep_canModeChange ..).trans ?_
    | with_reducible refine (keep_canSweep ..).trans ?_
    | with_reducible refine (keep_modObj ..).trans ?_
    | with_reducible (refine (keep_foldl (fun _ _ => ?_) ..).trans ?_)
    | with_reducible split
    | with_reducible exact keep_upd rfl rfl rfl
    | with_reducible dsimp only

theorem keep_promote (o : Nat) (next : Option CanFrame) (b : Block) : keep (promote o next b) = keep b := by
  unfold promote
  repeat' first
    | with_reducible rfl
    | with_reducible refine (keep_modObj ..).trans ?_
    | with_reducible split
    | with_reducible exact keep_upd rfl rfl rfl

theorem keep_measureTdc (c tdcv : Nat) (f : CanFrame) (b : Block) : keep (measureTdc c tdcv f b) = keep b := by
  unfold measureTdc
  repeat' first
    | with_reducible rfl
    | with_reducible refine keep_ite ?_ ?_
    | with_reducible refine (keep_modCtl ..).trans ?_
    | with_reducible split
    | with_reducible exact keep_upd rfl rfl rfl

theorem keep_txError (c : Nat) (e : CanFailure) (b : Block) : keep (txError c e b) = keep b := by
  unfold txError
  repeat' first
    | with_reducible rfl
    | with_reducible refine keep_ite ?_ ?_
    | with_reducible refine (keep_canLatch ..).trans ?_
    | with_reducible refine (keep_modCtl ..).trans ?_
    | with_reducible split
    | with_reducible exact keep_upd rfl rfl rfl
    | with_reducible dsimp only

theorem keep_canAttemptFailed (c : Nat) (e : CanFailure) (tdcv : Nat) (b : Block) : keep (canAttemptFailed c e tdcv b) = keep b := by
  unfold canAttemptFailed
  repeat' first
    | with_reducible rfl
    | with_reducible refine keep_ite ?_ ?_
    | with_reducible refine (keep_canErrState ..).trans ?_
    | with_reducible refine (keep_dropPend ..).trans ?_
    | with_reducible refine (keep_measureTdc ..).trans ?_
    | with_reducible refine (keep_modObj ..).trans ?_
    | with_reducible refine (keep_promote ..).trans ?_
    | with_reducible refine (keep_txError ..).trans ?_
    | with_reducible split
    | with_reducible exact keep_upd rfl rfl rfl
    | with_reducible dsimp only

theorem keep_canTxComplete (c tdcv : Nat) (b : Block) : keep (canTxComplete c tdcv b) = keep b := by
  unfold canTxComplete
  repeat' first
    | with_reducible rfl
    | with_reducible refine keep_ite ?_ ?_
    | with_reducible refine (keep_canAttemptFailed ..).trans ?_
    | with_reducible refine (keep_canErrState ..).trans ?_
    | with_reducible refine (keep_canLatch ..).trans ?_
    | with_reducible refine (keep_complete ..).trans ?_
    | with_reducible refine (keep_emit ..).trans ?_
    | with_reducible refine (keep_measureTdc ..).trans ?_
    | with_reducible refine (keep_modCtl ..).trans ?_
    | with_reducible refine (keep_modObj ..).trans ?_
    | with_reducible refine (keep_perf ..).trans ?_
    | with_reducible refine (keep_promote ..).trans ?_
    | with_reducible refine (keep_seqAdvance ..).trans ?_
    | with_reducible split
    | with_reducible exact keep_upd rfl rfl rfl
    | with_reducible dsimp only

theorem keep_canErrorFrame (c lec : Nat) (one : Bool) (eights : Nat) (b : Block) : keep (canErrorFrame c lec one eights b) = keep b := by
  unfold canErrorFrame
  repeat' first
    | with_reducible rfl
    | with_reducible refine keep_ite ?_ ?_
    | with_reducible refine (keep_canErrState ..).trans ?_
    | with_reducible refine (keep_modCtl ..).trans ?_
    | with_reducible split
    | with_reducible exact keep_upd rfl rfl rfl
    | with_reducible dsimp only

theorem keep_canRecover (c : Nat) (b : Block) : keep (canRecover c b) = keep b := by
  unfold canRecover
  repeat' first
    | with_reducible rfl
    | with_reducible refine keep_ite ?_ ?_
    | with_reducible refine (keep_modCtl ..).trans ?_
    | with_reducible split
    | with_reducible exact keep_upd rfl rfl rfl

theorem keep_canRecovered (c : Nat) (b : Block) : keep (canRecovered c b) = keep b := by
  unfold canRecovered
  repeat' first
    | with_reducible rfl
    | with_reducible refine keep_ite ?_ ?_
    | with_reducible refine (keep_canLatch ..).trans ?_
    | with_reducible refine (keep_modCtl ..).trans ?_
    | with_reducible refine (keep_setCtlState ..).trans ?_
    | with_reducible split
    | with_reducible exact keep_upd rfl rfl rfl
    | with_reducible dsimp only

theorem keep_canClrCounts (c : Nat) (b : Block) : keep (canClrCounts c b) = keep b := by
  unfold canClrCounts
  repeat' first
    | with_reducible rfl
    | with_reducible refine (keep_modCtl ..).trans ?_
    | with_reducible exact keep_upd rfl rfl rfl

theorem keep_canCancel (n idx : Nat) (b : Block) : keep (canCancel n idx b) = keep b := by
  unfold canCancel
  repeat' first
    | with_reducible rfl
    | with_reducible refine keep_ite ?_ ?_
    | with_reducible refine (keep_dropPend ..).trans ?_
    | with_reducible refine (keep_modObj ..).trans ?_
    | with_reducible split
    | with_reducible exact keep_upd rfl rfl rfl

theorem keep_canLock_eq {o n : Nat} {v : Sys2Proof.Word} {b : Block} {bo : Block} (h : canLock o n v b = some bo) : keep bo = keep b := by
  unfold canLock at h
  repeat' first
    | cases h
    | split at h
    | dsimp only at h
    | with_reducible rfl
    | with_reducible refine (keep_modObj ..).trans ?_
    | with_reducible refine (keep_objUnlock ..).trans ?_
    | with_reducible split
    | with_reducible exact keep_upd rfl rfl rfl

theorem keep_canData (o : Nat) (b : Block) : keep (canData o b).2 = keep b := by
  unfold canData
  repeat' first
    | with_reducible rfl
    | with_reducible refine keep_ite_fst ?_ ?_
    | with_reducible refine keep_ite_snd ?_ ?_
    | with_reducible refine keep_ite ?_ ?_
    | with_reducible refine (keep_modObj ..).trans ?_
    | with_reducible refine (keep_overrun ..).trans ?_
    | with_reducible split
    | with_reducible exact keep_upd rfl rfl rfl
    | with_reducible dsimp only

theorem keep_canData_eq {o : Nat} {b : Block} {x : List Sys2Proof.Byte} {bo : Block} (h : canData o b = (x, bo)) : keep bo = keep b := by
  have e := keep_canData o b
  rw [h] at e
  exact e

theorem keep_canLockTmo (o : Nat) (b : Block) : keep (canLockTmo o b) = keep b := by
  unfold canLockTmo
  repeat' first
    | with_reducible rfl
    | with_reducible refine keep_ite ?_ ?_
    | with_reducible refine (keep_canLatch ..).trans ?_
    | with_reducible refine (keep_objUnlock ..).trans ?_
    | with_reducible split
    | with_reducible exact keep_upd rfl rfl rfl

theorem keep_canBank (old b : Block) : keep (canBank old b) = keep b := by
  unfold canBank
  repeat' first
    | with_reducible rfl
    | with_reducible refine keep_ite_fst ?_ ?_
    | with_reducible refine keep_ite_snd ?_ ?_
    | with_reducible refine keep_ite ?_ ?_
    | with_reducible refine (keep_dropPending ..).trans ?_
    | with_reducible refine (keep_modCan ..).trans ?_
    | with_reducible refine (keep_modCtl ..).trans ?_
    | with_reducible refine (keep_setCtlState ..).trans ?_
    | with_reducible (refine (keep_foldl_snd (fun _ _ => ?_) ..).trans ?_)
    | with_reducible (refine (keep_foldl_fst (fun _ _ => ?_) ..).trans ?_)
    | with_reducible (refine (keep_foldl (fun _ _ => ?_) ..).trans ?_)
    | with_reducible split
    | with_reducible exact keep_upd rfl rfl rfl
    | with_reducible dsimp only

theorem keep_canDrainN (n c : Nat) (b : Block) : keep (canDrainN n c b) = keep b := by
  induction n generalizing b with
  | zero => rfl
  | succ n ih =>
    unfold canDrainN
    repeat' first
      | with_reducible rfl
      | with_reducible refine keep_ite ?_ ?_
      | with_reducible refine (ih ..).trans ?_
      | with_reducible refine (keep_modCtl ..).trans ?_
      | with_reducible refine (keep_stageMrx ..).trans ?_
      | split


theorem keep_canDrain (b : Block) : keep (canDrain b) = keep b := by
  unfold canDrain
  repeat' first
    | with_reducible rfl
    | with_reducible refine keep_ite_fst ?_ ?_
    | with_reducible refine keep_ite_snd ?_ ?_
    | with_reducible refine (keep_canDrainN ..).trans ?_
    | with_reducible (refine (keep_foldl_snd (fun _ _ => ?_) ..).trans ?_)
    | with_reducible (refine (keep_foldl_fst (fun _ _ => ?_) ..).trans ?_)
    | with_reducible (refine (keep_foldl (fun _ _ => ?_) ..).trans ?_)
    | with_reducible exact keep_upd rfl rfl rfl

theorem keep_canStage (c n : Nat) (f : RxFrame) (b : Block) : keep (canStage c n f b) = keep b := by
  unfold canStage
  repeat' first
    | with_reducible rfl
    | with_reducible refine keep_ite ?_ ?_
    | with_reducible refine (keep_canDrainN ..).trans ?_
    | with_reducible refine (keep_dropMrx ..).trans ?_
    | with_reducible refine (keep_stageMrx ..).trans ?_
    | with_reducible split
    | with_reducible exact keep_upd rfl rfl rfl
    | with_reducible dsimp only

theorem keep_canCatch (c : Nat) (obj : Option Nat) (f : CanFrame) (b : Block) : keep (canCatch c obj f b) = keep b := by
  unfold canCatch
  repeat' first
    | with_reducible rfl
    | with_reducible refine keep_ite ?_ ?_
    | with_reducible refine (keep_canDrainN ..).trans ?_
    | with_reducible refine (keep_fire ..).trans ?_
    | with_reducible refine (keep_modCtl ..).trans ?_
    | with_reducible split
    | with_reducible exact keep_upd rfl rfl rfl
    | with_reducible dsimp only

theorem keep_objTake (o : Nat) (f : CanFrame) (b : Block) : keep (objTake o f b) = keep b := by
  unfold objTake
  repeat' first
    | with_reducible rfl
    | with_reducible refine keep_ite ?_ ?_
    | with_reducible refine (keep_modObj ..).trans ?_
    | with_reducible split
    | with_reducible exact keep_upd rfl rfl rfl
    | with_reducible dsimp only

theorem keep_overrunTick (b : Block) : keep (overrunTick b) = keep b := by
  unfold overrunTick
  repeat' first
    | with_reducible rfl
    | with_reducible refine keep_ite_fst ?_ ?_
    | with_reducible refine keep_ite_snd ?_ ?_
    | with_reducible refine (keep_canLatch ..).trans ?_
    | with_reducible refine (keep_modObj ..).trans ?_
    | with_reducible refine (keep_overrun ..).trans ?_
    | with_reducible (refine (keep_foldl_snd (fun _ _ => ?_) ..).trans ?_)
    | with_reducible (refine (keep_foldl_fst (fun _ _ => ?_) ..).trans ?_)
    | with_reducible (refine (keep_foldl (fun _ _ => ?_) ..).trans ?_)
    | with_reducible exact keep_upd rfl rfl rfl

theorem keep_rxGood (c : Nat) (b : Block) : keep (rxGood c b) = keep b := by
  unfold rxGood
  repeat' first
    | with_reducible rfl
    | with_reducible refine keep_ite ?_ ?_
    | with_reducible refine (keep_canErrState ..).trans ?_
    | with_reducible refine (keep_modCtl ..).trans ?_
    | with_reducible refine (keep_takeFree ..).trans ?_
    | with_reducible refine (keep_takeFree_eq (by assumption)).trans ?_
    | with_reducible split
    | with_reducible exact keep_upd rfl rfl rfl
    | with_reducible dsimp only

/-! Usl. -/

theorem keep_modSub (c s : Nat) (f : UslSub → UslSub) (b : Block) : keep (modSub c s f b) = keep b := by
  unfold modSub
  repeat' first
    | with_reducible rfl
    | with_reducible refine keep_ite ?_ ?_
    | with_reducible refine (keep_modConn ..).trans ?_
    | with_reducible split
    | with_reducible exact keep_upd rfl rfl rfl

theorem keep_setSub (c s v cause tick : Nat) (b : Block) : keep (setSub c s v cause tick b) = keep b := by
  unfold setSub
  repeat' first
    | with_reducible rfl
    | with_reducible refine keep_ite ?_ ?_
    | with_reducible refine (keep_fireIf ..).trans ?_
    | with_reducible refine (keep_modSub ..).trans ?_
    | with_reducible split
    | with_reducible exact keep_upd rfl rfl rfl
    | with_reducible dsimp only

theorem keep_uslCorrupt (c tick : Nat) (b : Block) : keep (uslCorrupt c tick b) = keep b := by
  unfold uslCorrupt
  repeat' first
    | with_reducible rfl
    | with_reducible refine keep_ite ?_ ?_
    | with_reducible refine (keep_modConn ..).trans ?_
    | with_reducible refine (keep_setSub ..).trans ?_
    | with_reducible (refine (keep_foldl (fun _ _ => ?_) ..).trans ?_)
    | with_reducible split
    | with_reducible exact keep_upd rfl rfl rfl
    | with_reducible dsimp only

theorem keep_uslAccept (c s tick : Nat) (f : UslFrame) (b : Block) : keep (uslAccept c s tick f b) = keep b := by
  unfold uslAccept
  repeat' first
    | with_reducible rfl
    | with_reducible refine keep_ite ?_ ?_
    | with_reducible refine (keep_fire ..).trans ?_
    | with_reducible refine (keep_modConn ..).trans ?_
    | with_reducible refine (keep_modSaf ..).trans ?_
    | with_reducible refine (keep_modSub ..).trans ?_
    | with_reducible (refine (keep_foldl (fun _ _ => ?_) ..).trans ?_)
    | with_reducible split
    | with_reducible exact keep_upd rfl rfl rfl
    | with_reducible dsimp only

theorem keep_uslReference (c s : Nat) (f : UslFrame) (b : Block) : keep (uslReference c s f b) = keep b := by
  unfold uslReference
  repeat' first
    | with_reducible rfl
    | with_reducible refine (keep_modSub ..).trans ?_
    | with_reducible exact keep_upd rfl rfl rfl

theorem keep_uslExpire (c s : Nat) (b : Block) : keep (uslExpire c s b) = keep b := by
  unfold uslExpire
  repeat' first
    | with_reducible rfl
    | with_reducible refine (keep_modConn ..).trans ?_
    | with_reducible refine (keep_setSub ..).trans ?_
    | with_reducible exact keep_upd rfl rfl rfl

theorem keep_uslOverdue (c s tick : Nat) (b : Block) : keep (uslOverdue c s tick b) = keep b := by
  unfold uslOverdue
  repeat' first
    | with_reducible rfl
    | with_reducible refine keep_ite ?_ ?_
    | with_reducible refine (keep_modConn ..).trans ?_
    | with_reducible refine (keep_modSub ..).trans ?_
    | with_reducible refine (keep_uslExpire ..).trans ?_
    | with_reducible split
    | with_reducible exact keep_upd rfl rfl rfl
    | with_reducible dsimp only

theorem keep_uslSeq (c s tick : Nat) (f : UslFrame) (b : Block) : keep (uslSeq c s tick f b) = keep b := by
  unfold uslSeq
  repeat' first
    | with_reducible rfl
    | with_reducible refine keep_ite ?_ ?_
    | with_reducible refine (keep_fire ..).trans ?_
    | with_reducible refine (keep_modConn ..).trans ?_
    | with_reducible refine (keep_modSub ..).trans ?_
    | with_reducible refine (keep_setSub ..).trans ?_
    | with_reducible refine (keep_uslAccept ..).trans ?_
    | with_reducible refine (keep_uslOverdue ..).trans ?_
    | with_reducible refine (keep_uslReference ..).trans ?_
    | with_reducible split
    | with_reducible exact keep_upd rfl rfl rfl
    | with_reducible dsimp only

theorem keep_uslCheck (c : Nat) (bytes : List Sys2Proof.Byte) (tick vt : Nat) (vtValid : Bool) (b : Block) : keep (uslCheck c bytes tick vt vtValid b) = keep b := by
  unfold uslCheck
  repeat' first
    | with_reducible rfl
    | with_reducible refine keep_ite ?_ ?_
    | with_reducible refine (keep_fire ..).trans ?_
    | with_reducible refine (keep_modConn ..).trans ?_
    | with_reducible refine (keep_uslCorrupt ..).trans ?_
    | with_reducible refine (keep_uslSeq ..).trans ?_
    | with_reducible split
    | with_reducible exact keep_upd rfl rfl rfl
    | with_reducible dsimp only

theorem keep_uslReceive (c : Nat) (bytes : List Sys2Proof.Byte) (b : Block) : keep (uslReceive c bytes b) = keep b := by
  unfold uslReceive
  repeat' first
    | with_reducible rfl
    | with_reducible refine keep_ite ?_ ?_
    | with_reducible refine (keep_modSaf ..).trans ?_
    | with_reducible refine (keep_uslCheck ..).trans ?_
    | with_reducible split
    | with_reducible exact keep_upd rfl rfl rfl

theorem keep_uslUnfreeze (b : Block) : keep (uslUnfreeze b) = keep b := by
  unfold uslUnfreeze
  repeat' first
    | with_reducible rfl
    | with_reducible refine (keep_modSaf ..).trans ?_
    | with_reducible refine (keep_uslCheck ..).trans ?_
    | with_reducible (refine (keep_foldl (fun _ _ => ?_) ..).trans ?_)
    | with_reducible exact keep_upd rfl rfl rfl
    | with_reducible dsimp only

theorem keep_uslWatchdog (c s : Nat) (b : Block) : keep (uslWatchdog c s b) = keep b := by
  unfold uslWatchdog
  repeat' first
    | with_reducible rfl
    | with_reducible refine keep_ite ?_ ?_
    | with_reducible refine (keep_uslExpire ..).trans ?_
    | with_reducible split
    | with_reducible exact keep_upd rfl rfl rfl
    | with_reducible dsimp only

theorem keep_uslFailedEnd (c : Nat) (b : Block) : keep (uslFailedEnd c b) = keep b := by
  unfold uslFailedEnd
  repeat' first
    | with_reducible rfl
    | with_reducible refine keep_ite ?_ ?_
    | with_reducible refine (keep_setSub ..).trans ?_
    | with_reducible (refine (keep_foldl (fun _ _ => ?_) ..).trans ?_)
    | with_reducible split
    | with_reducible exact keep_upd rfl rfl rfl

theorem keep_uslBank (b : Block) : keep (uslBank b) = keep b := by
  unfold uslBank
  repeat' first
    | with_reducible rfl
    | with_reducible refine keep_ite ?_ ?_
    | with_reducible refine (keep_modConn ..).trans ?_
    | with_reducible refine (keep_setSub ..).trans ?_
    | with_reducible (refine (keep_foldl (fun _ _ => ?_) ..).trans ?_)
    | with_reducible split
    | with_reducible exact keep_upd rfl rfl rfl
    | with_reducible dsimp only

/-! CanRx. -/

theorem keep_objReceive (o : Nat) (f : CanFrame) (b : Block) : keep (objReceive o f b) = keep b := by
  unfold objReceive
  repeat' first
    | with_reducible rfl
    | with_reducible refine keep_ite ?_ ?_
    | with_reducible refine (keep_canStage ..).trans ?_
    | with_reducible refine (keep_dpFeed ..).trans ?_
    | with_reducible refine (keep_objTake ..).trans ?_
    | with_reducible refine (keep_uslReceive ..).trans ?_
    | with_reducible split
    | with_reducible exact keep_upd rfl rfl rfl
    | with_reducible dsimp only

theorem keep_canFrameReceive (c : Nat) (frame : CanFrame) (b : Block) : keep (canFrameReceive c frame b) = keep b := by
  unfold canFrameReceive
  repeat' first
    | with_reducible rfl
    | with_reducible refine keep_ite ?_ ?_
    | with_reducible refine (keep_canCatch ..).trans ?_
    | with_reducible refine (keep_canLatch ..).trans ?_
    | with_reducible refine (keep_canStage ..).trans ?_
    | with_reducible refine (keep_modCtl ..).trans ?_
    | with_reducible refine (keep_objReceive ..).trans ?_
    | with_reducible refine (keep_perf ..).trans ?_
    | with_reducible refine (keep_rxGood ..).trans ?_
    | with_reducible split
    | with_reducible exact keep_upd rfl rfl rfl
    | with_reducible dsimp only

theorem keep_canInstant (o : Nat) (b : Block) : keep (canInstant o b) = keep b := by
  unfold canInstant
  repeat' first
    | with_reducible rfl
    | with_reducible refine keep_ite ?_ ?_
    | with_reducible refine (keep_canAssemble ..).trans ?_
    | with_reducible refine (keep_modObj ..).trans ?_
    | with_reducible refine (keep_resolveEng ..).trans ?_
    | with_reducible (refine (keep_foldl (fun _ _ => ?_) ..).trans ?_)
    | with_reducible split
    | with_reducible exact keep_upd rfl rfl rfl
    | with_reducible dsimp only

/-! Ser. -/

theorem keep_serError (p i : Nat) (b : Block) : keep (serError p i b) = keep b := by
  unfold serError
  repeat' first
    | with_reducible rfl
    | with_reducible refine keep_ite ?_ ?_
    | with_reducible refine (keep_modSerPort ..).trans ?_
    | with_reducible refine (keep_serLatch ..).trans ?_
    | with_reducible split
    | with_reducible exact keep_upd rfl rfl rfl

theorem keep_tplTake (t rx arr : Nat) (s : List Sys2Proof.Byte) (b : Block) : keep (tplTake t rx arr s b) = keep b := by
  unfold tplTake
  repeat' first
    | with_reducible rfl
    | with_reducible refine keep_ite ?_ ?_
    | with_reducible refine (keep_dpFeed ..).trans ?_
    | with_reducible refine (keep_modSer ..).trans ?_
    | with_reducible (refine (keep_foldl (fun _ _ => ?_) ..).trans ?_)
    | with_reducible split
    | with_reducible exact keep_upd rfl rfl rfl
    | with_reducible dsimp only

theorem keep_tplOffer (src : Nat × Nat) (rx : Nat) (s : List Sys2Proof.Byte) (b : Block) : keep (tplOffer src rx s b).2 = keep b := by
  unfold tplOffer
  repeat' first
    | with_reducible rfl
    | with_reducible refine keep_ite_fst ?_ ?_
    | with_reducible refine keep_ite_snd ?_ ?_
    | with_reducible refine keep_ite ?_ ?_
    | with_reducible refine (keep_tplTake ..).trans ?_
    | with_reducible (refine (keep_foldl_snd (fun _ _ => ?_) ..).trans ?_)
    | with_reducible (refine (keep_foldl_fst (fun _ _ => ?_) ..).trans ?_)
    | with_reducible (refine (keep_foldl (fun _ _ => ?_) ..).trans ?_)
    | with_reducible split
    | with_reducible exact keep_upd rfl rfl rfl
    | with_reducible dsimp only

theorem keep_tplOffer_eq {src : Nat × Nat} {rx : Nat} {s : List Sys2Proof.Byte} {b : Block} {x : Bool} {bo : Block} (h : tplOffer src rx s b = (x, bo)) : keep bo = keep b := by
  have e := keep_tplOffer src rx s b
  rw [h] at e
  exact e

theorem keep_sentenceReceive (p : Nat) (line : List Sys2Proof.Byte) (rx : Nat) (bad : List Nat) (fits : Bool) (b : Block) : keep (sentenceReceive p line rx bad fits b) = keep b := by
  unfold sentenceReceive
  repeat' first
    | with_reducible rfl
    | with_reducible refine keep_ite_fst ?_ ?_
    | with_reducible refine keep_ite_snd ?_ ?_
    | with_reducible refine keep_ite ?_ ?_
    | with_reducible refine (keep_modSerPort ..).trans ?_
    | with_reducible refine (keep_perf ..).trans ?_
    | with_reducible refine (keep_serError ..).trans ?_
    | with_reducible refine (keep_stageMrx ..).trans ?_
    | with_reducible refine (keep_tplOffer ..).trans ?_
    | with_reducible refine (keep_tplOffer_eq (by assumption)).trans ?_
    | with_reducible (refine (keep_foldl_snd (fun _ _ => ?_) ..).trans ?_)
    | with_reducible (refine (keep_foldl_fst (fun _ _ => ?_) ..).trans ?_)
    | with_reducible (refine (keep_foldl (fun _ _ => ?_) ..).trans ?_)
    | with_reducible split
    | with_reducible exact keep_upd rfl rfl rfl
    | with_reducible dsimp only

theorem keep_sentenceGap (p : Nat) (b : Block) : keep (sentenceGap p b) = keep b := by
  unfold sentenceGap
  repeat' first
    | with_reducible rfl
    | with_reducible refine keep_ite ?_ ?_
    | with_reducible refine (keep_serError ..).trans ?_
    | with_reducible split
    | with_reducible exact keep_upd rfl rfl rfl

theorem keep_chunkEnd (p : Nat) (bytes : List Sys2Proof.Byte) (rx bad dropped : Nat) (b : Block) : keep (chunkEnd p bytes rx bad dropped b) = keep b := by
  unfold chunkEnd
  repeat' first
    | with_reducible rfl
    | with_reducible refine keep_ite ?_ ?_
    | with_reducible refine (keep_modSerPort ..).trans ?_
    | with_reducible refine (keep_serError ..).trans ?_
    | with_reducible refine (keep_stageMrx ..).trans ?_
    | with_reducible (refine (keep_foldl (fun _ _ => ?_) ..).trans ?_)
    | with_reducible split
    | with_reducible exact keep_upd rfl rfl rfl
    | with_reducible dsimp only

theorem keep_serialTransmit (n : Nat) (b : Block) : keep (serialTransmit n b) = keep b := by
  unfold serialTransmit
  repeat' first
    | with_reducible rfl
    | with_reducible refine keep_ite ?_ ?_
    | with_reducible refine (keep_completeWith ..).trans ?_
    | with_reducible refine (keep_emit ..).trans ?_
    | with_reducible refine (keep_modDesc ..).trans ?_
    | with_reducible refine (keep_modSerPort ..).trans ?_
    | with_reducible split
    | with_reducible exact keep_upd rfl rfl rfl
    | with_reducible dsimp only

theorem keep_serialTxComplete (p : Nat) (b : Block) : keep (serialTxComplete p b) = keep b := by
  unfold serialTxComplete
  repeat' first
    | with_reducible rfl
    | with_reducible refine (keep_complete ..).trans ?_
    | with_reducible refine (keep_serTxEnds ..).trans ?_
    | with_reducible split
    | with_reducible exact keep_upd rfl rfl rfl
    | with_reducible dsimp only

theorem keep_serBank (old b : Block) : keep (serBank old b) = keep b := by
  unfold serBank
  repeat' first
    | with_reducible rfl
    | with_reducible refine keep_ite ?_ ?_
    | with_reducible refine (keep_modSer ..).trans ?_
    | with_reducible refine (keep_serDropTx ..).trans ?_
    | with_reducible (refine (keep_foldl (fun _ _ => ?_) ..).trans ?_)
    | with_reducible split
    | with_reducible exact keep_upd rfl rfl rfl
    | with_reducible dsimp only

/-! Eth. -/

theorem keep_prpSupervision (b : Block) : keep (prpSupervision b) = keep b := by
  unfold prpSupervision
  repeat' first
    | with_reducible rfl
    | with_reducible refine keep_ite ?_ ?_
    | with_reducible refine (keep_ethSendOwn ..).trans ?_
    | with_reducible (refine (keep_foldl (fun _ _ => ?_) ..).trans ?_)
    | with_reducible split
    | with_reducible exact keep_upd rfl rfl rfl

theorem keep_streamEvent (j : Nat) (bad : Bool) (b : Block) : keep (streamEvent j bad b) = keep b := by
  unfold streamEvent
  repeat' first
    | with_reducible rfl
    | with_reducible refine (keep_fire ..).trans ?_
    | with_reducible exact keep_upd rfl rfl rfl

theorem keep_streamLine (j rx : Nat) (line : List Sys2Proof.Byte) (b : Block) : keep (streamLine j rx line b) = keep b := by
  unfold streamLine
  repeat' first
    | with_reducible rfl
    | with_reducible refine keep_ite ?_ ?_
    | with_reducible refine (keep_modStream ..).trans ?_
    | with_reducible refine (keep_tplOffer ..).trans ?_
    | with_reducible refine (keep_tplOffer_eq (by assumption)).trans ?_
    | with_reducible split
    | with_reducible exact keep_upd rfl rfl rfl
    | with_reducible dsimp only

theorem keep_streamDatagram (j rx : Nat) (data : List Sys2Proof.Byte) (b : Block) : keep (streamDatagram j rx data b) = keep b := by
  unfold streamDatagram
  repeat' first
    | with_reducible rfl
    | with_reducible refine keep_ite ?_ ?_
    | with_reducible refine (keep_modStream ..).trans ?_
    | with_reducible refine (keep_streamEvent ..).trans ?_
    | with_reducible refine (keep_streamLine ..).trans ?_
    | with_reducible (refine (keep_foldl (fun _ _ => ?_) ..).trans ?_)
    | with_reducible split
    | with_reducible exact keep_upd rfl rfl rfl
    | with_reducible dsimp only

theorem keep_receivingTimeout (j : Nat) (b : Block) : keep (receivingTimeout j b) = keep b := by
  unfold receivingTimeout
  repeat' first
    | with_reducible rfl
    | with_reducible refine keep_ite ?_ ?_
    | with_reducible refine (keep_modStream ..).trans ?_
    | with_reducible refine (keep_streamEvent ..).trans ?_
    | with_reducible split
    | with_reducible exact keep_upd rfl rfl rfl

theorem keep_uslReceiveAt (c rx : Nat) (bytes : List Sys2Proof.Byte) (b : Block) : keep (uslReceiveAt c rx bytes b) = keep b := by
  unfold uslReceiveAt
  repeat' first
    | with_reducible rfl
    | with_reducible refine keep_ite ?_ ?_
    | with_reducible refine (keep_modSaf ..).trans ?_
    | with_reducible refine (keep_uslCheck ..).trans ?_
    | with_reducible split
    | with_reducible exact keep_upd rfl rfl rfl

theorem keep_ethToRing (ringNo n lan rx : Nat) (hadRct : Bool) (ptp : Option (Nat × Bool)) (f : List Sys2Proof.Byte) (b : Block) : keep (ethToRing ringNo n lan rx hadRct ptp f b) = keep b := by
  unfold ethToRing
  repeat' first
    | with_reducible rfl
    | with_reducible refine (keep_stageMrx ..).trans ?_
    | with_reducible split
    | with_reducible exact keep_upd rfl rfl rfl
    | with_reducible dsimp only

theorem keep_ethToHost (n lan rx : Nat) (hadRct : Bool) (ptp : Option (Nat × Bool)) (f : List Sys2Proof.Byte) (b : Block) : keep (ethToHost n lan rx hadRct ptp f b) = keep b := by
  unfold ethToHost
  repeat' first
    | with_reducible rfl
    | with_reducible refine keep_ite ?_ ?_
    | with_reducible refine (keep_ethToRing ..).trans ?_
    | with_reducible refine (keep_modNet ..).trans ?_
    | with_reducible split
    | with_reducible exact keep_upd rfl rfl rfl

theorem keep_ethOffer (n lan rx : Nat) (hadRct : Bool) (f : List Sys2Proof.Byte) (b : Block) : keep (ethOffer n lan rx hadRct f b) = keep b := by
  unfold ethOffer
  repeat' first
    | with_reducible rfl
    | with_reducible refine keep_ite_fst ?_ ?_
    | with_reducible refine keep_ite_snd ?_ ?_
    | with_reducible refine keep_ite ?_ ?_
    | with_reducible refine (keep_ethSendOwn ..).trans ?_
    | with_reducible refine (keep_ethToHost ..).trans ?_
    | with_reducible refine (keep_modNet ..).trans ?_
    | with_reducible refine (keep_netLatch ..).trans ?_
    | with_reducible refine (keep_perf ..).trans ?_
    | with_reducible refine (keep_streamDatagram ..).trans ?_
    | with_reducible refine (keep_uslReceiveAt ..).trans ?_
    | with_reducible (refine (keep_foldl_snd (fun _ _ => ?_) ..).trans ?_)
    | with_reducible (refine (keep_foldl_fst (fun _ _ => ?_) ..).trans ?_)
    | with_reducible (refine (keep_foldl (fun _ _ => ?_) ..).trans ?_)
    | with_reducible split
    | with_reducible exact keep_upd rfl rfl rfl
    | with_reducible dsimp only

theorem keep_ethFrameReceive (p : Nat) (frame : List Sys2Proof.Byte) (rx : Nat) (dropped : Bool) (b : Block) : keep (ethFrameReceive p frame rx dropped b) = keep b := by
  unfold ethFrameReceive
  repeat' first
    | with_reducible rfl
    | with_reducible refine keep_ite ?_ ?_
    | with_reducible refine (keep_ethOffer ..).trans ?_
    | with_reducible refine (keep_modNet ..).trans ?_
    | with_reducible refine (keep_netLatch ..).trans ?_
    | with_reducible refine (keep_perf ..).trans ?_
    | with_reducible split
    | with_reducible exact keep_upd rfl rfl rfl
    | with_reducible dsimp only

theorem keep_nodeForget (n mac : Nat) (b : Block) : keep (nodeForget n mac b) = keep b := by
  unfold nodeForget
  repeat' first
    | with_reducible rfl
    | with_reducible refine (keep_modNet ..).trans ?_
    | with_reducible exact keep_upd rfl rfl rfl

theorem keep_ethLaunch (r : Nat) (b : Block) : keep (ethLaunch r b) = keep b := by
  unfold ethLaunch
  repeat' first
    | with_reducible rfl
    | with_reducible refine keep_ite ?_ ?_
    | with_reducible refine (keep_completeWith ..).trans ?_
    | with_reducible refine (keep_modDesc ..).trans ?_
    | with_reducible refine (keep_modNet ..).trans ?_
    | with_reducible split
    | with_reducible exact keep_upd rfl rfl rfl
    | with_reducible dsimp only

theorem keep_ethFrameSent (n : Nat) (at' : TxStamps) (b : Block) : keep (ethFrameSent n at' b) = keep b := by
  unfold ethFrameSent
  repeat' first
    | with_reducible rfl
    | with_reducible refine keep_ite ?_ ?_
    | with_reducible refine (keep_complete ..).trans ?_
    | with_reducible refine (keep_emit ..).trans ?_
    | with_reducible refine (keep_ethFlush ..).trans ?_
    | with_reducible refine (keep_ethSend ..).trans ?_
    | with_reducible refine (keep_modNet ..).trans ?_
    | with_reducible (refine (keep_foldl (fun _ _ => ?_) ..).trans ?_)
    | with_reducible split
    | with_reducible exact keep_upd rfl rfl rfl
    | with_reducible dsimp only

theorem keep_tdHand (k : Nat) (b : Block) : keep (tdHand k b) = keep b := by
  unfold tdHand
  repeat' first
    | with_reducible rfl
    | with_reducible refine keep_ite ?_ ?_
    | with_reducible refine (keep_ethSend ..).trans ?_
    | with_reducible refine (keep_modNet ..).trans ?_
    | with_reducible refine (keep_modTd ..).trans ?_
    | with_reducible refine (keep_seqAdvance ..).trans ?_
    | with_reducible split
    | with_reducible exact keep_upd rfl rfl rfl
    | with_reducible dsimp only

theorem keep_tdAssemble (k : Nat) (b : Block) : keep (tdAssemble k b) = keep b := by
  unfold tdAssemble
  repeat' first
    | with_reducible rfl
    | with_reducible refine keep_ite ?_ ?_
    | with_reducible refine (keep_modTd ..).trans ?_
    | with_reducible refine (keep_tdHand ..).trans ?_
    | with_reducible split
    | with_reducible exact keep_upd rfl rfl rfl
    | with_reducible dsimp only

theorem keep_tdInstant (k : Nat) (b : Block) : keep (tdInstant k b) = keep b := by
  unfold tdInstant
  repeat' first
    | with_reducible rfl
    | with_reducible refine keep_ite ?_ ?_
    | with_reducible refine (keep_modTd ..).trans ?_
    | with_reducible refine (keep_resolveEng ..).trans ?_
    | with_reducible refine (keep_tdAssemble ..).trans ?_
    | with_reducible (refine (keep_foldl (fun _ _ => ?_) ..).trans ?_)
    | with_reducible split
    | with_reducible exact keep_upd rfl rfl rfl
    | with_reducible dsimp only

theorem keep_ethLinkChange (p : Nat) (up : Bool) (b : Block) : keep (ethLinkChange p up b) = keep b := by
  unfold ethLinkChange
  repeat' first
    | with_reducible rfl
    | with_reducible refine keep_ite_fst ?_ ?_
    | with_reducible refine keep_ite_snd ?_ ?_
    | with_reducible refine keep_ite ?_ ?_
    | with_reducible refine (keep_ethFlush ..).trans ?_
    | with_reducible refine (keep_modNet ..).trans ?_
    | with_reducible refine (keep_netLatch ..).trans ?_
    | with_reducible refine (keep_tdHand ..).trans ?_
    | with_reducible (refine (keep_foldl_snd (fun _ _ => ?_) ..).trans ?_)
    | with_reducible (refine (keep_foldl_fst (fun _ _ => ?_) ..).trans ?_)
    | with_reducible (refine (keep_foldl (fun _ _ => ?_) ..).trans ?_)
    | with_reducible split
    | with_reducible exact keep_upd rfl rfl rfl
    | with_reducible dsimp only

theorem keep_ethClrCounts (n : Nat) (b : Block) : keep (ethClrCounts n b) = keep b := by
  unfold ethClrCounts
  repeat' first
    | with_reducible rfl
    | with_reducible refine (keep_modNet ..).trans ?_
    | with_reducible exact keep_upd rfl rfl rfl

theorem keep_ethReady (b : Block) : keep (ethReady b) = keep b := by
  unfold ethReady
  repeat' first
    | with_reducible rfl
    | with_reducible refine (keep_modNet ..).trans ?_
    | with_reducible (refine (keep_foldl (fun _ _ => ?_) ..).trans ?_)
    | with_reducible exact keep_upd rfl rfl rfl

theorem keep_ethBank (old b : Block) : keep (ethBank old b) = keep b := by
  unfold ethBank
  repeat' first
    | with_reducible rfl
    | with_reducible refine keep_ite ?_ ?_
    | with_reducible refine (keep_ethFlush ..).trans ?_
    | with_reducible refine (keep_modEth ..).trans ?_
    | with_reducible refine (keep_modNet ..).trans ?_
    | with_reducible refine (keep_modTd ..).trans ?_
    | with_reducible (refine (keep_foldl (fun _ _ => ?_) ..).trans ?_)
    | with_reducible split
    | with_reducible exact keep_upd rfl rfl rfl
    | with_reducible dsimp only

/-! PtnMsg. -/

theorem keep_modPlink (k : Nat) (f : PLink → PLink) (b : Block) : keep (modPlink k f b) = keep b := by
  unfold modPlink
  repeat' first
    | with_reducible rfl
    | with_reducible refine keep_ite ?_ ?_
    | with_reducible refine (keep_modPtn ..).trans ?_
    | with_reducible split
    | with_reducible exact keep_upd rfl rfl rfl

theorem keep_sendMsg (k type flags : Nat) (payload : List Sys2Proof.Byte) (b : Block) : keep (sendMsg k type flags payload b) = keep b := by
  unfold sendMsg
  repeat' first
    | with_reducible rfl
    | with_reducible refine keep_ite ?_ ?_
    | with_reducible refine (keep_emit ..).trans ?_
    | with_reducible refine (keep_modPlink ..).trans ?_
    | with_reducible split
    | with_reducible exact keep_upd rfl rfl rfl
    | with_reducible dsimp only

theorem keep_linkEvent (k : Nat) (b : Block) : keep (linkEvent k b) = keep b := by
  unfold linkEvent
  repeat' first
    | with_reducible rfl
    | with_reducible refine (keep_fire ..).trans ?_
    | with_reducible exact keep_upd rfl rfl rfl
    | with_reducible dsimp only

theorem keep_setOfs (v : Int) (b : Block) : keep (setOfs v b) = keep b := by
  unfold setOfs
  repeat' first
    | with_reducible rfl
    | with_reducible refine (keep_fireIf ..).trans ?_
    | with_reducible refine (keep_modPtn ..).trans ?_
    | with_reducible exact keep_upd rfl rfl rfl
    | with_reducible dsimp only

theorem keep_takeEcho (k : Nat) (m : List Sys2Proof.Byte) (b : Block) : keep (takeEcho k m b) = keep b := by
  unfold takeEcho
  repeat' first
    | with_reducible rfl
    | with_reducible refine keep_ite ?_ ?_
    | with_reducible refine (keep_modPlink ..).trans ?_
    | with_reducible refine (keep_setOfs ..).trans ?_
    | with_reducible split
    | with_reducible exact keep_upd rfl rfl rfl
    | with_reducible dsimp only

theorem keep_gainLive (k : Nat) (b : Block) : keep (gainLive k b) = keep b := by
  unfold gainLive
  repeat' first
    | with_reducible rfl
    | with_reducible refine keep_ite ?_ ?_
    | with_reducible refine (keep_linkEvent ..).trans ?_
    | with_reducible refine (keep_modPlink ..).trans ?_
    | with_reducible refine (keep_modPtn ..).trans ?_
    | with_reducible split
    | with_reducible exact keep_upd rfl rfl rfl

theorem keep_takePartner (m : List Sys2Proof.Byte) (b : Block) : keep (takePartner m b) = keep b := by
  unfold takePartner
  repeat' first
    | with_reducible rfl
    | with_reducible refine keep_ite ?_ ?_
    | with_reducible refine (keep_fireIf ..).trans ?_
    | with_reducible refine (keep_modPtn ..).trans ?_
    | with_reducible split
    | with_reducible exact keep_upd rfl rfl rfl
    | with_reducible dsimp only

theorem keep_takeHeader (k : Nat) (m : List Sys2Proof.Byte) (b : Block) : keep (takeHeader k m b) = keep b := by
  unfold takeHeader
  repeat' first
    | with_reducible rfl
    | with_reducible refine (keep_gainLive ..).trans ?_
    | with_reducible refine (keep_modPlink ..).trans ?_
    | with_reducible refine (keep_takeEcho ..).trans ?_
    | with_reducible refine (keep_takePartner ..).trans ?_
    | with_reducible exact keep_upd rfl rfl rfl
    | with_reducible dsimp only

theorem keep_countErr (k : Nat) (b : Block) : keep (countErr k b) = keep b := by
  unfold countErr
  repeat' first
    | with_reducible rfl
    | with_reducible refine (keep_modPlink ..).trans ?_
    | with_reducible exact keep_upd rfl rfl rfl

/-! Ptn. -/

theorem keep_becomeActive (cause : Nat) (b : Block) : keep (becomeActive cause b) = keep b := by
  unfold becomeActive
  repeat' first
    | with_reducible rfl
    | with_reducible refine keep_ite ?_ ?_
    | with_reducible refine (keep_modPtn ..).trans ?_
    | with_reducible refine (keep_setRole ..).trans ?_
    | with_reducible split
    | with_reducible exact keep_upd rfl rfl rfl
    | with_reducible dsimp only

theorem keep_seedRestoreComplete (b : Block) : keep (seedRestoreComplete b) = keep b := by
  unfold seedRestoreComplete
  repeat' first
    | with_reducible rfl
    | with_reducible refine (keep_modPtn ..).trans ?_
    | with_reducible refine (keep_restoreTakeover ..).trans ?_
    | with_reducible split
    | with_reducible exact keep_upd rfl rfl rfl
    | with_reducible dsimp only

theorem keep_ptnReconsider (b : Block) : keep (ptnReconsider b) = keep b := by
  unfold ptnReconsider
  repeat' first
    | with_reducible rfl
    | with_reducible refine keep_ite ?_ ?_
    | with_reducible refine (keep_becomeActive ..).trans ?_
    | with_reducible refine (keep_setRole ..).trans ?_
    | with_reducible split
    | with_reducible exact keep_upd rfl rfl rfl
    | with_reducible dsimp only

theorem keep_soleStep (grant : Bool) (b : Block) : keep (soleStep grant b) = keep b := by
  unfold soleStep
  repeat' first
    | with_reducible rfl
    | with_reducible refine keep_ite ?_ ?_
    | with_reducible refine (keep_modPtn ..).trans ?_
    | with_reducible split
    | with_reducible exact keep_upd rfl rfl rfl

theorem keep_grantStep (k : Nat) (m : List Sys2Proof.Byte) (b : Block) : keep (grantStep k m b) = keep b := by
  unfold grantStep
  repeat' first
    | with_reducible rfl
    | with_reducible refine keep_ite ?_ ?_
    | with_reducible refine (keep_becomeActive ..).trans ?_
    | with_reducible refine (keep_modPtn ..).trans ?_
    | with_reducible split
    | with_reducible exact keep_upd rfl rfl rfl
    | with_reducible dsimp only

theorem keep_dualStep (b : Block) : keep (dualStep b) = keep b := by
  unfold dualStep
  repeat' first
    | with_reducible rfl
    | with_reducible refine keep_ite ?_ ?_
    | with_reducible refine (keep_fire ..).trans ?_
    | with_reducible refine (keep_modPtn ..).trans ?_
    | with_reducible refine (keep_setRole ..).trans ?_
    | with_reducible split
    | with_reducible exact keep_upd rfl rfl rfl
    | with_reducible dsimp only

theorem keep_handoverTake (b : Block) : keep (handoverTake b) = keep b := by
  unfold handoverTake
  repeat' first
    | with_reducible rfl
    | with_reducible refine keep_ite ?_ ?_
    | with_reducible refine (keep_clearEngTargets ..).trans ?_
    | with_reducible refine (keep_modChn ..).trans ?_
    | with_reducible refine (keep_modPtn ..).trans ?_
    | with_reducible refine (keep_restoreClass23 ..).trans ?_
    | with_reducible refine (keep_setRole ..).trans ?_
    | with_reducible split
    | with_reducible exact keep_upd rfl rfl rfl
    | with_reducible dsimp only

theorem keep_handoverStep (b : Block) : keep (handoverStep b) = keep b := by
  unfold handoverStep
  repeat' first
    | with_reducible rfl
    | with_reducible refine keep_ite ?_ ?_
    | with_reducible refine (keep_handoverTake ..).trans ?_
    | with_reducible refine (keep_modPtn ..).trans ?_
    | with_reducible refine (keep_updatePower ..).trans ?_
    | with_reducible split
    | with_reducible exact keep_upd rfl rfl rfl
    | with_reducible dsimp only

theorem keep_afterHeader (k : Nat) (m : List Sys2Proof.Byte) (b : Block) : keep (afterHeader k m b) = keep b := by
  unfold afterHeader
  repeat' first
    | with_reducible rfl
    | with_reducible refine keep_ite ?_ ?_
    | with_reducible refine (keep_grantStep ..).trans ?_
    | with_reducible refine (keep_ptnReconsider ..).trans ?_
    | with_reducible refine (keep_soleStep ..).trans ?_
    | with_reducible split
    | with_reducible exact keep_upd rfl rfl rfl
    | with_reducible dsimp only

theorem keep_roleReceive (k : Nat) (m : List Sys2Proof.Byte) (b : Block) : keep (roleReceive k m b) = keep b := by
  unfold roleReceive
  repeat' first
    | with_reducible rfl
    | with_reducible refine keep_ite ?_ ?_
    | with_reducible refine (keep_afterHeader ..).trans ?_
    | with_reducible refine (keep_countErr ..).trans ?_
    | with_reducible refine (keep_dualStep ..).trans ?_
    | with_reducible refine (keep_handoverStep ..).trans ?_
    | with_reducible refine (keep_listenStop ..).trans ?_
    | with_reducible refine (keep_takeHeader ..).trans ?_
    | with_reducible split
    | with_reducible exact keep_upd rfl rfl rfl

theorem keep_rejectSeed (k reason : Nat) (b : Block) : keep (rejectSeed k reason b) = keep b := by
  unfold rejectSeed
  repeat' first
    | with_reducible rfl
    | with_reducible refine (keep_fire ..).trans ?_
    | with_reducible refine (keep_modPtn ..).trans ?_
    | with_reducible exact keep_upd rfl rfl rfl

theorem keep_seedReceive (k : Nat) (m : List Sys2Proof.Byte) (b : Block) : keep (seedReceive k m b) = keep b := by
  unfold seedReceive
  repeat' first
    | with_reducible rfl
    | with_reducible refine keep_ite ?_ ?_
    | with_reducible refine (keep_afterHeader ..).trans ?_
    | with_reducible refine (keep_countErr ..).trans ?_
    | with_reducible refine (keep_dropOldSeeds ..).trans ?_
    | with_reducible refine (keep_modPtn ..).trans ?_
    | with_reducible refine (keep_rejectSeed ..).trans ?_
    | with_reducible refine (keep_takeHeader ..).trans ?_
    | with_reducible split
    | with_reducible exact keep_upd rfl rfl rfl
    | with_reducible dsimp only

theorem keep_partnerUslReceive (k : Nat) (m : List Sys2Proof.Byte) (b : Block) : keep (partnerUslReceive k m b) = keep b := by
  unfold partnerUslReceive
  repeat' first
    | with_reducible rfl
    | with_reducible refine keep_ite ?_ ?_
    | with_reducible refine (keep_afterHeader ..).trans ?_
    | with_reducible refine (keep_countErr ..).trans ?_
    | with_reducible refine (keep_takeHeader ..).trans ?_
    | with_reducible refine (keep_uslReceive ..).trans ?_
    | with_reducible split
    | with_reducible exact keep_upd rfl rfl rfl
    | with_reducible dsimp only

theorem keep_sendRole (k : Nat) (b : Block) : keep (sendRole k b) = keep b := by
  unfold sendRole
  repeat' first
    | with_reducible rfl
    | with_reducible refine keep_ite ?_ ?_
    | with_reducible refine (keep_modPlink ..).trans ?_
    | with_reducible refine (keep_modPtn ..).trans ?_
    | with_reducible refine (keep_sendMsg ..).trans ?_
    | with_reducible split
    | with_reducible exact keep_upd rfl rfl rfl
    | with_reducible dsimp only

theorem keep_roleSend (b : Block) : keep (roleSend b) = keep b := by
  unfold roleSend
  repeat' first
    | with_reducible rfl
    | with_reducible refine keep_ite ?_ ?_
    | with_reducible refine (keep_sendRole ..).trans ?_
    | with_reducible split
    | with_reducible exact keep_upd rfl rfl rfl
    | with_reducible dsimp only

theorem keep_departSend (b : Block) : keep (departSend b) = keep b := by
  unfold departSend
  repeat' first
    | with_reducible rfl
    | with_reducible refine keep_ite ?_ ?_
    | with_reducible refine (keep_modPtn ..).trans ?_
    | with_reducible refine (keep_sendMsg ..).trans ?_
    | with_reducible split
    | with_reducible exact keep_upd rfl rfl rfl
    | with_reducible dsimp only

theorem keep_heardLost (b : Block) : keep (heardLost b) = keep b := by
  unfold heardLost
  repeat' first
    | with_reducible rfl
    | with_reducible refine keep_ite ?_ ?_
    | with_reducible refine (keep_cancelHandover ..).trans ?_
    | with_reducible refine (keep_modPtn ..).trans ?_
    | with_reducible refine (keep_ptnReconsider ..).trans ?_
    | with_reducible refine (keep_setRole ..).trans ?_
    | with_reducible refine (keep_updatePower ..).trans ?_
    | with_reducible split
    | with_reducible exact keep_upd rfl rfl rfl
    | with_reducible dsimp only

theorem keep_livenessLoss (k : Nat) (b : Block) : keep (livenessLoss k b) = keep b := by
  unfold livenessLoss
  repeat' first
    | with_reducible rfl
    | with_reducible refine keep_ite ?_ ?_
    | with_reducible refine (keep_heardLost ..).trans ?_
    | with_reducible refine (keep_linkEvent ..).trans ?_
    | with_reducible refine (keep_modPlink ..).trans ?_
    | with_reducible split
    | with_reducible exact keep_upd rfl rfl rfl
    | with_reducible dsimp only

theorem keep_plinkSilent (k : Nat) (b : Block) : keep (plinkSilent k b) = keep b := by
  unfold plinkSilent
  repeat' first
    | with_reducible rfl
    | with_reducible refine keep_ite ?_ ?_
    | with_reducible refine (keep_linkEvent ..).trans ?_
    | with_reducible refine (keep_modPlink ..).trans ?_
    | with_reducible split
    | with_reducible exact keep_upd rfl rfl rfl
    | with_reducible dsimp only

theorem keep_partnerBank (b : Block) : keep (partnerBank b) = keep b := by
  unfold partnerBank
  repeat' first
    | with_reducible rfl
    | with_reducible refine keep_ite ?_ ?_
    | with_reducible refine (keep_cancelHandover ..).trans ?_
    | with_reducible refine (keep_modPtn ..).trans ?_
    | with_reducible refine (keep_plinkSilent ..).trans ?_
    | with_reducible refine (keep_updatePower ..).trans ?_
    | with_reducible split
    | with_reducible exact keep_upd rfl rfl rfl
    | with_reducible dsimp only

theorem keep_leaseFence (b : Block) : keep (leaseFence b) = keep b := by
  unfold leaseFence
  repeat' first
    | with_reducible rfl
    | with_reducible refine keep_ite ?_ ?_
    | with_reducible refine (keep_setRole ..).trans ?_
    | with_reducible split
    | with_reducible exact keep_upd rfl rfl rfl

theorem keep_leaseExpiry (b : Block) : keep (leaseExpiry b) = keep b := by
  unfold leaseExpiry
  repeat' first
    | with_reducible rfl
    | with_reducible refine keep_ite ?_ ?_
    | with_reducible refine (keep_becomeActive ..).trans ?_
    | with_reducible split
    | with_reducible exact keep_upd rfl rfl rfl
    | with_reducible dsimp only

theorem keep_ptnTake (b : Block) : keep (ptnTake b) = keep b := by
  unfold ptnTake
  repeat' first
    | with_reducible rfl
    | with_reducible refine keep_ite ?_ ?_
    | with_reducible refine (keep_becomeActive ..).trans ?_
    | with_reducible split
    | with_reducible exact keep_upd rfl rfl rfl
    | with_reducible dsimp only

theorem keep_ptnClrErrs (b : Block) : keep (ptnClrErrs b) = keep b := by
  unfold ptnClrErrs
  repeat' first
    | with_reducible rfl
    | with_reducible refine (keep_modPlink ..).trans ?_
    | with_reducible exact keep_upd rfl rfl rfl

theorem keep_ptnStartAlone (b : Block) : keep (ptnStartAlone b) = keep b := by
  unfold ptnStartAlone
  repeat' first
    | with_reducible rfl
    | with_reducible refine keep_ite ?_ ?_
    | with_reducible refine (keep_becomeActive ..).trans ?_
    | with_reducible split
    | with_reducible exact keep_upd rfl rfl rfl
    | with_reducible dsimp only

theorem keep_drillEvent (b : Block) : keep (drillEvent b) = keep b := by
  unfold drillEvent
  repeat' first
    | with_reducible rfl
    | with_reducible refine keep_ite ?_ ?_
    | with_reducible refine (keep_fire ..).trans ?_
    | with_reducible refine (keep_modPtn ..).trans ?_
    | with_reducible split
    | with_reducible exact keep_upd rfl rfl rfl
    | with_reducible dsimp only

theorem keep_partnerLinkChange (k : Nat) (up : Bool) (b : Block) : keep (partnerLinkChange k up b) = keep b := by
  unfold partnerLinkChange
  repeat' first
    | with_reducible rfl
    | with_reducible refine keep_ite ?_ ?_
    | with_reducible refine (keep_linkEvent ..).trans ?_
    | with_reducible refine (keep_modPlink ..).trans ?_
    | with_reducible split
    | with_reducible exact keep_upd rfl rfl rfl
    | with_reducible dsimp only

theorem keep_handoverAccept (ring idx : Nat) (b : Block) : keep (handoverAccept ring idx b) = keep b := by
  unfold handoverAccept
  repeat' first
    | with_reducible rfl
    | with_reducible refine (keep_fire ..).trans ?_
    | with_reducible refine (keep_modPtn ..).trans ?_
    | with_reducible exact keep_upd rfl rfl rfl
    | with_reducible dsimp only

theorem keep_handoverBoundary (b : Block) : keep (handoverBoundary b) = keep b := by
  unfold handoverBoundary
  repeat' first
    | with_reducible rfl
    | with_reducible refine keep_ite ?_ ?_
    | with_reducible refine (keep_modDp ..).trans ?_
    | with_reducible refine (keep_modLpe ..).trans ?_
    | with_reducible refine (keep_modPtn ..).trans ?_
    | with_reducible split
    | with_reducible exact keep_upd rfl rfl rfl
    | with_reducible dsimp only

theorem keep_handoverRestore (b : Block) : keep (handoverRestore b) = keep b := by
  unfold handoverRestore
  repeat' first
    | with_reducible rfl
    | with_reducible refine keep_ite ?_ ?_
    | with_reducible refine (keep_modPtn ..).trans ?_
    | with_reducible refine (keep_restoreClass1 ..).trans ?_
    | with_reducible split
    | with_reducible exact keep_upd rfl rfl rfl
    | with_reducible dsimp only

theorem keep_handoverDone (h : Handover) (b : Block) : keep (handoverDone h b) = keep b := by
  unfold handoverDone
  repeat' first
    | with_reducible rfl
    | with_reducible refine (keep_completeWith ..).trans ?_
    | with_reducible refine (keep_fire ..).trans ?_
    | with_reducible refine (keep_modPtn ..).trans ?_
    | with_reducible exact keep_upd rfl rfl rfl
    | with_reducible dsimp only

theorem keep_handoverTick (b : Block) : keep (handoverTick b) = keep b := by
  unfold handoverTick
  repeat' first
    | with_reducible rfl
    | with_reducible refine keep_ite ?_ ?_
    | with_reducible refine (keep_cancelHandover ..).trans ?_
    | with_reducible refine (keep_handoverDone ..).trans ?_
    | with_reducible refine (keep_handoverTake ..).trans ?_
    | with_reducible refine (keep_modPtn ..).trans ?_
    | with_reducible refine (keep_setRole ..).trans ?_
    | with_reducible split
    | with_reducible exact keep_upd rfl rfl rfl

theorem keep_overlapWindowEnd (b : Block) : keep (overlapWindowEnd b) = keep b := by
  unfold overlapWindowEnd
  repeat' first
    | with_reducible rfl
    | with_reducible refine keep_ite ?_ ?_
    | with_reducible refine (keep_handoverDone ..).trans ?_
    | with_reducible refine (keep_modPtn ..).trans ?_
    | with_reducible refine (keep_setRole ..).trans ?_
    | with_reducible split
    | with_reducible exact keep_upd rfl rfl rfl

theorem keep_handoverTrip (before : Sys2Proof.Word) (b : Block) : keep (handoverTrip before b) = keep b := by
  unfold handoverTrip
  repeat' first
    | with_reducible rfl
    | with_reducible refine keep_ite ?_ ?_
    | with_reducible refine (keep_cancelHandover ..).trans ?_
    | with_reducible split
    | with_reducible exact keep_upd rfl rfl rfl

theorem keep_sendDeferred (b : Block) : keep (sendDeferred b) = keep b := by
  unfold sendDeferred
  repeat' first
    | with_reducible rfl
    | with_reducible refine keep_ite_fst ?_ ?_
    | with_reducible refine keep_ite_snd ?_ ?_
    | with_reducible refine keep_ite ?_ ?_
    | with_reducible refine (keep_canAssemble ..).trans ?_
    | with_reducible refine (keep_tdAssemble ..).trans ?_
    | with_reducible (refine (keep_foldl_snd (fun _ _ => ?_) ..).trans ?_)
    | with_reducible (refine (keep_foldl_fst (fun _ _ => ?_) ..).trans ?_)
    | with_reducible (refine (keep_foldl (fun _ _ => ?_) ..).trans ?_)
    | with_reducible split
    | with_reducible exact keep_upd rfl rfl rfl

theorem keep_safUnfreeze (start : Nat) (b : Block) : keep (safUnfreeze start b) = keep b := by
  unfold safUnfreeze
  repeat' first
    | with_reducible rfl
    | with_reducible refine keep_ite ?_ ?_
    | with_reducible refine (keep_modSaf ..).trans ?_
    | with_reducible split
    | with_reducible exact keep_upd rfl rfl rfl

theorem keep_freezeEnd (b : Block) : keep (freezeEnd b) = keep b := by
  unfold freezeEnd
  repeat' first
    | with_reducible rfl
    | with_reducible refine keep_ite ?_ ?_
    | with_reducible refine (keep_dpUnfreeze ..).trans ?_
    | with_reducible refine (keep_lpeUnfreeze ..).trans ?_
    | with_reducible refine (keep_modChn ..).trans ?_
    | with_reducible refine (keep_safUnfreeze ..).trans ?_
    | with_reducible refine (keep_sendDeferred ..).trans ?_
    | with_reducible refine (keep_uslUnfreeze ..).trans ?_
    | with_reducible split
    | with_reducible exact keep_upd rfl rfl rfl
    | with_reducible dsimp only

theorem keep_captureAbandon (b : Block) : keep (captureAbandon b) = keep b := by
  unfold captureAbandon
  repeat' first
    | with_reducible rfl
    | with_reducible refine (keep_freezeEnd ..).trans ?_
    | with_reducible refine (keep_modPtn ..).trans ?_
    | with_reducible exact keep_upd rfl rfl rfl

theorem keep_seedCaptureComplete (b : Block) : keep (seedCaptureComplete b) = keep b := by
  unfold seedCaptureComplete
  repeat' first
    | with_reducible rfl
    | with_reducible refine keep_ite ?_ ?_
    | with_reducible refine (keep_captureAbandon ..).trans ?_
    | with_reducible refine (keep_freezeEnd ..).trans ?_
    | with_reducible refine (keep_instanceEnd ..).trans ?_
    | with_reducible refine (keep_modPtn ..).trans ?_
    | with_reducible refine (keep_perf ..).trans ?_
    | with_reducible refine (keep_sendMsg ..).trans ?_
    | with_reducible split
    | with_reducible exact keep_upd rfl rfl rfl
    | with_reducible dsimp only

theorem keep_freezeTimeout (b : Block) : keep (freezeTimeout b) = keep b := by
  unfold freezeTimeout
  repeat' first
    | with_reducible rfl
    | with_reducible refine keep_ite ?_ ?_
    | with_reducible refine (keep_captureAbandon ..).trans ?_
    | with_reducible refine (keep_faultPlain ..).trans ?_
    | with_reducible refine (keep_fire ..).trans ?_
    | with_reducible refine (keep_freezeEnd ..).trans ?_
    | with_reducible refine (keep_modPtn ..).trans ?_
    | with_reducible split
    | with_reducible exact keep_upd rfl rfl rfl
    | with_reducible dsimp only

theorem keep_seedCommitComplete (ok : Bool) (b : Block) : keep (seedCommitComplete ok b) = keep b := by
  unfold seedCommitComplete
  repeat' first
    | with_reducible rfl
    | with_reducible refine keep_ite ?_ ?_
    | with_reducible refine (keep_commitFinish ..).trans ?_
    | with_reducible refine (keep_fire ..).trans ?_
    | with_reducible refine (keep_modPtn ..).trans ?_
    | with_reducible split
    | with_reducible exact keep_upd rfl rfl rfl
    | with_reducible dsimp only

/-! BankIn. -/

theorem keep_bankTargets (old b : Block) : keep (bankTargets old b) = keep b := by
  unfold bankTargets
  repeat' first
    | with_reducible rfl
    | with_reducible refine keep_ite ?_ ?_
    | with_reducible refine (keep_initTargets ..).trans ?_
    | with_reducible refine (keep_modTarget ..).trans ?_
    | with_reducible (refine (keep_foldl (fun _ _ => ?_) ..).trans ?_)
    | with_reducible split
    | with_reducible exact keep_upd rfl rfl rfl

theorem keep_dropWaiting (b : Block) : keep (dropWaiting b) = keep b := by
  unfold dropWaiting
  repeat' first
    | with_reducible rfl
    | with_reducible refine keep_ite_fst ?_ ?_
    | with_reducible refine keep_ite_snd ?_ ?_
    | with_reducible refine keep_ite ?_ ?_
    | with_reducible refine (keep_completeWith ..).trans ?_
    | with_reducible refine (keep_modChan ..).trans ?_
    | with_reducible refine (keep_modDp ..).trans ?_
    | with_reducible (refine (keep_foldl_snd (fun _ _ => ?_) ..).trans ?_)
    | with_reducible (refine (keep_foldl_fst (fun _ _ => ?_) ..).trans ?_)
    | with_reducible (refine (keep_foldl (fun _ _ => ?_) ..).trans ?_)
    | with_reducible split
    | with_reducible exact keep_upd rfl rfl rfl
    | with_reducible dsimp only

theorem keep_refitRings (b : Block) : keep (refitRings b) = keep b := by
  unfold refitRings
  repeat' first
    | with_reducible rfl
    | with_reducible refine keep_ite ?_ ?_
    | with_reducible refine (keep_ringError ..).trans ?_
    | with_reducible (refine (keep_foldl (fun _ _ => ?_) ..).trans ?_)
    | with_reducible split
    | with_reducible exact keep_upd rfl rfl rfl

theorem keep_bankChange (old b : Block) : keep (bankChange old b) = keep b := by
  unfold bankChange
  repeat' first
    | with_reducible rfl
    | with_reducible refine keep_ite ?_ ?_
    | with_reducible refine (keep_bankTargets ..).trans ?_
    | with_reducible refine (keep_canBank ..).trans ?_
    | with_reducible refine (keep_chnSwitch ..).trans ?_
    | with_reducible refine (keep_dpBank ..).trans ?_
    | with_reducible refine (keep_dropWaiting ..).trans ?_
    | with_reducible refine (keep_ethBank ..).trans ?_
    | with_reducible refine (keep_lpeBank ..).trans ?_
    | with_reducible refine (keep_marginRefresh ..).trans ?_
    | with_reducible refine (keep_modGrowth ..).trans ?_
    | with_reducible refine (keep_modPrf ..).trans ?_
    | with_reducible refine (keep_modRec ..).trans ?_
    | with_reducible refine (keep_modTim ..).trans ?_
    | with_reducible refine (keep_partnerBank ..).trans ?_
    | with_reducible refine (keep_ppsGate ..).trans ?_
    | with_reducible refine (keep_refitOrders ..).trans ?_
    | with_reducible refine (keep_refitRings ..).trans ?_
    | with_reducible refine (keep_safBank ..).trans ?_
    | with_reducible refine (keep_serBank ..).trans ?_
    | with_reducible refine (keep_timBankFirst ..).trans ?_
    | with_reducible refine (keep_uslBank ..).trans ?_
    | with_reducible split
    | with_reducible exact keep_upd rfl rfl rfl
    | with_reducible dsimp only

theorem keep_withBankOut (f : Block → Block) (b : Block) : keep (withBankOut f b) = keep (f b) := by
  unfold withBankOut
  repeat' first
    | with_reducible rfl
    | with_reducible refine keep_ite ?_ ?_
    | with_reducible refine (keep_bankChange ..).trans ?_
    | dsimp only


theorem keep_rejectWord (r : Reject) (b : Block) : keep (rejectWord r b).2 = keep b := by
  unfold rejectWord
  repeat' first
    | with_reducible rfl
    | with_reducible refine keep_ite_fst ?_ ?_
    | with_reducible refine keep_ite_snd ?_ ?_
    | with_reducible refine (keep_takeFree ..).trans ?_
    | with_reducible refine (keep_takeFree_eq (by assumption)).trans ?_
    | with_reducible split
    | with_reducible exact keep_upd rfl rfl rfl
    | with_reducible dsimp only

theorem keep_rejectWord_eq {r : Reject} {b : Block} {x : Sys2Proof.Word} {bo : Block} (h : rejectWord r b = (x, bo)) : keep bo = keep b := by
  have e := keep_rejectWord r b
  rw [h] at e
  exact e

theorem keep_rejectShadow (r : Reject) (b : Block) : keep (rejectShadow r b) = keep b := by
  unfold rejectShadow
  repeat' first
    | with_reducible rfl
    | with_reducible refine (keep_modGlb _ _ (fun _ => ?_)).trans ?_
    | with_reducible exact ⟨rfl, rfl, rfl, rfl⟩
    | with_reducible refine (keep_rejectWord ..).trans ?_
    | with_reducible refine (keep_rejectWord_eq (by assumption)).trans ?_
    | with_reducible split
    | with_reducible exact keep_upd rfl rfl rfl
    | with_reducible dsimp only

theorem keep_admitShadow (b : Block) : keep (admitShadow b) = keep b := by
  unfold admitShadow
  repeat' first
    | with_reducible rfl
    | with_reducible refine (keep_marginRefresh ..).trans ?_
    | with_reducible refine (keep_modGlb _ _ (fun _ => ?_)).trans ?_
    | with_reducible exact ⟨rfl, rfl, rfl, rfl⟩
    | with_reducible exact keep_upd rfl rfl rfl

theorem keep_emptyShadow (b : Block) : keep (emptyShadow b) = keep b := by
  unfold emptyShadow
  repeat' first
    | with_reducible rfl
    | with_reducible refine (keep_modGlb _ _ (fun _ => ?_)).trans ?_
    | with_reducible exact ⟨rfl, rfl, rfl, rfl⟩
    | with_reducible exact keep_upd rfl rfl rfl

theorem keep_checkShadow (b : Block) : keep (checkShadow b) = keep b := by
  unfold checkShadow
  repeat' first
    | with_reducible rfl
    | with_reducible refine keep_ite ?_ ?_
    | with_reducible refine (keep_admitShadow ..).trans ?_
    | with_reducible refine (keep_emptyShadow ..).trans ?_
    | with_reducible refine (keep_rejectShadow ..).trans ?_
    | with_reducible split
    | with_reducible exact keep_upd rfl rfl rfl
    | with_reducible dsimp only

/-! Load. -/

theorem keep_setCmdErr (b : Block) : keep (setCmdErr b) = keep b := by
  unfold setCmdErr
  repeat' first
    | with_reducible rfl
    | with_reducible refine (keep_markBit ..).trans ?_
    | with_reducible refine (keep_modGlb _ _ (fun _ => ?_)).trans ?_
    | with_reducible exact ⟨rfl, rfl, rfl, rfl⟩
    | with_reducible exact keep_upd rfl rfl rfl

theorem keep_imageReads (upTo : Nat) (b : Block) : keep (imageReads upTo b) = keep b := by
  unfold imageReads
  repeat' first
    | with_reducible rfl
    | with_reducible refine (keep_modGlb _ _ (fun _ => ?_)).trans ?_
    | with_reducible exact ⟨rfl, rfl, rfl, rfl⟩
    | with_reducible refine (keep_readsFrom ..).trans ?_
    | with_reducible exact keep_upd rfl rfl rfl
    | with_reducible dsimp only

theorem keep_growthStepUp (r : Reject) (b : Block) : keep (growthStepUp r b) = keep b := by
  unfold growthStepUp
  repeat' first
    | with_reducible rfl
    | with_reducible refine keep_ite ?_ ?_
    | with_reducible refine (keep_modGlb _ _ (fun _ => ?_)).trans ?_
    | with_reducible exact ⟨rfl, rfl, rfl, rfl⟩
    | with_reducible refine (keep_rejectShadow ..).trans ?_
    | with_reducible refine (keep_trimRequest ..).trans ?_
    | with_reducible split
    | with_reducible exact keep_upd rfl rfl rfl
    | with_reducible dsimp only

theorem keep_growthCheck (b : Block) : keep (growthCheck b) = keep b := by
  unfold growthCheck
  repeat' first
    | with_reducible rfl
    | with_reducible refine (keep_admitShadow ..).trans ?_
    | with_reducible refine (keep_growthStepUp ..).trans ?_
    | with_reducible split
    | with_reducible exact keep_upd rfl rfl rfl

theorem keep_admissionComplete (b : Block) : keep (admissionComplete b) = keep b := by
  unfold admissionComplete
  repeat' first
    | with_reducible rfl
    | with_reducible refine keep_ite ?_ ?_
    | with_reducible refine (keep_emptyShadow ..).trans ?_
    | with_reducible refine (keep_growthCheck ..).trans ?_
    | with_reducible refine (keep_rejectShadow ..).trans ?_
    | with_reducible split
    | with_reducible exact keep_upd rfl rfl rfl
    | with_reducible dsimp only

theorem keep_growthRetry (b : Block) : keep (growthRetry b) = keep b := by
  unfold growthRetry
  repeat' first
    | with_reducible rfl
    | with_reducible refine keep_ite ?_ ?_
    | with_reducible refine (keep_growthCheck ..).trans ?_
    | with_reducible split
    | with_reducible exact keep_upd rfl rfl rfl

theorem keep_switchAction (b : Block) : keep (switchAction b) = keep b := by
  unfold switchAction
  repeat' first
    | with_reducible rfl
    | with_reducible refine keep_ite ?_ ?_
    | with_reducible refine (keep_modGlb _ _ (fun _ => ?_)).trans ?_
    | with_reducible exact ⟨rfl, rfl, rfl, rfl⟩
    | with_reducible refine (keep_setCmdErr ..).trans ?_
    | with_reducible split
    | with_reducible exact keep_upd rfl rfl rfl
    | with_reducible dsimp only

theorem keep_abortAction (b : Block) : keep (abortAction b) = keep b := by
  unfold abortAction
  repeat' first
    | with_reducible rfl
    | with_reducible refine keep_ite ?_ ?_
    | with_reducible refine (keep_cancelSwitch ..).trans ?_
    | with_reducible refine (keep_setCmdErr ..).trans ?_
    | with_reducible split
    | with_reducible exact keep_upd rfl rfl rfl

theorem keep_keyAsserted (b : Block) : keep (keyAsserted b) = keep b := by
  unfold keyAsserted
  repeat' first
    | with_reducible rfl
    | with_reducible refine (keep_modGlb _ _ (fun _ => ?_)).trans ?_
    | with_reducible exact ⟨rfl, rfl, rfl, rfl⟩
    | with_reducible exact keep_upd rfl rfl rfl

theorem keep_keyReleased (b : Block) : keep (keyReleased b) = keep b := by
  unfold keyReleased
  repeat' first
    | with_reducible rfl
    | with_reducible refine (keep_modGlb _ _ (fun _ => ?_)).trans ?_
    | with_reducible exact ⟨rfl, rfl, rfl, rfl⟩
    | with_reducible refine (keep_secKeyReleased ..).trans ?_
    | with_reducible exact keep_upd rfl rfl rfl

/-! Scan. -/

theorem keep_uslFrame (c : Nat) (b : Block) : keep (uslFrame c b).2 = keep b := by
  have hk : keep (if b.tim.vtValid = true then (w32 (clkSec b.tim.vt), w32 (clkNs b.tim.vt), b)
      else ((takeFree b).1, (takeFree (takeFree b).2).1, (takeFree (takeFree b).2).2)).2.2 = keep b := by
    split
    · rfl
    · exact (keep_takeFree ..).trans (keep_takeFree ..)
  unfold uslFrame
  exact hk

theorem keep_uslFrame_eq {c : Nat} {b : Block} {x : List Byte} {bo : Block} (h : uslFrame c b = (x, bo)) : keep bo = keep b := by
  have e := keep_uslFrame c b
  rw [h] at e
  exact e


theorem keep_uslSend (c : Nat) (b : Block) : keep (uslSend c b) = keep b := by
  unfold uslSend
  repeat' first
    | with_reducible rfl
    | with_reducible refine keep_ite ?_ ?_
    | with_reducible refine (keep_canSendUsl ..).trans ?_
    | with_reducible refine (keep_emit ..).trans ?_
    | with_reducible refine (keep_modConn ..).trans ?_
    | with_reducible refine (keep_modNet ..).trans ?_
    | with_reducible refine (keep_sendMsg ..).trans ?_
    | with_reducible refine (keep_uslFrame ..).trans ?_
    | with_reducible refine (keep_uslFrame_eq (by assumption)).trans ?_
    | with_reducible (refine (keep_foldl (fun _ _ => ?_) ..).trans ?_)
    | with_reducible split
    | with_reducible exact keep_upd rfl rfl rfl
    | with_reducible dsimp only

theorem keep_uslPeriodicSend (c : Nat) (b : Block) : keep (uslPeriodicSend c b) = keep b := by
  unfold uslPeriodicSend
  repeat' first
    | with_reducible rfl
    | with_reducible refine keep_ite ?_ ?_
    | with_reducible refine (keep_modConn ..).trans ?_
    | with_reducible refine (keep_uslSend ..).trans ?_
    | with_reducible split
    | with_reducible exact keep_upd rfl rfl rfl
    | with_reducible dsimp only

theorem keep_uslEvent (c : Nat) (b : Block) : keep (uslEvent c b) = keep b := by
  unfold uslEvent
  repeat' first
    | with_reducible rfl
    | with_reducible refine keep_ite ?_ ?_
    | with_reducible refine (keep_modConn ..).trans ?_
    | with_reducible refine (keep_uslSend ..).trans ?_
    | with_reducible split
    | with_reducible exact keep_upd rfl rfl rfl

theorem keep_uslHoldoffEnd (c : Nat) (b : Block) : keep (uslHoldoffEnd c b) = keep b := by
  unfold uslHoldoffEnd
  repeat' first
    | with_reducible rfl
    | with_reducible refine keep_ite ?_ ?_
    | with_reducible refine (keep_modConn ..).trans ?_
    | with_reducible refine (keep_uslSend ..).trans ?_
    | with_reducible split
    | with_reducible exact keep_upd rfl rfl rfl
    | with_reducible dsimp only

theorem keep_uslAfterScan (resets : List Nat) (b : Block) : keep (uslAfterScan resets b) = keep b := by
  unfold uslAfterScan
  repeat' first
    | with_reducible rfl
    | with_reducible refine keep_ite ?_ ?_
    | with_reducible refine (keep_modConn ..).trans ?_
    | with_reducible refine (keep_modSaf ..).trans ?_
    | with_reducible refine (keep_uslEvent ..).trans ?_
    | with_reducible (refine (keep_foldl (fun _ _ => ?_) ..).trans ?_)
    | with_reducible split
    | with_reducible exact keep_upd rfl rfl rfl
    | with_reducible dsimp only

theorem keep_forceStops (b : Block) : keep (forceStops b) = keep b := by
  unfold forceStops
  repeat' first
    | with_reducible rfl
    | with_reducible refine keep_ite ?_ ?_
    | with_reducible refine (keep_ethFlush ..).trans ?_
    | with_reducible refine (keep_modEth ..).trans ?_
    | with_reducible refine (keep_serDropTx ..).trans ?_
    | with_reducible (refine (keep_foldl (fun _ _ => ?_) ..).trans ?_)
    | with_reducible split
    | with_reducible exact keep_upd rfl rfl rfl
    | with_reducible dsimp only

theorem keep_rotaStep (b : Block) : keep (rotaStep b) = keep b := by
  unfold rotaStep
  repeat' first
    | with_reducible rfl
    | with_reducible refine keep_ite ?_ ?_
    | with_reducible refine (keep_modFlt ..).trans ?_
    | with_reducible split
    | with_reducible exact keep_upd rfl rfl rfl
    | with_reducible dsimp only

theorem keep_scanRun (dur : Nat) (late : Bool) (b : Block) : keep (scanRun dur late b) = keep b := by
  unfold scanRun
  repeat' first
    | with_reducible rfl
    | with_reducible refine (keep_checkedWrite _ _ _ _ (fun _ => ?_)).trans ?_
    | with_reducible refine (keep_uslAfterScan ..).trans ?_
    | with_reducible refine (keep_scanBody ..).trans ?_
    | with_reducible refine keep_ite_fst ?_ ?_
    | with_reducible refine keep_ite_snd ?_ ?_
    | with_reducible refine (keep_canSweep ..).trans ?_
    | with_reducible refine (keep_forceStops ..).trans ?_
    | with_reducible refine (keep_handoverTrip ..).trans ?_
    | with_reducible refine (keep_instanceEnd ..).trans ?_
    | with_reducible refine (keep_instanceStart ..).trans ?_
    | with_reducible refine (keep_modSaf ..).trans ?_
    | with_reducible refine (keep_perf ..).trans ?_
    | with_reducible refine (keep_rotaStep ..).trans ?_
    | with_reducible refine (keep_scanBody ..).trans ?_
    | with_reducible refine (keep_scanBody_eq (by assumption)).trans ?_
    | with_reducible refine (keep_uslAfterScan ..).trans ?_
    | with_reducible (refine (keep_foldl_snd (fun _ _ => ?_) ..).trans ?_)
    | with_reducible (refine (keep_foldl_fst (fun _ _ => ?_) ..).trans ?_)
    | with_reducible (refine (keep_foldl (fun _ _ => ?_) ..).trans ?_)
    | with_reducible exact keep_upd rfl rfl rfl
    | with_reducible dsimp only

theorem keep_scanOverrun (b : Block) : keep (scanOverrun b) = keep b := by
  unfold scanOverrun
  repeat' first
    | with_reducible rfl
    | with_reducible refine (keep_fire ..).trans ?_
    | with_reducible refine (keep_modSaf ..).trans ?_
    | with_reducible refine (keep_overrun ..).trans ?_
    | with_reducible refine (keep_tripAll ..).trans ?_
    | with_reducible exact keep_upd rfl rfl rfl
    | with_reducible dsimp only

theorem keep_safetyScan (samples : List SafSample) (dur : Nat) (b : Block) : keep (safetyScan samples dur b) = keep b := by
  unfold safetyScan
  repeat' first
    | with_reducible rfl
    | with_reducible refine keep_ite ?_ ?_
    | with_reducible refine (keep_handoverTrip ..).trans ?_
    | with_reducible refine (keep_modSaf ..).trans ?_
    | with_reducible refine (keep_scanOverrun ..).trans ?_
    | with_reducible refine (keep_scanRun ..).trans ?_
    | with_reducible split
    | with_reducible exact keep_upd rfl rfl rfl
    | with_reducible dsimp only

/-! TimeTrig. -/

theorem keep_imageInstant (i : Nat) (b : Block) : keep (imageInstant i b) = keep b := by
  unfold imageInstant
  repeat' first
    | with_reducible rfl
    | with_reducible refine keep_ite ?_ ?_
    | with_reducible refine (keep_modChn ..).trans ?_
    | with_reducible refine (keep_modImage ..).trans ?_
    | with_reducible refine (keep_overrun ..).trans ?_
    | with_reducible split
    | with_reducible exact keep_upd rfl rfl rfl
    | with_reducible dsimp only

theorem keep_monInstant (m : Nat) (b : Block) : keep (monInstant m b) = keep b := by
  unfold monInstant
  repeat' first
    | with_reducible rfl
    | with_reducible refine keep_ite ?_ ?_
    | with_reducible refine (keep_monTake ..).trans ?_
    | with_reducible split
    | with_reducible exact keep_upd rfl rfl rfl
    | with_reducible dsimp only

theorem keep_timeSnapshots (n : Nat) (b : Block) : keep (timeSnapshots n b) = keep b := by
  unfold timeSnapshots
  repeat' first
    | with_reducible rfl
    | with_reducible refine keep_ite ?_ ?_
    | with_reducible refine (keep_fireTriggerOf ..).trans ?_
    | with_reducible (refine (keep_foldl (fun _ _ => ?_) ..).trans ?_)
    | with_reducible split
    | with_reducible exact keep_upd rfl rfl rfl

theorem keep_timeTrigger (n : Nat) (b : Block) : keep (timeTrigger n b) = keep b := by
  unfold timeTrigger
  repeat' first
    | with_reducible rfl
    | with_reducible refine keep_ite ?_ ?_
    | with_reducible refine (keep_canInstant ..).trans ?_
    | with_reducible refine (keep_canSweep ..).trans ?_
    | with_reducible refine (keep_imageInstant ..).trans ?_
    | with_reducible refine (keep_lpeInstants ..).trans ?_
    | with_reducible refine (keep_modTim ..).trans ?_
    | with_reducible refine (keep_monInstant ..).trans ?_
    | with_reducible refine (keep_resolveTarget ..).trans ?_
    | with_reducible refine (keep_sampleInstant ..).trans ?_
    | with_reducible refine (keep_tdInstant ..).trans ?_
    | with_reducible refine (keep_timeSnapshots ..).trans ?_
    | with_reducible (refine (keep_foldl (fun _ _ => ?_) ..).trans ?_)
    | with_reducible split
    | with_reducible exact keep_upd rfl rfl rfl
    | with_reducible dsimp only

theorem keep_pushImage (n : Nat) (img : TlmImage) (b : Block) : keep (pushImage n img b) = keep b := by
  unfold pushImage
  repeat' first
    | with_reducible rfl
    | with_reducible refine keep_ite ?_ ?_
    | with_reducible refine (keep_modRing ..).trans ?_
    | with_reducible split
    | with_reducible exact keep_upd rfl rfl rfl
    | with_reducible dsimp only

theorem keep_imageDone (i : Nat) (b : Block) : keep (imageDone i b) = keep b := by
  unfold imageDone
  repeat' first
    | with_reducible rfl
    | with_reducible refine keep_ite ?_ ?_
    | with_reducible refine (keep_instanceEnd ..).trans ?_
    | with_reducible refine (keep_modImage ..).trans ?_
    | with_reducible refine (keep_pushImage ..).trans ?_
    | with_reducible (refine (keep_foldl (fun _ _ => ?_) ..).trans ?_)
    | with_reducible split
    | with_reducible exact keep_upd rfl rfl rfl
    | with_reducible dsimp only

theorem keep_imageTick (b : Block) : keep (imageTick b) = keep b := by
  unfold imageTick
  repeat' first
    | with_reducible rfl
    | with_reducible refine keep_ite_fst ?_ ?_
    | with_reducible refine keep_ite_snd ?_ ?_
    | with_reducible refine keep_ite ?_ ?_
    | with_reducible refine (keep_imageDone ..).trans ?_
    | with_reducible (refine (keep_foldl_snd (fun _ _ => ?_) ..).trans ?_)
    | with_reducible (refine (keep_foldl_fst (fun _ _ => ?_) ..).trans ?_)
    | with_reducible (refine (keep_foldl (fun _ _ => ?_) ..).trans ?_)
    | with_reducible split
    | with_reducible exact keep_upd rfl rfl rfl

theorem keep_imageAssembly (i dur : Nat) (b : Block) : keep (imageAssembly i dur b) = keep b := by
  unfold imageAssembly
  repeat' first
    | with_reducible rfl
    | with_reducible refine keep_ite ?_ ?_
    | with_reducible refine (keep_imageDone ..).trans ?_
    | with_reducible refine (keep_instanceStart ..).trans ?_
    | with_reducible refine (keep_modChn ..).trans ?_
    | with_reducible refine (keep_modImage ..).trans ?_
    | with_reducible refine (keep_overrun ..).trans ?_
    | with_reducible split
    | with_reducible exact keep_upd rfl rfl rfl
    | with_reducible dsimp only

/-! Startup. -/

theorem keep_isolateUnlessFenced (source : Nat) (l : Sys2Proof.Word) (b : Block) : keep (isolateUnlessFenced source l b) = keep b := by
  unfold isolateUnlessFenced
  repeat' first
    | with_reducible rfl
    | with_reducible refine keep_ite ?_ ?_
    | with_reducible refine (keep_isolate ..).trans ?_
    | with_reducible split
    | with_reducible exact keep_upd rfl rfl rfl

theorem keep_readyReached (b : Block) : keep (readyReached b) = keep b := by
  unfold readyReached
  repeat' first
    | with_reducible rfl
    | with_reducible refine keep_ite ?_ ?_
    | with_reducible refine (keep_ethReady ..).trans ?_
    | with_reducible refine (keep_fire ..).trans ?_
    | with_reducible refine (keep_fireIf ..).trans ?_
    | with_reducible refine (keep_modGlb _ _ (fun _ => ?_)).trans ?_
    | with_reducible exact ⟨rfl, rfl, rfl, rfl⟩
    | with_reducible refine (keep_modPtn ..).trans ?_
    | with_reducible refine (keep_ptnReconsider ..).trans ?_
    | with_reducible refine (keep_startSnapshot ..).trans ?_
    | with_reducible refine (keep_updatePower ..).trans ?_
    | with_reducible split
    | with_reducible exact keep_upd rfl rfl rfl
    | with_reducible dsimp only

/-! Fetch. -/

theorem keep_askBuffer (n addr len : Nat) (d : Desc) (b : Block) : keep (askBuffer n addr len d b) = keep b := by
  unfold askBuffer
  repeat' first
    | with_reducible rfl
    | with_reducible refine (keep_modDesc ..).trans ?_
    | with_reducible refine (keep_readsFrom ..).trans ?_
    | with_reducible exact keep_upd rfl rfl rfl
    | with_reducible dsimp only

theorem keep_takeCmd (n : Nat) (d : Desc) (b : Block) : keep (takeCmd n d b) = keep b := by
  unfold takeCmd
  repeat' first
    | with_reducible rfl
    | with_reducible refine keep_ite ?_ ?_
    | with_reducible refine (keep_askBuffer ..).trans ?_
    | with_reducible refine (keep_modDesc ..).trans ?_
    | with_reducible refine (keep_refuse ..).trans ?_
    | with_reducible split
    | with_reducible exact keep_upd rfl rfl rfl
    | with_reducible dsimp only

theorem keep_takeMtx (n : Nat) (d : Desc) (b : Block) : keep (takeMtx n d b) = keep b := by
  unfold takeMtx
  repeat' first
    | with_reducible rfl
    | with_reducible refine keep_ite ?_ ?_
    | with_reducible refine (keep_askBuffer ..).trans ?_
    | with_reducible refine (keep_completeWith ..).trans ?_
    | with_reducible refine (keep_modDesc ..).trans ?_
    | with_reducible refine (keep_modRing ..).trans ?_
    | with_reducible split
    | with_reducible exact keep_upd rfl rfl rfl
    | with_reducible dsimp only

theorem keep_takeRrd (n : Nat) (d : Desc) (b : Block) : keep (takeRrd n d b) = keep b := by
  unfold takeRrd
  repeat' first
    | with_reducible rfl
    | with_reducible refine keep_ite ?_ ?_
    | with_reducible refine (keep_complete ..).trans ?_
    | with_reducible split
    | with_reducible exact keep_upd rfl rfl rfl
    | with_reducible dsimp only

theorem keep_orderMtx (n idx : Nat) (b : Block) : keep (orderMtx n idx b) = keep b := by
  unfold orderMtx
  repeat' first
    | with_reducible rfl
    | with_reducible refine (keep_modRng ..).trans ?_
    | with_reducible exact keep_upd rfl rfl rfl

theorem keep_takeDesc (n : Nat) (d : Desc) (b : Block) : keep (takeDesc n d b) = keep b := by
  unfold takeDesc
  repeat' first
    | with_reducible rfl
    | with_reducible refine keep_ite ?_ ?_
    | with_reducible refine (keep_modRing ..).trans ?_
    | with_reducible refine (keep_orderMtx ..).trans ?_
    | with_reducible refine (keep_takeCmd ..).trans ?_
    | with_reducible refine (keep_takeMtx ..).trans ?_
    | with_reducible refine (keep_takeRrd ..).trans ?_
    | with_reducible split
    | with_reducible exact keep_upd rfl rfl rfl
    | with_reducible dsimp only

theorem keep_takeDescs (n k : Nat) (ws : List Word) (b : Block) : keep (takeDescs n k ws b) = keep b := by
  induction k generalizing ws b with
  | zero => rfl
  | succ k ih =>
    unfold takeDescs
    repeat' first
      | with_reducible rfl
      | with_reducible refine keep_ite ?_ ?_
      | with_reducible refine (ih ..).trans ?_
      | with_reducible refine (keep_takeDesc ..).trans ?_
      | with_reducible refine (keep_modRing ..).trans ?_
      | with_reducible refine (keep_ringStop ..).trans ?_
      | split
      | dsimp only


theorem keep_descriptorFetch (n : Nat) (data : Option (List Sys2Proof.Word)) (b : Block) : keep (descriptorFetch n data b) = keep b := by
  unfold descriptorFetch
  repeat' first
    | with_reducible rfl
    | with_reducible refine keep_ite ?_ ?_
    | with_reducible refine (keep_modRing ..).trans ?_
    | with_reducible refine (keep_ringStop ..).trans ?_
    | with_reducible refine (keep_takeDescs ..).trans ?_
    | with_reducible split
    | with_reducible exact keep_upd rfl rfl rfl
    | with_reducible dsimp only

theorem keep_bufferReadCompletion (n idx : Nat) (data : Option (List Sys2Proof.Byte)) (b : Block) : keep (bufferReadCompletion n idx data b) = keep b := by
  unfold bufferReadCompletion
  repeat' first
    | with_reducible rfl
    | with_reducible refine keep_ite ?_ ?_
    | with_reducible refine (keep_completeWith ..).trans ?_
    | with_reducible refine (keep_modDesc ..).trans ?_
    | with_reducible split
    | with_reducible exact keep_upd rfl rfl rfl
    | with_reducible dsimp only

theorem keep_completionTimeout (n : Nat) (idx : Option Nat) (b : Block) : keep (completionTimeout n idx b) = keep b := by
  unfold completionTimeout
  repeat' first
    | with_reducible rfl
    | with_reducible refine (keep_bufferReadCompletion ..).trans ?_
    | with_reducible refine (keep_descriptorFetch ..).trans ?_
    | with_reducible split
    | with_reducible exact keep_upd rfl rfl rfl
    | with_reducible dsimp only

/-! Hart. -/

theorem keep_hartSend (n : Nat) (t : HartTrans) (b : Block) : keep (hartSend n t b) = keep b := by
  unfold hartSend
  repeat' first
    | with_reducible rfl
    | with_reducible refine keep_ite ?_ ?_
    | with_reducible refine (keep_emit ..).trans ?_
    | with_reducible refine (keep_hartEnd ..).trans ?_
    | with_reducible refine (keep_modHart ..).trans ?_
    | with_reducible split
    | with_reducible exact keep_upd rfl rfl rfl
    | with_reducible dsimp only

theorem keep_hartNext (n : Nat) (b : Block) : keep (hartNext n b) = keep b := by
  unfold hartNext
  repeat' first
    | with_reducible rfl
    | with_reducible refine keep_ite ?_ ?_
    | with_reducible refine (keep_hartSend ..).trans ?_
    | with_reducible refine (keep_modHart ..).trans ?_
    | with_reducible split
    | with_reducible exact keep_upd rfl rfl rfl
    | with_reducible dsimp only

theorem keep_hartPoll (n : Nat) (b : Block) : keep (hartPoll n b) = keep b := by
  unfold hartPoll
  repeat' first
    | with_reducible rfl
    | with_reducible refine keep_ite ?_ ?_
    | with_reducible refine (keep_hartNext ..).trans ?_
    | with_reducible refine (keep_modHart ..).trans ?_
    | with_reducible split
    | with_reducible exact keep_upd rfl rfl rfl
    | with_reducible dsimp only

theorem keep_hartState (n v cause : Nat) (b : Block) : keep (hartState n v cause b) = keep b := by
  unfold hartState
  repeat' first
    | with_reducible rfl
    | with_reducible refine keep_ite ?_ ?_
    | with_reducible refine (keep_hartEvent ..).trans ?_
    | with_reducible refine (keep_modHart ..).trans ?_
    | with_reducible split
    | with_reducible exact keep_upd rfl rfl rfl
    | with_reducible dsimp only

theorem keep_hartDevStatus (n dev : Nat) (b : Block) : keep (hartDevStatus n dev b) = keep b := by
  unfold hartDevStatus
  repeat' first
    | with_reducible rfl
    | with_reducible refine keep_ite ?_ ?_
    | with_reducible refine (keep_hartEvent ..).trans ?_
    | with_reducible refine (keep_modHart ..).trans ?_
    | with_reducible split
    | with_reducible exact keep_upd rfl rfl rfl
    | with_reducible dsimp only

theorem keep_hartCompare (n : Nat) (b : Block) : keep (hartCompare n b) = keep b := by
  unfold hartCompare
  repeat' first
    | with_reducible rfl
    | with_reducible refine keep_ite ?_ ?_
    | with_reducible refine (keep_hartOut ..).trans ?_
    | with_reducible refine (keep_modHart ..).trans ?_
    | with_reducible split
    | with_reducible exact keep_upd rfl rfl rfl
    | with_reducible dsimp only

theorem keep_hartVars (n resp source : Nat) (data : List Sys2Proof.Byte) (b : Block) : keep (hartVars n resp source data b) = keep b := by
  unfold hartVars
  repeat' first
    | with_reducible rfl
    | with_reducible refine keep_ite ?_ ?_
    | with_reducible refine (keep_hartCompare ..).trans ?_
    | with_reducible refine (keep_modHart ..).trans ?_
    | with_reducible refine (keep_takeFree ..).trans ?_
    | with_reducible refine (keep_takeFree_eq (by assumption)).trans ?_
    | with_reducible split
    | with_reducible exact keep_upd rfl rfl rfl
    | with_reducible dsimp only

theorem keep_hartIdent (n : Nat) (data : List Sys2Proof.Byte) (b : Block) : keep (hartIdent n data b) = keep b := by
  unfold hartIdent
  repeat' first
    | with_reducible rfl
    | with_reducible refine keep_ite ?_ ?_
    | with_reducible refine (keep_hartEvent ..).trans ?_
    | with_reducible refine (keep_hartState ..).trans ?_
    | with_reducible refine (keep_modHart ..).trans ?_
    | with_reducible split
    | with_reducible exact keep_upd rfl rfl rfl
    | with_reducible dsimp only

theorem keep_hartFail (n : Nat) (t : HartTrans) (b : Block) : keep (hartFail n t b) = keep b := by
  unfold hartFail
  repeat' first
    | with_reducible rfl
    | with_reducible refine keep_ite ?_ ?_
    | with_reducible refine (keep_hartEnd ..).trans ?_
    | with_reducible refine (keep_hartState ..).trans ?_
    | with_reducible refine (keep_modHart ..).trans ?_
    | with_reducible split
    | with_reducible exact keep_upd rfl rfl rfl
    | with_reducible dsimp only

theorem keep_hartAttemptFailed (n : Nat) (t : HartTrans) (invalid : Bool) (b : Block) : keep (hartAttemptFailed n t invalid b) = keep b := by
  unfold hartAttemptFailed
  repeat' first
    | with_reducible rfl
    | with_reducible refine keep_ite ?_ ?_
    | with_reducible refine (keep_hartFail ..).trans ?_
    | with_reducible refine (keep_hartNext ..).trans ?_
    | with_reducible refine (keep_hartSend ..).trans ?_
    | with_reducible refine (keep_modHart ..).trans ?_
    | with_reducible split
    | with_reducible exact keep_upd rfl rfl rfl
    | with_reducible dsimp only

theorem keep_hartAddStatus (n : Nat) (data : List Sys2Proof.Byte) (b : Block) : keep (hartAddStatus n data b) = keep b := by
  unfold hartAddStatus
  repeat' first
    | with_reducible rfl
    | with_reducible refine (keep_modHart ..).trans ?_
    | with_reducible exact keep_upd rfl rfl rfl

theorem keep_hartOverheard (n : Nat) (t : HartTrans) (resp : Nat) (data : List Sys2Proof.Byte) (b : Block) : keep (hartOverheard n t resp data b) = keep b := by
  unfold hartOverheard
  repeat' first
    | with_reducible rfl
    | with_reducible refine keep_ite ?_ ?_
    | with_reducible refine (keep_hartAddStatus ..).trans ?_
    | with_reducible refine (keep_hartIdent ..).trans ?_
    | with_reducible refine (keep_hartVars ..).trans ?_
    | with_reducible split
    | with_reducible exact keep_upd rfl rfl rfl
    | with_reducible dsimp only

theorem keep_hartReply (n : Nat) (valid : Bool) (resp dev : Nat) (data : List Sys2Proof.Byte) (b : Block) : keep (hartReply n valid resp dev data b) = keep b := by
  unfold hartReply
  repeat' first
    | with_reducible rfl
    | with_reducible refine keep_ite ?_ ?_
    | with_reducible refine (keep_completeReply ..).trans ?_
    | with_reducible refine (keep_hartAddStatus ..).trans ?_
    | with_reducible refine (keep_hartAttemptFailed ..).trans ?_
    | with_reducible refine (keep_hartDevStatus ..).trans ?_
    | with_reducible refine (keep_hartIdent ..).trans ?_
    | with_reducible refine (keep_hartNext ..).trans ?_
    | with_reducible refine (keep_hartOverheard ..).trans ?_
    | with_reducible refine (keep_hartVars ..).trans ?_
    | with_reducible refine (keep_modHart ..).trans ?_
    | with_reducible split
    | with_reducible exact keep_upd rfl rfl rfl
    | with_reducible dsimp only

theorem keep_hartReplyTimeout (n : Nat) (b : Block) : keep (hartReplyTimeout n b) = keep b := by
  unfold hartReplyTimeout
  repeat' first
    | with_reducible rfl
    | with_reducible refine keep_ite ?_ ?_
    | with_reducible refine (keep_hartAttemptFailed ..).trans ?_
    | with_reducible split
    | with_reducible exact keep_upd rfl rfl rfl

theorem keep_hartBurstFrame (n cmd resp dev : Nat) (data : List Sys2Proof.Byte) (b : Block) : keep (hartBurstFrame n cmd resp dev data b) = keep b := by
  unfold hartBurstFrame
  repeat' first
    | with_reducible rfl
    | with_reducible refine keep_ite ?_ ?_
    | with_reducible refine (keep_hartDevStatus ..).trans ?_
    | with_reducible refine (keep_hartNext ..).trans ?_
    | with_reducible refine (keep_hartState ..).trans ?_
    | with_reducible refine (keep_hartVars ..).trans ?_
    | with_reducible refine (keep_modHart ..).trans ?_
    | with_reducible split
    | with_reducible exact keep_upd rfl rfl rfl
    | with_reducible dsimp only

theorem keep_hartBurstTimeout (n : Nat) (b : Block) : keep (hartBurstTimeout n b) = keep b := by
  unfold hartBurstTimeout
  repeat' first
    | with_reducible rfl
    | with_reducible refine keep_ite ?_ ?_
    | with_reducible refine (keep_hartState ..).trans ?_
    | with_reducible refine (keep_modHart ..).trans ?_
    | with_reducible split
    | with_reducible exact keep_upd rfl rfl rfl
    | with_reducible dsimp only

theorem keep_hartPassThrough (n ring idx : Nat) (request : List Sys2Proof.Byte) (b : Block) : keep (hartPassThrough n ring idx request b) = keep b := by
  unfold hartPassThrough
  repeat' first
    | with_reducible rfl
    | with_reducible refine keep_ite ?_ ?_
    | with_reducible refine (keep_completeReply ..).trans ?_
    | with_reducible refine (keep_hartNext ..).trans ?_
    | with_reducible refine (keep_modHart ..).trans ?_
    | with_reducible split
    | with_reducible exact keep_upd rfl rfl rfl
    | with_reducible dsimp only

/-! Commands. -/

theorem keep_startDesc (n idx : Nat) (b : Block) : keep (startDesc n idx b) = keep b := by
  unfold startDesc
  repeat' first
    | with_reducible rfl
    | with_reducible refine (keep_modDesc ..).trans ?_
    | with_reducible exact keep_upd rfl rfl rfl

theorem keep_cancelDesc (m i : Nat) (b : Block) : keep (cancelDesc m i b) = keep b := by
  unfold cancelDesc
  repeat' first
    | with_reducible rfl
    | with_reducible refine keep_ite ?_ ?_
    | with_reducible refine (keep_canCancel ..).trans ?_
    | with_reducible refine (keep_completeWith ..).trans ?_
    | with_reducible refine (keep_modRing ..).trans ?_
    | with_reducible split
    | with_reducible exact keep_upd rfl rfl rfl
    | with_reducible dsimp only

theorem keep_actOnce (k : CmdKind) (n idx i : Nat) (v : Sys2Proof.Word) (b : Block) : keep (actOnce k n idx i v b) = keep b := by
  unfold actOnce
  repeat' first
    | with_reducible rfl
    | with_reducible refine (keep_canLock_eq (by assumption)).trans ?_
    | with_reducible refine (keep_cancelDesc ..).trans ?_
    | with_reducible refine (keep_fireTriggerOf ..).trans ?_
    | with_reducible refine (keep_handoverAccept ..).trans ?_
    | with_reducible refine (keep_modChan ..).trans ?_
    | with_reducible refine (keep_modDp ..).trans ?_
    | with_reducible refine (keep_refreshAsked ..).trans ?_
    | with_reducible refine (keep_refuse ..).trans ?_
    | with_reducible refine (keep_startDesc ..).trans ?_
    | with_reducible refine (keep_tuneWrite_eq (by assumption)).trans ?_
    | with_reducible split
    | with_reducible exact keep_upd rfl rfl rfl

theorem keep_actBuffered (k : CmdKind) (n i : Nat) (d : Desc) (bytes : List Sys2Proof.Byte) (b : Block) : keep (actBuffered k n i d bytes b) = keep b := by
  unfold actBuffered
  repeat' first
    | with_reducible rfl
    | with_reducible refine keep_ite ?_ ?_
    | with_reducible refine (keep_canData ..).trans ?_
    | with_reducible refine (keep_canData_eq (by assumption)).trans ?_
    | with_reducible refine (keep_completeReply ..).trans ?_
    | with_reducible refine (keep_hartPassThrough ..).trans ?_
    | with_reducible refine (keep_refuse ..).trans ?_
    | with_reducible refine (keep_startDesc ..).trans ?_
    | with_reducible refine (keep_tuneStart_eq (by assumption)).trans ?_
    | with_reducible split
    | with_reducible exact keep_upd rfl rfl rfl
    | with_reducible dsimp only

theorem keep_cmdAct (k : CmdKind) (n : Nat) (d : Desc) (b : Block) : keep (cmdAct k n d b) = keep b := by
  unfold cmdAct
  repeat' first
    | with_reducible rfl
    | with_reducible refine keep_ite ?_ ?_
    | with_reducible refine (keep_actBuffered ..).trans ?_
    | with_reducible refine (keep_actOnce ..).trans ?_
    | with_reducible refine (keep_completeWith ..).trans ?_
    | with_reducible refine (keep_placeOrder ..).trans ?_
    | with_reducible refine (keep_refuse ..).trans ?_
    | with_reducible refine (keep_releaseOrder ..).trans ?_
    | with_reducible split
    | with_reducible exact keep_upd rfl rfl rfl
    | with_reducible dsimp only

theorem keep_runCmd (k : CmdKind) (n : Nat) (b : Block) : keep (runCmd k n b) = keep b := by
  unfold runCmd
  repeat' first
    | with_reducible rfl
    | with_reducible refine keep_ite ?_ ?_
    | with_reducible refine (keep_cmdAct ..).trans ?_
    | with_reducible refine (keep_refuse ..).trans ?_
    | with_reducible split
    | with_reducible exact keep_upd rfl rfl rfl

/-! RegWrite. -/

theorem keep_modIdle (n : Nat) (f : Ring → Ring) (b : Block) : keep (modIdle n f b) = keep b := by
  unfold modIdle
  repeat' first
    | with_reducible rfl
    | with_reducible refine keep_ite ?_ ?_
    | with_reducible refine (keep_modRing ..).trans ?_
    | with_reducible split
    | with_reducible exact keep_upd rfl rfl rfl

theorem keep_write64 (src off : Nat) (lo hi : Sys2Proof.Word) (b : Block) : keep (write64 src off lo hi b) = keep b := by
  unfold write64
  repeat' first
    | with_reducible rfl
    | with_reducible refine keep_ite ?_ ?_
    | with_reducible refine (keep_forceWrite ..).trans ?_
    | with_reducible refine (keep_modGlb _ _ (fun _ => ?_)).trans ?_
    | with_reducible exact ⟨rfl, rfl, rfl, rfl⟩
    | with_reducible refine (keep_modIdle ..).trans ?_
    | with_reducible refine (keep_timIncWrite ..).trans ?_
    | with_reducible refine (keep_timStepWrite ..).trans ?_
    | with_reducible refine (keep_timVtSetWrite ..).trans ?_
    | with_reducible split
    | with_reducible exact keep_upd rfl rfl rfl
    | with_reducible dsimp only

theorem keep_writeGlb (src r : Nat) (v : Word) (b : Block) (h : r ≠ 0x4C) : keep (writeGlb src r v b) = keep b := by
  unfold writeGlb
  split
  case h_2 => exact absurd rfl h
  all_goals repeat' first
    | with_reducible rfl
    | with_reducible refine keep_ite ?_ ?_
    | with_reducible refine (keep_modGlb _ _ (fun _ => ?_)).trans ?_
    | exact ⟨rfl, rfl, rfl, rfl⟩


theorem keep_writeRng (r : Nat) (v : Sys2Proof.Word) (b : Block) : keep (writeRng r v b) = keep b := by
  unfold writeRng
  repeat' first
    | with_reducible rfl
    | with_reducible refine keep_ite ?_ ?_
    | with_reducible refine (keep_canDrain ..).trans ?_
    | with_reducible refine (keep_modIdle ..).trans ?_
    | with_reducible refine (keep_modRng ..).trans ?_
    | with_reducible refine (keep_ringCfgWrite ..).trans ?_
    | with_reducible refine (keep_ringCtrlWrite ..).trans ?_
    | with_reducible refine (keep_ringDoorbell ..).trans ?_
    | with_reducible split
    | with_reducible exact keep_upd rfl rfl rfl
    | with_reducible dsimp only

theorem keep_writeTim (src r : Nat) (v : Sys2Proof.Word) (b : Block) : keep (writeTim src r v b) = keep b := by
  unfold writeTim
  repeat' first
    | with_reducible rfl
    | with_reducible refine (keep_modTim ..).trans ?_
    | with_reducible refine (keep_timCtrlWrite ..).trans ?_
    | with_reducible refine (keep_timVtSetWrite ..).trans ?_
    | with_reducible split
    | with_reducible exact keep_upd rfl rfl rfl

theorem keep_writeChn (r : Nat) (v : Sys2Proof.Word) (b : Block) : keep (writeChn r v b) = keep b := by
  unfold writeChn
  repeat' first
    | with_reducible rfl
    | with_reducible refine keep_ite ?_ ?_
    | with_reducible refine (keep_chnClrLinkerr ..).trans ?_
    | with_reducible refine (keep_chnRetest ..).trans ?_
    | with_reducible refine (keep_modChan ..).trans ?_
    | with_reducible refine (keep_modGroup ..).trans ?_
    | with_reducible split
    | with_reducible exact keep_upd rfl rfl rfl
    | with_reducible dsimp only

theorem keep_writeCan (r : Nat) (v : Sys2Proof.Word) (b : Block) : keep (writeCan r v b) = keep b := by
  unfold writeCan
  repeat' first
    | with_reducible rfl
    | with_reducible refine keep_ite ?_ ?_
    | with_reducible refine (keep_canClrCounts ..).trans ?_
    | with_reducible refine (keep_canRecover ..).trans ?_
    | with_reducible refine (keep_modCtl ..).trans ?_
    | with_reducible split
    | with_reducible exact keep_upd rfl rfl rfl
    | with_reducible dsimp only

theorem keep_writeEth (r : Nat) (v : Sys2Proof.Word) (b : Block) : keep (writeEth r v b) = keep b := by
  unfold writeEth
  repeat' first
    | with_reducible rfl
    | with_reducible refine keep_ite ?_ ?_
    | with_reducible refine (keep_ethClrCounts ..).trans ?_
    | with_reducible refine (keep_modNet ..).trans ?_
    | with_reducible split
    | with_reducible exact keep_upd rfl rfl rfl
    | with_reducible dsimp only

theorem keep_writeSer (r : Nat) (v : Sys2Proof.Word) (b : Block) : keep (writeSer r v b) = keep b := by
  unfold writeSer
  repeat' first
    | with_reducible rfl
    | with_reducible refine keep_ite ?_ ?_
    | with_reducible refine (keep_modSerPort ..).trans ?_
    | with_reducible split
    | with_reducible exact keep_upd rfl rfl rfl

theorem keep_writePtn (r : Nat) (v : Sys2Proof.Word) (b : Block) : keep (writePtn r v b) = keep b := by
  unfold writePtn
  repeat' first
    | with_reducible rfl
    | with_reducible refine keep_ite ?_ ?_
    | with_reducible refine (keep_ptnClrErrs ..).trans ?_
    | with_reducible refine (keep_ptnTake ..).trans ?_
    | with_reducible split
    | with_reducible exact keep_upd rfl rfl rfl
    | with_reducible dsimp only

theorem keep_writeFlt (r : Nat) (v : Sys2Proof.Word) (b : Block) : keep (writeFlt r v b) = keep b := by
  unfold writeFlt
  repeat' first
    | with_reducible rfl
    | with_reducible refine keep_ite ?_ ?_
    | with_reducible refine (keep_forceWrite ..).trans ?_
    | with_reducible refine (keep_modFlt ..).trans ?_
    | with_reducible refine (keep_monClear ..).trans ?_
    | with_reducible split
    | with_reducible exact keep_upd rfl rfl rfl

theorem keep_writeSec (src r : Nat) (v : Word) (b : Block) (h : r ≠ 0xC) : keep (writeSec src r v b) = keep b := by
  unfold writeSec
  split
  case h_3 => exact absurd rfl h
  all_goals repeat' first
    | with_reducible rfl
    | with_reducible refine keep_ite ?_ ?_
    | with_reducible refine (keep_secConfirmWrite ..).trans ?_
    | with_reducible refine (keep_modSec _ _ (fun _ => ?_)).trans ?_
    | exact ⟨rfl, rfl, rfl⟩


theorem keep_writePrf (r : Nat) (v : Sys2Proof.Word) (b : Block) : keep (writePrf r v b) = keep b := by
  unfold writePrf
  repeat' first
    | with_reducible rfl
    | with_reducible refine (keep_modPrf ..).trans ?_
    | with_reducible split
    | with_reducible exact keep_upd rfl rfl rfl

theorem keep_write32 (src off : Nat) (v : Word) (b : Block) (hg : off ≠ 0x4C) (hs : off ≠ 0xE000C) :
    keep (write32 src off v b) = keep b := by
  unfold write32
  dsimp only
  split
  all_goals first
    | exact keep_writeGlb _ _ _ _ (by omega)
    | exact keep_writeRng ..
    | exact keep_writeTim ..
    | exact keep_writeChn ..
    | exact keep_writeCan ..
    | exact keep_writeEth ..
    | exact keep_writeSer ..
    | exact keep_writePtn ..
    | exact keep_writeFlt ..
    | exact keep_writeSec _ _ _ _ (by omega)
    | exact keep_writePrf ..
    | rfl
    | (refine keep_ite ?_ rfl; exact keep_modRec ..)
    | (refine keep_ite ?_ rfl; exact keep_modDsp ..)


theorem keep_hostWrite (src off : Nat) (v : Word) (wide : Bool) (b : Block) (hg : off ≠ 0x4C) (hs : off ≠ 0xE000C) :
    keep (hostWrite src off v wide b) = keep b := by
  unfold hostWrite
  repeat' first
    | with_reducible rfl
    | with_reducible refine keep_ite ?_ ?_
    | with_reducible refine (keep_markBit ..).trans ?_
    | with_reducible refine (keep_modGlb _ _ (fun _ => ?_)).trans ?_
    | with_reducible refine (keep_write64 ..).trans ?_
    | with_reducible refine (keep_write32 _ _ _ _ hg hs).trans ?_
    | with_reducible refine (keep_modLink ..).trans ?_
    | exact ⟨rfl, rfl, rfl, rfl⟩
    | dsimp only


theorem keep_readLatch (src off : Nat) (b : Block) : keep (readLatch src off b) = keep b := by
  unfold readLatch
  repeat' first
    | with_reducible rfl
    | with_reducible refine keep_ite ?_ ?_
    | with_reducible refine (keep_modLink ..).trans ?_
    | with_reducible split
    | with_reducible exact keep_upd rfl rfl rfl
    | with_reducible dsimp only

theorem keep_hostRead (src off len : Nat) (b : Block) : keep (hostRead src off len b) = keep b := by
  unfold hostRead
  repeat' first
    | with_reducible rfl
    | with_reducible refine keep_ite ?_ ?_
    | with_reducible refine (keep_emit ..).trans ?_
    | with_reducible refine (keep_readLatch ..).trans ?_
    | with_reducible split
    | with_reducible exact keep_upd rfl rfl rfl
    | with_reducible dsimp only

theorem keep_dbgResult (err : Bool) (data : BitVec 64) (b : Block) : keep (dbgResult err data b) = keep b := by
  unfold dbgResult
  repeat' first
    | with_reducible rfl
    | with_reducible refine (keep_modSec _ _ (fun _ => ?_)).trans ?_
    | with_reducible exact ⟨rfl, rfl, rfl⟩
    | with_reducible exact keep_upd rfl rfl rfl

theorem keep_dbgFree (err : Bool) (b : Block) : keep (dbgFree err b) = keep b := by
  unfold dbgFree
  repeat' first
    | with_reducible rfl
    | with_reducible refine (keep_dbgResult ..).trans ?_
    | with_reducible refine (keep_takeFree ..).trans ?_
    | with_reducible refine (keep_takeFree_eq (by assumption)).trans ?_
    | with_reducible split
    | with_reducible exact keep_upd rfl rfl rfl
    | with_reducible dsimp only

theorem keep_dbgFail (b : Block) : keep (dbgFail b) = keep b := by
  unfold dbgFail
  repeat' first
    | with_reducible rfl
    | with_reducible refine keep_ite ?_ ?_
    | with_reducible refine (keep_dbgFree ..).trans ?_
    | with_reducible refine (keep_dbgResult ..).trans ?_
    | with_reducible split
    | with_reducible exact keep_upd rfl rfl rfl

theorem keep_dbgScan (level : Nat) (op : Block → Block) (b : Block) (h : ∀ c, keep (op c) = keep c) :
    keep (dbgScan level op b) = keep b := by
  unfold dbgScan
  repeat' first
    | with_reducible rfl
    | with_reducible refine keep_ite ?_ ?_
    | with_reducible refine (keep_dbgFail ..).trans ?_
    | with_reducible refine (h _).trans ?_
    | with_reducible refine (keep_emit ..).trans ?_
    | dsimp only


theorem keep_dbgRead (addr : Sys2Proof.Word) (b : Block) : keep (dbgRead addr b) = keep b := by
  unfold dbgRead
  repeat' first
    | with_reducible rfl
    | with_reducible refine keep_dbgScan _ _ _ fun _ => ?_
    | with_reducible refine keep_ite ?_ ?_
    | with_reducible refine (keep_dbgFail ..).trans ?_
    | with_reducible refine (keep_dbgResult ..).trans ?_
    | with_reducible refine (keep_readLatch ..).trans ?_
    | with_reducible split
    | with_reducible exact keep_upd rfl rfl rfl
    | with_reducible dsimp only

theorem keep_dbgWrite (addr val : Word) (b : Block) (hs : addr.toNat ≠ 0xE000C) : keep (dbgWrite addr val b) = keep b := by
  unfold dbgWrite
  refine keep_dbgScan _ _ _ fun c => ?_
  split
  · exact keep_dbgFail ..
  · rename_i h
    exact (keep_dbgFree ..).trans (keep_hostWrite _ _ _ _ _ (fun e => h (Or.inr (Or.inr (Or.inl e)))) hs)


theorem keep_dbgArray (l : Sys2Proof.Word) (corrected : Option Nat) (b : Block) : keep (dbgArray l corrected b) = keep b := by
  unfold dbgArray
  repeat' first
    | with_reducible rfl
    | with_reducible refine keep_dbgScan _ _ _ fun _ => ?_
    | with_reducible refine keep_ite ?_ ?_
    | with_reducible refine (keep_dbgFail ..).trans ?_
    | with_reducible refine (keep_dbgResult ..).trans ?_
    | with_reducible refine (keep_faultDetected _ _ _ _ _ _ (by rfl)).trans ?_
    | with_reducible refine (keep_takeFree ..).trans ?_
    | with_reducible refine (keep_takeFree_eq (by assumption)).trans ?_
    | with_reducible split
    | with_reducible exact keep_upd rfl rfl rfl
    | with_reducible dsimp only

theorem keep_dbgNop (b : Block) : keep (dbgNop b) = keep b := by
  unfold dbgNop
  repeat' first
    | with_reducible rfl
    | with_reducible refine keep_dbgScan _ _ _ fun _ => ?_
    | with_reducible refine (keep_dbgFree ..).trans ?_
    | with_reducible exact keep_upd rfl rfl rfl

/-! ExecField. -/

theorem keep_sampleWritten (n : Nat) (x : Sys2Proof.Word) (high : Bool) (b : Block) : keep (sampleWritten n x high b) = keep b := by
  unfold sampleWritten
  repeat' first
    | with_reducible rfl
    | with_reducible refine keep_ite ?_ ?_
    | with_reducible refine (keep_dpFeedChan ..).trans ?_
    | with_reducible refine (keep_sampleWrite ..).trans ?_
    | with_reducible split
    | with_reducible exact keep_upd rfl rfl rfl

/-! ExecTime. -/

theorem keep_pairWrite (link off : Nat) (v : BitVec 64) (b : Block) (h1 : off ≠ 0x4C) (h2 : off ≠ 0xE000C) (h3 : off + 4 ≠ 0x4C)
    (h4 : off + 4 ≠ 0xE000C) : keep (pairWrite link off v b) = keep b :=
  (keep_hostWrite _ _ _ _ _ h3 h4).trans (keep_hostWrite _ _ _ _ _ h1 h2)

/-! ExecHouse. -/

theorem keep_anyWrite (src off : Nat) (v : Word) (b : Block) (hs : off ≠ 0xE000C) (hg : off ≠ 0x4C) (hl : off < 2 ^ 32) :
    keep (anyWrite src off v b) = keep b := by
  unfold anyWrite
  refine keep_ite ?_ ?_
  · exact keep_dbgWrite _ _ _ (by simp only [w32, BitVec.toNat_ofNat]; omega)
  · exact keep_hostWrite _ _ _ _ _ hg hs


theorem keep_stageHang (a s : Nat) (b : Block) : keep (stageHang a s b) = keep b := by
  unfold stageHang
  repeat' first
    | with_reducible rfl
    | with_reducible refine keep_ite ?_ ?_
    | with_reducible refine (keep_fault _ _ _ _ _ _ (by rfl)).trans ?_
    | with_reducible split
    | with_reducible exact keep_upd rfl rfl rfl

theorem keep_feedRestored (i : Nat) (b : Block) : keep (feedRestored i b) = keep b := by
  unfold feedRestored
  repeat' first
    | with_reducible rfl
    | with_reducible refine keep_ite ?_ ?_
    | with_reducible refine (keep_logicFeedRestored ..).trans ?_
    | with_reducible refine (keep_ptnReconsider ..).trans ?_
    | with_reducible split
    | with_reducible exact keep_upd rfl rfl rfl
    | with_reducible dsimp only

end Sys2Proof.Laws
end

