-- ==== Sys2Proof/Laws/State.lean ====
section
/-! SUPPORT. What each update of a unit's record does to each field of the module: one lemma for each field and update. -/

namespace Sys2Proof.Laws

open Sys2Proof.Machine

@[simp] theorem modGlb_tb (f : Glb → Glb) (b : Block) : (modGlb f b).tb = b.tb := rfl
@[simp] theorem modGlb_freeze (f : Glb → Glb) (b : Block) : (modGlb f b).freeze = b.freeze := rfl
@[simp] theorem modGlb_links (f : Glb → Glb) (b : Block) : (modGlb f b).links = b.links := rfl
@[simp] theorem modGlb_glb (f : Glb → Glb) (b : Block) : (modGlb f b).glb = f b.glb := rfl
@[simp] theorem modGlb_rng (f : Glb → Glb) (b : Block) : (modGlb f b).rng = b.rng := rfl
@[simp] theorem modGlb_flt (f : Glb → Glb) (b : Block) : (modGlb f b).flt = b.flt := rfl
@[simp] theorem modGlb_growth (f : Glb → Glb) (b : Block) : (modGlb f b).growth = b.growth := rfl
@[simp] theorem modGlb_prf (f : Glb → Glb) (b : Block) : (modGlb f b).prf = b.prf := rfl
@[simp] theorem modGlb_tim (f : Glb → Glb) (b : Block) : (modGlb f b).tim = b.tim := rfl
@[simp] theorem modGlb_eth (f : Glb → Glb) (b : Block) : (modGlb f b).eth = b.eth := rfl
@[simp] theorem modGlb_ptn (f : Glb → Glb) (b : Block) : (modGlb f b).ptn = b.ptn := rfl
@[simp] theorem modGlb_chn (f : Glb → Glb) (b : Block) : (modGlb f b).chn = b.chn := rfl
@[simp] theorem modGlb_saf (f : Glb → Glb) (b : Block) : (modGlb f b).saf = b.saf := rfl
@[simp] theorem modGlb_lpe (f : Glb → Glb) (b : Block) : (modGlb f b).lpe = b.lpe := rfl
@[simp] theorem modGlb_can (f : Glb → Glb) (b : Block) : (modGlb f b).can = b.can := rfl
@[simp] theorem modGlb_ser (f : Glb → Glb) (b : Block) : (modGlb f b).ser = b.ser := rfl
@[simp] theorem modGlb_dp (f : Glb → Glb) (b : Block) : (modGlb f b).dp = b.dp := rfl
@[simp] theorem modGlb_recorder (f : Glb → Glb) (b : Block) : (modGlb f b).recorder = b.recorder := rfl
@[simp] theorem modGlb_dsp (f : Glb → Glb) (b : Block) : (modGlb f b).dsp = b.dsp := rfl
@[simp] theorem modGlb_sec (f : Glb → Glb) (b : Block) : (modGlb f b).sec = b.sec := rfl
@[simp] theorem modGlb_fresh (f : Glb → Glb) (b : Block) : (modGlb f b).fresh = b.fresh := rfl
@[simp] theorem modGlb_out (f : Glb → Glb) (b : Block) : (modGlb f b).out = b.out := rfl
@[simp] theorem modGlb_free (f : Glb → Glb) (b : Block) : (modGlb f b).free = b.free := rfl

@[simp] theorem modPtn_tb (f : Ptn → Ptn) (b : Block) : (modPtn f b).tb = b.tb := rfl
@[simp] theorem modPtn_freeze (f : Ptn → Ptn) (b : Block) : (modPtn f b).freeze = b.freeze := rfl
@[simp] theorem modPtn_links (f : Ptn → Ptn) (b : Block) : (modPtn f b).links = b.links := rfl
@[simp] theorem modPtn_glb (f : Ptn → Ptn) (b : Block) : (modPtn f b).glb = b.glb := rfl
@[simp] theorem modPtn_rng (f : Ptn → Ptn) (b : Block) : (modPtn f b).rng = b.rng := rfl
@[simp] theorem modPtn_flt (f : Ptn → Ptn) (b : Block) : (modPtn f b).flt = b.flt := rfl
@[simp] theorem modPtn_growth (f : Ptn → Ptn) (b : Block) : (modPtn f b).growth = b.growth := rfl
@[simp] theorem modPtn_prf (f : Ptn → Ptn) (b : Block) : (modPtn f b).prf = b.prf := rfl
@[simp] theorem modPtn_tim (f : Ptn → Ptn) (b : Block) : (modPtn f b).tim = b.tim := rfl
@[simp] theorem modPtn_eth (f : Ptn → Ptn) (b : Block) : (modPtn f b).eth = b.eth := rfl
@[simp] theorem modPtn_ptn (f : Ptn → Ptn) (b : Block) : (modPtn f b).ptn = f b.ptn := rfl
@[simp] theorem modPtn_chn (f : Ptn → Ptn) (b : Block) : (modPtn f b).chn = b.chn := rfl
@[simp] theorem modPtn_saf (f : Ptn → Ptn) (b : Block) : (modPtn f b).saf = b.saf := rfl
@[simp] theorem modPtn_lpe (f : Ptn → Ptn) (b : Block) : (modPtn f b).lpe = b.lpe := rfl
@[simp] theorem modPtn_can (f : Ptn → Ptn) (b : Block) : (modPtn f b).can = b.can := rfl
@[simp] theorem modPtn_ser (f : Ptn → Ptn) (b : Block) : (modPtn f b).ser = b.ser := rfl
@[simp] theorem modPtn_dp (f : Ptn → Ptn) (b : Block) : (modPtn f b).dp = b.dp := rfl
@[simp] theorem modPtn_recorder (f : Ptn → Ptn) (b : Block) : (modPtn f b).recorder = b.recorder := rfl
@[simp] theorem modPtn_dsp (f : Ptn → Ptn) (b : Block) : (modPtn f b).dsp = b.dsp := rfl
@[simp] theorem modPtn_sec (f : Ptn → Ptn) (b : Block) : (modPtn f b).sec = b.sec := rfl
@[simp] theorem modPtn_fresh (f : Ptn → Ptn) (b : Block) : (modPtn f b).fresh = b.fresh := rfl
@[simp] theorem modPtn_out (f : Ptn → Ptn) (b : Block) : (modPtn f b).out = b.out := rfl
@[simp] theorem modPtn_free (f : Ptn → Ptn) (b : Block) : (modPtn f b).free = b.free := rfl

@[simp] theorem modSec_tb (f : Sec → Sec) (b : Block) : (modSec f b).tb = b.tb := rfl
@[simp] theorem modSec_freeze (f : Sec → Sec) (b : Block) : (modSec f b).freeze = b.freeze := rfl
@[simp] theorem modSec_links (f : Sec → Sec) (b : Block) : (modSec f b).links = b.links := rfl
@[simp] theorem modSec_glb (f : Sec → Sec) (b : Block) : (modSec f b).glb = b.glb := rfl
@[simp] theorem modSec_rng (f : Sec → Sec) (b : Block) : (modSec f b).rng = b.rng := rfl
@[simp] theorem modSec_flt (f : Sec → Sec) (b : Block) : (modSec f b).flt = b.flt := rfl
@[simp] theorem modSec_growth (f : Sec → Sec) (b : Block) : (modSec f b).growth = b.growth := rfl
@[simp] theorem modSec_prf (f : Sec → Sec) (b : Block) : (modSec f b).prf = b.prf := rfl
@[simp] theorem modSec_tim (f : Sec → Sec) (b : Block) : (modSec f b).tim = b.tim := rfl
@[simp] theorem modSec_eth (f : Sec → Sec) (b : Block) : (modSec f b).eth = b.eth := rfl
@[simp] theorem modSec_ptn (f : Sec → Sec) (b : Block) : (modSec f b).ptn = b.ptn := rfl
@[simp] theorem modSec_chn (f : Sec → Sec) (b : Block) : (modSec f b).chn = b.chn := rfl
@[simp] theorem modSec_saf (f : Sec → Sec) (b : Block) : (modSec f b).saf = b.saf := rfl
@[simp] theorem modSec_lpe (f : Sec → Sec) (b : Block) : (modSec f b).lpe = b.lpe := rfl
@[simp] theorem modSec_can (f : Sec → Sec) (b : Block) : (modSec f b).can = b.can := rfl
@[simp] theorem modSec_ser (f : Sec → Sec) (b : Block) : (modSec f b).ser = b.ser := rfl
@[simp] theorem modSec_dp (f : Sec → Sec) (b : Block) : (modSec f b).dp = b.dp := rfl
@[simp] theorem modSec_recorder (f : Sec → Sec) (b : Block) : (modSec f b).recorder = b.recorder := rfl
@[simp] theorem modSec_dsp (f : Sec → Sec) (b : Block) : (modSec f b).dsp = b.dsp := rfl
@[simp] theorem modSec_sec (f : Sec → Sec) (b : Block) : (modSec f b).sec = f b.sec := rfl
@[simp] theorem modSec_fresh (f : Sec → Sec) (b : Block) : (modSec f b).fresh = b.fresh := rfl
@[simp] theorem modSec_out (f : Sec → Sec) (b : Block) : (modSec f b).out = b.out := rfl
@[simp] theorem modSec_free (f : Sec → Sec) (b : Block) : (modSec f b).free = b.free := rfl

@[simp] theorem modFlt_tb (f : Flt → Flt) (b : Block) : (modFlt f b).tb = b.tb := rfl
@[simp] theorem modFlt_freeze (f : Flt → Flt) (b : Block) : (modFlt f b).freeze = b.freeze := rfl
@[simp] theorem modFlt_links (f : Flt → Flt) (b : Block) : (modFlt f b).links = b.links := rfl
@[simp] theorem modFlt_glb (f : Flt → Flt) (b : Block) : (modFlt f b).glb = b.glb := rfl
@[simp] theorem modFlt_rng (f : Flt → Flt) (b : Block) : (modFlt f b).rng = b.rng := rfl
@[simp] theorem modFlt_flt (f : Flt → Flt) (b : Block) : (modFlt f b).flt = f b.flt := rfl
@[simp] theorem modFlt_growth (f : Flt → Flt) (b : Block) : (modFlt f b).growth = b.growth := rfl
@[simp] theorem modFlt_prf (f : Flt → Flt) (b : Block) : (modFlt f b).prf = b.prf := rfl
@[simp] theorem modFlt_tim (f : Flt → Flt) (b : Block) : (modFlt f b).tim = b.tim := rfl
@[simp] theorem modFlt_eth (f : Flt → Flt) (b : Block) : (modFlt f b).eth = b.eth := rfl
@[simp] theorem modFlt_ptn (f : Flt → Flt) (b : Block) : (modFlt f b).ptn = b.ptn := rfl
@[simp] theorem modFlt_chn (f : Flt → Flt) (b : Block) : (modFlt f b).chn = b.chn := rfl
@[simp] theorem modFlt_saf (f : Flt → Flt) (b : Block) : (modFlt f b).saf = b.saf := rfl
@[simp] theorem modFlt_lpe (f : Flt → Flt) (b : Block) : (modFlt f b).lpe = b.lpe := rfl
@[simp] theorem modFlt_can (f : Flt → Flt) (b : Block) : (modFlt f b).can = b.can := rfl
@[simp] theorem modFlt_ser (f : Flt → Flt) (b : Block) : (modFlt f b).ser = b.ser := rfl
@[simp] theorem modFlt_dp (f : Flt → Flt) (b : Block) : (modFlt f b).dp = b.dp := rfl
@[simp] theorem modFlt_recorder (f : Flt → Flt) (b : Block) : (modFlt f b).recorder = b.recorder := rfl
@[simp] theorem modFlt_dsp (f : Flt → Flt) (b : Block) : (modFlt f b).dsp = b.dsp := rfl
@[simp] theorem modFlt_sec (f : Flt → Flt) (b : Block) : (modFlt f b).sec = b.sec := rfl
@[simp] theorem modFlt_fresh (f : Flt → Flt) (b : Block) : (modFlt f b).fresh = b.fresh := rfl
@[simp] theorem modFlt_out (f : Flt → Flt) (b : Block) : (modFlt f b).out = b.out := rfl
@[simp] theorem modFlt_free (f : Flt → Flt) (b : Block) : (modFlt f b).free = b.free := rfl

@[simp] theorem modRec_tb (f : Rec → Rec) (b : Block) : (modRec f b).tb = b.tb := rfl
@[simp] theorem modRec_freeze (f : Rec → Rec) (b : Block) : (modRec f b).freeze = b.freeze := rfl
@[simp] theorem modRec_links (f : Rec → Rec) (b : Block) : (modRec f b).links = b.links := rfl
@[simp] theorem modRec_glb (f : Rec → Rec) (b : Block) : (modRec f b).glb = b.glb := rfl
@[simp] theorem modRec_rng (f : Rec → Rec) (b : Block) : (modRec f b).rng = b.rng := rfl
@[simp] theorem modRec_flt (f : Rec → Rec) (b : Block) : (modRec f b).flt = b.flt := rfl
@[simp] theorem modRec_growth (f : Rec → Rec) (b : Block) : (modRec f b).growth = b.growth := rfl
@[simp] theorem modRec_prf (f : Rec → Rec) (b : Block) : (modRec f b).prf = b.prf := rfl
@[simp] theorem modRec_tim (f : Rec → Rec) (b : Block) : (modRec f b).tim = b.tim := rfl
@[simp] theorem modRec_eth (f : Rec → Rec) (b : Block) : (modRec f b).eth = b.eth := rfl
@[simp] theorem modRec_ptn (f : Rec → Rec) (b : Block) : (modRec f b).ptn = b.ptn := rfl
@[simp] theorem modRec_chn (f : Rec → Rec) (b : Block) : (modRec f b).chn = b.chn := rfl
@[simp] theorem modRec_saf (f : Rec → Rec) (b : Block) : (modRec f b).saf = b.saf := rfl
@[simp] theorem modRec_lpe (f : Rec → Rec) (b : Block) : (modRec f b).lpe = b.lpe := rfl
@[simp] theorem modRec_can (f : Rec → Rec) (b : Block) : (modRec f b).can = b.can := rfl
@[simp] theorem modRec_ser (f : Rec → Rec) (b : Block) : (modRec f b).ser = b.ser := rfl
@[simp] theorem modRec_dp (f : Rec → Rec) (b : Block) : (modRec f b).dp = b.dp := rfl
@[simp] theorem modRec_recorder (f : Rec → Rec) (b : Block) : (modRec f b).recorder = f b.recorder := rfl
@[simp] theorem modRec_dsp (f : Rec → Rec) (b : Block) : (modRec f b).dsp = b.dsp := rfl
@[simp] theorem modRec_sec (f : Rec → Rec) (b : Block) : (modRec f b).sec = b.sec := rfl
@[simp] theorem modRec_fresh (f : Rec → Rec) (b : Block) : (modRec f b).fresh = b.fresh := rfl
@[simp] theorem modRec_out (f : Rec → Rec) (b : Block) : (modRec f b).out = b.out := rfl
@[simp] theorem modRec_free (f : Rec → Rec) (b : Block) : (modRec f b).free = b.free := rfl

@[simp] theorem modDsp_tb (f : Dsp → Dsp) (b : Block) : (modDsp f b).tb = b.tb := rfl
@[simp] theorem modDsp_freeze (f : Dsp → Dsp) (b : Block) : (modDsp f b).freeze = b.freeze := rfl
@[simp] theorem modDsp_links (f : Dsp → Dsp) (b : Block) : (modDsp f b).links = b.links := rfl
@[simp] theorem modDsp_glb (f : Dsp → Dsp) (b : Block) : (modDsp f b).glb = b.glb := rfl
@[simp] theorem modDsp_rng (f : Dsp → Dsp) (b : Block) : (modDsp f b).rng = b.rng := rfl
@[simp] theorem modDsp_flt (f : Dsp → Dsp) (b : Block) : (modDsp f b).flt = b.flt := rfl
@[simp] theorem modDsp_growth (f : Dsp → Dsp) (b : Block) : (modDsp f b).growth = b.growth := rfl
@[simp] theorem modDsp_prf (f : Dsp → Dsp) (b : Block) : (modDsp f b).prf = b.prf := rfl
@[simp] theorem modDsp_tim (f : Dsp → Dsp) (b : Block) : (modDsp f b).tim = b.tim := rfl
@[simp] theorem modDsp_eth (f : Dsp → Dsp) (b : Block) : (modDsp f b).eth = b.eth := rfl
@[simp] theorem modDsp_ptn (f : Dsp → Dsp) (b : Block) : (modDsp f b).ptn = b.ptn := rfl
@[simp] theorem modDsp_chn (f : Dsp → Dsp) (b : Block) : (modDsp f b).chn = b.chn := rfl
@[simp] theorem modDsp_saf (f : Dsp → Dsp) (b : Block) : (modDsp f b).saf = b.saf := rfl
@[simp] theorem modDsp_lpe (f : Dsp → Dsp) (b : Block) : (modDsp f b).lpe = b.lpe := rfl
@[simp] theorem modDsp_can (f : Dsp → Dsp) (b : Block) : (modDsp f b).can = b.can := rfl
@[simp] theorem modDsp_ser (f : Dsp → Dsp) (b : Block) : (modDsp f b).ser = b.ser := rfl
@[simp] theorem modDsp_dp (f : Dsp → Dsp) (b : Block) : (modDsp f b).dp = b.dp := rfl
@[simp] theorem modDsp_recorder (f : Dsp → Dsp) (b : Block) : (modDsp f b).recorder = b.recorder := rfl
@[simp] theorem modDsp_dsp (f : Dsp → Dsp) (b : Block) : (modDsp f b).dsp = f b.dsp := rfl
@[simp] theorem modDsp_sec (f : Dsp → Dsp) (b : Block) : (modDsp f b).sec = b.sec := rfl
@[simp] theorem modDsp_fresh (f : Dsp → Dsp) (b : Block) : (modDsp f b).fresh = b.fresh := rfl
@[simp] theorem modDsp_out (f : Dsp → Dsp) (b : Block) : (modDsp f b).out = b.out := rfl
@[simp] theorem modDsp_free (f : Dsp → Dsp) (b : Block) : (modDsp f b).free = b.free := rfl

@[simp] theorem modGrowth_tb (f : Growth → Growth) (b : Block) : (modGrowth f b).tb = b.tb := rfl
@[simp] theorem modGrowth_freeze (f : Growth → Growth) (b : Block) : (modGrowth f b).freeze = b.freeze := rfl
@[simp] theorem modGrowth_links (f : Growth → Growth) (b : Block) : (modGrowth f b).links = b.links := rfl
@[simp] theorem modGrowth_glb (f : Growth → Growth) (b : Block) : (modGrowth f b).glb = b.glb := rfl
@[simp] theorem modGrowth_rng (f : Growth → Growth) (b : Block) : (modGrowth f b).rng = b.rng := rfl
@[simp] theorem modGrowth_flt (f : Growth → Growth) (b : Block) : (modGrowth f b).flt = b.flt := rfl
@[simp] theorem modGrowth_growth (f : Growth → Growth) (b : Block) : (modGrowth f b).growth = f b.growth := rfl
@[simp] theorem modGrowth_prf (f : Growth → Growth) (b : Block) : (modGrowth f b).prf = b.prf := rfl
@[simp] theorem modGrowth_tim (f : Growth → Growth) (b : Block) : (modGrowth f b).tim = b.tim := rfl
@[simp] theorem modGrowth_eth (f : Growth → Growth) (b : Block) : (modGrowth f b).eth = b.eth := rfl
@[simp] theorem modGrowth_ptn (f : Growth → Growth) (b : Block) : (modGrowth f b).ptn = b.ptn := rfl
@[simp] theorem modGrowth_chn (f : Growth → Growth) (b : Block) : (modGrowth f b).chn = b.chn := rfl
@[simp] theorem modGrowth_saf (f : Growth → Growth) (b : Block) : (modGrowth f b).saf = b.saf := rfl
@[simp] theorem modGrowth_lpe (f : Growth → Growth) (b : Block) : (modGrowth f b).lpe = b.lpe := rfl
@[simp] theorem modGrowth_can (f : Growth → Growth) (b : Block) : (modGrowth f b).can = b.can := rfl
@[simp] theorem modGrowth_ser (f : Growth → Growth) (b : Block) : (modGrowth f b).ser = b.ser := rfl
@[simp] theorem modGrowth_dp (f : Growth → Growth) (b : Block) : (modGrowth f b).dp = b.dp := rfl
@[simp] theorem modGrowth_recorder (f : Growth → Growth) (b : Block) : (modGrowth f b).recorder = b.recorder := rfl
@[simp] theorem modGrowth_dsp (f : Growth → Growth) (b : Block) : (modGrowth f b).dsp = b.dsp := rfl
@[simp] theorem modGrowth_sec (f : Growth → Growth) (b : Block) : (modGrowth f b).sec = b.sec := rfl
@[simp] theorem modGrowth_fresh (f : Growth → Growth) (b : Block) : (modGrowth f b).fresh = b.fresh := rfl
@[simp] theorem modGrowth_out (f : Growth → Growth) (b : Block) : (modGrowth f b).out = b.out := rfl
@[simp] theorem modGrowth_free (f : Growth → Growth) (b : Block) : (modGrowth f b).free = b.free := rfl

@[simp] theorem modPrf_tb (f : Prf → Prf) (b : Block) : (modPrf f b).tb = b.tb := rfl
@[simp] theorem modPrf_freeze (f : Prf → Prf) (b : Block) : (modPrf f b).freeze = b.freeze := rfl
@[simp] theorem modPrf_links (f : Prf → Prf) (b : Block) : (modPrf f b).links = b.links := rfl
@[simp] theorem modPrf_glb (f : Prf → Prf) (b : Block) : (modPrf f b).glb = b.glb := rfl
@[simp] theorem modPrf_rng (f : Prf → Prf) (b : Block) : (modPrf f b).rng = b.rng := rfl
@[simp] theorem modPrf_flt (f : Prf → Prf) (b : Block) : (modPrf f b).flt = b.flt := rfl
@[simp] theorem modPrf_growth (f : Prf → Prf) (b : Block) : (modPrf f b).growth = b.growth := rfl
@[simp] theorem modPrf_prf (f : Prf → Prf) (b : Block) : (modPrf f b).prf = f b.prf := rfl
@[simp] theorem modPrf_tim (f : Prf → Prf) (b : Block) : (modPrf f b).tim = b.tim := rfl
@[simp] theorem modPrf_eth (f : Prf → Prf) (b : Block) : (modPrf f b).eth = b.eth := rfl
@[simp] theorem modPrf_ptn (f : Prf → Prf) (b : Block) : (modPrf f b).ptn = b.ptn := rfl
@[simp] theorem modPrf_chn (f : Prf → Prf) (b : Block) : (modPrf f b).chn = b.chn := rfl
@[simp] theorem modPrf_saf (f : Prf → Prf) (b : Block) : (modPrf f b).saf = b.saf := rfl
@[simp] theorem modPrf_lpe (f : Prf → Prf) (b : Block) : (modPrf f b).lpe = b.lpe := rfl
@[simp] theorem modPrf_can (f : Prf → Prf) (b : Block) : (modPrf f b).can = b.can := rfl
@[simp] theorem modPrf_ser (f : Prf → Prf) (b : Block) : (modPrf f b).ser = b.ser := rfl
@[simp] theorem modPrf_dp (f : Prf → Prf) (b : Block) : (modPrf f b).dp = b.dp := rfl
@[simp] theorem modPrf_recorder (f : Prf → Prf) (b : Block) : (modPrf f b).recorder = b.recorder := rfl
@[simp] theorem modPrf_dsp (f : Prf → Prf) (b : Block) : (modPrf f b).dsp = b.dsp := rfl
@[simp] theorem modPrf_sec (f : Prf → Prf) (b : Block) : (modPrf f b).sec = b.sec := rfl
@[simp] theorem modPrf_fresh (f : Prf → Prf) (b : Block) : (modPrf f b).fresh = b.fresh := rfl
@[simp] theorem modPrf_out (f : Prf → Prf) (b : Block) : (modPrf f b).out = b.out := rfl
@[simp] theorem modPrf_free (f : Prf → Prf) (b : Block) : (modPrf f b).free = b.free := rfl

@[simp] theorem modEth_tb (f : Eth → Eth) (b : Block) : (modEth f b).tb = b.tb := rfl
@[simp] theorem modEth_freeze (f : Eth → Eth) (b : Block) : (modEth f b).freeze = b.freeze := rfl
@[simp] theorem modEth_links (f : Eth → Eth) (b : Block) : (modEth f b).links = b.links := rfl
@[simp] theorem modEth_glb (f : Eth → Eth) (b : Block) : (modEth f b).glb = b.glb := rfl
@[simp] theorem modEth_rng (f : Eth → Eth) (b : Block) : (modEth f b).rng = b.rng := rfl
@[simp] theorem modEth_flt (f : Eth → Eth) (b : Block) : (modEth f b).flt = b.flt := rfl
@[simp] theorem modEth_growth (f : Eth → Eth) (b : Block) : (modEth f b).growth = b.growth := rfl
@[simp] theorem modEth_prf (f : Eth → Eth) (b : Block) : (modEth f b).prf = b.prf := rfl
@[simp] theorem modEth_tim (f : Eth → Eth) (b : Block) : (modEth f b).tim = b.tim := rfl
@[simp] theorem modEth_eth (f : Eth → Eth) (b : Block) : (modEth f b).eth = f b.eth := rfl
@[simp] theorem modEth_ptn (f : Eth → Eth) (b : Block) : (modEth f b).ptn = b.ptn := rfl
@[simp] theorem modEth_chn (f : Eth → Eth) (b : Block) : (modEth f b).chn = b.chn := rfl
@[simp] theorem modEth_saf (f : Eth → Eth) (b : Block) : (modEth f b).saf = b.saf := rfl
@[simp] theorem modEth_lpe (f : Eth → Eth) (b : Block) : (modEth f b).lpe = b.lpe := rfl
@[simp] theorem modEth_can (f : Eth → Eth) (b : Block) : (modEth f b).can = b.can := rfl
@[simp] theorem modEth_ser (f : Eth → Eth) (b : Block) : (modEth f b).ser = b.ser := rfl
@[simp] theorem modEth_dp (f : Eth → Eth) (b : Block) : (modEth f b).dp = b.dp := rfl
@[simp] theorem modEth_recorder (f : Eth → Eth) (b : Block) : (modEth f b).recorder = b.recorder := rfl
@[simp] theorem modEth_dsp (f : Eth → Eth) (b : Block) : (modEth f b).dsp = b.dsp := rfl
@[simp] theorem modEth_sec (f : Eth → Eth) (b : Block) : (modEth f b).sec = b.sec := rfl
@[simp] theorem modEth_fresh (f : Eth → Eth) (b : Block) : (modEth f b).fresh = b.fresh := rfl
@[simp] theorem modEth_out (f : Eth → Eth) (b : Block) : (modEth f b).out = b.out := rfl
@[simp] theorem modEth_free (f : Eth → Eth) (b : Block) : (modEth f b).free = b.free := rfl

@[simp] theorem modCan_tb (f : Can → Can) (b : Block) : (modCan f b).tb = b.tb := rfl
@[simp] theorem modCan_freeze (f : Can → Can) (b : Block) : (modCan f b).freeze = b.freeze := rfl
@[simp] theorem modCan_links (f : Can → Can) (b : Block) : (modCan f b).links = b.links := rfl
@[simp] theorem modCan_glb (f : Can → Can) (b : Block) : (modCan f b).glb = b.glb := rfl
@[simp] theorem modCan_rng (f : Can → Can) (b : Block) : (modCan f b).rng = b.rng := rfl
@[simp] theorem modCan_flt (f : Can → Can) (b : Block) : (modCan f b).flt = b.flt := rfl
@[simp] theorem modCan_growth (f : Can → Can) (b : Block) : (modCan f b).growth = b.growth := rfl
@[simp] theorem modCan_prf (f : Can → Can) (b : Block) : (modCan f b).prf = b.prf := rfl
@[simp] theorem modCan_tim (f : Can → Can) (b : Block) : (modCan f b).tim = b.tim := rfl
@[simp] theorem modCan_eth (f : Can → Can) (b : Block) : (modCan f b).eth = b.eth := rfl
@[simp] theorem modCan_ptn (f : Can → Can) (b : Block) : (modCan f b).ptn = b.ptn := rfl
@[simp] theorem modCan_chn (f : Can → Can) (b : Block) : (modCan f b).chn = b.chn := rfl
@[simp] theorem modCan_saf (f : Can → Can) (b : Block) : (modCan f b).saf = b.saf := rfl
@[simp] theorem modCan_lpe (f : Can → Can) (b : Block) : (modCan f b).lpe = b.lpe := rfl
@[simp] theorem modCan_can (f : Can → Can) (b : Block) : (modCan f b).can = f b.can := rfl
@[simp] theorem modCan_ser (f : Can → Can) (b : Block) : (modCan f b).ser = b.ser := rfl
@[simp] theorem modCan_dp (f : Can → Can) (b : Block) : (modCan f b).dp = b.dp := rfl
@[simp] theorem modCan_recorder (f : Can → Can) (b : Block) : (modCan f b).recorder = b.recorder := rfl
@[simp] theorem modCan_dsp (f : Can → Can) (b : Block) : (modCan f b).dsp = b.dsp := rfl
@[simp] theorem modCan_sec (f : Can → Can) (b : Block) : (modCan f b).sec = b.sec := rfl
@[simp] theorem modCan_fresh (f : Can → Can) (b : Block) : (modCan f b).fresh = b.fresh := rfl
@[simp] theorem modCan_out (f : Can → Can) (b : Block) : (modCan f b).out = b.out := rfl
@[simp] theorem modCan_free (f : Can → Can) (b : Block) : (modCan f b).free = b.free := rfl

@[simp] theorem modChn_tb (f : Chn → Chn) (b : Block) : (modChn f b).tb = b.tb := rfl
@[simp] theorem modChn_freeze (f : Chn → Chn) (b : Block) : (modChn f b).freeze = b.freeze := rfl
@[simp] theorem modChn_links (f : Chn → Chn) (b : Block) : (modChn f b).links = b.links := rfl
@[simp] theorem modChn_glb (f : Chn → Chn) (b : Block) : (modChn f b).glb = b.glb := rfl
@[simp] theorem modChn_rng (f : Chn → Chn) (b : Block) : (modChn f b).rng = b.rng := rfl
@[simp] theorem modChn_flt (f : Chn → Chn) (b : Block) : (modChn f b).flt = b.flt := rfl
@[simp] theorem modChn_growth (f : Chn → Chn) (b : Block) : (modChn f b).growth = b.growth := rfl
@[simp] theorem modChn_prf (f : Chn → Chn) (b : Block) : (modChn f b).prf = b.prf := rfl
@[simp] theorem modChn_tim (f : Chn → Chn) (b : Block) : (modChn f b).tim = b.tim := rfl
@[simp] theorem modChn_eth (f : Chn → Chn) (b : Block) : (modChn f b).eth = b.eth := rfl
@[simp] theorem modChn_ptn (f : Chn → Chn) (b : Block) : (modChn f b).ptn = b.ptn := rfl
@[simp] theorem modChn_chn (f : Chn → Chn) (b : Block) : (modChn f b).chn = f b.chn := rfl
@[simp] theorem modChn_saf (f : Chn → Chn) (b : Block) : (modChn f b).saf = b.saf := rfl
@[simp] theorem modChn_lpe (f : Chn → Chn) (b : Block) : (modChn f b).lpe = b.lpe := rfl
@[simp] theorem modChn_can (f : Chn → Chn) (b : Block) : (modChn f b).can = b.can := rfl
@[simp] theorem modChn_ser (f : Chn → Chn) (b : Block) : (modChn f b).ser = b.ser := rfl
@[simp] theorem modChn_dp (f : Chn → Chn) (b : Block) : (modChn f b).dp = b.dp := rfl
@[simp] theorem modChn_recorder (f : Chn → Chn) (b : Block) : (modChn f b).recorder = b.recorder := rfl
@[simp] theorem modChn_dsp (f : Chn → Chn) (b : Block) : (modChn f b).dsp = b.dsp := rfl
@[simp] theorem modChn_sec (f : Chn → Chn) (b : Block) : (modChn f b).sec = b.sec := rfl
@[simp] theorem modChn_fresh (f : Chn → Chn) (b : Block) : (modChn f b).fresh = b.fresh := rfl
@[simp] theorem modChn_out (f : Chn → Chn) (b : Block) : (modChn f b).out = b.out := rfl
@[simp] theorem modChn_free (f : Chn → Chn) (b : Block) : (modChn f b).free = b.free := rfl

@[simp] theorem modDp_tb (f : Dp → Dp) (b : Block) : (modDp f b).tb = b.tb := rfl
@[simp] theorem modDp_freeze (f : Dp → Dp) (b : Block) : (modDp f b).freeze = b.freeze := rfl
@[simp] theorem modDp_links (f : Dp → Dp) (b : Block) : (modDp f b).links = b.links := rfl
@[simp] theorem modDp_glb (f : Dp → Dp) (b : Block) : (modDp f b).glb = b.glb := rfl
@[simp] theorem modDp_rng (f : Dp → Dp) (b : Block) : (modDp f b).rng = b.rng := rfl
@[simp] theorem modDp_flt (f : Dp → Dp) (b : Block) : (modDp f b).flt = b.flt := rfl
@[simp] theorem modDp_growth (f : Dp → Dp) (b : Block) : (modDp f b).growth = b.growth := rfl
@[simp] theorem modDp_prf (f : Dp → Dp) (b : Block) : (modDp f b).prf = b.prf := rfl
@[simp] theorem modDp_tim (f : Dp → Dp) (b : Block) : (modDp f b).tim = b.tim := rfl
@[simp] theorem modDp_eth (f : Dp → Dp) (b : Block) : (modDp f b).eth = b.eth := rfl
@[simp] theorem modDp_ptn (f : Dp → Dp) (b : Block) : (modDp f b).ptn = b.ptn := rfl
@[simp] theorem modDp_chn (f : Dp → Dp) (b : Block) : (modDp f b).chn = b.chn := rfl
@[simp] theorem modDp_saf (f : Dp → Dp) (b : Block) : (modDp f b).saf = b.saf := rfl
@[simp] theorem modDp_lpe (f : Dp → Dp) (b : Block) : (modDp f b).lpe = b.lpe := rfl
@[simp] theorem modDp_can (f : Dp → Dp) (b : Block) : (modDp f b).can = b.can := rfl
@[simp] theorem modDp_ser (f : Dp → Dp) (b : Block) : (modDp f b).ser = b.ser := rfl
@[simp] theorem modDp_dp (f : Dp → Dp) (b : Block) : (modDp f b).dp = f b.dp := rfl
@[simp] theorem modDp_recorder (f : Dp → Dp) (b : Block) : (modDp f b).recorder = b.recorder := rfl
@[simp] theorem modDp_dsp (f : Dp → Dp) (b : Block) : (modDp f b).dsp = b.dsp := rfl
@[simp] theorem modDp_sec (f : Dp → Dp) (b : Block) : (modDp f b).sec = b.sec := rfl
@[simp] theorem modDp_fresh (f : Dp → Dp) (b : Block) : (modDp f b).fresh = b.fresh := rfl
@[simp] theorem modDp_out (f : Dp → Dp) (b : Block) : (modDp f b).out = b.out := rfl
@[simp] theorem modDp_free (f : Dp → Dp) (b : Block) : (modDp f b).free = b.free := rfl

@[simp] theorem modRng_tb (f : Rng → Rng) (b : Block) : (modRng f b).tb = b.tb := rfl
@[simp] theorem modRng_freeze (f : Rng → Rng) (b : Block) : (modRng f b).freeze = b.freeze := rfl
@[simp] theorem modRng_links (f : Rng → Rng) (b : Block) : (modRng f b).links = b.links := rfl
@[simp] theorem modRng_glb (f : Rng → Rng) (b : Block) : (modRng f b).glb = b.glb := rfl
@[simp] theorem modRng_rng (f : Rng → Rng) (b : Block) : (modRng f b).rng = f b.rng := rfl
@[simp] theorem modRng_flt (f : Rng → Rng) (b : Block) : (modRng f b).flt = b.flt := rfl
@[simp] theorem modRng_growth (f : Rng → Rng) (b : Block) : (modRng f b).growth = b.growth := rfl
@[simp] theorem modRng_prf (f : Rng → Rng) (b : Block) : (modRng f b).prf = b.prf := rfl
@[simp] theorem modRng_tim (f : Rng → Rng) (b : Block) : (modRng f b).tim = b.tim := rfl
@[simp] theorem modRng_eth (f : Rng → Rng) (b : Block) : (modRng f b).eth = b.eth := rfl
@[simp] theorem modRng_ptn (f : Rng → Rng) (b : Block) : (modRng f b).ptn = b.ptn := rfl
@[simp] theorem modRng_chn (f : Rng → Rng) (b : Block) : (modRng f b).chn = b.chn := rfl
@[simp] theorem modRng_saf (f : Rng → Rng) (b : Block) : (modRng f b).saf = b.saf := rfl
@[simp] theorem modRng_lpe (f : Rng → Rng) (b : Block) : (modRng f b).lpe = b.lpe := rfl
@[simp] theorem modRng_can (f : Rng → Rng) (b : Block) : (modRng f b).can = b.can := rfl
@[simp] theorem modRng_ser (f : Rng → Rng) (b : Block) : (modRng f b).ser = b.ser := rfl
@[simp] theorem modRng_dp (f : Rng → Rng) (b : Block) : (modRng f b).dp = b.dp := rfl
@[simp] theorem modRng_recorder (f : Rng → Rng) (b : Block) : (modRng f b).recorder = b.recorder := rfl
@[simp] theorem modRng_dsp (f : Rng → Rng) (b : Block) : (modRng f b).dsp = b.dsp := rfl
@[simp] theorem modRng_sec (f : Rng → Rng) (b : Block) : (modRng f b).sec = b.sec := rfl
@[simp] theorem modRng_fresh (f : Rng → Rng) (b : Block) : (modRng f b).fresh = b.fresh := rfl
@[simp] theorem modRng_out (f : Rng → Rng) (b : Block) : (modRng f b).out = b.out := rfl
@[simp] theorem modRng_free (f : Rng → Rng) (b : Block) : (modRng f b).free = b.free := rfl

@[simp] theorem modLpe_tb (f : Lpe → Lpe) (b : Block) : (modLpe f b).tb = b.tb := rfl
@[simp] theorem modLpe_freeze (f : Lpe → Lpe) (b : Block) : (modLpe f b).freeze = b.freeze := rfl
@[simp] theorem modLpe_links (f : Lpe → Lpe) (b : Block) : (modLpe f b).links = b.links := rfl
@[simp] theorem modLpe_glb (f : Lpe → Lpe) (b : Block) : (modLpe f b).glb = b.glb := rfl
@[simp] theorem modLpe_rng (f : Lpe → Lpe) (b : Block) : (modLpe f b).rng = b.rng := rfl
@[simp] theorem modLpe_flt (f : Lpe → Lpe) (b : Block) : (modLpe f b).flt = b.flt := rfl
@[simp] theorem modLpe_growth (f : Lpe → Lpe) (b : Block) : (modLpe f b).growth = b.growth := rfl
@[simp] theorem modLpe_prf (f : Lpe → Lpe) (b : Block) : (modLpe f b).prf = b.prf := rfl
@[simp] theorem modLpe_tim (f : Lpe → Lpe) (b : Block) : (modLpe f b).tim = b.tim := rfl
@[simp] theorem modLpe_eth (f : Lpe → Lpe) (b : Block) : (modLpe f b).eth = b.eth := rfl
@[simp] theorem modLpe_ptn (f : Lpe → Lpe) (b : Block) : (modLpe f b).ptn = b.ptn := rfl
@[simp] theorem modLpe_chn (f : Lpe → Lpe) (b : Block) : (modLpe f b).chn = b.chn := rfl
@[simp] theorem modLpe_saf (f : Lpe → Lpe) (b : Block) : (modLpe f b).saf = b.saf := rfl
@[simp] theorem modLpe_lpe (f : Lpe → Lpe) (b : Block) : (modLpe f b).lpe = f b.lpe := rfl
@[simp] theorem modLpe_can (f : Lpe → Lpe) (b : Block) : (modLpe f b).can = b.can := rfl
@[simp] theorem modLpe_ser (f : Lpe → Lpe) (b : Block) : (modLpe f b).ser = b.ser := rfl
@[simp] theorem modLpe_dp (f : Lpe → Lpe) (b : Block) : (modLpe f b).dp = b.dp := rfl
@[simp] theorem modLpe_recorder (f : Lpe → Lpe) (b : Block) : (modLpe f b).recorder = b.recorder := rfl
@[simp] theorem modLpe_dsp (f : Lpe → Lpe) (b : Block) : (modLpe f b).dsp = b.dsp := rfl
@[simp] theorem modLpe_sec (f : Lpe → Lpe) (b : Block) : (modLpe f b).sec = b.sec := rfl
@[simp] theorem modLpe_fresh (f : Lpe → Lpe) (b : Block) : (modLpe f b).fresh = b.fresh := rfl
@[simp] theorem modLpe_out (f : Lpe → Lpe) (b : Block) : (modLpe f b).out = b.out := rfl
@[simp] theorem modLpe_free (f : Lpe → Lpe) (b : Block) : (modLpe f b).free = b.free := rfl

@[simp] theorem modSaf_tb (f : Saf → Saf) (b : Block) : (modSaf f b).tb = b.tb := rfl
@[simp] theorem modSaf_freeze (f : Saf → Saf) (b : Block) : (modSaf f b).freeze = b.freeze := rfl
@[simp] theorem modSaf_links (f : Saf → Saf) (b : Block) : (modSaf f b).links = b.links := rfl
@[simp] theorem modSaf_glb (f : Saf → Saf) (b : Block) : (modSaf f b).glb = b.glb := rfl
@[simp] theorem modSaf_rng (f : Saf → Saf) (b : Block) : (modSaf f b).rng = b.rng := rfl
@[simp] theorem modSaf_flt (f : Saf → Saf) (b : Block) : (modSaf f b).flt = b.flt := rfl
@[simp] theorem modSaf_growth (f : Saf → Saf) (b : Block) : (modSaf f b).growth = b.growth := rfl
@[simp] theorem modSaf_prf (f : Saf → Saf) (b : Block) : (modSaf f b).prf = b.prf := rfl
@[simp] theorem modSaf_tim (f : Saf → Saf) (b : Block) : (modSaf f b).tim = b.tim := rfl
@[simp] theorem modSaf_eth (f : Saf → Saf) (b : Block) : (modSaf f b).eth = b.eth := rfl
@[simp] theorem modSaf_ptn (f : Saf → Saf) (b : Block) : (modSaf f b).ptn = b.ptn := rfl
@[simp] theorem modSaf_chn (f : Saf → Saf) (b : Block) : (modSaf f b).chn = b.chn := rfl
@[simp] theorem modSaf_saf (f : Saf → Saf) (b : Block) : (modSaf f b).saf = f b.saf := rfl
@[simp] theorem modSaf_lpe (f : Saf → Saf) (b : Block) : (modSaf f b).lpe = b.lpe := rfl
@[simp] theorem modSaf_can (f : Saf → Saf) (b : Block) : (modSaf f b).can = b.can := rfl
@[simp] theorem modSaf_ser (f : Saf → Saf) (b : Block) : (modSaf f b).ser = b.ser := rfl
@[simp] theorem modSaf_dp (f : Saf → Saf) (b : Block) : (modSaf f b).dp = b.dp := rfl
@[simp] theorem modSaf_recorder (f : Saf → Saf) (b : Block) : (modSaf f b).recorder = b.recorder := rfl
@[simp] theorem modSaf_dsp (f : Saf → Saf) (b : Block) : (modSaf f b).dsp = b.dsp := rfl
@[simp] theorem modSaf_sec (f : Saf → Saf) (b : Block) : (modSaf f b).sec = b.sec := rfl
@[simp] theorem modSaf_fresh (f : Saf → Saf) (b : Block) : (modSaf f b).fresh = b.fresh := rfl
@[simp] theorem modSaf_out (f : Saf → Saf) (b : Block) : (modSaf f b).out = b.out := rfl
@[simp] theorem modSaf_free (f : Saf → Saf) (b : Block) : (modSaf f b).free = b.free := rfl

@[simp] theorem modSer_tb (f : Ser → Ser) (b : Block) : (modSer f b).tb = b.tb := rfl
@[simp] theorem modSer_freeze (f : Ser → Ser) (b : Block) : (modSer f b).freeze = b.freeze := rfl
@[simp] theorem modSer_links (f : Ser → Ser) (b : Block) : (modSer f b).links = b.links := rfl
@[simp] theorem modSer_glb (f : Ser → Ser) (b : Block) : (modSer f b).glb = b.glb := rfl
@[simp] theorem modSer_rng (f : Ser → Ser) (b : Block) : (modSer f b).rng = b.rng := rfl
@[simp] theorem modSer_flt (f : Ser → Ser) (b : Block) : (modSer f b).flt = b.flt := rfl
@[simp] theorem modSer_growth (f : Ser → Ser) (b : Block) : (modSer f b).growth = b.growth := rfl
@[simp] theorem modSer_prf (f : Ser → Ser) (b : Block) : (modSer f b).prf = b.prf := rfl
@[simp] theorem modSer_tim (f : Ser → Ser) (b : Block) : (modSer f b).tim = b.tim := rfl
@[simp] theorem modSer_eth (f : Ser → Ser) (b : Block) : (modSer f b).eth = b.eth := rfl
@[simp] theorem modSer_ptn (f : Ser → Ser) (b : Block) : (modSer f b).ptn = b.ptn := rfl
@[simp] theorem modSer_chn (f : Ser → Ser) (b : Block) : (modSer f b).chn = b.chn := rfl
@[simp] theorem modSer_saf (f : Ser → Ser) (b : Block) : (modSer f b).saf = b.saf := rfl
@[simp] theorem modSer_lpe (f : Ser → Ser) (b : Block) : (modSer f b).lpe = b.lpe := rfl
@[simp] theorem modSer_can (f : Ser → Ser) (b : Block) : (modSer f b).can = b.can := rfl
@[simp] theorem modSer_ser (f : Ser → Ser) (b : Block) : (modSer f b).ser = f b.ser := rfl
@[simp] theorem modSer_dp (f : Ser → Ser) (b : Block) : (modSer f b).dp = b.dp := rfl
@[simp] theorem modSer_recorder (f : Ser → Ser) (b : Block) : (modSer f b).recorder = b.recorder := rfl
@[simp] theorem modSer_dsp (f : Ser → Ser) (b : Block) : (modSer f b).dsp = b.dsp := rfl
@[simp] theorem modSer_sec (f : Ser → Ser) (b : Block) : (modSer f b).sec = b.sec := rfl
@[simp] theorem modSer_fresh (f : Ser → Ser) (b : Block) : (modSer f b).fresh = b.fresh := rfl
@[simp] theorem modSer_out (f : Ser → Ser) (b : Block) : (modSer f b).out = b.out := rfl
@[simp] theorem modSer_free (f : Ser → Ser) (b : Block) : (modSer f b).free = b.free := rfl

@[simp] theorem modTim_tb (f : Tim → Tim) (b : Block) : (modTim f b).tb = b.tb := rfl
@[simp] theorem modTim_freeze (f : Tim → Tim) (b : Block) : (modTim f b).freeze = b.freeze := rfl
@[simp] theorem modTim_links (f : Tim → Tim) (b : Block) : (modTim f b).links = b.links := rfl
@[simp] theorem modTim_glb (f : Tim → Tim) (b : Block) : (modTim f b).glb = b.glb := rfl
@[simp] theorem modTim_rng (f : Tim → Tim) (b : Block) : (modTim f b).rng = b.rng := rfl
@[simp] theorem modTim_flt (f : Tim → Tim) (b : Block) : (modTim f b).flt = b.flt := rfl
@[simp] theorem modTim_growth (f : Tim → Tim) (b : Block) : (modTim f b).growth = b.growth := rfl
@[simp] theorem modTim_prf (f : Tim → Tim) (b : Block) : (modTim f b).prf = b.prf := rfl
@[simp] theorem modTim_tim (f : Tim → Tim) (b : Block) : (modTim f b).tim = f b.tim := rfl
@[simp] theorem modTim_eth (f : Tim → Tim) (b : Block) : (modTim f b).eth = b.eth := rfl
@[simp] theorem modTim_ptn (f : Tim → Tim) (b : Block) : (modTim f b).ptn = b.ptn := rfl
@[simp] theorem modTim_chn (f : Tim → Tim) (b : Block) : (modTim f b).chn = b.chn := rfl
@[simp] theorem modTim_saf (f : Tim → Tim) (b : Block) : (modTim f b).saf = b.saf := rfl
@[simp] theorem modTim_lpe (f : Tim → Tim) (b : Block) : (modTim f b).lpe = b.lpe := rfl
@[simp] theorem modTim_can (f : Tim → Tim) (b : Block) : (modTim f b).can = b.can := rfl
@[simp] theorem modTim_ser (f : Tim → Tim) (b : Block) : (modTim f b).ser = b.ser := rfl
@[simp] theorem modTim_dp (f : Tim → Tim) (b : Block) : (modTim f b).dp = b.dp := rfl
@[simp] theorem modTim_recorder (f : Tim → Tim) (b : Block) : (modTim f b).recorder = b.recorder := rfl
@[simp] theorem modTim_dsp (f : Tim → Tim) (b : Block) : (modTim f b).dsp = b.dsp := rfl
@[simp] theorem modTim_sec (f : Tim → Tim) (b : Block) : (modTim f b).sec = b.sec := rfl
@[simp] theorem modTim_fresh (f : Tim → Tim) (b : Block) : (modTim f b).fresh = b.fresh := rfl
@[simp] theorem modTim_out (f : Tim → Tim) (b : Block) : (modTim f b).out = b.out := rfl
@[simp] theorem modTim_free (f : Tim → Tim) (b : Block) : (modTim f b).free = b.free := rfl

@[simp] theorem modRing_tb (n : Nat) (f : Ring → Ring) (b : Block) : (modRing n f b).tb = b.tb := rfl
@[simp] theorem modRing_freeze (n : Nat) (f : Ring → Ring) (b : Block) : (modRing n f b).freeze = b.freeze := rfl
@[simp] theorem modRing_links (n : Nat) (f : Ring → Ring) (b : Block) : (modRing n f b).links = b.links := rfl
@[simp] theorem modRing_glb (n : Nat) (f : Ring → Ring) (b : Block) : (modRing n f b).glb = b.glb := rfl
@[simp] theorem modRing_flt (n : Nat) (f : Ring → Ring) (b : Block) : (modRing n f b).flt = b.flt := rfl
@[simp] theorem modRing_growth (n : Nat) (f : Ring → Ring) (b : Block) : (modRing n f b).growth = b.growth := rfl
@[simp] theorem modRing_prf (n : Nat) (f : Ring → Ring) (b : Block) : (modRing n f b).prf = b.prf := rfl
@[simp] theorem modRing_tim (n : Nat) (f : Ring → Ring) (b : Block) : (modRing n f b).tim = b.tim := rfl
@[simp] theorem modRing_eth (n : Nat) (f : Ring → Ring) (b : Block) : (modRing n f b).eth = b.eth := rfl
@[simp] theorem modRing_ptn (n : Nat) (f : Ring → Ring) (b : Block) : (modRing n f b).ptn = b.ptn := rfl
@[simp] theorem modRing_chn (n : Nat) (f : Ring → Ring) (b : Block) : (modRing n f b).chn = b.chn := rfl
@[simp] theorem modRing_saf (n : Nat) (f : Ring → Ring) (b : Block) : (modRing n f b).saf = b.saf := rfl
@[simp] theorem modRing_lpe (n : Nat) (f : Ring → Ring) (b : Block) : (modRing n f b).lpe = b.lpe := rfl
@[simp] theorem modRing_can (n : Nat) (f : Ring → Ring) (b : Block) : (modRing n f b).can = b.can := rfl
@[simp] theorem modRing_ser (n : Nat) (f : Ring → Ring) (b : Block) : (modRing n f b).ser = b.ser := rfl
@[simp] theorem modRing_dp (n : Nat) (f : Ring → Ring) (b : Block) : (modRing n f b).dp = b.dp := rfl
@[simp] theorem modRing_recorder (n : Nat) (f : Ring → Ring) (b : Block) : (modRing n f b).recorder = b.recorder := rfl
@[simp] theorem modRing_dsp (n : Nat) (f : Ring → Ring) (b : Block) : (modRing n f b).dsp = b.dsp := rfl
@[simp] theorem modRing_sec (n : Nat) (f : Ring → Ring) (b : Block) : (modRing n f b).sec = b.sec := rfl
@[simp] theorem modRing_fresh (n : Nat) (f : Ring → Ring) (b : Block) : (modRing n f b).fresh = b.fresh := rfl
@[simp] theorem modRing_out (n : Nat) (f : Ring → Ring) (b : Block) : (modRing n f b).out = b.out := rfl
@[simp] theorem modRing_free (n : Nat) (f : Ring → Ring) (b : Block) : (modRing n f b).free = b.free := rfl

@[simp] theorem modTarget_tb (n : Nat) (f : Target → Target) (b : Block) : (modTarget n f b).tb = b.tb := rfl
@[simp] theorem modTarget_freeze (n : Nat) (f : Target → Target) (b : Block) : (modTarget n f b).freeze = b.freeze := rfl
@[simp] theorem modTarget_links (n : Nat) (f : Target → Target) (b : Block) : (modTarget n f b).links = b.links := rfl
@[simp] theorem modTarget_glb (n : Nat) (f : Target → Target) (b : Block) : (modTarget n f b).glb = b.glb := rfl
@[simp] theorem modTarget_flt (n : Nat) (f : Target → Target) (b : Block) : (modTarget n f b).flt = b.flt := rfl
@[simp] theorem modTarget_growth (n : Nat) (f : Target → Target) (b : Block) : (modTarget n f b).growth = b.growth := rfl
@[simp] theorem modTarget_prf (n : Nat) (f : Target → Target) (b : Block) : (modTarget n f b).prf = b.prf := rfl
@[simp] theorem modTarget_tim (n : Nat) (f : Target → Target) (b : Block) : (modTarget n f b).tim = b.tim := rfl
@[simp] theorem modTarget_eth (n : Nat) (f : Target → Target) (b : Block) : (modTarget n f b).eth = b.eth := rfl
@[simp] theorem modTarget_ptn (n : Nat) (f : Target → Target) (b : Block) : (modTarget n f b).ptn = b.ptn := rfl
@[simp] theorem modTarget_chn (n : Nat) (f : Target → Target) (b : Block) : (modTarget n f b).chn = b.chn := rfl
@[simp] theorem modTarget_saf (n : Nat) (f : Target → Target) (b : Block) : (modTarget n f b).saf = b.saf := rfl
@[simp] theorem modTarget_lpe (n : Nat) (f : Target → Target) (b : Block) : (modTarget n f b).lpe = b.lpe := rfl
@[simp] theorem modTarget_can (n : Nat) (f : Target → Target) (b : Block) : (modTarget n f b).can = b.can := rfl
@[simp] theorem modTarget_ser (n : Nat) (f : Target → Target) (b : Block) : (modTarget n f b).ser = b.ser := rfl
@[simp] theorem modTarget_dp (n : Nat) (f : Target → Target) (b : Block) : (modTarget n f b).dp = b.dp := rfl
@[simp] theorem modTarget_recorder (n : Nat) (f : Target → Target) (b : Block) : (modTarget n f b).recorder = b.recorder := rfl
@[simp] theorem modTarget_dsp (n : Nat) (f : Target → Target) (b : Block) : (modTarget n f b).dsp = b.dsp := rfl
@[simp] theorem modTarget_sec (n : Nat) (f : Target → Target) (b : Block) : (modTarget n f b).sec = b.sec := rfl
@[simp] theorem modTarget_fresh (n : Nat) (f : Target → Target) (b : Block) : (modTarget n f b).fresh = b.fresh := rfl
@[simp] theorem modTarget_out (n : Nat) (f : Target → Target) (b : Block) : (modTarget n f b).out = b.out := rfl
@[simp] theorem modTarget_free (n : Nat) (f : Target → Target) (b : Block) : (modTarget n f b).free = b.free := rfl

@[simp] theorem modDesc_tb (n i : Nat) (f : Desc → Desc) (b : Block) : (modDesc n i f b).tb = b.tb := rfl
@[simp] theorem modDesc_freeze (n i : Nat) (f : Desc → Desc) (b : Block) : (modDesc n i f b).freeze = b.freeze := rfl
@[simp] theorem modDesc_links (n i : Nat) (f : Desc → Desc) (b : Block) : (modDesc n i f b).links = b.links := rfl
@[simp] theorem modDesc_glb (n i : Nat) (f : Desc → Desc) (b : Block) : (modDesc n i f b).glb = b.glb := rfl
@[simp] theorem modDesc_flt (n i : Nat) (f : Desc → Desc) (b : Block) : (modDesc n i f b).flt = b.flt := rfl
@[simp] theorem modDesc_growth (n i : Nat) (f : Desc → Desc) (b : Block) : (modDesc n i f b).growth = b.growth := rfl
@[simp] theorem modDesc_prf (n i : Nat) (f : Desc → Desc) (b : Block) : (modDesc n i f b).prf = b.prf := rfl
@[simp] theorem modDesc_tim (n i : Nat) (f : Desc → Desc) (b : Block) : (modDesc n i f b).tim = b.tim := rfl
@[simp] theorem modDesc_eth (n i : Nat) (f : Desc → Desc) (b : Block) : (modDesc n i f b).eth = b.eth := rfl
@[simp] theorem modDesc_ptn (n i : Nat) (f : Desc → Desc) (b : Block) : (modDesc n i f b).ptn = b.ptn := rfl
@[simp] theorem modDesc_chn (n i : Nat) (f : Desc → Desc) (b : Block) : (modDesc n i f b).chn = b.chn := rfl
@[simp] theorem modDesc_saf (n i : Nat) (f : Desc → Desc) (b : Block) : (modDesc n i f b).saf = b.saf := rfl
@[simp] theorem modDesc_lpe (n i : Nat) (f : Desc → Desc) (b : Block) : (modDesc n i f b).lpe = b.lpe := rfl
@[simp] theorem modDesc_can (n i : Nat) (f : Desc → Desc) (b : Block) : (modDesc n i f b).can = b.can := rfl
@[simp] theorem modDesc_ser (n i : Nat) (f : Desc → Desc) (b : Block) : (modDesc n i f b).ser = b.ser := rfl
@[simp] theorem modDesc_dp (n i : Nat) (f : Desc → Desc) (b : Block) : (modDesc n i f b).dp = b.dp := rfl
@[simp] theorem modDesc_recorder (n i : Nat) (f : Desc → Desc) (b : Block) : (modDesc n i f b).recorder = b.recorder := rfl
@[simp] theorem modDesc_dsp (n i : Nat) (f : Desc → Desc) (b : Block) : (modDesc n i f b).dsp = b.dsp := rfl
@[simp] theorem modDesc_sec (n i : Nat) (f : Desc → Desc) (b : Block) : (modDesc n i f b).sec = b.sec := rfl
@[simp] theorem modDesc_fresh (n i : Nat) (f : Desc → Desc) (b : Block) : (modDesc n i f b).fresh = b.fresh := rfl
@[simp] theorem modDesc_out (n i : Nat) (f : Desc → Desc) (b : Block) : (modDesc n i f b).out = b.out := rfl
@[simp] theorem modDesc_free (n i : Nat) (f : Desc → Desc) (b : Block) : (modDesc n i f b).free = b.free := rfl

@[simp] theorem modLink_tb (n : Nat) (f : HostLink → HostLink) (b : Block) : (modLink n f b).tb = b.tb := rfl
@[simp] theorem modLink_freeze (n : Nat) (f : HostLink → HostLink) (b : Block) : (modLink n f b).freeze = b.freeze := rfl
@[simp] theorem modLink_glb (n : Nat) (f : HostLink → HostLink) (b : Block) : (modLink n f b).glb = b.glb := rfl
@[simp] theorem modLink_rng (n : Nat) (f : HostLink → HostLink) (b : Block) : (modLink n f b).rng = b.rng := rfl
@[simp] theorem modLink_flt (n : Nat) (f : HostLink → HostLink) (b : Block) : (modLink n f b).flt = b.flt := rfl
@[simp] theorem modLink_growth (n : Nat) (f : HostLink → HostLink) (b : Block) : (modLink n f b).growth = b.growth := rfl
@[simp] theorem modLink_prf (n : Nat) (f : HostLink → HostLink) (b : Block) : (modLink n f b).prf = b.prf := rfl
@[simp] theorem modLink_tim (n : Nat) (f : HostLink → HostLink) (b : Block) : (modLink n f b).tim = b.tim := rfl
@[simp] theorem modLink_eth (n : Nat) (f : HostLink → HostLink) (b : Block) : (modLink n f b).eth = b.eth := rfl
@[simp] theorem modLink_ptn (n : Nat) (f : HostLink → HostLink) (b : Block) : (modLink n f b).ptn = b.ptn := rfl
@[simp] theorem modLink_chn (n : Nat) (f : HostLink → HostLink) (b : Block) : (modLink n f b).chn = b.chn := rfl
@[simp] theorem modLink_saf (n : Nat) (f : HostLink → HostLink) (b : Block) : (modLink n f b).saf = b.saf := rfl
@[simp] theorem modLink_lpe (n : Nat) (f : HostLink → HostLink) (b : Block) : (modLink n f b).lpe = b.lpe := rfl
@[simp] theorem modLink_can (n : Nat) (f : HostLink → HostLink) (b : Block) : (modLink n f b).can = b.can := rfl
@[simp] theorem modLink_ser (n : Nat) (f : HostLink → HostLink) (b : Block) : (modLink n f b).ser = b.ser := rfl
@[simp] theorem modLink_dp (n : Nat) (f : HostLink → HostLink) (b : Block) : (modLink n f b).dp = b.dp := rfl
@[simp] theorem modLink_recorder (n : Nat) (f : HostLink → HostLink) (b : Block) : (modLink n f b).recorder = b.recorder := rfl
@[simp] theorem modLink_dsp (n : Nat) (f : HostLink → HostLink) (b : Block) : (modLink n f b).dsp = b.dsp := rfl
@[simp] theorem modLink_sec (n : Nat) (f : HostLink → HostLink) (b : Block) : (modLink n f b).sec = b.sec := rfl
@[simp] theorem modLink_fresh (n : Nat) (f : HostLink → HostLink) (b : Block) : (modLink n f b).fresh = b.fresh := rfl
@[simp] theorem modLink_out (n : Nat) (f : HostLink → HostLink) (b : Block) : (modLink n f b).out = b.out := rfl
@[simp] theorem modLink_free (n : Nat) (f : HostLink → HostLink) (b : Block) : (modLink n f b).free = b.free := rfl

@[simp] theorem modVec_tb (n i : Nat) (f : Vec → Vec) (b : Block) : (modVec n i f b).tb = b.tb := rfl
@[simp] theorem modVec_freeze (n i : Nat) (f : Vec → Vec) (b : Block) : (modVec n i f b).freeze = b.freeze := rfl
@[simp] theorem modVec_glb (n i : Nat) (f : Vec → Vec) (b : Block) : (modVec n i f b).glb = b.glb := rfl
@[simp] theorem modVec_rng (n i : Nat) (f : Vec → Vec) (b : Block) : (modVec n i f b).rng = b.rng := rfl
@[simp] theorem modVec_flt (n i : Nat) (f : Vec → Vec) (b : Block) : (modVec n i f b).flt = b.flt := rfl
@[simp] theorem modVec_growth (n i : Nat) (f : Vec → Vec) (b : Block) : (modVec n i f b).growth = b.growth := rfl
@[simp] theorem modVec_prf (n i : Nat) (f : Vec → Vec) (b : Block) : (modVec n i f b).prf = b.prf := rfl
@[simp] theorem modVec_tim (n i : Nat) (f : Vec → Vec) (b : Block) : (modVec n i f b).tim = b.tim := rfl
@[simp] theorem modVec_eth (n i : Nat) (f : Vec → Vec) (b : Block) : (modVec n i f b).eth = b.eth := rfl
@[simp] theorem modVec_ptn (n i : Nat) (f : Vec → Vec) (b : Block) : (modVec n i f b).ptn = b.ptn := rfl
@[simp] theorem modVec_chn (n i : Nat) (f : Vec → Vec) (b : Block) : (modVec n i f b).chn = b.chn := rfl
@[simp] theorem modVec_saf (n i : Nat) (f : Vec → Vec) (b : Block) : (modVec n i f b).saf = b.saf := rfl
@[simp] theorem modVec_lpe (n i : Nat) (f : Vec → Vec) (b : Block) : (modVec n i f b).lpe = b.lpe := rfl
@[simp] theorem modVec_can (n i : Nat) (f : Vec → Vec) (b : Block) : (modVec n i f b).can = b.can := rfl
@[simp] theorem modVec_ser (n i : Nat) (f : Vec → Vec) (b : Block) : (modVec n i f b).ser = b.ser := rfl
@[simp] theorem modVec_dp (n i : Nat) (f : Vec → Vec) (b : Block) : (modVec n i f b).dp = b.dp := rfl
@[simp] theorem modVec_recorder (n i : Nat) (f : Vec → Vec) (b : Block) : (modVec n i f b).recorder = b.recorder := rfl
@[simp] theorem modVec_dsp (n i : Nat) (f : Vec → Vec) (b : Block) : (modVec n i f b).dsp = b.dsp := rfl
@[simp] theorem modVec_sec (n i : Nat) (f : Vec → Vec) (b : Block) : (modVec n i f b).sec = b.sec := rfl
@[simp] theorem modVec_fresh (n i : Nat) (f : Vec → Vec) (b : Block) : (modVec n i f b).fresh = b.fresh := rfl
@[simp] theorem modVec_out (n i : Nat) (f : Vec → Vec) (b : Block) : (modVec n i f b).out = b.out := rfl
@[simp] theorem modVec_free (n i : Nat) (f : Vec → Vec) (b : Block) : (modVec n i f b).free = b.free := rfl

@[simp] theorem modCtl_tb (n : Nat) (f : CanCtl → CanCtl) (b : Block) : (modCtl n f b).tb = b.tb := rfl
@[simp] theorem modCtl_freeze (n : Nat) (f : CanCtl → CanCtl) (b : Block) : (modCtl n f b).freeze = b.freeze := rfl
@[simp] theorem modCtl_links (n : Nat) (f : CanCtl → CanCtl) (b : Block) : (modCtl n f b).links = b.links := rfl
@[simp] theorem modCtl_glb (n : Nat) (f : CanCtl → CanCtl) (b : Block) : (modCtl n f b).glb = b.glb := rfl
@[simp] theorem modCtl_rng (n : Nat) (f : CanCtl → CanCtl) (b : Block) : (modCtl n f b).rng = b.rng := rfl
@[simp] theorem modCtl_flt (n : Nat) (f : CanCtl → CanCtl) (b : Block) : (modCtl n f b).flt = b.flt := rfl
@[simp] theorem modCtl_growth (n : Nat) (f : CanCtl → CanCtl) (b : Block) : (modCtl n f b).growth = b.growth := rfl
@[simp] theorem modCtl_prf (n : Nat) (f : CanCtl → CanCtl) (b : Block) : (modCtl n f b).prf = b.prf := rfl
@[simp] theorem modCtl_tim (n : Nat) (f : CanCtl → CanCtl) (b : Block) : (modCtl n f b).tim = b.tim := rfl
@[simp] theorem modCtl_eth (n : Nat) (f : CanCtl → CanCtl) (b : Block) : (modCtl n f b).eth = b.eth := rfl
@[simp] theorem modCtl_ptn (n : Nat) (f : CanCtl → CanCtl) (b : Block) : (modCtl n f b).ptn = b.ptn := rfl
@[simp] theorem modCtl_chn (n : Nat) (f : CanCtl → CanCtl) (b : Block) : (modCtl n f b).chn = b.chn := rfl
@[simp] theorem modCtl_saf (n : Nat) (f : CanCtl → CanCtl) (b : Block) : (modCtl n f b).saf = b.saf := rfl
@[simp] theorem modCtl_lpe (n : Nat) (f : CanCtl → CanCtl) (b : Block) : (modCtl n f b).lpe = b.lpe := rfl
@[simp] theorem modCtl_ser (n : Nat) (f : CanCtl → CanCtl) (b : Block) : (modCtl n f b).ser = b.ser := rfl
@[simp] theorem modCtl_dp (n : Nat) (f : CanCtl → CanCtl) (b : Block) : (modCtl n f b).dp = b.dp := rfl
@[simp] theorem modCtl_recorder (n : Nat) (f : CanCtl → CanCtl) (b : Block) : (modCtl n f b).recorder = b.recorder := rfl
@[simp] theorem modCtl_dsp (n : Nat) (f : CanCtl → CanCtl) (b : Block) : (modCtl n f b).dsp = b.dsp := rfl
@[simp] theorem modCtl_sec (n : Nat) (f : CanCtl → CanCtl) (b : Block) : (modCtl n f b).sec = b.sec := rfl
@[simp] theorem modCtl_fresh (n : Nat) (f : CanCtl → CanCtl) (b : Block) : (modCtl n f b).fresh = b.fresh := rfl
@[simp] theorem modCtl_out (n : Nat) (f : CanCtl → CanCtl) (b : Block) : (modCtl n f b).out = b.out := rfl
@[simp] theorem modCtl_free (n : Nat) (f : CanCtl → CanCtl) (b : Block) : (modCtl n f b).free = b.free := rfl

@[simp] theorem modObj_tb (n : Nat) (f : CanObj → CanObj) (b : Block) : (modObj n f b).tb = b.tb := rfl
@[simp] theorem modObj_freeze (n : Nat) (f : CanObj → CanObj) (b : Block) : (modObj n f b).freeze = b.freeze := rfl
@[simp] theorem modObj_links (n : Nat) (f : CanObj → CanObj) (b : Block) : (modObj n f b).links = b.links := rfl
@[simp] theorem modObj_glb (n : Nat) (f : CanObj → CanObj) (b : Block) : (modObj n f b).glb = b.glb := rfl
@[simp] theorem modObj_rng (n : Nat) (f : CanObj → CanObj) (b : Block) : (modObj n f b).rng = b.rng := rfl
@[simp] theorem modObj_flt (n : Nat) (f : CanObj → CanObj) (b : Block) : (modObj n f b).flt = b.flt := rfl
@[simp] theorem modObj_growth (n : Nat) (f : CanObj → CanObj) (b : Block) : (modObj n f b).growth = b.growth := rfl
@[simp] theorem modObj_prf (n : Nat) (f : CanObj → CanObj) (b : Block) : (modObj n f b).prf = b.prf := rfl
@[simp] theorem modObj_tim (n : Nat) (f : CanObj → CanObj) (b : Block) : (modObj n f b).tim = b.tim := rfl
@[simp] theorem modObj_eth (n : Nat) (f : CanObj → CanObj) (b : Block) : (modObj n f b).eth = b.eth := rfl
@[simp] theorem modObj_ptn (n : Nat) (f : CanObj → CanObj) (b : Block) : (modObj n f b).ptn = b.ptn := rfl
@[simp] theorem modObj_chn (n : Nat) (f : CanObj → CanObj) (b : Block) : (modObj n f b).chn = b.chn := rfl
@[simp] theorem modObj_saf (n : Nat) (f : CanObj → CanObj) (b : Block) : (modObj n f b).saf = b.saf := rfl
@[simp] theorem modObj_lpe (n : Nat) (f : CanObj → CanObj) (b : Block) : (modObj n f b).lpe = b.lpe := rfl
@[simp] theorem modObj_ser (n : Nat) (f : CanObj → CanObj) (b : Block) : (modObj n f b).ser = b.ser := rfl
@[simp] theorem modObj_dp (n : Nat) (f : CanObj → CanObj) (b : Block) : (modObj n f b).dp = b.dp := rfl
@[simp] theorem modObj_recorder (n : Nat) (f : CanObj → CanObj) (b : Block) : (modObj n f b).recorder = b.recorder := rfl
@[simp] theorem modObj_dsp (n : Nat) (f : CanObj → CanObj) (b : Block) : (modObj n f b).dsp = b.dsp := rfl
@[simp] theorem modObj_sec (n : Nat) (f : CanObj → CanObj) (b : Block) : (modObj n f b).sec = b.sec := rfl
@[simp] theorem modObj_fresh (n : Nat) (f : CanObj → CanObj) (b : Block) : (modObj n f b).fresh = b.fresh := rfl
@[simp] theorem modObj_out (n : Nat) (f : CanObj → CanObj) (b : Block) : (modObj n f b).out = b.out := rfl
@[simp] theorem modObj_free (n : Nat) (f : CanObj → CanObj) (b : Block) : (modObj n f b).free = b.free := rfl

@[simp] theorem modChan_tb (n : Nat) (f : Chan → Chan) (b : Block) : (modChan n f b).tb = b.tb := rfl
@[simp] theorem modChan_freeze (n : Nat) (f : Chan → Chan) (b : Block) : (modChan n f b).freeze = b.freeze := rfl
@[simp] theorem modChan_links (n : Nat) (f : Chan → Chan) (b : Block) : (modChan n f b).links = b.links := rfl
@[simp] theorem modChan_glb (n : Nat) (f : Chan → Chan) (b : Block) : (modChan n f b).glb = b.glb := rfl
@[simp] theorem modChan_rng (n : Nat) (f : Chan → Chan) (b : Block) : (modChan n f b).rng = b.rng := rfl
@[simp] theorem modChan_flt (n : Nat) (f : Chan → Chan) (b : Block) : (modChan n f b).flt = b.flt := rfl
@[simp] theorem modChan_growth (n : Nat) (f : Chan → Chan) (b : Block) : (modChan n f b).growth = b.growth := rfl
@[simp] theorem modChan_prf (n : Nat) (f : Chan → Chan) (b : Block) : (modChan n f b).prf = b.prf := rfl
@[simp] theorem modChan_tim (n : Nat) (f : Chan → Chan) (b : Block) : (modChan n f b).tim = b.tim := rfl
@[simp] theorem modChan_eth (n : Nat) (f : Chan → Chan) (b : Block) : (modChan n f b).eth = b.eth := rfl
@[simp] theorem modChan_ptn (n : Nat) (f : Chan → Chan) (b : Block) : (modChan n f b).ptn = b.ptn := rfl
@[simp] theorem modChan_saf (n : Nat) (f : Chan → Chan) (b : Block) : (modChan n f b).saf = b.saf := rfl
@[simp] theorem modChan_lpe (n : Nat) (f : Chan → Chan) (b : Block) : (modChan n f b).lpe = b.lpe := rfl
@[simp] theorem modChan_can (n : Nat) (f : Chan → Chan) (b : Block) : (modChan n f b).can = b.can := rfl
@[simp] theorem modChan_ser (n : Nat) (f : Chan → Chan) (b : Block) : (modChan n f b).ser = b.ser := rfl
@[simp] theorem modChan_dp (n : Nat) (f : Chan → Chan) (b : Block) : (modChan n f b).dp = b.dp := rfl
@[simp] theorem modChan_recorder (n : Nat) (f : Chan → Chan) (b : Block) : (modChan n f b).recorder = b.recorder := rfl
@[simp] theorem modChan_dsp (n : Nat) (f : Chan → Chan) (b : Block) : (modChan n f b).dsp = b.dsp := rfl
@[simp] theorem modChan_sec (n : Nat) (f : Chan → Chan) (b : Block) : (modChan n f b).sec = b.sec := rfl
@[simp] theorem modChan_fresh (n : Nat) (f : Chan → Chan) (b : Block) : (modChan n f b).fresh = b.fresh := rfl
@[simp] theorem modChan_out (n : Nat) (f : Chan → Chan) (b : Block) : (modChan n f b).out = b.out := rfl
@[simp] theorem modChan_free (n : Nat) (f : Chan → Chan) (b : Block) : (modChan n f b).free = b.free := rfl

@[simp] theorem modGroup_tb (n : Nat) (f : Group → Group) (b : Block) : (modGroup n f b).tb = b.tb := rfl
@[simp] theorem modGroup_freeze (n : Nat) (f : Group → Group) (b : Block) : (modGroup n f b).freeze = b.freeze := rfl
@[simp] theorem modGroup_links (n : Nat) (f : Group → Group) (b : Block) : (modGroup n f b).links = b.links := rfl
@[simp] theorem modGroup_glb (n : Nat) (f : Group → Group) (b : Block) : (modGroup n f b).glb = b.glb := rfl
@[simp] theorem modGroup_rng (n : Nat) (f : Group → Group) (b : Block) : (modGroup n f b).rng = b.rng := rfl
@[simp] theorem modGroup_flt (n : Nat) (f : Group → Group) (b : Block) : (modGroup n f b).flt = b.flt := rfl
@[simp] theorem modGroup_growth (n : Nat) (f : Group → Group) (b : Block) : (modGroup n f b).growth = b.growth := rfl
@[simp] theorem modGroup_prf (n : Nat) (f : Group → Group) (b : Block) : (modGroup n f b).prf = b.prf := rfl
@[simp] theorem modGroup_tim (n : Nat) (f : Group → Group) (b : Block) : (modGroup n f b).tim = b.tim := rfl
@[simp] theorem modGroup_eth (n : Nat) (f : Group → Group) (b : Block) : (modGroup n f b).eth = b.eth := rfl
@[simp] theorem modGroup_ptn (n : Nat) (f : Group → Group) (b : Block) : (modGroup n f b).ptn = b.ptn := rfl
@[simp] theorem modGroup_saf (n : Nat) (f : Group → Group) (b : Block) : (modGroup n f b).saf = b.saf := rfl
@[simp] theorem modGroup_lpe (n : Nat) (f : Group → Group) (b : Block) : (modGroup n f b).lpe = b.lpe := rfl
@[simp] theorem modGroup_can (n : Nat) (f : Group → Group) (b : Block) : (modGroup n f b).can = b.can := rfl
@[simp] theorem modGroup_ser (n : Nat) (f : Group → Group) (b : Block) : (modGroup n f b).ser = b.ser := rfl
@[simp] theorem modGroup_dp (n : Nat) (f : Group → Group) (b : Block) : (modGroup n f b).dp = b.dp := rfl
@[simp] theorem modGroup_recorder (n : Nat) (f : Group → Group) (b : Block) : (modGroup n f b).recorder = b.recorder := rfl
@[simp] theorem modGroup_dsp (n : Nat) (f : Group → Group) (b : Block) : (modGroup n f b).dsp = b.dsp := rfl
@[simp] theorem modGroup_sec (n : Nat) (f : Group → Group) (b : Block) : (modGroup n f b).sec = b.sec := rfl
@[simp] theorem modGroup_fresh (n : Nat) (f : Group → Group) (b : Block) : (modGroup n f b).fresh = b.fresh := rfl
@[simp] theorem modGroup_out (n : Nat) (f : Group → Group) (b : Block) : (modGroup n f b).out = b.out := rfl
@[simp] theorem modGroup_free (n : Nat) (f : Group → Group) (b : Block) : (modGroup n f b).free = b.free := rfl

@[simp] theorem modImage_tb (n : Nat) (f : Image → Image) (b : Block) : (modImage n f b).tb = b.tb := rfl
@[simp] theorem modImage_freeze (n : Nat) (f : Image → Image) (b : Block) : (modImage n f b).freeze = b.freeze := rfl
@[simp] theorem modImage_links (n : Nat) (f : Image → Image) (b : Block) : (modImage n f b).links = b.links := rfl
@[simp] theorem modImage_glb (n : Nat) (f : Image → Image) (b : Block) : (modImage n f b).glb = b.glb := rfl
@[simp] theorem modImage_rng (n : Nat) (f : Image → Image) (b : Block) : (modImage n f b).rng = b.rng := rfl
@[simp] theorem modImage_flt (n : Nat) (f : Image → Image) (b : Block) : (modImage n f b).flt = b.flt := rfl
@[simp] theorem modImage_growth (n : Nat) (f : Image → Image) (b : Block) : (modImage n f b).growth = b.growth := rfl
@[simp] theorem modImage_prf (n : Nat) (f : Image → Image) (b : Block) : (modImage n f b).prf = b.prf := rfl
@[simp] theorem modImage_tim (n : Nat) (f : Image → Image) (b : Block) : (modImage n f b).tim = b.tim := rfl
@[simp] theorem modImage_eth (n : Nat) (f : Image → Image) (b : Block) : (modImage n f b).eth = b.eth := rfl
@[simp] theorem modImage_ptn (n : Nat) (f : Image → Image) (b : Block) : (modImage n f b).ptn = b.ptn := rfl
@[simp] theorem modImage_saf (n : Nat) (f : Image → Image) (b : Block) : (modImage n f b).saf = b.saf := rfl
@[simp] theorem modImage_lpe (n : Nat) (f : Image → Image) (b : Block) : (modImage n f b).lpe = b.lpe := rfl
@[simp] theorem modImage_can (n : Nat) (f : Image → Image) (b : Block) : (modImage n f b).can = b.can := rfl
@[simp] theorem modImage_ser (n : Nat) (f : Image → Image) (b : Block) : (modImage n f b).ser = b.ser := rfl
@[simp] theorem modImage_dp (n : Nat) (f : Image → Image) (b : Block) : (modImage n f b).dp = b.dp := rfl
@[simp] theorem modImage_recorder (n : Nat) (f : Image → Image) (b : Block) : (modImage n f b).recorder = b.recorder := rfl
@[simp] theorem modImage_dsp (n : Nat) (f : Image → Image) (b : Block) : (modImage n f b).dsp = b.dsp := rfl
@[simp] theorem modImage_sec (n : Nat) (f : Image → Image) (b : Block) : (modImage n f b).sec = b.sec := rfl
@[simp] theorem modImage_fresh (n : Nat) (f : Image → Image) (b : Block) : (modImage n f b).fresh = b.fresh := rfl
@[simp] theorem modImage_out (n : Nat) (f : Image → Image) (b : Block) : (modImage n f b).out = b.out := rfl
@[simp] theorem modImage_free (n : Nat) (f : Image → Image) (b : Block) : (modImage n f b).free = b.free := rfl

@[simp] theorem modHart_tb (n : Nat) (f : Hart → Hart) (b : Block) : (modHart n f b).tb = b.tb := rfl
@[simp] theorem modHart_freeze (n : Nat) (f : Hart → Hart) (b : Block) : (modHart n f b).freeze = b.freeze := rfl
@[simp] theorem modHart_links (n : Nat) (f : Hart → Hart) (b : Block) : (modHart n f b).links = b.links := rfl
@[simp] theorem modHart_glb (n : Nat) (f : Hart → Hart) (b : Block) : (modHart n f b).glb = b.glb := rfl
@[simp] theorem modHart_rng (n : Nat) (f : Hart → Hart) (b : Block) : (modHart n f b).rng = b.rng := rfl
@[simp] theorem modHart_flt (n : Nat) (f : Hart → Hart) (b : Block) : (modHart n f b).flt = b.flt := rfl
@[simp] theorem modHart_growth (n : Nat) (f : Hart → Hart) (b : Block) : (modHart n f b).growth = b.growth := rfl
@[simp] theorem modHart_prf (n : Nat) (f : Hart → Hart) (b : Block) : (modHart n f b).prf = b.prf := rfl
@[simp] theorem modHart_tim (n : Nat) (f : Hart → Hart) (b : Block) : (modHart n f b).tim = b.tim := rfl
@[simp] theorem modHart_eth (n : Nat) (f : Hart → Hart) (b : Block) : (modHart n f b).eth = b.eth := rfl
@[simp] theorem modHart_ptn (n : Nat) (f : Hart → Hart) (b : Block) : (modHart n f b).ptn = b.ptn := rfl
@[simp] theorem modHart_saf (n : Nat) (f : Hart → Hart) (b : Block) : (modHart n f b).saf = b.saf := rfl
@[simp] theorem modHart_lpe (n : Nat) (f : Hart → Hart) (b : Block) : (modHart n f b).lpe = b.lpe := rfl
@[simp] theorem modHart_can (n : Nat) (f : Hart → Hart) (b : Block) : (modHart n f b).can = b.can := rfl
@[simp] theorem modHart_ser (n : Nat) (f : Hart → Hart) (b : Block) : (modHart n f b).ser = b.ser := rfl
@[simp] theorem modHart_dp (n : Nat) (f : Hart → Hart) (b : Block) : (modHart n f b).dp = b.dp := rfl
@[simp] theorem modHart_recorder (n : Nat) (f : Hart → Hart) (b : Block) : (modHart n f b).recorder = b.recorder := rfl
@[simp] theorem modHart_dsp (n : Nat) (f : Hart → Hart) (b : Block) : (modHart n f b).dsp = b.dsp := rfl
@[simp] theorem modHart_sec (n : Nat) (f : Hart → Hart) (b : Block) : (modHart n f b).sec = b.sec := rfl
@[simp] theorem modHart_fresh (n : Nat) (f : Hart → Hart) (b : Block) : (modHart n f b).fresh = b.fresh := rfl
@[simp] theorem modHart_out (n : Nat) (f : Hart → Hart) (b : Block) : (modHart n f b).out = b.out := rfl
@[simp] theorem modHart_free (n : Nat) (f : Hart → Hart) (b : Block) : (modHart n f b).free = b.free := rfl

@[simp] theorem modCycle_tb (f : DpCycle → DpCycle) (b : Block) : (modCycle f b).tb = b.tb := rfl
@[simp] theorem modCycle_freeze (f : DpCycle → DpCycle) (b : Block) : (modCycle f b).freeze = b.freeze := rfl
@[simp] theorem modCycle_links (f : DpCycle → DpCycle) (b : Block) : (modCycle f b).links = b.links := rfl
@[simp] theorem modCycle_glb (f : DpCycle → DpCycle) (b : Block) : (modCycle f b).glb = b.glb := rfl
@[simp] theorem modCycle_rng (f : DpCycle → DpCycle) (b : Block) : (modCycle f b).rng = b.rng := rfl
@[simp] theorem modCycle_flt (f : DpCycle → DpCycle) (b : Block) : (modCycle f b).flt = b.flt := rfl
@[simp] theorem modCycle_growth (f : DpCycle → DpCycle) (b : Block) : (modCycle f b).growth = b.growth := rfl
@[simp] theorem modCycle_prf (f : DpCycle → DpCycle) (b : Block) : (modCycle f b).prf = b.prf := rfl
@[simp] theorem modCycle_tim (f : DpCycle → DpCycle) (b : Block) : (modCycle f b).tim = b.tim := rfl
@[simp] theorem modCycle_eth (f : DpCycle → DpCycle) (b : Block) : (modCycle f b).eth = b.eth := rfl
@[simp] theorem modCycle_ptn (f : DpCycle → DpCycle) (b : Block) : (modCycle f b).ptn = b.ptn := rfl
@[simp] theorem modCycle_chn (f : DpCycle → DpCycle) (b : Block) : (modCycle f b).chn = b.chn := rfl
@[simp] theorem modCycle_saf (f : DpCycle → DpCycle) (b : Block) : (modCycle f b).saf = b.saf := rfl
@[simp] theorem modCycle_lpe (f : DpCycle → DpCycle) (b : Block) : (modCycle f b).lpe = b.lpe := rfl
@[simp] theorem modCycle_can (f : DpCycle → DpCycle) (b : Block) : (modCycle f b).can = b.can := rfl
@[simp] theorem modCycle_ser (f : DpCycle → DpCycle) (b : Block) : (modCycle f b).ser = b.ser := rfl
@[simp] theorem modCycle_recorder (f : DpCycle → DpCycle) (b : Block) : (modCycle f b).recorder = b.recorder := rfl
@[simp] theorem modCycle_dsp (f : DpCycle → DpCycle) (b : Block) : (modCycle f b).dsp = b.dsp := rfl
@[simp] theorem modCycle_sec (f : DpCycle → DpCycle) (b : Block) : (modCycle f b).sec = b.sec := rfl
@[simp] theorem modCycle_fresh (f : DpCycle → DpCycle) (b : Block) : (modCycle f b).fresh = b.fresh := rfl
@[simp] theorem modCycle_out (f : DpCycle → DpCycle) (b : Block) : (modCycle f b).out = b.out := rfl
@[simp] theorem modCycle_free (f : DpCycle → DpCycle) (b : Block) : (modCycle f b).free = b.free := rfl

@[simp] theorem modDpSlot_tb (n : Nat) (f : DpSlot → DpSlot) (b : Block) : (modDpSlot n f b).tb = b.tb := rfl
@[simp] theorem modDpSlot_freeze (n : Nat) (f : DpSlot → DpSlot) (b : Block) : (modDpSlot n f b).freeze = b.freeze := rfl
@[simp] theorem modDpSlot_links (n : Nat) (f : DpSlot → DpSlot) (b : Block) : (modDpSlot n f b).links = b.links := rfl
@[simp] theorem modDpSlot_glb (n : Nat) (f : DpSlot → DpSlot) (b : Block) : (modDpSlot n f b).glb = b.glb := rfl
@[simp] theorem modDpSlot_rng (n : Nat) (f : DpSlot → DpSlot) (b : Block) : (modDpSlot n f b).rng = b.rng := rfl
@[simp] theorem modDpSlot_flt (n : Nat) (f : DpSlot → DpSlot) (b : Block) : (modDpSlot n f b).flt = b.flt := rfl
@[simp] theorem modDpSlot_growth (n : Nat) (f : DpSlot → DpSlot) (b : Block) : (modDpSlot n f b).growth = b.growth := rfl
@[simp] theorem modDpSlot_prf (n : Nat) (f : DpSlot → DpSlot) (b : Block) : (modDpSlot n f b).prf = b.prf := rfl
@[simp] theorem modDpSlot_tim (n : Nat) (f : DpSlot → DpSlot) (b : Block) : (modDpSlot n f b).tim = b.tim := rfl
@[simp] theorem modDpSlot_eth (n : Nat) (f : DpSlot → DpSlot) (b : Block) : (modDpSlot n f b).eth = b.eth := rfl
@[simp] theorem modDpSlot_ptn (n : Nat) (f : DpSlot → DpSlot) (b : Block) : (modDpSlot n f b).ptn = b.ptn := rfl
@[simp] theorem modDpSlot_chn (n : Nat) (f : DpSlot → DpSlot) (b : Block) : (modDpSlot n f b).chn = b.chn := rfl
@[simp] theorem modDpSlot_saf (n : Nat) (f : DpSlot → DpSlot) (b : Block) : (modDpSlot n f b).saf = b.saf := rfl
@[simp] theorem modDpSlot_lpe (n : Nat) (f : DpSlot → DpSlot) (b : Block) : (modDpSlot n f b).lpe = b.lpe := rfl
@[simp] theorem modDpSlot_can (n : Nat) (f : DpSlot → DpSlot) (b : Block) : (modDpSlot n f b).can = b.can := rfl
@[simp] theorem modDpSlot_ser (n : Nat) (f : DpSlot → DpSlot) (b : Block) : (modDpSlot n f b).ser = b.ser := rfl
@[simp] theorem modDpSlot_recorder (n : Nat) (f : DpSlot → DpSlot) (b : Block) : (modDpSlot n f b).recorder = b.recorder := rfl
@[simp] theorem modDpSlot_dsp (n : Nat) (f : DpSlot → DpSlot) (b : Block) : (modDpSlot n f b).dsp = b.dsp := rfl
@[simp] theorem modDpSlot_sec (n : Nat) (f : DpSlot → DpSlot) (b : Block) : (modDpSlot n f b).sec = b.sec := rfl
@[simp] theorem modDpSlot_fresh (n : Nat) (f : DpSlot → DpSlot) (b : Block) : (modDpSlot n f b).fresh = b.fresh := rfl
@[simp] theorem modDpSlot_out (n : Nat) (f : DpSlot → DpSlot) (b : Block) : (modDpSlot n f b).out = b.out := rfl
@[simp] theorem modDpSlot_free (n : Nat) (f : DpSlot → DpSlot) (b : Block) : (modDpSlot n f b).free = b.free := rfl

@[simp] theorem modThr_tb (n : Nat) (f : DpThr → DpThr) (b : Block) : (modThr n f b).tb = b.tb := rfl
@[simp] theorem modThr_freeze (n : Nat) (f : DpThr → DpThr) (b : Block) : (modThr n f b).freeze = b.freeze := rfl
@[simp] theorem modThr_links (n : Nat) (f : DpThr → DpThr) (b : Block) : (modThr n f b).links = b.links := rfl
@[simp] theorem modThr_glb (n : Nat) (f : DpThr → DpThr) (b : Block) : (modThr n f b).glb = b.glb := rfl
@[simp] theorem modThr_rng (n : Nat) (f : DpThr → DpThr) (b : Block) : (modThr n f b).rng = b.rng := rfl
@[simp] theorem modThr_flt (n : Nat) (f : DpThr → DpThr) (b : Block) : (modThr n f b).flt = b.flt := rfl
@[simp] theorem modThr_growth (n : Nat) (f : DpThr → DpThr) (b : Block) : (modThr n f b).growth = b.growth := rfl
@[simp] theorem modThr_prf (n : Nat) (f : DpThr → DpThr) (b : Block) : (modThr n f b).prf = b.prf := rfl
@[simp] theorem modThr_tim (n : Nat) (f : DpThr → DpThr) (b : Block) : (modThr n f b).tim = b.tim := rfl
@[simp] theorem modThr_eth (n : Nat) (f : DpThr → DpThr) (b : Block) : (modThr n f b).eth = b.eth := rfl
@[simp] theorem modThr_ptn (n : Nat) (f : DpThr → DpThr) (b : Block) : (modThr n f b).ptn = b.ptn := rfl
@[simp] theorem modThr_chn (n : Nat) (f : DpThr → DpThr) (b : Block) : (modThr n f b).chn = b.chn := rfl
@[simp] theorem modThr_saf (n : Nat) (f : DpThr → DpThr) (b : Block) : (modThr n f b).saf = b.saf := rfl
@[simp] theorem modThr_lpe (n : Nat) (f : DpThr → DpThr) (b : Block) : (modThr n f b).lpe = b.lpe := rfl
@[simp] theorem modThr_can (n : Nat) (f : DpThr → DpThr) (b : Block) : (modThr n f b).can = b.can := rfl
@[simp] theorem modThr_ser (n : Nat) (f : DpThr → DpThr) (b : Block) : (modThr n f b).ser = b.ser := rfl
@[simp] theorem modThr_recorder (n : Nat) (f : DpThr → DpThr) (b : Block) : (modThr n f b).recorder = b.recorder := rfl
@[simp] theorem modThr_dsp (n : Nat) (f : DpThr → DpThr) (b : Block) : (modThr n f b).dsp = b.dsp := rfl
@[simp] theorem modThr_sec (n : Nat) (f : DpThr → DpThr) (b : Block) : (modThr n f b).sec = b.sec := rfl
@[simp] theorem modThr_fresh (n : Nat) (f : DpThr → DpThr) (b : Block) : (modThr n f b).fresh = b.fresh := rfl
@[simp] theorem modThr_out (n : Nat) (f : DpThr → DpThr) (b : Block) : (modThr n f b).out = b.out := rfl
@[simp] theorem modThr_free (n : Nat) (f : DpThr → DpThr) (b : Block) : (modThr n f b).free = b.free := rfl

@[simp] theorem modGrp_tb (n : Nat) (f : DpResult → DpResult) (b : Block) : (modGrp n f b).tb = b.tb := rfl
@[simp] theorem modGrp_freeze (n : Nat) (f : DpResult → DpResult) (b : Block) : (modGrp n f b).freeze = b.freeze := rfl
@[simp] theorem modGrp_links (n : Nat) (f : DpResult → DpResult) (b : Block) : (modGrp n f b).links = b.links := rfl
@[simp] theorem modGrp_glb (n : Nat) (f : DpResult → DpResult) (b : Block) : (modGrp n f b).glb = b.glb := rfl
@[simp] theorem modGrp_rng (n : Nat) (f : DpResult → DpResult) (b : Block) : (modGrp n f b).rng = b.rng := rfl
@[simp] theorem modGrp_flt (n : Nat) (f : DpResult → DpResult) (b : Block) : (modGrp n f b).flt = b.flt := rfl
@[simp] theorem modGrp_growth (n : Nat) (f : DpResult → DpResult) (b : Block) : (modGrp n f b).growth = b.growth := rfl
@[simp] theorem modGrp_prf (n : Nat) (f : DpResult → DpResult) (b : Block) : (modGrp n f b).prf = b.prf := rfl
@[simp] theorem modGrp_tim (n : Nat) (f : DpResult → DpResult) (b : Block) : (modGrp n f b).tim = b.tim := rfl
@[simp] theorem modGrp_eth (n : Nat) (f : DpResult → DpResult) (b : Block) : (modGrp n f b).eth = b.eth := rfl
@[simp] theorem modGrp_ptn (n : Nat) (f : DpResult → DpResult) (b : Block) : (modGrp n f b).ptn = b.ptn := rfl
@[simp] theorem modGrp_chn (n : Nat) (f : DpResult → DpResult) (b : Block) : (modGrp n f b).chn = b.chn := rfl
@[simp] theorem modGrp_saf (n : Nat) (f : DpResult → DpResult) (b : Block) : (modGrp n f b).saf = b.saf := rfl
@[simp] theorem modGrp_lpe (n : Nat) (f : DpResult → DpResult) (b : Block) : (modGrp n f b).lpe = b.lpe := rfl
@[simp] theorem modGrp_can (n : Nat) (f : DpResult → DpResult) (b : Block) : (modGrp n f b).can = b.can := rfl
@[simp] theorem modGrp_ser (n : Nat) (f : DpResult → DpResult) (b : Block) : (modGrp n f b).ser = b.ser := rfl
@[simp] theorem modGrp_recorder (n : Nat) (f : DpResult → DpResult) (b : Block) : (modGrp n f b).recorder = b.recorder := rfl
@[simp] theorem modGrp_dsp (n : Nat) (f : DpResult → DpResult) (b : Block) : (modGrp n f b).dsp = b.dsp := rfl
@[simp] theorem modGrp_sec (n : Nat) (f : DpResult → DpResult) (b : Block) : (modGrp n f b).sec = b.sec := rfl
@[simp] theorem modGrp_fresh (n : Nat) (f : DpResult → DpResult) (b : Block) : (modGrp n f b).fresh = b.fresh := rfl
@[simp] theorem modGrp_out (n : Nat) (f : DpResult → DpResult) (b : Block) : (modGrp n f b).out = b.out := rfl
@[simp] theorem modGrp_free (n : Nat) (f : DpResult → DpResult) (b : Block) : (modGrp n f b).free = b.free := rfl

@[simp] theorem modNet_tb (n : Nat) (f : Net → Net) (b : Block) : (modNet n f b).tb = b.tb := rfl
@[simp] theorem modNet_freeze (n : Nat) (f : Net → Net) (b : Block) : (modNet n f b).freeze = b.freeze := rfl
@[simp] theorem modNet_links (n : Nat) (f : Net → Net) (b : Block) : (modNet n f b).links = b.links := rfl
@[simp] theorem modNet_glb (n : Nat) (f : Net → Net) (b : Block) : (modNet n f b).glb = b.glb := rfl
@[simp] theorem modNet_rng (n : Nat) (f : Net → Net) (b : Block) : (modNet n f b).rng = b.rng := rfl
@[simp] theorem modNet_flt (n : Nat) (f : Net → Net) (b : Block) : (modNet n f b).flt = b.flt := rfl
@[simp] theorem modNet_growth (n : Nat) (f : Net → Net) (b : Block) : (modNet n f b).growth = b.growth := rfl
@[simp] theorem modNet_prf (n : Nat) (f : Net → Net) (b : Block) : (modNet n f b).prf = b.prf := rfl
@[simp] theorem modNet_tim (n : Nat) (f : Net → Net) (b : Block) : (modNet n f b).tim = b.tim := rfl
@[simp] theorem modNet_ptn (n : Nat) (f : Net → Net) (b : Block) : (modNet n f b).ptn = b.ptn := rfl
@[simp] theorem modNet_chn (n : Nat) (f : Net → Net) (b : Block) : (modNet n f b).chn = b.chn := rfl
@[simp] theorem modNet_saf (n : Nat) (f : Net → Net) (b : Block) : (modNet n f b).saf = b.saf := rfl
@[simp] theorem modNet_lpe (n : Nat) (f : Net → Net) (b : Block) : (modNet n f b).lpe = b.lpe := rfl
@[simp] theorem modNet_can (n : Nat) (f : Net → Net) (b : Block) : (modNet n f b).can = b.can := rfl
@[simp] theorem modNet_ser (n : Nat) (f : Net → Net) (b : Block) : (modNet n f b).ser = b.ser := rfl
@[simp] theorem modNet_dp (n : Nat) (f : Net → Net) (b : Block) : (modNet n f b).dp = b.dp := rfl
@[simp] theorem modNet_recorder (n : Nat) (f : Net → Net) (b : Block) : (modNet n f b).recorder = b.recorder := rfl
@[simp] theorem modNet_dsp (n : Nat) (f : Net → Net) (b : Block) : (modNet n f b).dsp = b.dsp := rfl
@[simp] theorem modNet_sec (n : Nat) (f : Net → Net) (b : Block) : (modNet n f b).sec = b.sec := rfl
@[simp] theorem modNet_fresh (n : Nat) (f : Net → Net) (b : Block) : (modNet n f b).fresh = b.fresh := rfl
@[simp] theorem modNet_out (n : Nat) (f : Net → Net) (b : Block) : (modNet n f b).out = b.out := rfl
@[simp] theorem modNet_free (n : Nat) (f : Net → Net) (b : Block) : (modNet n f b).free = b.free := rfl

@[simp] theorem modStream_tb (n : Nat) (f : Stream → Stream) (b : Block) : (modStream n f b).tb = b.tb := rfl
@[simp] theorem modStream_freeze (n : Nat) (f : Stream → Stream) (b : Block) : (modStream n f b).freeze = b.freeze := rfl
@[simp] theorem modStream_links (n : Nat) (f : Stream → Stream) (b : Block) : (modStream n f b).links = b.links := rfl
@[simp] theorem modStream_glb (n : Nat) (f : Stream → Stream) (b : Block) : (modStream n f b).glb = b.glb := rfl
@[simp] theorem modStream_rng (n : Nat) (f : Stream → Stream) (b : Block) : (modStream n f b).rng = b.rng := rfl
@[simp] theorem modStream_flt (n : Nat) (f : Stream → Stream) (b : Block) : (modStream n f b).flt = b.flt := rfl
@[simp] theorem modStream_growth (n : Nat) (f : Stream → Stream) (b : Block) : (modStream n f b).growth = b.growth := rfl
@[simp] theorem modStream_prf (n : Nat) (f : Stream → Stream) (b : Block) : (modStream n f b).prf = b.prf := rfl
@[simp] theorem modStream_tim (n : Nat) (f : Stream → Stream) (b : Block) : (modStream n f b).tim = b.tim := rfl
@[simp] theorem modStream_ptn (n : Nat) (f : Stream → Stream) (b : Block) : (modStream n f b).ptn = b.ptn := rfl
@[simp] theorem modStream_chn (n : Nat) (f : Stream → Stream) (b : Block) : (modStream n f b).chn = b.chn := rfl
@[simp] theorem modStream_saf (n : Nat) (f : Stream → Stream) (b : Block) : (modStream n f b).saf = b.saf := rfl
@[simp] theorem modStream_lpe (n : Nat) (f : Stream → Stream) (b : Block) : (modStream n f b).lpe = b.lpe := rfl
@[simp] theorem modStream_can (n : Nat) (f : Stream → Stream) (b : Block) : (modStream n f b).can = b.can := rfl
@[simp] theorem modStream_ser (n : Nat) (f : Stream → Stream) (b : Block) : (modStream n f b).ser = b.ser := rfl
@[simp] theorem modStream_dp (n : Nat) (f : Stream → Stream) (b : Block) : (modStream n f b).dp = b.dp := rfl
@[simp] theorem modStream_recorder (n : Nat) (f : Stream → Stream) (b : Block) : (modStream n f b).recorder = b.recorder := rfl
@[simp] theorem modStream_dsp (n : Nat) (f : Stream → Stream) (b : Block) : (modStream n f b).dsp = b.dsp := rfl
@[simp] theorem modStream_sec (n : Nat) (f : Stream → Stream) (b : Block) : (modStream n f b).sec = b.sec := rfl
@[simp] theorem modStream_fresh (n : Nat) (f : Stream → Stream) (b : Block) : (modStream n f b).fresh = b.fresh := rfl
@[simp] theorem modStream_out (n : Nat) (f : Stream → Stream) (b : Block) : (modStream n f b).out = b.out := rfl
@[simp] theorem modStream_free (n : Nat) (f : Stream → Stream) (b : Block) : (modStream n f b).free = b.free := rfl

@[simp] theorem modTd_tb (n : Nat) (f : Datagram → Datagram) (b : Block) : (modTd n f b).tb = b.tb := rfl
@[simp] theorem modTd_freeze (n : Nat) (f : Datagram → Datagram) (b : Block) : (modTd n f b).freeze = b.freeze := rfl
@[simp] theorem modTd_links (n : Nat) (f : Datagram → Datagram) (b : Block) : (modTd n f b).links = b.links := rfl
@[simp] theorem modTd_glb (n : Nat) (f : Datagram → Datagram) (b : Block) : (modTd n f b).glb = b.glb := rfl
@[simp] theorem modTd_rng (n : Nat) (f : Datagram → Datagram) (b : Block) : (modTd n f b).rng = b.rng := rfl
@[simp] theorem modTd_flt (n : Nat) (f : Datagram → Datagram) (b : Block) : (modTd n f b).flt = b.flt := rfl
@[simp] theorem modTd_growth (n : Nat) (f : Datagram → Datagram) (b : Block) : (modTd n f b).growth = b.growth := rfl
@[simp] theorem modTd_prf (n : Nat) (f : Datagram → Datagram) (b : Block) : (modTd n f b).prf = b.prf := rfl
@[simp] theorem modTd_tim (n : Nat) (f : Datagram → Datagram) (b : Block) : (modTd n f b).tim = b.tim := rfl
@[simp] theorem modTd_ptn (n : Nat) (f : Datagram → Datagram) (b : Block) : (modTd n f b).ptn = b.ptn := rfl
@[simp] theorem modTd_chn (n : Nat) (f : Datagram → Datagram) (b : Block) : (modTd n f b).chn = b.chn := rfl
@[simp] theorem modTd_saf (n : Nat) (f : Datagram → Datagram) (b : Block) : (modTd n f b).saf = b.saf := rfl
@[simp] theorem modTd_lpe (n : Nat) (f : Datagram → Datagram) (b : Block) : (modTd n f b).lpe = b.lpe := rfl
@[simp] theorem modTd_can (n : Nat) (f : Datagram → Datagram) (b : Block) : (modTd n f b).can = b.can := rfl
@[simp] theorem modTd_ser (n : Nat) (f : Datagram → Datagram) (b : Block) : (modTd n f b).ser = b.ser := rfl
@[simp] theorem modTd_dp (n : Nat) (f : Datagram → Datagram) (b : Block) : (modTd n f b).dp = b.dp := rfl
@[simp] theorem modTd_recorder (n : Nat) (f : Datagram → Datagram) (b : Block) : (modTd n f b).recorder = b.recorder := rfl
@[simp] theorem modTd_dsp (n : Nat) (f : Datagram → Datagram) (b : Block) : (modTd n f b).dsp = b.dsp := rfl
@[simp] theorem modTd_sec (n : Nat) (f : Datagram → Datagram) (b : Block) : (modTd n f b).sec = b.sec := rfl
@[simp] theorem modTd_fresh (n : Nat) (f : Datagram → Datagram) (b : Block) : (modTd n f b).fresh = b.fresh := rfl
@[simp] theorem modTd_out (n : Nat) (f : Datagram → Datagram) (b : Block) : (modTd n f b).out = b.out := rfl
@[simp] theorem modTd_free (n : Nat) (f : Datagram → Datagram) (b : Block) : (modTd n f b).free = b.free := rfl

@[simp] theorem modSite_tb (n : Nat) (f : Site → Site) (b : Block) : (modSite n f b).tb = b.tb := rfl
@[simp] theorem modSite_freeze (n : Nat) (f : Site → Site) (b : Block) : (modSite n f b).freeze = b.freeze := rfl
@[simp] theorem modSite_links (n : Nat) (f : Site → Site) (b : Block) : (modSite n f b).links = b.links := rfl
@[simp] theorem modSite_glb (n : Nat) (f : Site → Site) (b : Block) : (modSite n f b).glb = b.glb := rfl
@[simp] theorem modSite_rng (n : Nat) (f : Site → Site) (b : Block) : (modSite n f b).rng = b.rng := rfl
@[simp] theorem modSite_flt (n : Nat) (f : Site → Site) (b : Block) : (modSite n f b).flt = b.flt := rfl
@[simp] theorem modSite_prf (n : Nat) (f : Site → Site) (b : Block) : (modSite n f b).prf = b.prf := rfl
@[simp] theorem modSite_tim (n : Nat) (f : Site → Site) (b : Block) : (modSite n f b).tim = b.tim := rfl
@[simp] theorem modSite_eth (n : Nat) (f : Site → Site) (b : Block) : (modSite n f b).eth = b.eth := rfl
@[simp] theorem modSite_ptn (n : Nat) (f : Site → Site) (b : Block) : (modSite n f b).ptn = b.ptn := rfl
@[simp] theorem modSite_chn (n : Nat) (f : Site → Site) (b : Block) : (modSite n f b).chn = b.chn := rfl
@[simp] theorem modSite_saf (n : Nat) (f : Site → Site) (b : Block) : (modSite n f b).saf = b.saf := rfl
@[simp] theorem modSite_lpe (n : Nat) (f : Site → Site) (b : Block) : (modSite n f b).lpe = b.lpe := rfl
@[simp] theorem modSite_can (n : Nat) (f : Site → Site) (b : Block) : (modSite n f b).can = b.can := rfl
@[simp] theorem modSite_ser (n : Nat) (f : Site → Site) (b : Block) : (modSite n f b).ser = b.ser := rfl
@[simp] theorem modSite_dp (n : Nat) (f : Site → Site) (b : Block) : (modSite n f b).dp = b.dp := rfl
@[simp] theorem modSite_recorder (n : Nat) (f : Site → Site) (b : Block) : (modSite n f b).recorder = b.recorder := rfl
@[simp] theorem modSite_dsp (n : Nat) (f : Site → Site) (b : Block) : (modSite n f b).dsp = b.dsp := rfl
@[simp] theorem modSite_sec (n : Nat) (f : Site → Site) (b : Block) : (modSite n f b).sec = b.sec := rfl
@[simp] theorem modSite_fresh (n : Nat) (f : Site → Site) (b : Block) : (modSite n f b).fresh = b.fresh := rfl
@[simp] theorem modSite_out (n : Nat) (f : Site → Site) (b : Block) : (modSite n f b).out = b.out := rfl
@[simp] theorem modSite_free (n : Nat) (f : Site → Site) (b : Block) : (modSite n f b).free = b.free := rfl

@[simp] theorem modCtx_tb (n : Nat) (f : LpeCtx → LpeCtx) (b : Block) : (modCtx n f b).tb = b.tb := rfl
@[simp] theorem modCtx_freeze (n : Nat) (f : LpeCtx → LpeCtx) (b : Block) : (modCtx n f b).freeze = b.freeze := rfl
@[simp] theorem modCtx_links (n : Nat) (f : LpeCtx → LpeCtx) (b : Block) : (modCtx n f b).links = b.links := rfl
@[simp] theorem modCtx_glb (n : Nat) (f : LpeCtx → LpeCtx) (b : Block) : (modCtx n f b).glb = b.glb := rfl
@[simp] theorem modCtx_rng (n : Nat) (f : LpeCtx → LpeCtx) (b : Block) : (modCtx n f b).rng = b.rng := rfl
@[simp] theorem modCtx_flt (n : Nat) (f : LpeCtx → LpeCtx) (b : Block) : (modCtx n f b).flt = b.flt := rfl
@[simp] theorem modCtx_growth (n : Nat) (f : LpeCtx → LpeCtx) (b : Block) : (modCtx n f b).growth = b.growth := rfl
@[simp] theorem modCtx_prf (n : Nat) (f : LpeCtx → LpeCtx) (b : Block) : (modCtx n f b).prf = b.prf := rfl
@[simp] theorem modCtx_tim (n : Nat) (f : LpeCtx → LpeCtx) (b : Block) : (modCtx n f b).tim = b.tim := rfl
@[simp] theorem modCtx_eth (n : Nat) (f : LpeCtx → LpeCtx) (b : Block) : (modCtx n f b).eth = b.eth := rfl
@[simp] theorem modCtx_ptn (n : Nat) (f : LpeCtx → LpeCtx) (b : Block) : (modCtx n f b).ptn = b.ptn := rfl
@[simp] theorem modCtx_chn (n : Nat) (f : LpeCtx → LpeCtx) (b : Block) : (modCtx n f b).chn = b.chn := rfl
@[simp] theorem modCtx_saf (n : Nat) (f : LpeCtx → LpeCtx) (b : Block) : (modCtx n f b).saf = b.saf := rfl
@[simp] theorem modCtx_can (n : Nat) (f : LpeCtx → LpeCtx) (b : Block) : (modCtx n f b).can = b.can := rfl
@[simp] theorem modCtx_ser (n : Nat) (f : LpeCtx → LpeCtx) (b : Block) : (modCtx n f b).ser = b.ser := rfl
@[simp] theorem modCtx_dp (n : Nat) (f : LpeCtx → LpeCtx) (b : Block) : (modCtx n f b).dp = b.dp := rfl
@[simp] theorem modCtx_recorder (n : Nat) (f : LpeCtx → LpeCtx) (b : Block) : (modCtx n f b).recorder = b.recorder := rfl
@[simp] theorem modCtx_dsp (n : Nat) (f : LpeCtx → LpeCtx) (b : Block) : (modCtx n f b).dsp = b.dsp := rfl
@[simp] theorem modCtx_sec (n : Nat) (f : LpeCtx → LpeCtx) (b : Block) : (modCtx n f b).sec = b.sec := rfl
@[simp] theorem modCtx_fresh (n : Nat) (f : LpeCtx → LpeCtx) (b : Block) : (modCtx n f b).fresh = b.fresh := rfl
@[simp] theorem modCtx_out (n : Nat) (f : LpeCtx → LpeCtx) (b : Block) : (modCtx n f b).out = b.out := rfl
@[simp] theorem modCtx_free (n : Nat) (f : LpeCtx → LpeCtx) (b : Block) : (modCtx n f b).free = b.free := rfl

@[simp] theorem modSlot_tb (n : Nat) (f : TuneSlot → TuneSlot) (b : Block) : (modSlot n f b).tb = b.tb := rfl
@[simp] theorem modSlot_freeze (n : Nat) (f : TuneSlot → TuneSlot) (b : Block) : (modSlot n f b).freeze = b.freeze := rfl
@[simp] theorem modSlot_links (n : Nat) (f : TuneSlot → TuneSlot) (b : Block) : (modSlot n f b).links = b.links := rfl
@[simp] theorem modSlot_glb (n : Nat) (f : TuneSlot → TuneSlot) (b : Block) : (modSlot n f b).glb = b.glb := rfl
@[simp] theorem modSlot_rng (n : Nat) (f : TuneSlot → TuneSlot) (b : Block) : (modSlot n f b).rng = b.rng := rfl
@[simp] theorem modSlot_flt (n : Nat) (f : TuneSlot → TuneSlot) (b : Block) : (modSlot n f b).flt = b.flt := rfl
@[simp] theorem modSlot_growth (n : Nat) (f : TuneSlot → TuneSlot) (b : Block) : (modSlot n f b).growth = b.growth := rfl
@[simp] theorem modSlot_prf (n : Nat) (f : TuneSlot → TuneSlot) (b : Block) : (modSlot n f b).prf = b.prf := rfl
@[simp] theorem modSlot_tim (n : Nat) (f : TuneSlot → TuneSlot) (b : Block) : (modSlot n f b).tim = b.tim := rfl
@[simp] theorem modSlot_eth (n : Nat) (f : TuneSlot → TuneSlot) (b : Block) : (modSlot n f b).eth = b.eth := rfl
@[simp] theorem modSlot_ptn (n : Nat) (f : TuneSlot → TuneSlot) (b : Block) : (modSlot n f b).ptn = b.ptn := rfl
@[simp] theorem modSlot_chn (n : Nat) (f : TuneSlot → TuneSlot) (b : Block) : (modSlot n f b).chn = b.chn := rfl
@[simp] theorem modSlot_saf (n : Nat) (f : TuneSlot → TuneSlot) (b : Block) : (modSlot n f b).saf = b.saf := rfl
@[simp] theorem modSlot_can (n : Nat) (f : TuneSlot → TuneSlot) (b : Block) : (modSlot n f b).can = b.can := rfl
@[simp] theorem modSlot_ser (n : Nat) (f : TuneSlot → TuneSlot) (b : Block) : (modSlot n f b).ser = b.ser := rfl
@[simp] theorem modSlot_dp (n : Nat) (f : TuneSlot → TuneSlot) (b : Block) : (modSlot n f b).dp = b.dp := rfl
@[simp] theorem modSlot_recorder (n : Nat) (f : TuneSlot → TuneSlot) (b : Block) : (modSlot n f b).recorder = b.recorder := rfl
@[simp] theorem modSlot_dsp (n : Nat) (f : TuneSlot → TuneSlot) (b : Block) : (modSlot n f b).dsp = b.dsp := rfl
@[simp] theorem modSlot_sec (n : Nat) (f : TuneSlot → TuneSlot) (b : Block) : (modSlot n f b).sec = b.sec := rfl
@[simp] theorem modSlot_fresh (n : Nat) (f : TuneSlot → TuneSlot) (b : Block) : (modSlot n f b).fresh = b.fresh := rfl
@[simp] theorem modSlot_out (n : Nat) (f : TuneSlot → TuneSlot) (b : Block) : (modSlot n f b).out = b.out := rfl
@[simp] theorem modSlot_free (n : Nat) (f : TuneSlot → TuneSlot) (b : Block) : (modSlot n f b).free = b.free := rfl

@[simp] theorem modPair_tb (n : Nat) (f : SafPair → SafPair) (b : Block) : (modPair n f b).tb = b.tb := rfl
@[simp] theorem modPair_freeze (n : Nat) (f : SafPair → SafPair) (b : Block) : (modPair n f b).freeze = b.freeze := rfl
@[simp] theorem modPair_links (n : Nat) (f : SafPair → SafPair) (b : Block) : (modPair n f b).links = b.links := rfl
@[simp] theorem modPair_glb (n : Nat) (f : SafPair → SafPair) (b : Block) : (modPair n f b).glb = b.glb := rfl
@[simp] theorem modPair_rng (n : Nat) (f : SafPair → SafPair) (b : Block) : (modPair n f b).rng = b.rng := rfl
@[simp] theorem modPair_flt (n : Nat) (f : SafPair → SafPair) (b : Block) : (modPair n f b).flt = b.flt := rfl
@[simp] theorem modPair_growth (n : Nat) (f : SafPair → SafPair) (b : Block) : (modPair n f b).growth = b.growth := rfl
@[simp] theorem modPair_prf (n : Nat) (f : SafPair → SafPair) (b : Block) : (modPair n f b).prf = b.prf := rfl
@[simp] theorem modPair_tim (n : Nat) (f : SafPair → SafPair) (b : Block) : (modPair n f b).tim = b.tim := rfl
@[simp] theorem modPair_eth (n : Nat) (f : SafPair → SafPair) (b : Block) : (modPair n f b).eth = b.eth := rfl
@[simp] theorem modPair_ptn (n : Nat) (f : SafPair → SafPair) (b : Block) : (modPair n f b).ptn = b.ptn := rfl
@[simp] theorem modPair_chn (n : Nat) (f : SafPair → SafPair) (b : Block) : (modPair n f b).chn = b.chn := rfl
@[simp] theorem modPair_lpe (n : Nat) (f : SafPair → SafPair) (b : Block) : (modPair n f b).lpe = b.lpe := rfl
@[simp] theorem modPair_can (n : Nat) (f : SafPair → SafPair) (b : Block) : (modPair n f b).can = b.can := rfl
@[simp] theorem modPair_ser (n : Nat) (f : SafPair → SafPair) (b : Block) : (modPair n f b).ser = b.ser := rfl
@[simp] theorem modPair_dp (n : Nat) (f : SafPair → SafPair) (b : Block) : (modPair n f b).dp = b.dp := rfl
@[simp] theorem modPair_recorder (n : Nat) (f : SafPair → SafPair) (b : Block) : (modPair n f b).recorder = b.recorder := rfl
@[simp] theorem modPair_dsp (n : Nat) (f : SafPair → SafPair) (b : Block) : (modPair n f b).dsp = b.dsp := rfl
@[simp] theorem modPair_sec (n : Nat) (f : SafPair → SafPair) (b : Block) : (modPair n f b).sec = b.sec := rfl
@[simp] theorem modPair_fresh (n : Nat) (f : SafPair → SafPair) (b : Block) : (modPair n f b).fresh = b.fresh := rfl
@[simp] theorem modPair_out (n : Nat) (f : SafPair → SafPair) (b : Block) : (modPair n f b).out = b.out := rfl
@[simp] theorem modPair_free (n : Nat) (f : SafPair → SafPair) (b : Block) : (modPair n f b).free = b.free := rfl

@[simp] theorem modPort_tb (n : Nat) (f : SafPort → SafPort) (b : Block) : (modPort n f b).tb = b.tb := rfl
@[simp] theorem modPort_freeze (n : Nat) (f : SafPort → SafPort) (b : Block) : (modPort n f b).freeze = b.freeze := rfl
@[simp] theorem modPort_links (n : Nat) (f : SafPort → SafPort) (b : Block) : (modPort n f b).links = b.links := rfl
@[simp] theorem modPort_glb (n : Nat) (f : SafPort → SafPort) (b : Block) : (modPort n f b).glb = b.glb := rfl
@[simp] theorem modPort_rng (n : Nat) (f : SafPort → SafPort) (b : Block) : (modPort n f b).rng = b.rng := rfl
@[simp] theorem modPort_flt (n : Nat) (f : SafPort → SafPort) (b : Block) : (modPort n f b).flt = b.flt := rfl
@[simp] theorem modPort_growth (n : Nat) (f : SafPort → SafPort) (b : Block) : (modPort n f b).growth = b.growth := rfl
@[simp] theorem modPort_prf (n : Nat) (f : SafPort → SafPort) (b : Block) : (modPort n f b).prf = b.prf := rfl
@[simp] theorem modPort_tim (n : Nat) (f : SafPort → SafPort) (b : Block) : (modPort n f b).tim = b.tim := rfl
@[simp] theorem modPort_eth (n : Nat) (f : SafPort → SafPort) (b : Block) : (modPort n f b).eth = b.eth := rfl
@[simp] theorem modPort_ptn (n : Nat) (f : SafPort → SafPort) (b : Block) : (modPort n f b).ptn = b.ptn := rfl
@[simp] theorem modPort_chn (n : Nat) (f : SafPort → SafPort) (b : Block) : (modPort n f b).chn = b.chn := rfl
@[simp] theorem modPort_lpe (n : Nat) (f : SafPort → SafPort) (b : Block) : (modPort n f b).lpe = b.lpe := rfl
@[simp] theorem modPort_can (n : Nat) (f : SafPort → SafPort) (b : Block) : (modPort n f b).can = b.can := rfl
@[simp] theorem modPort_ser (n : Nat) (f : SafPort → SafPort) (b : Block) : (modPort n f b).ser = b.ser := rfl
@[simp] theorem modPort_dp (n : Nat) (f : SafPort → SafPort) (b : Block) : (modPort n f b).dp = b.dp := rfl
@[simp] theorem modPort_recorder (n : Nat) (f : SafPort → SafPort) (b : Block) : (modPort n f b).recorder = b.recorder := rfl
@[simp] theorem modPort_dsp (n : Nat) (f : SafPort → SafPort) (b : Block) : (modPort n f b).dsp = b.dsp := rfl
@[simp] theorem modPort_sec (n : Nat) (f : SafPort → SafPort) (b : Block) : (modPort n f b).sec = b.sec := rfl
@[simp] theorem modPort_fresh (n : Nat) (f : SafPort → SafPort) (b : Block) : (modPort n f b).fresh = b.fresh := rfl
@[simp] theorem modPort_out (n : Nat) (f : SafPort → SafPort) (b : Block) : (modPort n f b).out = b.out := rfl
@[simp] theorem modPort_free (n : Nat) (f : SafPort → SafPort) (b : Block) : (modPort n f b).free = b.free := rfl

@[simp] theorem modFn_tb (n : Nat) (f : SafFn → SafFn) (b : Block) : (modFn n f b).tb = b.tb := rfl
@[simp] theorem modFn_freeze (n : Nat) (f : SafFn → SafFn) (b : Block) : (modFn n f b).freeze = b.freeze := rfl
@[simp] theorem modFn_links (n : Nat) (f : SafFn → SafFn) (b : Block) : (modFn n f b).links = b.links := rfl
@[simp] theorem modFn_glb (n : Nat) (f : SafFn → SafFn) (b : Block) : (modFn n f b).glb = b.glb := rfl
@[simp] theorem modFn_rng (n : Nat) (f : SafFn → SafFn) (b : Block) : (modFn n f b).rng = b.rng := rfl
@[simp] theorem modFn_flt (n : Nat) (f : SafFn → SafFn) (b : Block) : (modFn n f b).flt = b.flt := rfl
@[simp] theorem modFn_growth (n : Nat) (f : SafFn → SafFn) (b : Block) : (modFn n f b).growth = b.growth := rfl
@[simp] theorem modFn_prf (n : Nat) (f : SafFn → SafFn) (b : Block) : (modFn n f b).prf = b.prf := rfl
@[simp] theorem modFn_tim (n : Nat) (f : SafFn → SafFn) (b : Block) : (modFn n f b).tim = b.tim := rfl
@[simp] theorem modFn_eth (n : Nat) (f : SafFn → SafFn) (b : Block) : (modFn n f b).eth = b.eth := rfl
@[simp] theorem modFn_ptn (n : Nat) (f : SafFn → SafFn) (b : Block) : (modFn n f b).ptn = b.ptn := rfl
@[simp] theorem modFn_chn (n : Nat) (f : SafFn → SafFn) (b : Block) : (modFn n f b).chn = b.chn := rfl
@[simp] theorem modFn_lpe (n : Nat) (f : SafFn → SafFn) (b : Block) : (modFn n f b).lpe = b.lpe := rfl
@[simp] theorem modFn_can (n : Nat) (f : SafFn → SafFn) (b : Block) : (modFn n f b).can = b.can := rfl
@[simp] theorem modFn_ser (n : Nat) (f : SafFn → SafFn) (b : Block) : (modFn n f b).ser = b.ser := rfl
@[simp] theorem modFn_dp (n : Nat) (f : SafFn → SafFn) (b : Block) : (modFn n f b).dp = b.dp := rfl
@[simp] theorem modFn_recorder (n : Nat) (f : SafFn → SafFn) (b : Block) : (modFn n f b).recorder = b.recorder := rfl
@[simp] theorem modFn_dsp (n : Nat) (f : SafFn → SafFn) (b : Block) : (modFn n f b).dsp = b.dsp := rfl
@[simp] theorem modFn_sec (n : Nat) (f : SafFn → SafFn) (b : Block) : (modFn n f b).sec = b.sec := rfl
@[simp] theorem modFn_fresh (n : Nat) (f : SafFn → SafFn) (b : Block) : (modFn n f b).fresh = b.fresh := rfl
@[simp] theorem modFn_out (n : Nat) (f : SafFn → SafFn) (b : Block) : (modFn n f b).out = b.out := rfl
@[simp] theorem modFn_free (n : Nat) (f : SafFn → SafFn) (b : Block) : (modFn n f b).free = b.free := rfl

@[simp] theorem modConn_tb (n : Nat) (f : UslConn → UslConn) (b : Block) : (modConn n f b).tb = b.tb := rfl
@[simp] theorem modConn_freeze (n : Nat) (f : UslConn → UslConn) (b : Block) : (modConn n f b).freeze = b.freeze := rfl
@[simp] theorem modConn_links (n : Nat) (f : UslConn → UslConn) (b : Block) : (modConn n f b).links = b.links := rfl
@[simp] theorem modConn_glb (n : Nat) (f : UslConn → UslConn) (b : Block) : (modConn n f b).glb = b.glb := rfl
@[simp] theorem modConn_rng (n : Nat) (f : UslConn → UslConn) (b : Block) : (modConn n f b).rng = b.rng := rfl
@[simp] theorem modConn_flt (n : Nat) (f : UslConn → UslConn) (b : Block) : (modConn n f b).flt = b.flt := rfl
@[simp] theorem modConn_growth (n : Nat) (f : UslConn → UslConn) (b : Block) : (modConn n f b).growth = b.growth := rfl
@[simp] theorem modConn_prf (n : Nat) (f : UslConn → UslConn) (b : Block) : (modConn n f b).prf = b.prf := rfl
@[simp] theorem modConn_tim (n : Nat) (f : UslConn → UslConn) (b : Block) : (modConn n f b).tim = b.tim := rfl
@[simp] theorem modConn_eth (n : Nat) (f : UslConn → UslConn) (b : Block) : (modConn n f b).eth = b.eth := rfl
@[simp] theorem modConn_ptn (n : Nat) (f : UslConn → UslConn) (b : Block) : (modConn n f b).ptn = b.ptn := rfl
@[simp] theorem modConn_chn (n : Nat) (f : UslConn → UslConn) (b : Block) : (modConn n f b).chn = b.chn := rfl
@[simp] theorem modConn_lpe (n : Nat) (f : UslConn → UslConn) (b : Block) : (modConn n f b).lpe = b.lpe := rfl
@[simp] theorem modConn_can (n : Nat) (f : UslConn → UslConn) (b : Block) : (modConn n f b).can = b.can := rfl
@[simp] theorem modConn_ser (n : Nat) (f : UslConn → UslConn) (b : Block) : (modConn n f b).ser = b.ser := rfl
@[simp] theorem modConn_dp (n : Nat) (f : UslConn → UslConn) (b : Block) : (modConn n f b).dp = b.dp := rfl
@[simp] theorem modConn_recorder (n : Nat) (f : UslConn → UslConn) (b : Block) : (modConn n f b).recorder = b.recorder := rfl
@[simp] theorem modConn_dsp (n : Nat) (f : UslConn → UslConn) (b : Block) : (modConn n f b).dsp = b.dsp := rfl
@[simp] theorem modConn_sec (n : Nat) (f : UslConn → UslConn) (b : Block) : (modConn n f b).sec = b.sec := rfl
@[simp] theorem modConn_fresh (n : Nat) (f : UslConn → UslConn) (b : Block) : (modConn n f b).fresh = b.fresh := rfl
@[simp] theorem modConn_out (n : Nat) (f : UslConn → UslConn) (b : Block) : (modConn n f b).out = b.out := rfl
@[simp] theorem modConn_free (n : Nat) (f : UslConn → UslConn) (b : Block) : (modConn n f b).free = b.free := rfl

@[simp] theorem modSerPort_tb (n : Nat) (f : SerPort → SerPort) (b : Block) : (modSerPort n f b).tb = b.tb := rfl
@[simp] theorem modSerPort_freeze (n : Nat) (f : SerPort → SerPort) (b : Block) : (modSerPort n f b).freeze = b.freeze := rfl
@[simp] theorem modSerPort_links (n : Nat) (f : SerPort → SerPort) (b : Block) : (modSerPort n f b).links = b.links := rfl
@[simp] theorem modSerPort_glb (n : Nat) (f : SerPort → SerPort) (b : Block) : (modSerPort n f b).glb = b.glb := rfl
@[simp] theorem modSerPort_rng (n : Nat) (f : SerPort → SerPort) (b : Block) : (modSerPort n f b).rng = b.rng := rfl
@[simp] theorem modSerPort_flt (n : Nat) (f : SerPort → SerPort) (b : Block) : (modSerPort n f b).flt = b.flt := rfl
@[simp] theorem modSerPort_growth (n : Nat) (f : SerPort → SerPort) (b : Block) : (modSerPort n f b).growth = b.growth := rfl
@[simp] theorem modSerPort_prf (n : Nat) (f : SerPort → SerPort) (b : Block) : (modSerPort n f b).prf = b.prf := rfl
@[simp] theorem modSerPort_tim (n : Nat) (f : SerPort → SerPort) (b : Block) : (modSerPort n f b).tim = b.tim := rfl
@[simp] theorem modSerPort_eth (n : Nat) (f : SerPort → SerPort) (b : Block) : (modSerPort n f b).eth = b.eth := rfl
@[simp] theorem modSerPort_ptn (n : Nat) (f : SerPort → SerPort) (b : Block) : (modSerPort n f b).ptn = b.ptn := rfl
@[simp] theorem modSerPort_chn (n : Nat) (f : SerPort → SerPort) (b : Block) : (modSerPort n f b).chn = b.chn := rfl
@[simp] theorem modSerPort_saf (n : Nat) (f : SerPort → SerPort) (b : Block) : (modSerPort n f b).saf = b.saf := rfl
@[simp] theorem modSerPort_lpe (n : Nat) (f : SerPort → SerPort) (b : Block) : (modSerPort n f b).lpe = b.lpe := rfl
@[simp] theorem modSerPort_can (n : Nat) (f : SerPort → SerPort) (b : Block) : (modSerPort n f b).can = b.can := rfl
@[simp] theorem modSerPort_dp (n : Nat) (f : SerPort → SerPort) (b : Block) : (modSerPort n f b).dp = b.dp := rfl
@[simp] theorem modSerPort_recorder (n : Nat) (f : SerPort → SerPort) (b : Block) : (modSerPort n f b).recorder = b.recorder := rfl
@[simp] theorem modSerPort_dsp (n : Nat) (f : SerPort → SerPort) (b : Block) : (modSerPort n f b).dsp = b.dsp := rfl
@[simp] theorem modSerPort_sec (n : Nat) (f : SerPort → SerPort) (b : Block) : (modSerPort n f b).sec = b.sec := rfl
@[simp] theorem modSerPort_fresh (n : Nat) (f : SerPort → SerPort) (b : Block) : (modSerPort n f b).fresh = b.fresh := rfl
@[simp] theorem modSerPort_out (n : Nat) (f : SerPort → SerPort) (b : Block) : (modSerPort n f b).out = b.out := rfl
@[simp] theorem modSerPort_free (n : Nat) (f : SerPort → SerPort) (b : Block) : (modSerPort n f b).free = b.free := rfl

@[simp] theorem emit_tb (o : Output) (b : Block) : (emit o b).tb = b.tb := rfl
@[simp] theorem emit_freeze (o : Output) (b : Block) : (emit o b).freeze = b.freeze := rfl
@[simp] theorem emit_links (o : Output) (b : Block) : (emit o b).links = b.links := rfl
@[simp] theorem emit_glb (o : Output) (b : Block) : (emit o b).glb = b.glb := rfl
@[simp] theorem emit_rng (o : Output) (b : Block) : (emit o b).rng = b.rng := rfl
@[simp] theorem emit_flt (o : Output) (b : Block) : (emit o b).flt = b.flt := rfl
@[simp] theorem emit_growth (o : Output) (b : Block) : (emit o b).growth = b.growth := rfl
@[simp] theorem emit_prf (o : Output) (b : Block) : (emit o b).prf = b.prf := rfl
@[simp] theorem emit_tim (o : Output) (b : Block) : (emit o b).tim = b.tim := rfl
@[simp] theorem emit_eth (o : Output) (b : Block) : (emit o b).eth = b.eth := rfl
@[simp] theorem emit_ptn (o : Output) (b : Block) : (emit o b).ptn = b.ptn := rfl
@[simp] theorem emit_chn (o : Output) (b : Block) : (emit o b).chn = b.chn := rfl
@[simp] theorem emit_saf (o : Output) (b : Block) : (emit o b).saf = b.saf := rfl
@[simp] theorem emit_lpe (o : Output) (b : Block) : (emit o b).lpe = b.lpe := rfl
@[simp] theorem emit_can (o : Output) (b : Block) : (emit o b).can = b.can := rfl
@[simp] theorem emit_ser (o : Output) (b : Block) : (emit o b).ser = b.ser := rfl
@[simp] theorem emit_dp (o : Output) (b : Block) : (emit o b).dp = b.dp := rfl
@[simp] theorem emit_recorder (o : Output) (b : Block) : (emit o b).recorder = b.recorder := rfl
@[simp] theorem emit_dsp (o : Output) (b : Block) : (emit o b).dsp = b.dsp := rfl
@[simp] theorem emit_sec (o : Output) (b : Block) : (emit o b).sec = b.sec := rfl
@[simp] theorem emit_fresh (o : Output) (b : Block) : (emit o b).fresh = b.fresh := rfl
@[simp] theorem emit_free (o : Output) (b : Block) : (emit o b).free = b.free := rfl
@[simp] theorem emit_out (o : Output) (b : Block) : (emit o b).out = o :: b.out := rfl
@[simp] theorem takeFree_tb (b : Block) : (takeFree b).2.tb = b.tb := rfl
@[simp] theorem takeFree_freeze (b : Block) : (takeFree b).2.freeze = b.freeze := rfl
@[simp] theorem takeFree_links (b : Block) : (takeFree b).2.links = b.links := rfl
@[simp] theorem takeFree_glb (b : Block) : (takeFree b).2.glb = b.glb := rfl
@[simp] theorem takeFree_rng (b : Block) : (takeFree b).2.rng = b.rng := rfl
@[simp] theorem takeFree_flt (b : Block) : (takeFree b).2.flt = b.flt := rfl
@[simp] theorem takeFree_growth (b : Block) : (takeFree b).2.growth = b.growth := rfl
@[simp] theorem takeFree_prf (b : Block) : (takeFree b).2.prf = b.prf := rfl
@[simp] theorem takeFree_tim (b : Block) : (takeFree b).2.tim = b.tim := rfl
@[simp] theorem takeFree_eth (b : Block) : (takeFree b).2.eth = b.eth := rfl
@[simp] theorem takeFree_ptn (b : Block) : (takeFree b).2.ptn = b.ptn := rfl
@[simp] theorem takeFree_chn (b : Block) : (takeFree b).2.chn = b.chn := rfl
@[simp] theorem takeFree_saf (b : Block) : (takeFree b).2.saf = b.saf := rfl
@[simp] theorem takeFree_lpe (b : Block) : (takeFree b).2.lpe = b.lpe := rfl
@[simp] theorem takeFree_can (b : Block) : (takeFree b).2.can = b.can := rfl
@[simp] theorem takeFree_ser (b : Block) : (takeFree b).2.ser = b.ser := rfl
@[simp] theorem takeFree_dp (b : Block) : (takeFree b).2.dp = b.dp := rfl
@[simp] theorem takeFree_recorder (b : Block) : (takeFree b).2.recorder = b.recorder := rfl
@[simp] theorem takeFree_dsp (b : Block) : (takeFree b).2.dsp = b.dsp := rfl
@[simp] theorem takeFree_sec (b : Block) : (takeFree b).2.sec = b.sec := rfl
@[simp] theorem takeFree_fresh (b : Block) : (takeFree b).2.fresh = b.fresh := rfl
@[simp] theorem takeFree_out (b : Block) : (takeFree b).2.out = b.out := rfl
@[simp] theorem takeFree_free (b : Block) : (takeFree b).2.free = b.free + 1 := rfl
/-! Reading one element after an update of one element. -/

theorem chanAt_modChan (n m : Nat) (f : Chan → Chan) (b : Block) : chanAt (modChan n f b) m = if m = n then f (chanAt b n) else chanAt b m :=
  tget_tmod

theorem groupAt_modGroup (n m : Nat) (f : Group → Group) (b : Block) : groupAt (modGroup n f b) m = if m = n then f (groupAt b n) else groupAt b m :=
  tget_tmod

theorem imageAt_modImage (n m : Nat) (f : Image → Image) (b : Block) : imageAt (modImage n f b) m = if m = n then f (imageAt b n) else imageAt b m :=
  tget_tmod

theorem ctlAt_modCtl (n m : Nat) (f : CanCtl → CanCtl) (b : Block) : ctlAt (modCtl n f b) m = if m = n then f (ctlAt b n) else ctlAt b m :=
  tget_tmod

theorem objAt_modObj (n m : Nat) (f : CanObj → CanObj) (b : Block) : objAt (modObj n f b) m = if m = n then f (objAt b n) else objAt b m :=
  tget_tmod

theorem dpSlot_modDpSlot (n m : Nat) (f : DpSlot → DpSlot) (b : Block) : dpSlot (modDpSlot n f b) m = if m = n then f (dpSlot b n) else dpSlot b m :=
  tget_tmod

theorem dpThr_modThr (n m : Nat) (f : DpThr → DpThr) (b : Block) : dpThr (modThr n f b) m = if m = n then f (dpThr b n) else dpThr b m :=
  tget_tmod

theorem dpGrp_modGrp (n m : Nat) (f : DpResult → DpResult) (b : Block) : dpGrp (modGrp n f b) m = if m = n then f (dpGrp b n) else dpGrp b m :=
  tget_tmod

theorem netAt_modNet (n m : Nat) (f : Net → Net) (b : Block) : netAt (modNet n f b) m = if m = n then f (netAt b n) else netAt b m :=
  tget_tmod

theorem strAt_modStream (n m : Nat) (f : Stream → Stream) (b : Block) : strAt (modStream n f b) m = if m = n then f (strAt b n) else strAt b m :=
  tget_tmod

theorem tdAt_modTd (n m : Nat) (f : Datagram → Datagram) (b : Block) : tdAt (modTd n f b) m = if m = n then f (tdAt b n) else tdAt b m :=
  tget_tmod

theorem siteAt_modSite (n m : Nat) (f : Site → Site) (b : Block) : siteAt (modSite n f b) m = if m = n then f (siteAt b n) else siteAt b m :=
  tget_tmod

theorem ctxAt_modCtx (n m : Nat) (f : LpeCtx → LpeCtx) (b : Block) : ctxAt (modCtx n f b) m = if m = n then f (ctxAt b n) else ctxAt b m :=
  tget_tmod

theorem tuneAt_modSlot (n m : Nat) (f : TuneSlot → TuneSlot) (b : Block) : tuneAt (modSlot n f b) m = if m = n then f (tuneAt b n) else tuneAt b m :=
  tget_tmod

theorem pairAt_modPair (n m : Nat) (f : SafPair → SafPair) (b : Block) : pairAt (modPair n f b) m = if m = n then f (pairAt b n) else pairAt b m :=
  tget_tmod

theorem portAt_modPort (n m : Nat) (f : SafPort → SafPort) (b : Block) : portAt (modPort n f b) m = if m = n then f (portAt b n) else portAt b m :=
  tget_tmod

theorem fnAt_modFn (n m : Nat) (f : SafFn → SafFn) (b : Block) : fnAt (modFn n f b) m = if m = n then f (fnAt b n) else fnAt b m :=
  tget_tmod

theorem connAt_modConn (n m : Nat) (f : UslConn → UslConn) (b : Block) : connAt (modConn n f b) m = if m = n then f (connAt b n) else connAt b m :=
  tget_tmod

theorem serAt_modSerPort (n m : Nat) (f : SerPort → SerPort) (b : Block) : serAt (modSerPort n f b) m = if m = n then f (serAt b n) else serAt b m :=
  tget_tmod

theorem hostLink_modLink (n m : Nat) (f : HostLink → HostLink) (b : Block) : hostLink (modLink n f b) m = if m = n then f (hostLink b n) else hostLink b m :=
  tget_tmod

theorem ring_modRing (n m : Nat) (f : Ring → Ring) (b : Block) : ring (modRing n f b) m = if m = n then f (ring b n) else ring b m :=
  tget_tset

end Sys2Proof.Laws
end

