-- ==== Sys2Proof/Tests/Slice0.lean ====
section
/-! SUPPORT. The author's own tests: an ill-formed command for each check of `Instr.ok`, and for the clauses of the statements a small concrete
state that meets their hypotheses, with what one command leaves there. Expected values are worked out by hand from the rules named in the statements. -/

namespace Sys2Proof.Tests

open Sys2Proof Sys2Proof.Machine Sys2Proof.Safety

set_option Elab.async false
set_option maxRecDepth 8000

/-! Building small states. -/

/-- The four bytes of a word at an address. -/
def wordCells (a v : Nat) : Tab Byte := (List.range 4).map fun i => (a + i, BitVec.ofNat 8 (v / 256 ^ i))

/-- A bank with sections, each a list of words: index and value. -/
def bankOf (l : List (Nat × List (Nat × Nat))) : Bank :=
  { present := true
    mem := wordCells 0xC l.length ++ (List.range l.length).flatMap (fun i =>
        let ty := (l.getD i (0, [])).1
        wordCells (0x20 + 16 * i) ty ++ wordCells (0x28 + 16 * i) (0x40000 * ty) ++ wordCells (0x2C + 16 * i) 0x3FFFC) ++
      l.flatMap fun s => s.2.flatMap fun w => wordCells (0x40000 * s.1 + 4 * w.1) w.2 }

/-- A module that is Ready and Active, with no bank in force. -/
def plain : Block := { glb := { ready := true, phase := 15, mramOk := true }, ptn := { role := 0 } }

/-- A module with a bank of these sections in force. -/
def banked (l : List (Nat × List (Nat × Nat))) : Block := { plain with glb := { plain.glb with active := true, bank0 := bankOf l } }

/-- The state with no command waiting. -/
def here (b : Block) : State := { blk := b }

/-- What a command leaves. -/
def after (c : Instr) (b : Block) : Block :=
  match exec c (here b) with
  | .next t => t.blk
  | _ => { b with out := .pin 9 9 true :: b.out }

/-- A descriptor of a CMD ring: opcode, TARGET and value. -/
def cmdDesc (op target value : Nat) : Desc := { idx := 7, w := [0, w32 target, w32 value, 0, w32 (op + 0x10000 * 64), 0, 0, 0] }

/-- A running ring of a type on H0, with 8 descriptors. -/
def runRing (kind : Nat) (l : List Desc) : Ring := { cfg := w32 (1 + 2 * kind + 16 * 3), state := .running, fetched := l }

/-- The module with a ring. -/
def withRing (n : Nat) (r : Ring) (b : Block) : Block := { b with rng := { b.rng with rings := tset {} b.rng.rings n r } }

/-- The module with one CMD ring that holds one command. -/
def cmdBlock (op target value : Nat) (b : Block) : Block := withRing 5 (runRing 0 [cmdDesc op target value]) b

/-- Only events have left anything. -/
def spared (a b : Block) : Bool :=
  decide (quiet b = quiet a) && decide (b.out = a.out) && decide (b.free = a.free) && decide (b.flt = { a.flt with latches := b.flt.latches }) &&
    decide (b.dsp = { a.dsp with drillSeen := b.dsp.drillSeen }) && decide (b.prf = { a.prf with cnt := b.prf.cnt }) && decide (b.rng.targets = a.rng.targets)

/-! Ill-formed commands: one term for each check, which the check refuses. -/

theorem test_ill_formed_1 : (([
    .registerWrite 2 0 0 false, .registerWrite 0 0x100000 0 false, .lowWordRead 2 0 0, .lowWordRead 0 0x100000 0, .lowWordWrite 2 0 0,
     .lowWordWrite 0 0x100000 0, .lowWordWrite 0 2 0, .highWordWrite 2 0 0, .highWordWrite 0 0x100000 0, .highWordWrite 0 2 0,
     .faultRecordW0Read 2 0, .faultRecordW0Read 0 16, .linkUp 2 false, .linkDown 2, .timeTrigger 64, .load 2, .switch 2, .abort 2, .confirm 2,
     .confirmImgWrite 2 0, .confirmSafWrite 2 0, .ringEnable 2 0 0, .ringEnable 0 128 0, .ringStop 2 0] : List Instr).all fun c => !c.ok) = true := by decide

theorem test_ill_formed_2 : (([
    .ringStop 0 128, .ringReset 2 0, .ringReset 0 128, .doorbell 2 0 0, .doorbell 0 128 0, .doorbell 0 0 0x20000, .descriptorFetch 128 none,
     .descriptorWriteback 128 .ok, .msixHoldoffEnd 2 0, .msixHoldoffEnd 0 32, .write 128, .read 128, .release 128, .nop 128, .cancel 128,
     .targetResolve 256 0 0, .targetResolve 0 0x10000 0, .targetResolve 0 0 256, .fieldFrameReceive 192 none, .feWatchdog 192,
     .feSelfTestEnd 192 false, .retest 2 0, .retest 0 192, .clrLinkerr 2 0] : List Instr).all fun c => !c.ok) = true := by decide

theorem test_ill_formed_3 : (([
    .clrLinkerr 0 192, .foldback 192, .foldbackRetry 192, .compliance 192, .openLoad 192, .deviation 192, .deviationRetry 192, .overload 192,
     .overloadRetry 192, .thermal 192 false, .wireBreak 192, .couplerLoss 192, .fieldFeedLost 8 0 0, .fieldFeedLost 0 2 0, .fieldFeedRestored 8 0 0,
     .fieldFeedRestored 0 2 0, .fePowerOff 192, .overcurrent 8 0 0, .restartAck 128, .entry 128, .measured 128, .channelStatus 128,
     .sampleWrite 192 0 false, .diDebounce 192] : List Instr).all fun c => !c.ok) = true := by decide

theorem test_ill_formed_4 : (([
    .imageAssembly 64 0, .hartPoll 192, .hartReply 192 false 0 0 [], .hartReply 0 false 256 0 [], .hartReply 0 false 0 256 [], .hartReplyTimeout 192,
     .hartBurstFrame 192 0 0 0 [], .hartBurstFrame 0 256 0 0 [], .hartBurstFrame 0 0 256 0 [], .hartBurstFrame 0 0 0 256 [], .hartBurstTimeout 192,
     .hartPassThrough 128, .hartStatus 128, .testPulseSlot 64, .safetyDataLost 192, .uslFrameReceive 24 [], .uslFailedEnd 24, .uslWatchdog 24 0,
     .uslWatchdog 0 2, .uslPeriodicSend 24, .uslEventHoldoffEnd 24, .loopEvaluation 16 0, .tuneStart 128, .tuneTimeout 4] : List Instr).all fun c => !c.ok) = true := by decide

theorem test_ill_formed_5 : (([
    .tuneAbort 128, .tuneAccept 128, .tuneReject 128, .loopPv 128, .loopOut 128, .loopStatus 128, .gainTableRead 128, .consequenceSolve 32 0,
     .select 128, .readmit 128, .fusionMode 128, .reOrigin 128, .intakeStatus 128, .dpEnable 128, .spHere 128, .groupEn 128, .dpStatus 128,
     .roleReceive 2 [], .livenessLoss 2, .take 2, .clrErrs 2, .seedReceive 2 [], .partnerUslReceive 2 [], .handover 128] : List Instr).all fun c => !c.ok) = true := by decide

theorem test_ill_formed_6 : (([
    .roleStatus 128, .partnerLinkChange 2 false, .canFrameReceive 16 {}, .canLaunch 128, .canAttemptStart 16, .canTxComplete 16 0,
     .canTxComplete 0 128, .canAttemptFailed 16 ⟨false, 0, false, false, 0⟩ 0, .canAttemptFailed 0 ⟨false, 8, false, false, 0⟩ 0,
     .canAttemptFailed 0 ⟨false, 0, false, false, 0⟩ 128, .recover 2 0, .recover 0 16, .recovered 16, .canClrCounts 2 0, .canClrCounts 0 16,
     .canModeChange 16, .data 128, .lock 128, .txEn 128, .objectStatus 128, .lockTmo 2048, .ethFrameReceive 8 [] 0 false, .nodeForget 4 0,
     .ethLaunch 128] : List Instr).all fun c => !c.ok) = true := by decide

theorem test_ill_formed_7 : (([
    .ethFrameSent 4 ⟨0, 0⟩, .receivingTimeout 16, .ethLinkChange 8 false, .ethClrCounts 2 0, .ethClrCounts 0 4, .incWrite 2 0 0, .incWrite 0 3 0,
     .stepWrite 2 0 0, .stepWrite 0 2 0, .sel 2 0, .sel 0 4, .setTime 2, .setValid 2, .clrValid 2, .snap 2, .ppsInEdge 2, .ppsInTimeout 2,
     .ppsOutRise 2, .ppsOutFall 2, .timeStatus 128, .vtNsecRead 128, .timeSnapshot 128, .sentenceReceive 24 [] 0 [] false, .sentenceGap 24] : List Instr).all fun c => !c.ok) = true := by decide

theorem test_ill_formed_8 : (([
    .chunkEnd 24 [] 0 0 0, .serialTransmit 128, .faultDetected 0 0 false false .plain, .faultDetected 0x18 0 false false .plain, .faultHandlingEnd 8,
     .stageHang 0 33, .scrubPassEnd 2 0, .forceWrite 2 0 0, .forceWrite 0 4 0, .clr 2 0, .clr 0 32, .fire 128, .recorderStatus 128,
     .displayValue 128, .refresh 128, .displayStatus 128, .secConfirmWrite 3 0, .openAction 3, .seal 3, .unseal 3, .retire 3, .dbgSet 3 0,
     .dbgSet 0 4, .logicFeedLost 2] : List Instr).all fun c => !c.ok) = true := by decide

theorem test_ill_formed_9 : (([
    .logicFeedRestored 2, .holdupReserve 4096, .completionTimeout 128 none, .bufferReadCompletion 128 0 none, .vectorUnmask 2 0, .vectorUnmask 0 32,
     .linkRetrain 2 false, .serialTxComplete 24, .errorFrameDetected 16 0 false 0, .errorFrameDetected 0 8 false 0, .holdupLow 4096] : List Instr).all fun c => !c.ok) = true := by decide

/-! The step and the whole machine. -/

theorem wit_StepRunsFront : step { pending := [.refQualified, .refLost], blk := plain } = exec .refQualified { pending := [.refLost], blk := plain } := rfl

theorem wit_OffOnlyPowerUp :
    let s : State := { pending := [.refQualified], blk := { plain with sec := { power := 3 } } }
    s.blk.sec.power = 3 ∧ (after .refQualified s.blk).tim = s.blk.tim := by decide

theorem wit_OffOnlyPowerUp_run :
    let s : State := { pending := [.refQualified], blk := { plain with sec := { power := 3 } } }
    (∀ c ∈ s.pending.take 1, ∀ i, c ≠ .powerUp i) ∧ Reaches 1 s { s with pending := [] } :=
  ⟨by simp, { pending := [], blk := { plain with sec := { power := 3 } } }, rfl, rfl⟩

theorem wit_IdleTick : (here plain).pending = [] ∧ On (here plain) ∧ plain.glb.start = none ∧ plain.tim.acts = [] ∧
    (idle plain).tb = 1 ∧ (idle plain).tim.sc0 = 0x0000000A00000000 := by decide

theorem wit_IdleTick_wrap : (idle { plain with tb := 2 ^ 64 - 1, tim := { sc1 := clkMod - 1 } }).tb = 0 ∧
    (idle { plain with tim := { sc1 := clkMod - 1 } }).tim.sc1 = 0x00000009FFFFFFFF := by decide

theorem wit_TimebaseKept : (∀ i, Instr.refQualified ≠ .powerUp i) ∧ (after .refQualified { plain with tb := 77 }).tb = 77 :=
  ⟨fun _ => by simp, by decide⟩

theorem wit_VaultKept :
    let s : State := { pending := [.refQualified], blk := { plain with glb := { plain.glb with selA := some 1 } } }
    (∀ c ∈ s.pending.head?, opensVault c = false) ∧ (s.pending = [] → s.blk.glb.start = none) ∧ (vault (after .refQualified s.blk)).selA = some 1 := by
  decide

theorem wit_BanksStayCanonical : BanksCanonical State.reset.blk ∧
    memWf (after (.imageReadComplete (some ⟨[1, 0, 2], 0, 0⟩)) { plain with glb := { plain.glb with shadow := .loading, len := 3 } }).glb.bank1.mem = true :=
  ⟨⟨by decide, by decide⟩, by decide⟩

/-! Commands of CMD rings. -/

theorem accepts_of {b : Block} {k : CmdKind} {n : Nat} {d : Desc}
    (h : n < 128 ∧ cmdNext b n = some d ∧ cmdKindOf d = k ∧ cmdRefusal b n d = none) : Accepts b k n d := ⟨h.1, h.2.1, h.2.2.1, h.2.2.2⟩

/-- An AO channel 3 (mode 3) with HOST_MIN 0 in the bank. -/
def aoBank : Block := banked [(2, [(24, 3)])]

/-- READ MEASURED of channel 3. -/
def readMeasured : Block :=
  { cmdBlock 2 0x01000301 0 aoBank with tb := 900, chn := { chans := [(3, { cur := { value := 0x40A00000 } })] } }

theorem wit_ReadsReturn : CmdKind.measured ∈ readRows ∧ On (here readMeasured) ∧ Accepts readMeasured .measured 5 (cmdDesc 2 0x01000301 0) ∧
    (ring (after (.measured 5) readMeasured) 5).fetched =
      [{ cmdDesc 2 0x01000301 0 with done := some { status := 0, result := 0x40A00000, tick := 900 } }] :=
  ⟨by decide, by decide, accepts_of (by decide), by decide⟩

/-- READ ROLE_STATUS. -/
def readRole : Block := cmdBlock 2 0x0B000000 0 plain

theorem wit_ReadsShowRegisters : shownAt .roleStatus (cmdIndex (cmdDesc 2 0x0B000000 0)) = some 0xA0000 ∧ On (here readRole) ∧ readRole.glb.ready = true ∧
    Accepts readRole .roleStatus 5 (cmdDesc 2 0x0B000000 0) ∧
    ((ring (after (.roleStatus 5) readRole) 5).fetched.map fun d => d.done) = [some { status := 0, result := readReg readRole 0 0xA0000 }] :=
  ⟨by decide, by decide, by decide, accepts_of (by decide), by decide⟩

/-- READ CHANNEL_STATUS of channel 191, the last one. -/
def readStatus : Block := { cmdBlock 2 0x0100BF02 0 (banked [(2, [(8 * 191, 3)])]) with chn := { chans := [(191, { fe := 3, st := 0x2000 })] } }

theorem wit_ReadsShowRegisters_channel : shownAt .channelStatus (cmdIndex (cmdDesc 2 0x0100BF02 0)) = some (0x31010 + 0x20 * 191) ∧
    Accepts readStatus .channelStatus 5 (cmdDesc 2 0x0100BF02 0) ∧
    ((ring (after (.channelStatus 5) readStatus) 5).fetched.map fun d => d.done) =
      [some { status := 0, result := readReg readStatus 1 (0x31010 + 0x20 * 191) }] :=
  ⟨by decide, accepts_of (by decide), by decide⟩

/-- WRITE of the value of AO channel 3: 8.0 mA. -/
def writeAo : Block := cmdBlock 1 0x01000300 0x41000000 aoBank

theorem wit_OrdersStand : CmdKind.write ∈ orderRows ∧ isOrder 1 3 0 = true ∧ On (here writeAo) ∧
    Accepts writeAo .write 5 (cmdDesc 1 0x01000300 0x41000000) ∧
    (targetAt (after (.write 5) writeAo) (targetKey 1 3 0)).orders = [{ ring := 5, prio := 0, val := 0x41000000, waits := some 7 }] :=
  ⟨by decide, by decide, by decide, accepts_of (by decide), by decide⟩

/-- RELEASE while the ring's order of 8.0 mA stands and waits. -/
def releaseAo : Block :=
  let b := cmdBlock 3 0x01000300 0 aoBank
  { b with rng := { b.rng with targets := [(targetKey 1 3 0, { orders := [{ ring := 5, prio := 0, val := 0x41000000, waits := some 6 }] })] } }

theorem wit_OrdersStand_release : On (here releaseAo) ∧ Accepts releaseAo .release 5 (cmdDesc 3 0x01000300 0) ∧
    targetAt (after (.release 5) releaseAo) (targetKey 1 3 0) = { orders := [], superseded := [(5, 6)], releases := [(5, 7)] } :=
  ⟨by decide, accepts_of (by decide), by decide⟩

/-- A WRITE of 25.0 mA, beyond the range of AO. -/
def badAo : Block := cmdBlock 1 0x01000300 0x41C80000 aoBank

theorem wit_RefusedCommand : On (here badAo) ∧ cmdNext badAo 5 = some (cmdDesc 1 0x01000300 0x41C80000) ∧
    cmdKindOf (cmdDesc 1 0x01000300 0x41C80000) = .write ∧ cmdRefusal badAo 5 (cmdDesc 1 0x01000300 0x41C80000) = some 0x12 ∧
    ((ring (after (.write 5) badAo) 5).fetched.map fun d => d.done.map (·.status)) = [some 0x12] := by decide

theorem wit_RefusedCommand_standby :
    let b := { writeAo with ptn := { role := 1 } }
    cmdRefusal b 5 (cmdDesc 1 0x01000300 0x41000000) = some 0x14 ∧
      ((ring (after (.write 5) b) 5).fetched.map fun d => d.done.map (·.status)) = [some 0x14] := by decide

/-- CANCEL of descriptor 9 of MTX ring 6: not fetched, fetched, and done. -/
def cancelBlock (l : List Desc) : Block := withRing 6 { runRing 4 l with hIdx := 20, hUse := 20 } (cmdBlock 1 0x07000600 9 plain)

theorem wit_CancelActs_later : On (here (cancelBlock [])) ∧ Accepts (cancelBlock []) .cancel 5 (cmdDesc 1 0x07000600 9) ∧
    descAt (cancelBlock []) 6 9 = none ∧ (ring (after (.cancel 5) (cancelBlock [])) 6).cancels = [9] :=
  ⟨by decide, accepts_of (by decide), by decide, by decide⟩

theorem wit_CancelActs_now : Accepts (cancelBlock [{ idx := 9 }]) .cancel 5 (cmdDesc 1 0x07000600 9) ∧
    descAt (cancelBlock [{ idx := 9 }]) 6 9 = some { idx := 9 } ∧
    ((ring (after (.cancel 5) (cancelBlock [{ idx := 9 }])) 6).fetched.map fun d => d.done) = [some { status := 5 }] :=
  ⟨accepts_of (by decide), by decide, by decide⟩

theorem wit_CancelActs_done :
    let x : Desc := { idx := 9, done := some { status := 0 } }
    Accepts (cancelBlock [x]) .cancel 5 (cmdDesc 1 0x07000600 9) ∧ x.done.isSome = true ∧
      ring (after (.cancel 5) (cancelBlock [x])) 6 = ring (cancelBlock [x]) 6 :=
  ⟨accepts_of (by decide), by decide, by decide⟩

theorem wit_OnceActs_nop : Accepts (cmdBlock 5 0 0 plain) .nop 5 (cmdDesc 5 0 0) ∧
    ((ring (after (.nop 5) (cmdBlock 5 0 0 plain)) 5).fetched.map fun d => d.done.map (·.status)) = [some 0] :=
  ⟨accepts_of (by decide), by decide⟩

/-- Trigger 31, the last one, enabled with KIND HOST. -/
def fireBlock : Block := cmdBlock 1 0x09001F00 1 (banked [(0xA, [(34 * 31, 7)])])

theorem wit_OnceActs_fire : Accepts fireBlock .fire 5 (cmdDesc 1 0x09001F00 1) ∧ recTakes fireBlock = true ∧
    (fireBlock.recorder.held.find? fun h => h.kind == 1 && h.trigger == 31) = none ∧
    tget 0 fireBlock.recorder.fired 31 % max 1 (fld (trgArg fireBlock 31) 8 16) = 0 ∧
    ((after (.fire 5) fireBlock).recorder.held.map fun h => (h.kind, h.trigger)) = [(1, 31)] :=
  ⟨accepts_of (by decide), by decide, by decide, by decide, by decide⟩

theorem wit_OnceActs_refresh : Accepts (cmdBlock 1 0x0A001000 1 plain) .refresh 5 (cmdDesc 1 0x0A001000 1) ∧
    (after (.refresh 5) (cmdBlock 1 0x0A001000 1 plain)).dsp.wanted = some 3 :=
  ⟨accepts_of (by decide), by decide⟩

/-- A receive object 2047, the last one, with a frame in its shadow. -/
def lockBlock (v : Nat) (l : Option (Nat × Nat)) : Block :=
  { cmdBlock 1 0x0407FF01 v (banked [(6, [(120, 1), (128 + 4 * 2047, 1)])]) with
    can := { objs := [(2047, { locked := l, shadow := some { frame := { id := 1 }, tick := 4 } })] } }

theorem wit_OnceActs_lock : Accepts (lockBlock 1 none) .lock 5 (cmdDesc 1 0x0407FF01 1) ∧ (objAt (lockBlock 1 none) 2047).locked = none ∧
    (objAt (after (.lock 5) (lockBlock 1 none)) 2047).locked = some (5, 0) :=
  ⟨accepts_of (by decide), by decide, by decide⟩

theorem wit_OnceActs_unlock : Accepts (lockBlock 0 (some (5, 0))) .lock 5 (cmdDesc 1 0x0407FF01 0) ∧
    (objAt (lockBlock 0 (some (5, 0))) 2047).locked = some (5, 0) ∧
    objAt (after (.lock 5) (lockBlock 0 (some (5, 0)))) 2047 = { main := some { frame := { id := 1 }, tick := 4 } } :=
  ⟨accepts_of (by decide), by decide, by decide⟩

/-- Loop 255, the last one, enabled, with a tune in slot 3. -/
def tuneBlock (v state : Nat) (b : Bool) : Block :=
  { cmdBlock 1 0x0200FF05 v (banked [(4, [(90 * 255, 1)])]) with
    lpe := { slots := [(3, { state := state, loop := 255, kp := 1, ki := 2, kd := 3, begun := b, u0 := 9 })] } }

theorem wit_OnceActs_accept : Accepts (tuneBlock 3 2 false) .tuneAccept 5 (cmdDesc 1 0x0200FF05 3) ∧
    (List.range 4).find? (fun z => (tuneAt (tuneBlock 3 2 false) z).state == 2 && (tuneAt (tuneBlock 3 2 false) z).loop == 255) = some 3 ∧
    (∀ f ∈ [2, 3, 4], (targetAt (tuneBlock 3 2 false) (targetKey 2 255 f)).orders = []) ∧
    tuneAt (after (.tuneAccept 5) (tuneBlock 3 2 false)) 3 = {} ∧
    (ctxAt (after (.tuneAccept 5) (tuneBlock 3 2 false)) 255).accept = some (1, 2, 3) :=
  ⟨accepts_of (by decide), by decide, by decide, by decide, by decide⟩

theorem wit_OnceActs_reject : Accepts (tuneBlock 4 3 false) .tuneReject 5 (cmdDesc 1 0x0200FF05 4) ∧
    (List.range 4).find? (fun z => ((tuneAt (tuneBlock 4 3 false) z).state == 2 || (tuneAt (tuneBlock 4 3 false) z).state == 3) &&
      (tuneAt (tuneBlock 4 3 false) z).loop == 255) = some 3 ∧ tuneAt (after (.tuneReject 5) (tuneBlock 4 3 false)) 3 = {} :=
  ⟨accepts_of (by decide), by decide, by decide⟩

theorem wit_OnceActs_abort : Accepts (tuneBlock 2 1 true) .tuneAbort 5 (cmdDesc 1 0x0200FF05 2) ∧
    (List.range 4).find? (fun z => (tuneAt (tuneBlock 2 1 true) z).state == 1 && (tuneAt (tuneBlock 2 1 true) z).loop == 255) = some 3 ∧
    tuneAt (after (.tuneAbort 5) (tuneBlock 2 1 true)) 3 = { tuneAt (tuneBlock 2 1 true) 3 with state := 3, reason := 1 } :=
  ⟨accepts_of (by decide), by decide, by decide⟩

/-- RESTART_ACK of AO channel 3; the other commands that await their time. -/
def ackBlock : Block := cmdBlock 1 0x01000303 1 aoBank
/-- A bank with a DP section, sensor 27 enabled. -/
def dpBlock (target : Nat) : Block := cmdBlock 1 target 1 (banked [(5, [(16 + 24 * 27, 1)])])
/-- An Active module of a pair, whose partner is heard as Standby. -/
def pairBlock : Block :=
  let b := cmdBlock 1 0x0B000001 1 (banked [(9, [(0, 1)])])
  { b with ptn := { b.ptn with heard := true, partnerKnown := true, partner := { role := 1, bankCrc := bankCrc b } } }

theorem wit_OnceAwaits_ack : Accepts ackBlock .restartAck 5 (cmdDesc 1 0x01000303 1) ∧
    (chanAt (after (.restartAck 5) ackBlock) 3).acks = [(5, 7)] ∧ ((ring (after (.restartAck 5) ackBlock) 5).fetched.map fun d => (d.started, d.done)) =
      [(true, none)] :=
  ⟨accepts_of (by decide), by decide, by decide⟩

theorem wit_OnceAwaits_dp : Accepts (dpBlock 0x03001B01) .readmit 5 (cmdDesc 1 0x03001B01 1) ∧ Accepts (dpBlock 0x03002001) .reOrigin 5 (cmdDesc 1 0x03002001 1) ∧
    Accepts (dpBlock 0x03004009) .spHere 5 (cmdDesc 1 0x03004009 1) ∧ (after (.readmit 5) (dpBlock 0x03001B01)).dp.readmits = [(5, 7, 27)] ∧
    (after (.reOrigin 5) (dpBlock 0x03002001)).dp.reOrigins = [(5, 7)] ∧ (after (.spHere 5) (dpBlock 0x03004009)).dp.spHeres = [(5, 7)] :=
  ⟨accepts_of (by decide), accepts_of (by decide), accepts_of (by decide), by decide, by decide, by decide⟩

theorem wit_OnceAwaits_handover : Accepts pairBlock .handover 5 (cmdDesc 1 0x0B000001 1) ∧
    ((after (.handover 5) pairBlock).ptn.handover.map fun h => (h.b, h.h)) = some (1000000, 1500000) :=
  ⟨accepts_of (by decide), by decide⟩

/-- A BUFFERED command with its buffer read. -/
def bufDesc (target len : Nat) (bytes : List Byte) : Desc :=
  { idx := 7, w := [0, w32 target, 0, 0, w32 (4 + 0x10000 * len), 0, 0, 0], buf := .data bytes }
def bufBlock (target len : Nat) (bytes : List Byte) (b : Block) : Block := withRing 5 (runRing 0 [bufDesc target len bytes]) b

def replyLen (b : Block) : List (Option (Nat × Nat)) := (ring b 5).fetched.map fun d => d.done.map fun x => (x.result.toNat, x.reply.length)

theorem wit_BufferedReplies_entry :
    let b := bufBlock 0x01000304 24 [] aoBank
    Accepts b .entry 5 (bufDesc 0x01000304 24 []) ∧ descAt b 5 7 = some (bufDesc 0x01000304 24 []) ∧ replyLen (after (.entry 5) b) = [some (24, 24)] :=
  ⟨accepts_of (by decide), by decide, by decide⟩

theorem wit_BufferedReplies_time :
    let b := bufBlock 0x06000002 48 [] plain
    Accepts b .timeSnapshot 5 (bufDesc 0x06000002 48 []) ∧ replyLen (after (.timeSnapshot 5) b) = [some (48, 48)] :=
  ⟨accepts_of (by decide), by decide⟩

theorem wit_BufferedReplies_data :
    let b := bufBlock 0x0407FF00 24 [] (lockBlock 0 none)
    Accepts b .data 5 (bufDesc 0x0407FF00 24 []) ∧ replyLen (after (.data 5) b) = [some (24, 24)] :=
  ⟨accepts_of (by decide), by decide⟩

/-- Loop 255 in AUTO, RUN, with slots 0 to 2 taken. -/
def startBlock : Block :=
  { banked [(4, [(90 * 255, 1)])] with
    rng := { targets := [(targetKey 2 255 1, { inForce := 1 })] }
    lpe := { ctxs := [(255, { state := 2, mode := 1 })], slots := [(0, { state := 3 }), (1, { state := 3 }), (2, { state := 3 })] } }
/-- d = 1.0, h = 0, e_lim = 1.0, TMAX = 10 s. -/
def startBytes : List Byte := [0, 0, 0x80, 0x3F, 0, 0, 0, 0, 0, 0, 0x80, 0x3F, 10, 0, 0, 0]

theorem wit_BufferedReplies_tune :
    let b := bufBlock 0x0200FF05 16 startBytes startBlock
    Accepts b .tuneStart 5 (bufDesc 0x0200FF05 16 startBytes) ∧ ((tuneStart 255 startBytes b).map Prod.fst) = some 3 ∧
      (tuneAt (after (.tuneStart 5) b) 3).state = 1 ∧ replyLen (after (.tuneStart 5) b) = [some (1, 1)] :=
  ⟨accepts_of (by decide), by decide, by decide, by decide⟩

/-- A pass-through request to channel 0, whose link is not ONLINE. -/
def passBlock : Block := bufBlock 0x05000000 16 [1, 0, 1, 5, 0, 0, 0, 0] (banked [(2, [(0, 0x801)])])

theorem wit_BufferedReplies_hart : Accepts passBlock .hartPassThrough 5 (bufDesc 0x05000000 16 [1, 0, 1, 5, 0, 0, 0, 0]) ∧
    3 + leAt [1, 0, 1, 5, 0, 0, 0, 0] 2 1 ≤ 16 ∧ (chanAt passBlock 0).hart.state = 0 ∧ replyLen (after (.hartPassThrough 5) passBlock) = [some (4, 4)] :=
  ⟨accepts_of (by decide), by decide, by decide, by decide⟩

/-! Registers, host links and rings. -/

theorem wit_LongRegisters_read : isLow64 0x40 = true ∧
    (hostLink (after (.lowWordRead 1 0x40 4) { plain with glb := { plain.glb with addrLo := 1, addrHi := 2 } }) 1).latch = some (0x40, 2) ∧
    (after (.lowWordRead 1 0x40 4) { plain with glb := { plain.glb with addrLo := 1, addrHi := 2 } }).out = [.regValue 1 0x40 1] := by decide

theorem wit_LongRegisters_write : On (here plain) ∧ plain.glb.owned = false ∧ (hostLink (after (.lowWordWrite 1 0x40 9) plain) 1).held = some (0x40, 9) ∧
    (after (.lowWordWrite 1 0x40 9) plain).glb = plain.glb := by decide

theorem wit_LongRegisters_commit :
    let b := { plain with links := [(1, { held := some (0x40, 9) })] }
    (hostLink b 1).held = some (0x40, 9) ∧ (after (.highWordWrite 1 0x44 3) b).glb = { plain.glb with addrLo := 9, addrHi := 3 } ∧
      (hostLink (after (.highWordWrite 1 0x44 3) b) 1).held = none := by decide

theorem wit_LongRegisters_commit_alone : (hostLink plain 0).held = none ∧
    (after (.highWordWrite 0 0x44 3) { plain with glb := { plain.glb with addrLo := 5 } }).glb = { plain.glb with addrLo := 5, addrHi := 3 } := by decide

theorem wit_RegisterWrites : after (.registerWrite 0 0x48 5 false) plain = plain ∧ after (.registerWrite 0 0x4A 5 true) plain = plain ∧
    (after (.registerWrite 0 0x48 5 true) plain).glb.len = 5 ∧ holdoffT (after (.registerWrite 0 0x1027C 0x12345 true) plain) 31 = 0x2345 * 100 ∧
    (after (.registerWrite 0 0xF0020 0x12345 true) plain).prf.actSel = 0x2345 := by decide

theorem wit_RegisterWrites_latch :
    let b := { plain with tim := { latch := 0xF }, fresh := [(0x20018, 2)], recorder := { latch := 3 } }
    (after (.registerWrite 0 0x20018 3 true) b).tim.latch = 0xE ∧ (after (.registerWrite 0 0xC0014 1 true) b).recorder.latch = 2 ∧
      (after (.registerWrite 0 0xE0004 0x1F true) b).sec.policy = 0xF := by decide

theorem wit_ReadOnlyBlocks : On (here plain) ∧ after (.registerWrite 0 0x40000 1 true) plain = plain ∧ after (.registerWrite 1 0x6FFFC 1 true) plain = plain ∧
    (after (.registerWrite 1 0x70130 1 true) plain).can = plain.can := by decide

theorem wit_RecordLatched :
    let b := { plain with flt := { recs := [(15, { source := 3, loc := 5, used := true })] } }
    On (here b) ∧ ((hostLink (after (.faultRecordW0Read 0 15) b) 0).recLatch.map fun x => (x.1, x.2.headD 0)) = some (15, 5) := by decide

/-- Link 1 is up, with a ring bound to it. -/
def linkBlock : Block := withRing 127 { runRing 0 [] with cfg := 0x231 } { plain with links := [(1, { up := true })] }

theorem wit_LinksUpDown_up : (hostLink plain 1).up = false ∧ isFenced plain (.hostLink 1) = false ∧ 2 ≤ plain.glb.phase ∧
    hostLink (after (.linkUp 1 true) plain) 1 = { up := true, degraded := true } := by decide

theorem wit_LinksUpDown_down : (hostLink linkBlock 1).up = true ∧ (ring linkBlock 127).link = 1 ∧
    (hostLink (after (.linkDown 1) linkBlock) 1).up = false ∧ (ring (after (.linkDown 1) linkBlock) 127).state = .down := by decide

theorem wit_LinksUpDown_retrain : (hostLink linkBlock 1).degraded ≠ true ∧ (hostLink (after (.linkRetrain 1 true) linkBlock) 1).degraded = true := by decide

theorem wit_RingStates_enable :
    let b := { plain with links := [(0, { up := true })] }
    let c := putBit 0x40#32 0 true &&& 0x3FFFFFFF#32
    (ring b 127).state = .disabled ∧ ringEnableOk (imgLen b) (modRing 127 (fun r => { r with cfg := c }) b) 127 = true ∧
      (ring (after (.ringEnable 0 127 0x40) b) 127).state = .running := by decide

theorem wit_RingStates_enable_down : (ring plain 0).state = .disabled ∧ (ring (after (.ringEnable 0 0 0x40) plain) 0).state = .down := by decide

/-- SIZE_LOG2 of 31 is invalid. -/
theorem wit_RingStates_invalid :
    let c := putBit 0x1F0#32 0 true &&& 0x3FFFFFFF#32
    ringEnableOk (imgLen plain) (modRing 0 (fun r => { r with cfg := c }) plain) 0 = false ∧ (ring (after (.ringEnable 0 0 0x1F0) plain) 0).state = .disabled ∧
      (ring (after (.ringEnable 0 0 0x1F0) plain) 0).err = erCFG_INVALID := by decide

theorem wit_RingStates_stop : (ring linkBlock 127).state = .running ∧ (ring (after (.ringStop 0 127) linkBlock) 127).state = .stopped := by decide

theorem wit_RingStates_reset : (ring linkBlock 127).state ≠ .disabled ∧ (ring linkBlock 127).fetched = [] ∧
    (ring (after (.ringReset 0 127) linkBlock) 127).state = .disabled ∧ bit (ring (after (.ringReset 0 127) linkBlock) 127).cfg 0 = false := by decide

theorem wit_RingStates_busy :
    let wr := fun off v => Instr.registerWrite 0 (0x11000 + 0x40 * 127 + off) v true
    (ring linkBlock 127).state ≠ .disabled ∧ after (wr 8 0x230) linkBlock = after (.ringReset 0 127) linkBlock ∧
      after (wr 8 0x231) linkBlock = linkBlock ∧ (after (wr 0 5) linkBlock).rng = linkBlock.rng ∧ after (wr 4 5) linkBlock = linkBlock ∧
      after (wr 0xC 5) linkBlock = linkBlock := by decide +kernel

theorem wit_DoorbellHands : (ring linkBlock 127).state = .running ∧ (8 + ringMod - (ring linkBlock 127).mIdx) % ringMod ≤ (ring linkBlock 127).size ∧
    ring (after (.doorbell 0 127 8) linkBlock) 127 = { ring linkBlock 127 with hIdx := 8, bells := [(0, 8)] } := by decide

theorem wit_DoorbellHands_range : (ring linkBlock 127).size < (9 + ringMod - (ring linkBlock 127).mIdx) % ringMod ∧
    (ring (after (.doorbell 0 127 9) linkBlock) 127).state = .stopped ∧ (ring (after (.doorbell 0 127 9) linkBlock) 127).err = erDB_RANGE := by decide

/-- A CMD ring that awaits one descriptor. -/
def askBlock : Block := withRing 127 { runRing 0 [] with asked := 1, hIdx := 1, hUse := 1 } { plain with links := [(0, { up := true })] }
def readWords : List Word := [0, 0, 0, 0, 2, 0, 0, 0x80000000]

theorem wit_FetchTakes_stop : (ring askBlock 127).state = .running ∧ 0 < (ring askBlock 127).asked ∧
    (ring (after (.descriptorFetch 127 none) askBlock) 127).state = .stopped ∧ (ring (after (.completionTimeout 127 none) askBlock) 127).state = .stopped ∧
    (ring (after (.descriptorFetch 127 (some [])) askBlock) 127).state = .stopped := by decide

theorem wit_FetchTakes : (ring askBlock 127).asked = 1 ∧ (ring askBlock 127).kind = tCMD ∧ bit (wAt readWords 7) 31 = true ∧ fld (wAt readWords 4) 0 9 = 2 ∧
    (ring (after (.descriptorFetch 127 (some readWords)) askBlock) 127).fetched = [{ idx := 0, w := readWords }] ∧
    (ring (after (.descriptorFetch 127 (some readWords)) askBlock) 127).fIdx = 1 := by decide

theorem wit_FetchTakes_buffer :
    let d : Desc := { idx := 9, w := [0, 0, 0, 0, 0x00020004, 0, 0, 0], buf := .requested }
    let b := withRing 127 (runRing 0 [d]) plain
    descAt b 127 9 = some d ∧ (ring b 127).kind = tCMD ∧
      ((ring (after (.bufferReadCompletion 127 9 (some [1, 2, 3])) b) 127).fetched.map fun d => d.buf) = [.data [1, 2]] ∧
      ((ring (after (.bufferReadCompletion 127 9 none) b) 127).fetched.map fun d => d.buf) = [.failed] ∧
      ((ring (after (.completionTimeout 127 (some 9)) b) 127).fetched.map fun d => d.buf) = [.failed] := by decide

theorem wit_WritesBack :
    let d := { cmdDesc 2 0 0 with done := some { status := 0, result := 9, tick := 11 } }
    let b := withRing 127 { runRing 0 [d] with count := 2 ^ 32 - 1, mIdx := 131071 } { plain with links := [(0, { up := true })] }
    (ring b 127).state = .running ∧ linkUp b (ring b 127).link = true ∧ (ring b 127).kind = tCMD ∧ (ring b 127).resetting = false ∧
      (ring b 127).fetched = [d] ∧ (ring (after (.descriptorWriteback 127 .ok) b) 127).count = 0 ∧
      (ring (after (.descriptorWriteback 127 .ok) b) 127).mIdx = 0 := by decide

theorem wit_VectorsSend_merged :
    let b := { plain with tb := 5, links := [(1, { vecs := [(31, { masked := false, holdEnd := some 5, merged := true })] })] }
    (vecAt b 1 31).holdEnd = some 5 ∧ (vecAt b 1 31).merged = true ∧ (vecAt b 1 31).masked = false ∧ (after (.msixHoldoffEnd 1 31) b).out = [.msix 1 31] := by decide

theorem wit_VectorsSend_end :
    let b := { plain with tb := 5, links := [(1, { vecs := [(31, { holdEnd := some 5 })] })] }
    (vecAt b 1 31).holdEnd = some 5 ∧ (vecAt b 1 31).merged = false ∧ (vecAt (after (.msixHoldoffEnd 1 31) b) 1 31).holdEnd = none := by decide

theorem wit_VectorsSend_unmask :
    let b := { plain with links := [(0, { up := true, vecs := [(0, { pending := true })] })] }
    (vecAt b 0 0).pending = true ∧ linkUp b 0 = true ∧ (after (.vectorUnmask 0 0) b).out = [.msix 0 0] := by decide

/-- The order of 8.0 mA on AO channel 3 at a frame boundary. -/
def resolveBlock : Block :=
  let b := withRing 5 (runRing 0 [{ idx := 6, started := true }]) aoBank
  { b with tb := 800, rng := { b.rng with targets := [(targetKey 1 3 0, { orders := [{ ring := 5, prio := 0, val := 0x41000000, waits := some 6 }] })] } }

theorem wit_TargetsResolve : (targetInfo resolveBlock (targetKey 1 3 0)).isSome = true ∧ targetCycle resolveBlock (targetKey 1 3 0) = true ∧
    (targetAt resolveBlock (targetKey 1 3 0)).resolved ≠ 801 ∧ (targetAt (after (.targetResolve 1 3 0) resolveBlock) (targetKey 1 3 0)).inForce = 0x41000000 ∧
    ((ring (after (.targetResolve 1 3 0) resolveBlock) 5).fetched.map fun d => d.done.map (·.status)) = [some 0] := by decide

/-! Start-up and configuration. -/

def feeds : StartInfo :=
  { early := [], feedA := true, feedB := false, posOpen := false, holdup := 2000, refOk := true, badCopies := [], fails := [], volts := [], trimAck := none, readings := [] }

theorem wit_PowersUp : State.reset.blk.glb.ready = false ∧ (feeds.feedA = true ∨ feeds.feedB = true) ∧
    (after (.powerUp feeds) { plain with tb := 9, sec := { power := 3, lcA := some 2 }, links := [(0, { up := true })] }).tb = 0 ∧
    (after (.powerUp feeds) { plain with tb := 9, sec := { power := 3, lcA := some 2 } }).sec.lcA = some 2 ∧
    (after (.powerUp feeds) { plain with sec := { power := 3 }, links := [(0, { up := true })] }).links = [] := by decide

theorem wit_PowersUp_idle : plain.glb.ready = true ∧ plain.sec.power ≠ 3 ∧ after (.powerUp feeds) plain = plain := by decide

theorem wit_PowersUp_ready :
    let b := { State.reset.blk with tb := 250000000, glb := { phase := 9 } }
    On (here b) ∧ b.glb.phase = 9 ∧ (after .ready b).ptn.readyTick = 250000000 ∧ (after .ready b).glb.ready = true ∧ (after .ready b).glb.phase = 15 := by decide

/-- A Ready module with its shadow bank in a state. -/
def shadowIn (x : ShadowState) : Block := { plain with tb := 7, glb := { plain.glb with shadow := x } }

theorem wit_ConfigActions_load : (shadowIn .rejected).sec.power ≠ 2 ∧ (shadowIn .rejected).glb.shadow ≠ .pending ∧ (shadowIn .rejected).sec.lifecycle ≠ 3 ∧
    (after (.load 1) (shadowIn .rejected)).glb = { (shadowIn .rejected).glb with owner := 1, owned := true, shadow := .loading } := by decide

theorem wit_ConfigActions_reads :
    let b := { shadowIn .rejected with glb := { (shadowIn .rejected).glb with len := 552, addrLo := 0x1000 } }
    (after (.load 1) b).glb.readsOut = 3 ∧ Output.hostRead 1 0x1200 40 ∈ (after (.load 1) b).out := by decide +kernel

theorem wit_ConfigActions_switch : (shadowIn .admitted).glb.shadow = .admitted ∧ (shadowIn .admitted).ptn.role ≠ 2 ∧
    (after (.switch 0) (shadowIn .admitted)).glb.switchAt = some 2000000 ∧
    (after (.switch 0) { shadowIn .admitted with tb := 1000001 }).glb.switchAt = some 4000000 := by decide

theorem wit_ConfigActions_abort :
    let b := { shadowIn .pending with glb := { (shadowIn .pending).glb with switchAt := some 8 } }
    b.glb.switchAt = some 8 ∧ b.tb < 8 ∧ (after (.abort 0) b).glb = { b.glb with shadow := .admitted, switchAt := none } := by decide

/-- Both CRCs of an empty shadow bank read 0 and have been typed. -/
def typedBlock (v : Word) (n : Nat) : Block :=
  { shadowIn .admitted with glb := { (shadowIn .admitted).glb with key := true, typedImg := some (v, 0), typedSaf := some (0, 0), confirmFails := n } }

theorem wit_ConfigActions_confirm : confirmOpen (typedBlock 0 2) = true ∧ confirmMatch (typedBlock 0 2) = true ∧ (typedBlock 0 2).glb.confirmLock = false ∧
    (after (.confirm 0) (typedBlock 0 2)).glb.shadowBank.confirmed = true ∧ (after (.confirm 0) (typedBlock 0 2)).glb.confirmFails = 0 := by decide

theorem wit_ConfigActions_mismatch : confirmOpen (typedBlock 1 2) = true ∧ confirmMatch (typedBlock 1 2) = false ∧
    (after (.confirm 0) (typedBlock 1 2)).glb.confirmLock = true ∧ (after (.confirm 0) (typedBlock 1 1)).glb.confirmLock = false := by decide

theorem wit_ConfigRefuses_early :
    let b := { plain with glb := { plain.glb with ready := false } }
    b.glb.owned = false ∧ b.glb.ready = false ∧ (after (.load 0) b).glb = { b.glb with cmdErr := true } ∧ (after (.abort 0) b).glb.cmdErr = true := by decide

theorem wit_ConfigRefuses_ride : (after (.switch 0) { shadowIn .admitted with sec := { power := 2 } }).glb.cmdErr = true := by decide

theorem wit_ConfigRefuses_busy : (after (.load 0) (shadowIn .pending)).glb = { (shadowIn .pending).glb with cmdErr := true } ∧
    (after (.switch 0) (shadowIn .rejected)).glb = { (shadowIn .rejected).glb with cmdErr := true } := by decide

theorem wit_ConfigRefuses_owner :
    let b := { plain with glb := { plain.glb with owned := true, owner := 1 } }
    b.glb.owned = true ∧ b.glb.owner ≠ 0 ∧ (after (.load 0) b).glb = { b.glb with busyRefused := true } ∧
      (after (.confirmImgWrite 0 5) b).glb = { b.glb with busyRefused := true } := by decide

theorem wit_KeyAndTyped : plain.glb.owned = false ∧ (after .keyAsserted plain).glb.key = true ∧
    (after (.confirmImgWrite 0 5) (typedBlock 0 0)).glb.typedImg = some (5, 7) ∧ (after (.confirmSafWrite 1 5) (shadowIn .admitted)).glb.typedSaf = none ∧
    (after .keyReleased (typedBlock 0 2)).glb.confirmFails = 0 ∧ (after .keyReleased (typedBlock 0 2)).glb.key = false := by decide

/-- An image of 5200 bytes with the three sections that every image has, each as long as its records: the cells that are not 0. -/
def imageCells : Tab Byte :=
  [(0xc, 3), (0x20, 3), (0x28, 32), (0x29, 1), (0x2c, 96), (0x2d, 15), (0x30, 1), (0x38, 128), (0x39, 16), (0x3c, 64), (0x3d, 2), (0x40, 9),
   (0x48, 192), (0x49, 18), (0x4c, 136), (0x4d, 1), (0, 71), (1, 70), (2, 67), (3, 85), (4, 1), (8, 80), (9, 20), (0x14, 224), (0x1080, 4),
   (0x1081, 16), (0x120, 4), (0x12c8, 1), (0x12c9, 1), (0x12ca, 24), (0x12cc, 8), (0x12ce, 1), (0x12d0, 2), (0x12d1, 1), (0x12d2, 32), (0x12d4,
   32), (0x12d6, 1), (0x12d8, 3), (0x12d9, 1), (0x12da, 64), (0x12dc, 96), (0x12de, 192), (0x12e0, 4), (0x12e1, 1), (0x12e2, 160), (0x12e4,
   64), (0x12e6, 1)]

/-- The CRC of the safety section, and with it that of the image. -/
def imageSafetyCrc : Word := crc32 (bytesFrom imageCells 0x120 3936)
def imageBody : Tab Byte := imageCells ++ wordCells 0x10 imageSafetyCrc.toNat
def imageMem : Tab Byte := imageBody ++ wordCells 5196 (crc32 (bytesFrom imageBody 0 5196)).toNat
def checkBlock : Block := { shadowIn .checking with glb := { (shadowIn .checking).glb with len := 5200, bank1 := { mem := imageMem, present := true } } }


theorem wit_AdmissionEnds_load :
    let b := { shadowIn .loading with glb := { (shadowIn .loading).glb with len := 2 } }
    b.glb.shadow = .loading ∧ (after (.imageReadComplete (some ⟨[5, 0, 9], 0, 0⟩)) b).glb.bank1 = { mem := [(0, 5)], present := true } ∧
      (after (.imageReadComplete (some ⟨[5, 0, 9], 0, 0⟩)) b).glb.shadow = .checking := by decide

theorem wit_AdmissionEnds_reject : (shadowIn .checking).glb.growthStep = none ∧ shadowFails (shadowIn .checking) = some { code := 3, sec := 0 } ∧
    (after .admissionComplete (shadowIn .checking)).glb.shadow = .rejected := by decide

/-! The CRCs of the image hold by the way its cells are laid out; no byte of them is worked out here. -/

theorem tget_append {α : Type} (d : α) (l r : Tab α) (a : Nat) :
    ((∀ p ∈ l, p.1 ≠ a) → tget d (l ++ r) a = tget d r a) ∧ ((∀ p ∈ r, p.1 ≠ a) → tget d (l ++ r) a = tget d l a) := by
  have none (t : Tab α) (h : ∀ p ∈ t, p.1 ≠ a) : tget d t a = d := by
    induction t with
    | nil => rfl
    | cons p t ih => simp [tget, h p (by simp), ih fun q hq => h q (by simp [hq])]
  induction l with
  | nil => simp [tget]; exact fun h => none r fun p hp => h p.1 p.2 hp
  | cons p l ih =>
    refine ⟨fun h => ?_, fun h => ?_⟩
    · simp only [List.cons_append, tget, h p (by simp), if_false]
      exact ih.1 fun q hq => h q (by simp [hq])
    · simp only [List.cons_append, tget, ih.2 h]

theorem wordCells_ne {a v x : Nat} (h : x < a ∨ a + 4 ≤ x) : ∀ p ∈ wordCells a v, p.1 ≠ x := by
  intro p hp
  simp only [wordCells, List.mem_map, List.mem_range] at hp
  obtain ⟨i, hi, rfl⟩ := hp
  dsimp only
  omega

theorem bytesFrom_congr {m m' : Tab Byte} {n a : Nat} (h : ∀ x, a ≤ x → x < a + n → byteAt m x = byteAt m' x) :
    bytesFrom m a n = bytesFrom m' a n := by
  induction n generalizing a with
  | zero => rfl
  | succ n ih => rw [bytesFrom, bytesFrom, h a (by omega) (by omega), ih fun x h1 h2 => h x (by omega) (by omega)]

theorem wordAt_cells (m : Tab Byte) (a : Nat) (w : Word) (h : ∀ p ∈ m, p.1 < a ∨ a + 4 ≤ p.1) : wordAt (m ++ wordCells a w.toNat) a = w := by
  have at' (i : Nat) (hi : i < 4) : byteAt (m ++ wordCells a w.toNat) (a + i) = BitVec.ofNat 8 (w.toNat / 256 ^ i) := by
    unfold byteAt
    rw [(tget_append 0 m _ (a + i)).1 fun p hp => by have := h p hp; omega]
    match i, hi with
    | 0, _ | 1, _ | 2, _ | 3, _ => simp [wordCells, tget, List.range, List.range.loop]
  unfold wordAt
  rw [at' 3 (by omega), at' 2 (by omega), at' 1 (by omega), show byteAt _ a = _ from at' 0 (by omega)]
  apply BitVec.eq_of_toNat_eq
  simp only [BitVec.toNat_append, BitVec.toNat_ofNat]
  have := w.isLt
  have or8 (x y : Nat) : x <<< 8 ||| y % 2 ^ 8 = x * 256 + y % 256 := by
    rw [← Nat.shiftLeft_add_eq_or_of_lt (Nat.mod_lt y (by decide)), Nat.shiftLeft_eq]
  simp only [or8]
  omega

theorem imageMem_below {x : Nat} (h : x < 5196) : byteAt imageMem x = byteAt imageBody x :=
  (tget_append 0 imageBody _ x).2 (wordCells_ne (by omega))

theorem image_crc : imageCrcOk imageMem = true := by
  have hl : imgLength imageMem = 5200 := by decide
  have hc : wordAt imageMem 5196 = crc32 (bytesFrom imageBody 0 5196) := by
    refine wordAt_cells _ _ _ fun p hp => Or.inl ?_
    rcases List.mem_append.1 hp with hp | hp
    · exact (by decide : ∀ p ∈ imageCells, p.1 < 5196) p hp
    · simp only [wordCells, List.mem_map, List.mem_range] at hp
      obtain ⟨i, hi, rfl⟩ := hp
      dsimp only
      omega
  simp only [imageCrcOk, imgCrc, hl, hc, beq_iff_eq, bytesFrom_congr (n := 5196) (a := 0) fun x _ hx => imageMem_below (x := x) (by omega)]

theorem image_safety_crc : safetyCrcOk imageMem = true := by
  have hs : secFind imageMem 3 = some (0, 0x120, 3936) := by decide
  have hw : imgSafetyCrc imageMem = imageSafetyCrc := by
    have hb : imgSafetyCrc imageMem = wordAt imageBody 0x10 := by
      simp only [imgSafetyCrc, wordAt, imageMem_below (show 0x10 < 5196 by decide), imageMem_below (show 0x10 + 1 < 5196 by decide),
        imageMem_below (show 0x10 + 2 < 5196 by decide), imageMem_below (show 0x10 + 3 < 5196 by decide)]
    exact hb.trans (wordAt_cells _ _ _ (by decide))
  have hc : bytesFrom imageMem 0x120 3936 = bytesFrom imageCells 0x120 3936 :=
    bytesFrom_congr fun x h1 h2 =>
      (imageMem_below (by omega)).trans ((tget_append 0 imageCells _ x).2 (wordCells_ne (by omega)))
  simp only [safetyCrcOk, hs, hw, hc, imageSafetyCrc, beq_self_eq_true]

theorem wit_AdmissionEnds_pass : checkBlock.glb.shadow = .checking ∧ checkBlock.glb.growthStep = none ∧ shadowFails checkBlock = none := by
  refine ⟨by decide, by decide, ?_⟩
  have h1 : structureFails (asIfActive imageMem checkBlock) imageMem = none := by decide +kernel
  have h2 : (checkBlock.glb.dmaFailed = false ∧ checkBlock.sec.lifecycle ≠ 3 ∧ checkBlock.glb.recheck = false) ∧ checkBlock.glb.shadowBank.readable = true ∧
      checkBlock.glb.shadowBank.mem = imageMem ∧ checkBlock.glb.len.toNat = 5200 := ⟨by decide, by decide, rfl, by decide⟩
  have h3 : imgMagic imageMem = 0x55434647 ∧ imgFormat imageMem = 1 ∧ imgLength imageMem = 5200 := by decide
  have h4 : (imgLengthOk imageMem = true ∧ seedMapOk (asIfActive imageMem checkBlock) = true) ∧
      loadLimitOk (asIfActive imageMem checkBlock) checkBlock.glb.shadowBank = true ∧ capacityFails (asIfActive imageMem checkBlock) = none := by decide +kernel
  simp [shadowFails, bankFails, staticFails, h1, h2, h3, h4, image_crc, image_safety_crc]

theorem wit_AdmissionEnds_retry :
    let b := { checkBlock with glb := { checkBlock.glb with growthStep := some 0, growthAt := 7 } }
    b.glb.shadow = .checking ∧ b.glb.growthStep = some 0 ∧ b.glb.growthAt ≤ b.tb := by decide

theorem wit_BankSwitches :
    let b := { shadowIn .pending with freeze := some 7, glb := { (shadowIn .pending).glb with switchAt := some 7 } }
    On (here b) ∧ b.glb.switchAt = some 7 ∧ b.glb.shadow = .pending ∧ b.freeze = some 7 := by decide

/-! Field channels. -/

/-- Channel `n` with a configuration word, in a state, and the value in force on its command target. -/
def oneChan (n : Nat) (cfg : Nat) (c : Chan) (v : Word) (b : Block) : Block :=
  { b with
    glb := { plain.glb with active := true, bank0 := bankOf [(2, [(8 * n, cfg)])] }
    chn := { chans := [(n, c)] }
    rng := { b.rng with targets := [(targetKey 1 n 0, { inForce := v })] } }

/-- What a command leaves of channel 191. -/
def chanAfter (c : Instr) (b : Block) : Chan := chanAt (after c b) 191

/-- No other thing has changed but channel 191, group 7 and what events leave. -/
def chanOnly (c : Instr) (b : Block) : Bool :=
  decide (quiet (after c b) = { quiet b with chn := (after c b).chn }) && decide ((after c b).chn.groups = b.chn.groups)

theorem wit_FrontEndStates_boundary :
    let b := oneChan 191 1 { fe := 2 } 0 { plain with tb := 400 }
    b.tb % 400 = 0 ∧ isActive b = true ∧ b.glb.active = true ∧ chnMode b 191 = 1 ∧ keepListen b 191 = false ∧ isOut (chnMode b 191) = false ∧
      b.freeze = none ∧ holdCause (chanAt b 191) = false ∧ (chanAfter .couplerFrameBoundary b).fe = 3 := by decide +kernel

theorem wit_FrontEndStates_sent :
    let b := oneChan 191 3 { fe := 3 } 0x41000000 { plain with tb := 400 }
    (chanAfter .couplerFrameBoundary b).cmds.head?.map Prod.snd = some (chnDrive (after .couplerFrameBoundary b) 191) := by decide +kernel

theorem wit_FrontEndStates_frozen :
    let b := { oneChan 191 1 { fe := 2 } 0 { plain with tb := 400 } with freeze := some 400 }
    b.tb % 400 = 0 ∧ b.freeze.isSome = true ∧ (chanAfter .couplerFrameBoundary b) = { fe := 2 } := by decide +kernel

theorem wit_FrontEndStates_between :
    let b := oneChan 191 3 { fe := 3 } 0x41000000 { plain with tb := 399 }
    b.tb % 400 ≠ 0 ∧ after .couplerFrameBoundary b = b := by decide

theorem wit_FrontEndStates_frame :
    let b := oneChan 191 1 { fe := 3, errRun := 65535 } 0 plain
    (chanAfter (.fieldFrameReceive 191 none) b).errRun = 65535 ∧ (chanAfter (.fieldFrameReceive 191 none) b).errCount = 1 ∧
      (chanAfter (.fieldFrameReceive 191 none) b).stBit 16 = true ∧ chanOnly (.fieldFrameReceive 191 none) b = true ∧
      (chanAfter (.fieldFrameReceive 191 (some ⟨5, 6, true, [], false⟩)) b).errRun = 0 ∧
      (chanAfter (.fieldFrameReceive 191 (some ⟨5, 6, true, [], false⟩)) b).load = 6 := by decide

theorem wit_FrontEndStates_watchdog :
    let b := oneChan 191 3 { fe := 4, applied := 7 } 0 plain
    (chanAfter (.feWatchdog 191) b).fe = 2 ∧ (chanAfter (.feWatchdog 191) b).applied = 0 ∧ (chanAfter (.feWatchdog 191) b).restart = true ∧
      chanOnly (.feWatchdog 191) b = true := by decide

theorem wit_FrontEndStates_tests :
    let b := fun fe => oneChan 191 1 { fe := fe } 0 plain
    let f := { b 6 with flt := { (b 6).flt with fenced := [.growth, .channel 191] } }
    selfTestForce (b 1) 191 = none ∧ openSlot (b 1).flt 1 = none ∧ (tget {} (after (.feSelfTestEnd 191 false) (b 1)).flt.recs 0).loc = chnLoc 191 0 ∧ isFenced (b 1) (.channel 191) = false ∧ (chanAfter (.feSelfTestEnd 191 true) (b 1)).fe = 2 ∧
      (chanAfter (.feSelfTestEnd 191 false) (b 1)).fe = 5 ∧ (after (.feSelfTestEnd 191 false) (b 1)).flt.fenced = [.channel 191] ∧
      (chanAfter (.feSelfTestEnd 191 true) f).fe = 2 ∧ (after (.feSelfTestEnd 191 true) f).flt.fenced = [.growth] ∧
      (chanAfter (.feSelfTestEnd 191 false) f).fe = 5 := by decide

theorem wit_FrontEndStates_off :
    let b := oneChan 191 3 { fe := 4, applied := 7 } 0 plain
    (chanAfter (.fePowerOff 191) b).fe = 0 ∧ (chanAfter (.fePowerOff 191) b).applied = 0 := by decide

theorem wit_FrontEndStates_host :
    let b := oneChan 191 3 { fe := 5, errCount := 4, errLongest := 2, errRun := 1 } 0 plain
    b.glb.ready = true ∧ (chanAfter (.retest 1 191) b).fe = 6 ∧
      chanAfter (.clrLinkerr 1 191) b = { fe := 5, errCount := 0, errLongest := 0, errRun := 1 } := by decide

theorem wit_FrontEndProtects_fold :
    let b := oneChan 191 1 { fe := 3, limited := true } 0 { plain with tb := 9 }
    let r := oneChan 191 1 { fe := 3, st := 0x80, foldAt := 9 } 0 { plain with tb := 100000009 }
    isAI (chnMode b 191) = true ∧ (chanAfter (.foldback 191) b).foldAt = 9 ∧ (chanAfter (.foldback 191) b).stBit 7 = true ∧
      (chanAfter (.foldbackRetry 191) r).foldRelease = some 100000009 := by decide

theorem wit_FrontEndProtects_ao :
    let b := oneChan 191 0x403 { fe := 3, applied := 0x41000000, meas := 0x3DCCCCCC } 0 plain
    let h := oneChan 191 3 { fe := 4, st := 0x400, applied := 0x41000000, meas := 0x41000000 } 0 plain
    chnMode h 191 = 3 ∧ offBy (chanAt h 191).meas (appliedOf h 191) mA01 = false ∧ (chanAfter (.compliance 191) h).stBit 10 = false ∧
      (chanAfter (.compliance 191) h).fe = 4 ∧ appliedOf b 191 = 0x41000000 ∧ chnMode b 191 = 3 ∧ chnOpenDet b 191 = true ∧ fLt mA02 ((num 0x41000000).sub (num 0x3DCCCCCC)).v = true ∧ fLt 0x3DCCCCCC mA01 = true ∧
      (chanAfter (.compliance 191) b).stBit 10 = true ∧ (chanAfter (.compliance 191) b).fe = 3 ∧
      (chanAfter (.openLoad 191) b).stBit 10 = true ∧ (chanAfter (.openLoad 191) b).stBit 11 = true ∧ chanOnly (.openLoad 191) b = true := by decide

theorem wit_FrontEndProtects_do :
    let b := oneChan 191 0x605 { fe := 3, applied := 1, limited := true } 1 { plain with tb := 9 }
    let r := oneChan 191 0x605 { fe := 4, st := 0x100, overAt := 9 } 1 { plain with tb := 100000009 }
    chnMode b 191 = 5 ∧ (chanAfter (.openLoad 191) b).stBit 11 = true ∧ (chanAfter (.overload 191) b).stBit 8 = true ∧
      (chanAfter (.overload 191) b).fe = 4 ∧ (chanAfter (.overload 191) b).overAt = 9 ∧ chnRetry r 191 = true ∧ outOn r 191 = true ∧ appliedOf b 191 = 1 ∧
      (chanAfter (.overloadRetry 191) r).stBit 8 = false := by decide

theorem wit_FrontEndProtects_hot :
    let b := oneChan 191 8 { fe := 3, st := 0x80 } 0 plain
    isOut (chnMode b 191) = true ∧ (chanAfter (.thermal 191 true) b).stBit 9 = true ∧ (chanAfter (.thermal 191 true) b).fe = 4 ∧
      (chanAfter (.thermal 191 false) b).fe = 3 := by decide

theorem wit_FrontEndProtects_wire :
    let b := oneChan 191 0x86 { fe := 2, meas := 0x3E4CCCCC } 0 plain
    chnMode b 191 = 6 ∧ chnWb b 191 = true ∧ fLe (diOn 3) 0x3E4CCCCC = false ∧ fLt 0x3E4CCCCC mA02 = true ∧
      (chanAfter (.wireBreak 191) b).stBit 12 = true ∧ (chanAfter (.wireBreak 191) b).fe = 2 := by decide

theorem wit_FrontEndProtects_deviation :
    let b := oneChan 191 3 { fe := 3, applied := 0x41000000 } 0 { plain with tb := 9 }
    let r := oneChan 191 3 { fe := 4, st := 0x80000, devAt := 9 } 0 { plain with tb := 10000009 }
    offBy 0 0x41000000 mA05 = true ∧ forceArmed b.flt 0x0C (chnLoc 191 1) 0 = false ∧ openSlot b.flt 1 = none ∧
      (chanAfter (.deviation 191) b).stBit 19 = true ∧ (chanAfter (.deviation 191) b).fe = 4 ∧ (chanAfter (.deviation 191) b).devAt = 9 ∧
      (tget {} (after (.deviation 191) b).flt.recs 0).source = 0x0C ∧ (tget {} (after (.deviation 191) b).flt.recs 0).loc = chnLoc 191 1 ∧
      (chanAfter (.deviationRetry 191) r).devRetry = some 10000009 ∧ (chanAfter (.deviationRetry 191) r).fe = 3 := by decide

theorem wit_FrontEndProtects_loss :
    let b := oneChan 191 3 { fe := 3 } 0 plain
    isFenced b (.channel 191) = false ∧ (chanAfter (.couplerLoss 191) b).fe = 5 ∧ (after (.couplerLoss 191) b).flt.fenced = [.channel 191] ∧
      (tget {} (after (.couplerLoss 191) b).flt.recs 0).source = 0x0D := by decide

/-- Group 7 with its feeds, and two of its channels. -/
def group7 (x : Group) : Block := { plain with chn := { groups := [(7, x)], chans := [(168, { fe := 0, st := 0x8000 }), (191, { fe := 3 })] } }

theorem wit_GroupSupply_last :
    let b := group7 { okA := true, converters := true, voltA := 480 }
    (groupAt b 7).okA = true ∧ groupAt (after (.fieldFeedLost 7 0 319) b) 7 = { fieldLost := true, latch := 5, voltA := 319 } ∧
      (chanAt (after (.fieldFeedLost 7 0 319) b) 191).stBit 15 = true ∧ (chanAt (after (.fieldFeedLost 7 0 319) b) 168).stBit 15 = true := by decide

theorem wit_GroupSupply_one :
    let b := group7 { okA := true, okB := true, converters := true }
    groupAt (after (.fieldFeedLost 7 1 0) b) 7 = { okA := true, converters := true, latch := 2 } ∧
      (after (.fieldFeedLost 7 1 0) b).chn.chans = b.chn.chans := by decide

theorem wit_GroupSupply_back :
    let b := group7 { fieldLost := true }
    groupAt (after (.fieldFeedRestored 7 1 340) b) 7 = { okB := true, voltB := 340, converters := true } ∧
      (chanAt (after (.fieldFeedRestored 7 1 340) b) 168).fe = 1 ∧ (chanAt (after (.fieldFeedRestored 7 1 340) b) 191).fe = 3 ∧
      (chanAt (after (.fieldFeedRestored 7 1 340) b) 168).stBit 15 = false := by decide

theorem wit_GroupSupply_current :
    groupAt (after (.overcurrent 7 3000 3001) (group7 {})) 7 = { curA := 3000, curB := 3001, overcurrent := true, latch := 8 } ∧
      groupAt (after (.overcurrent 7 3000 3000) (group7 {})) 7 = { curA := 3000, curB := 3000 } := by decide

theorem wit_GroupSupply_listen :
    let b := { plain with chn := { listen := true } }
    b.chn.listenEnd ≤ b.tb ∧ (after .listenWindowEnd b).chn.listen = false := by decide

/-- Channel 191 sampled at each firing of trigger 63, which has the period 1 000 ticks. -/
def sampled : Block := { banked [(1, [(142, 21)]), (2, [(1528, 1), (1532, 0x1BF)])] with tb := 1000, chn := { chans := [(191, { fe := 3 })] } }

theorem wit_SamplesAndImages_trigger : ttFires sampled 63 sampled.tb = true ∧ tget 0 sampled.tim.ttCount 63 ≤ ttIndex sampled 63 ∧
    smpTrig sampled 191 = 63 ∧ smpEn sampled 191 = true ∧ ttIndex sampled 63 % max 1 (smpDiv sampled 191) = 0 ∧ (chanAt sampled 191).due = none := by
  decide

theorem wit_SamplesAndImages_sample :
    let b := oneChan 191 1 { fe := 3, due := some 5, dueSt := 0xB, cur := { seq := 65535 } } 0 plain
    (chanAt b 191).due = some 5 ∧ b.freeze = none ∧ writeFirst b 191 5 = false ∧ isAI (chnMode b 191) = true ∧
      (chanAfter (.sampleWrite 191 0x41D00000 false) b).cur.value = 0x41C80000 ∧ (chanAfter (.sampleWrite 191 0x41D00000 false) b).cur.seq = 0 ∧
      (chanAfter (.sampleWrite 191 0x41D00000 false) b).prev = { seq := 65535 } ∧ (chanAfter (.sampleWrite 191 0x41D00000 false) b).due = none := by
  decide

theorem wit_SamplesAndImages_relay :
    let b := oneChan 191 5 { fe := 3, due := some 5, dueSt := 0xB } 0 plain
    chnMode b 191 = 5 ∧ (chanAfter (.sampleWrite 191 9 true) b).cur = { value := 1, aux := 9, status := 0xB, seq := 1, tick := 5 } := by decide

theorem wit_SamplesAndImages_input :
    let b := oneChan 191 0x24 { fe := 2, cls := true, clsAt := 9, changes := [3] } 0 { plain with tb := 9 }
    chnMode b 191 = 4 ∧ (chanAt b 191).clsAt + chnDebounce b 191 ≤ b.tb ∧
      chanAfter (.diDebounce 191) b = { fe := 2, cls := true, clsAt := 9, on := true, changes := [9, 3] } := by decide

/-- TLM ring 9 of image 63, whose instant 0 awaits its assembly. -/
def imaged : Block :=
  let b := withRing 9 { runRing 3 [] with cfg := w32 (1 + 2 * 3 + 16 * 3 + 0x80000), cfg2 := 63 } { banked [] with tb := 2000 }
  { b with flt := { b.flt with fenced := [.growth] }, chn := { images := [(63, { due := some 0, count := 0xFFFFFFFF })] } }

theorem wit_SamplesAndImages_image : (imageAt imaged 63).due = some 0 ∧ 0 + 2000 ≤ imaged.tb ∧ isFenced imaged .growth = true ∧
    (ring imaged 9).kind = tTLM ∧ (ring imaged 9).image = 63 ∧ (ring imaged 9).state = .running ∧ (ring imaged 9).depth = 1 ∧
    (imageAt (after (.imageAssembly 63 0) imaged) 63).count = 0 := by decide

theorem wit_SamplesAndImages_staged : (ring (after (.imageAssembly 63 0) imaged) 9).imgs.map (fun x => (x.image, x.tick, x.seq, x.body.length)) =
    [(63, 0, 1, 32)] := by decide

theorem wit_SamplesAndImages_deferred :
    let b := { imaged with chn := { imaged.chn with images := [(63, { due := some 0, deferred := true })] } }
    (imageAt b 63).deferred = true ∧ writesDeferred b = false ∧ imageFirst b 63 0 = false ∧ (imageAt b 63).endAt ≤ b.tb ∧ b.glb.active = true ∧
      imageAt (after (.imageAssembly 63 7) b) 63 =
        { endAt := 2007, dur := 7, inHand := some { image := 63, tick := 0, body := imageBytes b 63 0 } } := by decide

/-- Channel 191, an AO with HART, POLL_PERIOD 0.1 s and one repetition, with its modem. -/
def modem (h : Hart) (l : List Desc) : Block :=
  withRing 5 (runRing 0 l)
    { banked [(2, [(1528, 0x803), (1534, 0x10105)])] with tb := 30000000, chn := { chans := [(191, { fe := 3, hart := h })] } }

/-- The modem once a command has been carried out. -/
def modemAfter (c : Instr) (h : Hart) : Hart := (chanAt (after c (modem h [])) 191).hart

/-- 4 data bytes and one variable, 1.0, in unit 39. -/
def cmd3 : List Byte := [0, 0, 0, 0, 39, 0x3F, 0x80, 0, 0]

theorem wit_HartModem_poll :
    let h : Hart := { state := 2, uid := some [1, 2, 3, 4, 5], preambles := 7 }
    hartMay (modem h []) 191 = true ∧ (modemAfter (.hartPoll 191) h).flight = some { kind := 1, sentAt := 30000000 } ∧ (modemAfter (.hartPoll 191) h).pollAt = 40000000 ∧
      (after (.hartPoll 191) (modem h [])).out = [.hart 191 ([0xFF, 0xFF, 0xFF, 0xFF, 0xFF, 0xFF, 0xFF] ++ [0x82, 0x81, 2, 3, 4, 5, 3, 0, 0])] ∧
      (after (.hartPoll 191) (modem { state := 1 } [])).out = [.hart 191 ([0xFF, 0xFF, 0xFF, 0xFF, 0xFF] ++ [0x02, 0x85, 0, 0, 0x87])] := by decide

theorem wit_HartModem_variables :
    let h : Hart := { state := 2, flight := some { kind := 1 }, dvSeq := 65535 }
    (modemAfter (.hartReply 191 true 1 2 cmd3) h).pv = 0x3F800000 ∧ (modemAfter (.hartReply 191 true 1 2 cmd3) h).sv = 0x7FA00000 ∧
      (modemAfter (.hartReply 191 true 1 2 cmd3) h).dvSeq = 0 ∧ (modemAfter (.hartReply 191 true 1 2 cmd3) h).devStatus = 2 ∧
      (modemAfter (.hartReply 191 true 1 2 cmd3) h).source = 1 := by decide

theorem wit_HartModem_through :
    let t : HartTrans := { kind := 3, ring := 5, idx := 7 }
    let d : Desc := { idx := 7, w := [0, 0, 0, 0, 0x00080000], started := true }
    let b := modem { state := 2, flight := some t } [d]
    descAt b 5 7 = some d ∧ ((ring (after (.hartReply 191 true 1 2 cmd3) b) 5).fetched.map fun d => d.done) =
      [some { status := 0, result := 13, tick := 30000000, reply := [0, 1, 2, 9, 0, 0, 0, 0] }] := by decide

theorem wit_HartModem_again :
    let t : HartTrans := { kind := 1 }
    let h : Hart := { state := 2, flight := some t, errors := 65535 }
    t.failed < hartRetries (modem h []) 191 ∧ t.sentAt + 25666667 ≤ (modem h []).tb ∧
      (modemAfter (.hartReply 191 false 1 2 []) h).flight = some { kind := 1, failed := 1, invalid := true, sentAt := 30000000 } ∧
      (modemAfter (.hartReplyTimeout 191) h).flight = some { kind := 1, failed := 1, sentAt := 30000000 } ∧
      (modemAfter (.hartReplyTimeout 191) h).errors = 65535 := by decide

theorem wit_HartModem_burst :
    (modemAfter (.hartBurstFrame 191 3 1 2 cmd3) { state := 2, bursts := 65535 }).state = 3 ∧
      (modemAfter (.hartBurstFrame 191 3 1 2 cmd3) { state := 2, bursts := 65535 }).bursts = 0 ∧
      (modemAfter (.hartBurstFrame 191 3 1 2 cmd3) { state := 2 }).pv = 0x3F800000 ∧
      (modemAfter (.hartBurstFrame 191 3 1 2 cmd3) { state := 2 }).source = 2 ∧
      (modemAfter (.hartBurstTimeout 191) { state := 3, lastBurst := 10000000 }).state = 2 ∧
      (modemAfter (.hartBurstTimeout 191) { state := 3, lastBurst := 10000000 }).pollAt = 40000000 := by decide

/-! Safety. -/

theorem wit_ScanHoldsSafe :
    let b := { plain with tb := 100, flt := { plain.flt with fenced := [.growth] } }
    let c := { b with saf := { b.saf with scanEnd := 101 } }
    On (here b) ∧ b.glb.ready = true ∧ b.freeze = none ∧ b.saf.catchUp = false ∧ b.tb % 400 = 100 ∧ b.saf.scanEnd ≤ b.tb ∧
      isFenced b .growth = true ∧ c.tb < c.saf.scanEnd ∧ c.saf.lastCatch = false ∧ openSlot c.flt (locDomain (siteLoc 29)) = none := by decide

theorem wit_ScanHoldsSafe_overrun :
    let b := { plain with tb := 100, saf := { scanEnd := 101, overruns := 65535, fns := [(31, { tripped := false })] } }
    (after (.safetyScan [] 0) b).saf.overruns = 65535 ∧ (fnAt (after (.safetyScan [] 0) b) 31).tripped = true ∧
      (tget {} (after (.safetyScan [] 0) b).flt.recs 0).loc = siteLoc 29 ∧
      (after (.safetyScan [{ tick := 7, on := [190] }] 0) b).saf.held = [{ tick := 7, on := [190] }] := by decide

theorem wit_ScanHoldsSafe_unconfirmed :
    let b := { plain with tb := 100, saf := { engine := 1, fns := [(31, { tripped := true })] }, flt := { plain.flt with fenced := [.growth] } }
    (after (.safetyScan [{ tick := 7, on := [190] }] 9) b).saf.held = [] ∧ (after (.safetyScan [] 9) b).saf.scanEnd = 109 ∧
      (after (.safetyScan [{ tick := 7, on := [190] }] 9) b).saf.fns = b.saf.fns := by decide

theorem wit_ScanHoldsSafe_run :
    let b := { banked [(3, [(0, 5)])] with tb := 100, saf := { engine := 2 }, flt := { plain.flt with fenced := [.growth] } }
    b.saf.engine = 2 ∧ b.saf.scanEnd ≤ b.tb ∧ (after (.safetyScan [] 9) b).saf.scanEnd = 109 := by decide +kernel

/-- Pair 23 of a type, of channels 190 and 191, port 3 with MODE 1, and a test period of 50 ms. -/
def pulsed (kind tick : Nat) (x : SafPair) : Block :=
  { banked [(3, [(0, 5), (108, kind + 4 * 190 + 1024 * 191), (118, 1)])] with
    tb := tick, chn := { chans := [(191, { fe := 3 })] }, saf := { engine := 2, pairs := [(23, x)] } }

theorem wit_SafetyPulses_input :
    let b := pulsed 1 2350000 {}
    safTpp b ≠ 0 ∧ b.tb % safTpp b = 50000 * 47 ∧ safActs b = true ∧ spType b 23 = 1 ∧ spB b 23 = 191 ∧
      (after (.testPulseSlot 47) b).out = [.testPulse 191 2350000 (2350000 + (spTpw b 23 - 5000)) false] ∧
      (pairAt (after (.testPulseSlot 47) b) 23).b = { pulse := some 2350000, kind := 1 } ∧ (pairAt (after (.testPulseSlot 47) b) 23).a = {} := by decide

theorem wit_SafetyPulses_off :
    let b := pulsed 2 7350000 { cmd := true, cmdSent := true, cmdAt := 4999999 }
    safTpp b ≠ 0 ∧ b.tb % safTpp b = 50000 * 47 ∧ spType b 23 = 2 ∧ (pairAt b 23).cmdSent = true ∧ (pairAt b 23).cmdAt + 50000 * 47 < b.tb ∧
      (pairAt (after (.testPulseSlot 47) b) 23).b = { pulse := some 7350000, kind := 2 } := by decide

theorem wit_SafetyPulses_port :
    let b := pulsed 1 2550000 {}
    b.tb % safTpp b = 50000 * 51 ∧ scMode b 3 = 1 ∧ (portAt (after (.testPulseSlot 51) b) 3).ch = { pulse := some 2550000, kind := 1 } := by decide

theorem wit_SafetyPulses_lost :
    let b := oneChan 191 7 {} 0 plain
    chnMode b 191 = 7 ∧ 191 ∉ b.saf.lost ∧ (after (.safetyDataLost 191) b).saf.lost = [191] ∧ (after (.safetyDataLost 191) b).saf.gaps = [(191, 0)] := by decide

/-- Connection 23, on network 0, with a period of 1 ms, AGE_MAX 1 ms, the widest sequence window, and CORRUPT_WIN 1 s. -/
def layer (cfg : Nat) (x : UslConn) : Block :=
  { banked [(3, [(944, 0xF0009 + cfg), (945, 5), (946, 0xFFFFFFFF), (947, 0x1001), (948, 1)]), (7, [(0, 1)])] with
    tb := 100000000, tim := { vtValid := true }, saf := { conns := [(23, x)], engine := 2 }, eth := { nets := [(0, { upA := true })] } }

/-- A frame of identity B with SEQ 14 and RUN set. -/
def uslBytes : List Byte :=
  let l : List Byte := [0x11, 4, 14, 0, 0xFF, 0xFF, 0xFF, 0xFF, 0, 0, 0, 0, 0, 0, 0, 0, 7, 0, 0, 0, 8, 0, 0, 0]
  l ++ wordBytes (uslCrc 0xFFFFFFFF l)

theorem wit_SafeLayer_waits :
    let b := { layer 0 {} with freeze := some 99 }
    b.freeze.isSome = true ∧ (after (.uslFrameReceive 23 [1]) b).saf.waiting =
      [{ conn := 23, bytes := [1], tick := 100000000, vt := 0, vtValid := true }] := by decide

theorem wit_SafeLayer_accepts :
    let b := layer 0 { b := { state := 2, seq := 65535, rejects := 3, deadline := 100000001 } }
    let f := uslParse uslBytes
    b.glb.active = true ∧ cnEn b 23 = true ∧ cnTx b 23 = false ∧ uslBytes.length = 28 ∧ leAt uslBytes 0 1 = 0x11 ∧
      ([0, 1].find? fun i => subId b 23 i != 0 && uslCrc (subId b 23 i) (uslBytes.take 24) == w32 (leAt uslBytes 24 4)) = some 1 ∧
      f.connId = subId b 23 1 ∧ (-(cnSkew b 23 * 100000 : Int) ≤ uslAge b.tim.vt f) ∧ uslAge b.tim.vt f < (cnAgeMax b 23 * 1000000 : Int) ∧
      (f.seq + 0x10000 - 65535) % 0x10000 = 15 ∧ cnSeqWin b 23 = 15 ∧ (connAt (after (.uslFrameReceive 23 uslBytes) b) 23).b =
        { state := 2, hasRef := true, seq := 14, runWord := 7, resetWord := 8, run := true, deadline := 100100000 } ∧
      (connAt (after (.uslFrameReceive 23 uslBytes) b) 23).lost = 14 := by decide +kernel

theorem wit_SafeLayer_corrupt :
    let b := layer 0 {}
    let l := 0x11 :: List.replicate 27 9
    l.length = 28 ∧ ([0, 1].find? fun i => subId b 23 i != 0 && uslCrc (subId b 23 i) (l.take 24) == w32 (leAt l 24 4)) = none ∧
      connAt (after (.uslFrameReceive 23 l) b) 23 = { errCrc := 1, corruptAt := some 100000000 } := by decide +kernel

theorem wit_SafeLayer_watchdog :
    connAt (after (.uslWatchdog 23 0) (layer 0 { a := { state := 2, deadline := 100000000, rejects := 2 } })) 23 =
      { a := { state := 1, deadline := 100100000 }, timeouts := 1 } := by decide

theorem wit_SafeLayer_failed :
    let b := layer 0 { a := { state := 3 }, b := { state := 2 }, corruptAt := some 0 }
    0 + cnCorrupt b 23 ≤ b.tb ∧ (connAt (after (.uslFailedEnd 23) b) 23).a.state = 1 ∧ (connAt (after (.uslFailedEnd 23) b) 23).b = { state := 2 } := by
  decide

theorem wit_SafeLayer_sends :
    let b := layer 2 { txSeq := 65535 }
    cnSends b 23 = true ∧ cnReady b 23 = true ∧ b.tb % cnPeriod b 23 = 0 ∧ (connAt (after (.uslPeriodicSend 23) b) 23).txSeq = 0 ∧
      (connAt (after (.uslPeriodicSend 23) b) 23).lastSeq = 65535 ∧ (lansUp b 0) = [0] ∧ (after (.uslPeriodicSend 23) b).out.length = 1 := by decide

theorem wit_SafeLayer_delayed :
    let b := layer 2 { delayed := true, lastEvent := some 99990000 }
    99990000 + 10000 ≤ b.tb ∧ cnSends b 23 = true ∧ cnReady b 23 = true ∧ (connAt (after (.uslEventHoldoffEnd 23) b) 23).delayed = false ∧
      (connAt (after (.uslEventHoldoffEnd 23) b) 23).lastEvent = some 100000000 := by decide

/-! Loops and dynamic positioning. -/

/-- Context 255 on lane 15, from channel 190 to channel 191, in AUTO or MANUAL, with an instance of instant 0 ready. -/
def looped (mode valid : Nat) (x : LpeCtx) : Block :=
  { banked [(4, [(22950, 0xF1), (22951, 1), (22952, 0xBE1), (22953, 0x3F800000), (22957, 0xBF1), (22959, 0x41A00000), (22972, 1)]), (2, [(1520, 1), (1528, 0x60003)])] with
    tb := 500, flt := { plain.flt with fenced := [.growth] }
    chn := { chans := [(190, { fe := 3, cur := { value := 0x41000000, status := valid, tick := 500 } }), (191, { fe := 3 })] }
    rng := { plain.rng with targets := [(targetKey 2 255 1, { inForce := w32 mode })] }
    lpe := { ctxs := [(255, { x with ready := some 0, readyAt := 400 })] } }

theorem wit_LoopsEvaluate_start :
    let b := looped 1 8 { track := false }
    b.freeze = none ∧ lpeOn b = true ∧ enginesHeld b = false ∧ (lanePhys b 15).isSome = true ∧ laneBusy b 15 = false ∧
      laneNext b 15 = some (255, 0) ∧ laneTake b 15 + 100 ≤ b.tb ∧ ((ctxAt (after (.loopEvaluation 15 7) b) 255).run.map fun r => r.stop) = some 507 ∧
      tget 0 (after (.loopEvaluation 15 7) b).lpe.laneEnd 15 = 507 := by decide +kernel

theorem wit_LoopsEvaluate_step : (here (looped 1 8 {})).pending = [] ∧ On (here (looped 1 8 {})) := by decide

/-- Terms with a process value of 8.0 mA and an error of 4.0. -/
def someTerms : LpeTerms :=
  { pv := num 0x41000000, sp := 0x41400000, spR := num 0x41400000, e := num 0x40800000, p := num 0, di := num 0, d := num 0, ff := num 0
    bad := false, ffBad := false }

/-- A run of those terms in AUTO that ends at tick 507, with a value in force of 4.0. -/
def someRun : LpeRun :=
  { at' := 0, stop := 507, dur := 7, terms := some someTerms, v := 0x40800000, mode := 1, track := false, soft := false, exit := none, slot := none }

/-- The module at the tick at which a run of context 255 ends. -/
def ending (r : LpeRun) (x : LpeCtx) : Block :=
  let b := looped 1 8 {}
  { b with tb := 507, lpe := { b.lpe with ctxs := [(255, { x with run := some r })] } }

/-- One evaluation, that of context 255, ends at this tick, and nothing keeps it from passing its checks. -/
def endsOne (b : Block) : Bool :=
  b.freeze.isNone && !enginesHeld b && ((ctxAt b 255).run.any fun r => decide (r.stop ≤ b.tb)) &&
    (b.lpe.ctxs.all fun p => p.2.run.isNone || p.1 == 255) && (checkForce b (siteLoc ((lanePhys b (lpeLane b 255)).getD 0))).isNone &&
    isFenced b .growth

/-- State, u and tick of the evaluation of context 255 once the run has ended. -/
def endOf (b : Block) : Nat × Word × Option Nat :=
  let x := ctxAt (lpeTick b) 255
  (x.state, x.u, x.evalAt)

theorem wit_LoopsEvaluate_auto : endsOne (ending someRun { first := true }) = true ∧ tgKind (lpeOut (ending someRun {}) 255) = 1 ∧
    (endOf (ending someRun { first := true })).2.2 = some 507 := by decide +kernel

theorem wit_LoopsEvaluate_manual : endsOne (ending { someRun with mode := 0 } {}) = true ∧
    (endOf (ending { someRun with mode := 0 } {})).2 = (0x40800000, some 507) := by decide +kernel

theorem wit_LoopsEvaluate_exit : endsOne (ending { someRun with exit := some 0x40A00000 } {}) = true ∧
    (endOf (ending { someRun with exit := some 0x40A00000 } {})).2.1 = 0x40A00000 := by decide +kernel

theorem wit_LoopsEvaluate_track : endsOne (ending { someRun with track := true } {}) = true ∧
    (endOf (ending { someRun with track := true } {})).2.1 = 0x40800000 := by decide +kernel

theorem wit_LoopsEvaluate_beyond :
    let x : LpeCtx := { first := false, u := 0x41000000 }
    endsOne (ending someRun x) = true ∧ beyond (modCtx 255 (fun x => { x with run := none }) (ending someRun x)) 255 0x40800000 0x41000000 = true ∧
      (endOf (ending someRun x)).1 = 3 := by decide +kernel

theorem wit_LoopsEvaluate_lost : endsOne (ending { someRun with terms := none } { u := 0x41000000 }) = true ∧
    endOf (ending { someRun with terms := none } { u := 0x41000000 }) = (4, 0x41000000, some 507) := by decide +kernel

theorem wit_LoopsEvaluate_tune :
    let b := { plain with tb := 1000000000, lpe := { slots := [(3, { state := 1, tmax := 10, loop := 255, begun := true, u0 := 9 })] } }
    (tuneAt b 3).startAt + (tuneAt b 3).tmax * 100000000 ≤ b.tb ∧ (tuneAt (after (.tuneTimeout 3) b) 3).state = 3 ∧
      (tuneAt (after (.tuneTimeout 3) b) 3).reason = 4 ∧ (ctxAt (after (.tuneTimeout 3) b) 255).exit = some 9 := by decide

/-- A module with a DP section in its bank and the growth model fenced, at the boundary 2 000 000 or in a stage of the cycle that it began. -/
def dpModule (l : List (Nat × Nat)) (tick : Nat) (d : Dp) : Block :=
  { banked [(5, l)] with tb := tick, flt := { plain.flt with fenced := [.growth] }, dp := d }

theorem wit_CycleStages_boundary :
    let b := dpModule [] 2000000 { readmits := [(5, 7, 27)], slots := [(27, { votedOut := true, voteCount := 3 })] }
    b.tb % 2000000 = 0 ∧ dpOn b = true ∧ enginesHeld b = false ∧ b.dp.cycle.stage = 0 ∧ b.dp.safe = 0 ∧
      b.dp.reOrigins = [] ∧ (5, 7, 27) ∈ b.dp.readmits := by decide

theorem wit_CycleStages_stages :
    let b := fun n => dpModule [] 2000100 { cycle := { b := 2000000, stage := n, endAt := 2000000 }, rec1 := some {}, state := 3 }
    stageReady (b 1) 1 = true ∧ stageReady (b 2) 2 = true ∧ (b 2).dp.rec1 = some {} ∧ stageReady (b 3) 3 = true ∧ stageReady (b 4) 4 = true ∧
      (b 4).dp.state = 3 ∧ isFenced (b 4) .growth = true := by decide

theorem wit_CycleStages_intake :
    let b := dpModule [] 2000100 { cycle := { b := 2000000, stage := 1, endAt := 2000000 }, records := 0xFFFFFFFF, mode := 0 }
    (after (.intakeStage 7) b).dp.cycle = { b := 2000000, stage := 2, endAt := 2000107 } ∧ (after (.intakeStage 7) b).dp.records = 0 ∧
      ((after (.intakeStage 7) b).dp.rec1.map fun r => (r.outTick, r.mode)) = some (2000000, 0) := by decide +kernel

/-- Thruster 23, a fixed-pitch one on channel 191, selected, with a command of 50 % and two groups to solve. -/
def delivered (tick : Nat) : Block :=
  let b := dpModule [(864 + 16 * 23, 5), (864 + 16 * 23 + 14, 0x08000002)] tick
    { cycle := { b := 2000000, stage := 5, endAt := 2000000, deliver := true, todo := [31, 30], order := [31, 30], lu := 8 }, state := 3
      thrs := [(23, { avail := true, cmdA := 0x3F000000 })] }
  { b with rng := { b.rng with targets := [(targetKey 3 (0x80 + 23) 0, { inForce := 1 })] } }

theorem wit_CycleEnds_delivery :
    let b := delivered 2000000
    dpOn b = true ∧ enginesHeld b = false ∧ b.dp.cycle.stage = 5 ∧ b.freeze = none ∧ b.dp.cycle.deliver = true ∧ b.dp.cycle.endAt ≤ b.tb ∧
      b.dp.cycle.todo ≠ [] ∧ 23 ∈ thrusters b ∧ thSelected b 23 = true ∧ thType b 23 = 1 ∧ (dpThr b 23).avail = true ∧ tgKind (thOut b 23 0) = 2 ∧
      ((targetAt (after .delivery b) (engKey (thOut b 23 0))).cands.map fun o => (o.src, o.val)) = [(1023, 0x3F000000)] := by decide +kernel

theorem wit_CycleEnds_solve :
    let b := delivered 2000100
    let c := b.dp.cycle
    (c.todo.find? fun x => groupLane c x == groupLane c 30) = some 30 ∧ groupLane c 30 = 1 ∧ laneFree b 1 = true ∧ b.tb < c.b + 1900000 ∧
      solverPhys b c.lu 1 = some 1 ∧ (after (.consequenceSolve 30 7) b).dp.cycle.todo = [31] ∧
      (after (.consequenceSolve 30 7) b).dp.cycle.runs = [{ g := 30, lane := 1, phys := 1, stop := 2000107, dur := 7 }] := by decide +kernel

/-- The module as the solve of group 30 ends. -/
def solved : Block := { after (.consequenceSolve 30 7) (delivered 2000100) with tb := 2000107 }

theorem wit_CycleEnds_end : solved.freeze = none ∧ enginesHeld solved = false ∧ solved.dp.cycle.stage = 5 ∧
    (solved.dp.cycle.runs.filter fun q => decide (q.stop ≤ solved.tb) && decide (q.stop ≤ solved.dp.cycle.b + 1900000)) =
      [{ g := 30, lane := 1, phys := 1, stop := 2000107, dur := 7 }] ∧
    solved.dp.cycle.deliver = true ∧ checkForce solved (siteLoc 19) = none ∧ isFenced solved .growth = true ∧ (dpTick solved).dp.cycle.runs = [] := by
  decide +kernel

theorem wit_CycleEnds_cutoff :
    let b := { after (.consequenceSolve 30 1000) (delivered 3899500) with tb := 3900000 }
    b.dp.cycle.b + 1900000 ≤ b.tb ∧ 31 ∈ b.dp.cycle.todo ∧ (∃ r ∈ b.dp.cycle.runs, r.g = 30) ∧ (after .consequenceCutoff b).dp.cycle.todo = [] ∧
      (dpGrp (after .consequenceCutoff b) 31).verdict = 4 ∧ (dpGrp (after .consequenceCutoff b) 30).verdict = 4 := by decide +kernel

theorem wit_CycleEnds_window :
    let b := dpModule [(16 + 24 * 27, 1), (17 + 24 * 27, 0x640000)] 1000000000 { slots := [(27, { lateN := 2, onN := 18 })] }
    b.tb % 1000000000 = 0 ∧ 27 ∈ slotsOf b 0 28 ∧ snLateLim b 27 = 100 ∧ (dpSlot (after .lateWindowEnd b) 27).late = false ∧
      (dpSlot (after .lateWindowEnd { b with dp := { slots := [(27, { lateN := 2, onN := 17 })] } }) 27).late = true ∧
      (dpSlot (after .lateWindowEnd b) 27).state = slotState (after .lateWindowEnd b) 27 := by decide +kernel

/-! The partner. -/

/-- A paired module with L 20 ms and ST 10 ms, further bits in PTN_CFG, both partner links trained, at tick 500 000. -/
def partnered (cfg : Nat) (p : Ptn) : Block :=
  { banked [(9, [(0, 82241 + cfg), (1, 0x100000)])] with
    tb := 500000, flt := { plain.flt with fenced := [.growth] }
    ptn := { p with k0 := { p.k0 with up := true }, k1 := { p.k1 with up := true } } }

/-- A message without payload, with a good CRC. -/
def message (kind flags seq : Nat) (payload : List Byte) : List Byte :=
  let m := leBytes 1 kind ++ leBytes 1 flags ++ leBytes 2 payload.length ++ leBytes 4 seq ++ List.replicate 24 0 ++ payload
  m ++ wordBytes (crc32 m)

theorem wit_LeaseRoles_send :
    let b := partnered 0 { role := 1, heard := true, partnerKnown := true, k1 := { txSeq := 0xFFFFFFFF, rxTick := some 9, echo := some 9 } }
    b.glb.ready = true ∧ paired b = true ∧ b.ptn.handedOver = none ∧ b.tb % 500000 = 0 ∧ plinkUp b 1 = true ∧ grants b 1 = true ∧
      (plink (after .roleSend b) 1).txSeq = 1 ∧ (after .roleSend b).ptn.eS = 2500000 := by decide +kernel

theorem wit_LeaseRoles_receive :
    let m := message 1 0x21 5 (List.replicate 16 1)
    let b := partnered 0 { role := 1 }
    msgOk m = true ∧ leAt m 0 1 = 1 ∧ msgOk (m.drop 1) = false ∧ plinkUp b 1 = true ∧
      (after (.roleReceive 1 m) b).ptn.partner.role = 1 ∧ (after (.roleReceive 1 m) b).ptn.partner.sole = true ∧
      (plink (after (.roleReceive 1 m) b) 1).rxSeq = 5 ∧ (plink (after (.roleReceive 1 (m.drop 1)) b) 1).errs = 1 := by decide +kernel

theorem wit_LeaseRoles_alien :
    let b := { partnered 0 { role := 1 } with glb := { plain.glb with active := true, bank0 := bankOf [(9, [])] } }
    noPartner b = true ∧ noPartner (partnered 0 {}) = false ∧ after (.roleReceive 1 (message 1 0x21 5 (List.replicate 16 1))) b = b := by decide +kernel

theorem wit_LeaseRoles_depart :
    let b := partnered 0 { role := 1, departLeft := 1, departAt := 500000 }
    0 < b.ptn.departLeft ∧ b.ptn.departAt ≤ b.tb ∧ (after .departSend b).ptn.departLeft = 0 ∧ (after .departSend b).out.length = 2 := by
  decide +kernel

theorem wit_LeaseRoles_loss :
    let b := partnered 0 { role := 1, heard := true, k0 := { live := true }, k1 := { live := true } }
    let c := partnered 0 { role := 1, heard := true, k1 := { live := true } }
    (plink b 1).live = true ∧ plinkLive b 1 = false ∧ (plink b 0).live = true ∧ (plink c 1).live = true ∧ plinkLive c 1 = false ∧
      (plink c 0).live = false ∧ (after (.livenessLoss 1) b).ptn.heard = true ∧ (after (.livenessLoss 1) c).ptn.heard = false := by decide +kernel

theorem wit_LeaseRoles_fence :
    let b := partnered 0 { role := 0, eA := some 1000000 }
    b.ptn.eA = some 1000000 ∧ paired b = true ∧ overlapMode b = false ∧ b.ptn.sole = false ∧ 1000000 ≤ b.tb + 500000 := by decide

theorem wit_LeaseRoles_expiry :
    let b := partnered 0 { role := 1, eS := 500000, grantsSent := 1, partner := { soleAsActive := some false } }
    mayActivate b = true ∧ paired b = true ∧ overlapMode b = false ∧ b.ptn.eS ≤ b.tb ∧ heardRole b 0 = false ∧
      b.ptn.partner.soleAsActive = some false ∧ 0 < b.ptn.grantsSent := by decide

theorem wit_LeaseRoles_alone :
    let b := { partnered 4 { role := 1 } with tb := 2000000 }
    mayActivate b = true ∧ startAlone b = true ∧ b.ptn.heardSinceReady = false ∧ b.ptn.readyTick + 2 * silentT b ≤ b.tb ∧
      b.ptn.heard = false ∧ b.ptn.silentFrom + silentT b ≤ b.tb ∧ b.ptn.eS < b.tb := by decide

theorem wit_LeaseRoles_link :
    let b := partnered 0 { role := 1, k1 := { errs := 9, txSeq := 4 } }
    b.glb.ready = true ∧ (plink (after (.clrErrs 0) b) 1).errs = 0 ∧ (plink b 1).up ≠ false ∧
      (plink (after (.partnerLinkChange 1 false) b) 1).up = false ∧
      (plink (after (.partnerLinkChange 1 true) (after (.partnerLinkChange 1 false) b)) 1).txSeq = 0 := by decide +kernel

theorem wit_LeaseRoles_drill :
    let b := { partnered 0 { role := 1 } with tb := 8640000000000 }
    drillDue b = 1 ∧ drillDue b + b.ptn.drillDone ≤ (b.tb - b.ptn.ageFrom) / dayT ∧ (after .drillDue b).ptn.drillDone = 1 := by decide

theorem wit_SeedCarried_boundary :
    let b := { partnered 0 { role := 0 } with tb := 1000000 }
    b.tb % 1000000 = 0 ∧ b.freeze = none ∧ b.glb.ready = true ∧ b.glb.active = true ∧ b.ptn.takeover = none ∧ b.sec.downAt = none ∧
      b.ptn.handover = none := by decide

theorem wit_SeedCarried_standby :
    let b := { partnered 0 { role := 1 } with tb := 1000000 }
    (after .seedBoundary b).freeze = some 1000000 ∧ (after .seedBoundary b).ptn = b.ptn := by decide +kernel

/-- A seed of its 8 header words, with SEED_SEQ 5. -/
def smallSeed : Seed :=
  let head : List (BitVec 64) := [0x0008000153454544, 5, 6, 0, 0, 0, 0]
  { words := head ++ [BitVec.ofNat 64 (crc32 ((head.flatMap fun w => leBytes 8 w.toNat) ++ [0, 0, 0, 0] ++ [0, 0, 0, 0])).toNat] }

/-- A module whose bank gives seeds of 8 words. -/
def seeded (p : Ptn) : Block :=
  let b := partnered 0 p
  { b with glb := { b.glb with bank0 := { b.glb.bank0 with mem := wordCells 0x14 8 ++ b.glb.bank0.mem } } }

theorem wit_SeedCarried_capture :
    let b := { seeded { role := 0, capturing := some 497000, buffer := smallSeed } with freeze := some 497000 }
    497000 < b.tb ∧ b.tb < 497000 + 4000 ∧ b.ptn.role = 0 ∧ isFenced b .growth = true ∧ (after .seedCaptureComplete b).freeze = none ∧
      (after .seedCaptureComplete b).ptn.capSeq = 5 ∧ (after .seedCaptureComplete b).ptn.commit = some 0 := by decide +kernel

theorem wit_SeedCarried_timeout :
    let b := { partnered 0 { role := 0, capturing := some 496000, discarded := 255 } with freeze := some 496000 }
    496000 + 4000 ≤ b.tb ∧ openSlot b.flt (locDomain (siteLoc 30)) = none ∧ (after .freezeTimeout b).freeze = none ∧
      (after .freezeTimeout b).ptn.discarded = 255 ∧ (after .freezeTimeout b).ptn.capturing = none ∧
      (tget {} (after .freezeTimeout b).flt.recs 0).source = 3 := by decide +kernel

theorem wit_SeedCarried_quiet :
    let b := { partnered 0 { role := 0 } with freeze := some 496000 }
    let c := { partnered 0 { role := 2, capturing := some 496000 } with freeze := some 496000 }
    b.ptn.capturing = none ∧ (after .freezeTimeout b).freeze = none ∧ c.ptn.role ≠ 0 ∧ (after .freezeTimeout c).ptn.capturing = none := by decide +kernel

theorem wit_SeedCarried_receive :
    let m := message 2 0 7 smallSeed.bytes
    let b := seeded { role := 1, partnerKnown := true, partner := { role := 0 } }
    let body := (m.drop 32).take (m.length - 36)
    msgOk m = true ∧ leAt m 0 1 = 2 ∧ seedOf body = smallSeed ∧ seedRefusal b (seedOf body) body.length = none ∧ paired b = true ∧
      overlapMode b = false ∧ fld (w32 (leAt m 1 1)) 0 2 = 0 ∧ bit (w32 (leAt m 1 1)) 4 = false := by decide +kernel

theorem wit_SeedCarried_held :
    let m := message 2 0 7 smallSeed.bytes
    let b := seeded { role := 1, partnerKnown := true, partner := { role := 0 } }
    ((after (.seedReceive 1 m) b).ptn.held.map fun h => h.seed) = some smallSeed ∧ (after (.seedReceive 1 m) b).ptn.anySeq = false := by decide +kernel

theorem wit_SeedCarried_broken :
    let m := (message 2 0 7 []).take 35 ++ [9]
    let b := partnered 0 { role := 1, rejected := 255, k1 := { errs := 65535 } }
    msgOk m = false ∧ leAt m 0 1 = 2 ∧ plinkUp b 1 = true ∧ (after (.seedReceive 1 m) b).ptn.rejected = 255 ∧
      (plink (after (.seedReceive 1 m) b) 1).errs = 65535 := by decide +kernel

theorem wit_SeedCarried_usl :
    let m := message 3 0 7 ([1, 0, 0, 0] ++ List.replicate 28 9)
    let b := { banked [(9, [(0, 82241)]), (3, [(944, 0x10D)])] with freeze := some 0, ptn := { role := 0, k1 := { up := true } } }
    msgOk m = true ∧ leAt m 0 1 = 3 ∧ b.freeze.isSome = true ∧ connOf b 3 0 (leAt m 32 1) false = some 23 ∧
      ((after (.partnerUslReceive 1 m) b).saf.waiting.map fun w => (w.conn, w.bytes, w.tick)) = [(23, List.replicate 28 9, 0)] := by decide +kernel

theorem wit_SeedCarried_stored :
    let b := partnered 0 { role := 0, takeover := some (9, none) }
    let c := partnered 0 { role := 0, commit := some 1, buffer := smallSeed, slot0 := some smallSeed }
    let d := partnered 0 { role := 0, commit := some 0, commitPrev := true, buffer1 := smallSeed }
    (after (.seedCommitComplete true) d).ptn.slot0 = some smallSeed ∧ (after .seedRestoreComplete b).ptn.takeover = none ∧ c.glb.oldSeeds = false ∧ (after (.seedCommitComplete true) c).ptn.slot1 = some smallSeed ∧
      (after (.seedCommitComplete false) c).ptn.slot1 = none ∧ (after (.seedCommitComplete false) c).ptn.slot0 = some smallSeed := by decide +kernel

/-- A handover at B 500 000 and H 490 000 or 500 000. -/
def handed (h : Handover) (p : Ptn) (cfg : Nat) : Block := partnered cfg { p with handover := some h }

theorem wit_HandoverRuns_boundary :
    let b := handed { b := 500000, h := 600000, ring := 5, idx := 7 } { role := 0, capSeq := 0xFFFFFFFF } 0
    (after .handoverBoundary b).ptn.handover = some { b := 500000, h := 600000, ring := 5, idx := 7, captured := true, seedSeq := 1 } ∧
      (after .handoverBoundary b).dp.cycle = {} := by decide +kernel

theorem wit_HandoverRuns_cancelled :
    let b := handed { b := 400000, h := 500000, ring := 5, idx := 7, captured := true } { role := 0 } 0
    b.ptn.overlap = none ∧ (after .handoverTick b).ptn = { b.ptn with handover := none, overlap := none } := by decide +kernel

theorem wit_HandoverRuns_window :
    let b := handed { b := 400000, h := 500000, ring := 5, idx := 7, captured := true, confirmed := true } { role := 0 } 0x400002
    overlapMode b = true ∧ overlapW b = 200000 ∧
      (after .handoverTick b).ptn.overlap = some { start := 500000, stop := 700000, former := true, vals := seedVals {} } := by decide +kernel

theorem wit_HandoverRuns_exchange :
    let b := handed { b := 400000, h := 500000, ring := 5, idx := 7, captured := true, confirmed := true } { role := 0 } 0
    overlapMode b = false ∧ b.ptn.role = 0 ∧ b.ptn.overlap = none := by decide

theorem wit_HandoverRuns_restore :
    let s : Seed := { words := [0x0008020153454544, 5, 6] }
    let b := partnered 0 { role := 1, handoverIn := some { h := 500000 }, held := some { seed := s } }
    let c := partnered 0 { role := 1, handoverIn := some { h := 500000, restored := true, go := true }, held := some { seed := s } }
    s.isHandover = true ∧ (usableSeed b).isSome = true ∧ c.ptn.handover = none ∧ mayActivate c = true := by decide

theorem wit_HandoverRuns_end :
    let b := partnered 2 { role := 0, overlap := some { start := 0, stop := 500000, former := false }, handovers := 255 }
    let c := partnered 2 { role := 0, overlap := some { start := 0, stop := 500000, former := true }, handover := some { b := 0, h := 0, ring := 5, idx := 7 } }
    (after .overlapWindowEnd b).ptn = { b.ptn with overlap := none, handovers := 255 } ∧ c.ptn.role = 0 ∧ c.ptn.overlap.isSome = true := by decide

/-! CAN. -/

/-- Controller 15 with FD, its last object, 2047, for every frame or for transmission, a state of both, and an MTX ring. -/
def canned (cfg : Nat) (x : CanCtl) (o : CanObj) (l : List Desc) : Block :=
  let b := withRing 6 { runRing 4 l with hIdx := 20 } (banked [(6, [(120, 3), (8316, cfg)])])
  { b with
    tb := 10000000, can := { ctls := [(15, { x with latch := 0 })], objs := [(2047, o)] }
    rng := { b.rng with targets := [(targetKey 4 2047 2, { inForce := 1 })] } }

/-- A frame with one byte. -/
def frame1 : CanFrame := { id := 5, ctl := 1, data := [9] }

theorem wit_CanFrames_main :
    let b := canned 1 { state := 0, rx := 0xFFFFFFFF } {} []
    ctlEn b 15 = true ∧ (ctlAt b 15).state ≤ 1 ∧ isFenced b (.can 15) = false ∧ frame1.fdf = false ∧
      frame1.data.length = (if frame1.rtr then 0 else dlcLen frame1.fdf frame1.dlc) ∧ canTaker b 15 frame1 = some 127 ∧ connOf b 1 15 127 false = none ∧
      (objAt (after (.canFrameReceive 15 frame1) b) 2047).main = some { frame := frame1, tick := 10000000 } ∧
      (ctlAt (after (.canFrameReceive 15 frame1) b) 15).rx = 0 := by decide +kernel

theorem wit_CanFrames_shadow :
    let b := canned 1 { state := 1 } { locked := some (5, 9), main := some {} } []
    (objAt b 2047).locked = some (5, 9) ∧ (objAt b 2047).shadow = none ∧
      objAt (after (.canFrameReceive 15 frame1) b) 2047 = { locked := some (5, 9), main := some {}, shadow := some { frame := frame1, tick := 10000000 } } := by
  decide +kernel

/-- A descriptor for object 127 of controller 15 with `frame1` as its payload. -/
def canDesc : Desc := { idx := 7, w := [0, 0, 9, 0x10F0007F, 0, 0, 0, 0], buf := .data (frame1.bytes ++ [0]) }

theorem wit_CanFrames_launch :
    let b := canned 3 { state := 0 } {} [canDesc]
    mtxNext b 6 = some canDesc ∧ mtxPayload canDesc = some frame1.bytes ∧ mtxBus canDesc = 1 ∧ mtxLaunch canDesc ≤ b.tb ∧
      128 * mtxPort canDesc + mtxObject canDesc = 2047 ∧ isActive b = true ∧ objStopped b 2047 = false ∧ (ctlAt b 15).state ≠ 3 ∧ (objAt b 2047).pend = none ∧
      (objAt (after (.canLaunch 6) b) 2047).pend = some { frame := frame1, mtx := some (6, 7) } := by decide +kernel

theorem wit_CanFrames_dead :
    let b := { canned 3 { state := 0 } {} [canDesc] with ptn := { role := 1 } }
    isActive b = false ∧ ((ring (after (.canLaunch 6) b) 6).fetched.map fun d => d.done.map (·.status)) = [some stTX_FAILED] := by decide +kernel

theorem wit_CanFrames_start :
    let b := canned 3 { state := 0 } { pend := some { frame := frame1 } } []
    let w := canSweep b
    (ctlAt w 15).state ≤ 1 ∧ (ctlAt w 15).monitor = false ∧ ctlHolding w 15 = false ∧ inArbObj w 15 = none ∧ 2047 ∈ ctlPending w 15 ∧
      (objAt w 2047).pend.isSome = true ∧ (objAt (after (.canAttemptStart 15) b) 2047).pend = some { frame := frame1, inArb := some 10000000 } := by
  decide +kernel

theorem wit_CanFrames_sent :
    let p : CanPend := { frame := frame1, mtx := some (6, 7), inArb := some 9 }
    let b := canned 3 { state := 0, tec := 0, tx := 0xFFFFFFFF } { pend := some p } [{ canDesc with handed := true }]
    inArbObj b 15 = some 2047 ∧ (objAt b 2047).pend = some p ∧ (objAt (after (.canTxComplete 15 127) b) 2047).sent = some { frame := frame1, tick := 9 } ∧
      (ctlAt (after (.canTxComplete 15 127) b) 15).tx = 0 ∧ (ctlAt (after (.canTxComplete 15 127) b) 15).tec = 0 ∧
      ((ring (after (.canTxComplete 15 127) b) 6).fetched.map fun d => d.done.map fun x => (x.status, x.tick)) = [some (0, 9)] := by decide +kernel

theorem wit_CanFrames_lost :
    let p : CanPend := { frame := frame1, inArb := some 9 }
    let b := canned 3 { state := 0, tec := 255 } { pend := some p } []
    let e : CanFailure := { lost := true, lec := 0, dominant := false, exempt := false, eights := 0 }
    inArbObj b 15 = some 2047 ∧ frame1.oneShot = false ∧ objStopped b 2047 = false ∧
      (objAt (after (.canAttemptFailed 15 e 0) b) 2047).pend = some { frame := frame1 } ∧ (ctlAt (after (.canAttemptFailed 15 e 0) b) 15).tec = 255 := by
  decide +kernel

theorem wit_CanFrames_lock :
    let b := canned 1 { state := 0 } { locked := some (5, 0), shadow := some {} } []
    (objAt b 2047).locked = some (5, 0) ∧ 0 + 10000000 ≤ b.tb ∧ objAt (after (.lockTmo 2047) b) 2047 = { main := some {} } ∧
      bit (ctlAt (after (.lockTmo 2047) b) 15).latch clLOCK = true := by decide +kernel

theorem wit_CanErrors_sender :
    let p : CanPend := { frame := frame1, inArb := some 9 }
    let b := canned 3 { state := 1, tec := 248, errs := 65535 } { pend := some p } []
    let e : CanFailure := { lost := false, lec := 4, dominant := false, exempt := false, eights := 0 }
    inArbObj b 15 = some 2047 ∧ (objAt b 2047).pend = some p ∧ (ctlAt (after (.canAttemptFailed 15 e 0) b) 15).tec = 256 ∧
      (ctlAt (after (.canAttemptFailed 15 e 0) b) 15).state = 2 ∧ (ctlAt (after (.canAttemptFailed 15 e 0) b) 15).busOff = 1 := by decide +kernel

theorem wit_CanErrors_receiver :
    let b := canned 1 { state := 0, recc := 127 } {} []
    (ctlAt (after (.errorFrameDetected 15 7 true 0) b) 15).recc = 128 ∧ (ctlAt (after (.errorFrameDetected 15 7 true 0) b) 15).state = 1 ∧
      (ctlAt (after (.errorFrameDetected 15 7 true 16) b) 15).recc = 255 := by decide +kernel

theorem wit_CanErrors_recover :
    let b := canned 1 { state := 2, tec := 256 } {} []
    b.glb.ready = true ∧ (ctlAt (after (.recover 1 15) b) 15).recovering = true ∧ (ctlAt (after (.recovered 15) (after (.recover 1 15) b)) 15).state = 0 ∧
      (ctlAt (after (.recovered 15) (after (.recover 1 15) b)) 15).tec = 0 := by decide +kernel

theorem wit_CanErrors_mode :
    let b := { canned 1 { state := 0, unmatched := 9 } {} [] with ptn := { role := 1 } }
    (ctlAt b 15).state ≤ 1 ∧ inArbObj b 15 = none ∧ (ctlAt (after (.canModeChange 15) b) 15).monitor = true ∧
      (ctlAt (after (.canClrCounts 1 15) b) 15).unmatched = 0 := by decide +kernel

/-! Time. -/

/-- A module whose clocks only link H1 may discipline, at tick 9. -/
def clocked (m : Tim) : Block := { banked [(1, [(0, 3 + 0x1000), (3, 0x11), (4, 0x11)])] with tb := 9, tim := m }

theorem wit_DisciplineCaptured_takes :
    let b := clocked { acts := [.snap] }
    mayDiscipline 1 b = true ∧ b.glb.ready = true ∧ incMin ≤ (0x00000009FD70A3D7 : BitVec 64).toNat ∧
      (after (.incWrite 1 2 0x00000009FD70A3D7) b).tim = { acts := [.snap, .inc 2 incMin], applyTick := 9 } ∧
      (after (.stepWrite 1 1 0xFFFFFFFFFFFFFFFF) b).tim.acts = [.snap, .stepBy 1 (-1)] ∧ (after (.sel 1 2) b).tim.acts = [.snap, .sel 2] ∧
      (after (.setValid 1) b).tim.acts = [.snap, .setValid] ∧ (after (.clrValid 1) b).tim.acts = [.snap, .clrValid] ∧
      (after (.snap 1) b).tim.acts = [.snap, .snap] := by decide +kernel

theorem wit_DisciplineCaptured_time :
    let b := clocked { setSecLo := 5, setSecHi := 1, setNsec := 999999999 }
    b.tim.vtValid = false ∧ b.tim.sel = 2 ∧ (after (.setTime 1) b).tim.acts = [.setTime 0x100000005 999999999] ∧
      bit (after (.setTime 1) (clocked { setNsec := 1000000000 })).tim.latch tlRefused = true := by decide +kernel

theorem wit_DisciplineCaptured_range :
    let b := clocked {}
    (0x0000000A028F5C29 : BitVec 64).toNat = incMax + 1 ∧ bit (after (.incWrite 1 0 0x0000000A028F5C29) b).tim.latch tlIncErr = true ∧
      bit (after (.sel 1 3) b).tim.latch tlRefused = true ∧ (after (.sel 1 3) b).tim.acts = [] := by decide +kernel

theorem wit_DisciplineCaptured_refused :
    let b := clocked {}
    mayDiscipline 0 b = false ∧ bit (after (.incWrite 0 0 0x0000000A00000000) b).tim.latch tlRefused = true ∧
      bit (after (.setValid 0) b).tim.latch tlRefused = true ∧ (after (.setValid 0) b).tim.acts = [] := by decide +kernel

/-- The module after one step on an empty queue. -/
def ticked (m : Tim) : Tim :=
  match step (here (clocked m)) with
  | .next t => t.blk.tim
  | _ => { latch := 0xFFFF }

theorem wit_ClocksRun_tick :
    (clocked {}).glb.start = none ∧ (ticked { acts := [.inc 1 incMax] }).inc1 = incMax ∧
      (ticked { acts := [.setTime 5 6] }).vt = 5 * unitsPerSecond + 6 * 2 ^ 32 ∧ (ticked { acts := [.setValid] }).vtValid = true ∧
      (ticked { acts := [.clrValid], vtValid := true }).vtValid = false ∧ (ticked { acts := [.sel 1] }).sel = 1 ∧
      (ticked { acts := [.snap] }).snap.tb = 10 := by decide +kernel

theorem wit_ClocksRun_reference :
    let b := { clocked { refFrom := 5 } with tb := 10000005 }
    let c := { clocked { refFrom := 5, refWasLost := true } with tb := 1000000004 }
    (after .refQualified b).tim.extRef = true ∧ (after .refQualified c).tim.extRef = false ∧ (after .refLost (clocked { extRef := true })).tim.extRef = false ∧
      bit (after .refLost (clocked { extRef := true })).tim.latch tlRefLost = true ∧
      (after .refLost (clocked { extRef := true })).tim.refFrom = 9 ∧ (after .refLost (clocked { extRef := true })).tim.refWasLost = true := by decide +kernel

theorem wit_ClocksRun_hold :
    let b := { clocked { vtValid := true } with tb := 100000000 }
    discHold b = 1 ∧ b.tim.holdFrom + discHold b * 100000000 ≤ b.tb ∧ (after .discHoldExpiry b).tim.vtValid = false ∧
      bit (after .discHoldExpiry b).tim.latch tlHoldExpired = true := by decide +kernel

theorem wit_ClocksRun_slewed :
    let b := clocked { slewing := true, sel := 1, sc1 := 7, vt := 7 }
    b.tim.sel < 2 ∧ ((b.tim.sc b.tim.sel : Int) - b.tim.vt).natAbs ≤ slewStep b ∧ (after .slewComplete b).tim.slewing = false ∧
      (after .slewComplete b).tim.vt = 7 := by decide +kernel

theorem wit_ClocksRun_edges :
    let b := { clocked { ppsB := { tb := 0, good := 2, count := 0xFFFFFFFF } } with tb := 100020000 }
    0 < (ppsIn b 1).good ∧ 99980000 ≤ b.tb - (ppsIn b 1).tb ∧ b.tb - (ppsIn b 1).tb ≤ 100020000 ∧ (after (.ppsInEdge 1) b).tim.ppsB.ok = true ∧
      (after (.ppsInEdge 1) b).tim.ppsB.count = 0 ∧ (after (.ppsInEdge 1) { b with tb := 100020001 }).tim.ppsB.good = 1 ∧
      (after (.ppsInEdge 1) { b with tb := 100020001 }).tim.ppsB.ok = false := by decide +kernel

theorem wit_ClocksRun_silence :
    let b := { clocked { ppsB := { ok := true, good := 9 } } with tb := 150000000 }
    (ppsIn b 1).tb + 150000000 ≤ b.tb ∧ (after (.ppsInTimeout 1) b).tim.ppsB = {} ∧ bit (after (.ppsInTimeout 1) b).tim.latch 5 = true := by
  decide +kernel

theorem wit_ClocksRun_outputs :
    let b := clocked { vt := 5 * unitsPerSecond }
    let c := { b with glb := { b.glb with bank0 := {} } }
    let d := { b with tim := { b.tim with vt := b.tim.vt + b.tim.inc0 } }
    ppsPasses b 1 = true ∧ ppsOutOpen b 1 = true ∧ (ppsOut b 1).riseAt = none ∧ (after (.ppsOutRise 1) b).out = [.pin 1 1 true] ∧
      (after (.ppsOutRise 1) b).tim.outB = { level := true, riseAt := some 9, fallAt := 100009 } ∧ ppsOutOpen c 1 = false ∧ after (.ppsOutRise 1) c = c ∧
      ppsPasses d 1 = false ∧ after (.ppsOutRise 1) d = d ∧
      (after (.ppsOutFall 1) { b with tim := { outB := { level := true, fallAt := 9 } } }).out = [.pin 1 1 false] := by decide +kernel

/-! Ethernet. -/

/-- Network 3 with ENTRY_FORGET 10 ms and further bits, a filter for type 0x88B5 on MRX ring 6, and both its links up. -/
def netted (cfg : Nat) (x : Net) : Block :=
  let b := withRing 6 (runRing 5 []) (banked [(7, [(12, 0x29 + cfg), (112, 0x31), (113, 0x88B5)])])
  { b with tb := 200000000, eth := { nets := [(3, { x with upA := true, upB := true })] } }

/-- A frame of a type from source 7, with what follows. -/
def etherFrame (type : List Byte) (l : List Byte) : List Byte := List.replicate 6 0xFF ++ [0, 0, 0, 0, 0, 7] ++ type ++ List.replicate (46 - l.length) 0 ++ l

theorem wit_NetworksHear_drop :
    let b := netted 0 { dropsB := 65535 }
    let f := etherFrame [0x88, 0xB5] []
    netEn b 3 = true ∧ lanUp b 3 1 = true ∧ netSingle b 3 = false ∧ frLenOk f = true ∧ frType f ≠ 0x8808 ∧
      (netAt (after (.ethFrameReceive 7 f 0 true) b) 3).dropsB = 65535 ∧ bit (netAt (after (.ethFrameReceive 7 f 0 true) b) 3).latch nlFIFO = true := by
  decide +kernel

theorem wit_NetworksHear_duplicate :
    let y : Node := { mac := 7, smax := 5, record := 1, lastTick := 0 }
    let b := netted 0 { nodes := [y], prpDup := 0xFFFFFFFF }
    let f := etherFrame [0x88, 0xB5] [0, 5, 0xB0, 46, 0x88, 0xFB]
    let g := f.take (f.length - 6)
    rctOf f = some (5, 0xB) ∧ netSingle b 3 = false ∧ ptpDomain b 3 1 g = none ∧ ((netAt b 3).nodes.find? fun y => y.mac == frSrc g) = some y ∧
      (netAt (after (.ethFrameReceive 7 f 0 false) b) 3).prpDup = 0 ∧
      (netAt (after (.ethFrameReceive 7 f 0 false) b) 3).nodes = [{ y with lastTick := 200000000 }] := by decide +kernel

theorem wit_NetworksHear_strange :
    let b := netted 0 { unmatched := 255 }
    let f := etherFrame [0x88, 0xB6] []
    rctOf f = none ∧ ptpDomain b 3 1 f = none ∧ frFragment f = false ∧ frOwnUdp f = none ∧ ethOwnTraffic b 3 f = none ∧ rxFilter b 3 f = none ∧
      netDefaultEn b 3 = false ∧ (netAt (after (.ethFrameReceive 7 f 0 false) b) 3).unmatched = 255 := by decide +kernel

theorem wit_NetworksHear_claimed :
    let b := netted 0 {}
    let f := etherFrame [0x88, 0xB5] []
    rctOf f = none ∧ ptpDomain b 3 1 f = none ∧ frFragment f = false ∧ frOwnUdp f = none ∧ ethOwnTraffic b 3 f = none ∧ rxFilter b 3 f = some 0 ∧
      fld (rxfCfg b 3 0) 3 7 = 6 ∧ (ring b 6).kind = tMRX ∧ (ring b 6).state = .running ∧ mrxUsed b + f.length ≤ 131072 ∧
      (ring (after (.ethFrameReceive 7 f 12 false) b) 6).frames = [{ bus := 2, port := 3, obj := 0, time := 12, flags := 6, body := f }] := by
  decide +kernel

theorem wit_NetworksHear_supervision :
    let b := netted 0 { seqNr := 65535 }
    b.tb % 200000000 = 0 ∧ isActive b = true ∧ moduleForce b = false ∧ (netAt (after .prpSupervision b) 3).seqNr = 0 ∧
      (after .prpSupervision b).out = [.ethOwn 3 1 2 0 65535, .ethOwn 3 0 2 0 65535] := by decide +kernel

theorem wit_NetworksHear_forget :
    let b := netted 0 { nodes := [{ mac := 7, smax := 5, record := 1, lastTick := 199000000 }, { mac := 8, smax := 5, record := 1, lastTick := 0 }] }
    netForget b 3 = 1000000 ∧ ((netAt (after (.nodeForget 3 7) b) 3).nodes.map Node.mac) = [8] := by decide +kernel

theorem wit_NetworksHear_stream :
    let b := { plain with tb := 200000001, eth := { streams := [(15, { receiving := true })] } }
    (strAt b 15).lastTick + 200000000 < b.tb ∧ (strAt (after (.receivingTimeout 15) b) 15).receiving = false := by decide +kernel

theorem wit_NetworksHear_links :
    let b := netted 0 { wrongLan := 9 }
    isFenced b (.eth 7) = false ∧ (netAt (after (.ethLinkChange 7 false) b) 3).upB = false ∧ (netAt (after (.ethLinkChange 7 false) b) 3).upA = true ∧
      bit (netAt (after (.ethLinkChange 7 false) b) 3).latch nlLINK = true ∧ after (.ethLinkChange 7 true) b = b ∧ b.glb.ready = true ∧
      (netAt (after (.ethClrCounts 1 3) b) 3).wrongLan = 0 := by decide +kernel

/-- An MTX descriptor for a network or port, with two bytes of payload. -/
def mtxDesc (bus port launch : Nat) : Desc :=
  { idx := 7, w := [0, 0, 2, w32 (bus * 2 ^ 28 + port * 2 ^ 20), w32 launch, 0, 0, 0], buf := .data [1, 2] }

/-- MTX ring 6 with a descriptor, network 3 with frames in its queue, and serial port 23. -/
def sending (d : Desc) (x : Net) (p : SerPort) : Block :=
  let b := withRing 6 { runRing 4 [d] with hIdx := 20 } (banked [(7, [(12, 0x29)]), (8, [(92, 1), (93, 16)])])
  { b with tb := 9, eth := { nets := [(3, { x with upA := true })] }, ser := { ports := [(23, p)] } }

theorem wit_PayloadsSent_queued :
    let q : EthTx := { ring := 9, idx := 1, bytes := [], late := false, ptp := none }
    let b := sending (mtxDesc 2 3 9) { txq := [q, q] } {}
    mtxNext b 6 = some (mtxDesc 2 3 9) ∧ mtxPayload (mtxDesc 2 3 9) = some [1, 2] ∧ mtxLaunch (mtxDesc 2 3 9) ≤ b.tb ∧ mtxBus (mtxDesc 2 3 9) = 2 ∧
      ptpDomain b 3 2 [1, 2] = none ∧ ethTxLans b 3 none ≠ [] ∧ isActive b = true ∧ moduleForce b = false ∧
      (netAt (after (.ethLaunch 6) b) 3).txq = [q, { ring := 6, idx := 7, bytes := [1, 2], late := false, ptp := none }, q] := by decide +kernel

theorem wit_PayloadsSent_dead :
    let b := { sending (mtxDesc 2 3 0) {} {} with ptn := { role := 1 } }
    isActive b = false ∧ ((ring (after (.ethLaunch 6) b) 6).fetched.map fun d => d.done.map (·.status)) = [some stTX_FAILED] := by decide +kernel

theorem wit_PayloadsSent_serial :
    let b := sending (mtxDesc 3 23 0) {} {}
    let c := sending (mtxDesc 3 23 0) {} { tx := some (5, 1, 0, false) }
    mtxBus (mtxDesc 3 23 0) = 3 ∧ serRefuses b 23 = none ∧ serAhead b 6 (mtxDesc 3 23 0) = false ∧ (serAt (after (.serialTransmit 6) b) 23).tx = some (6, 7, 9, false) ∧
      (after (.serialTransmit 6) b).out = [.serial 23 [1, 2]] ∧ serRefuses c 23 = none ∧ (serAt c 23).tx ≠ none ∧
      serRefuses { b with ptn := { role := 1 } } 23 = some stROLE := by decide +kernel

theorem wit_PayloadsSent_frame :
    let q : EthTx := { ring := 6, idx := 7, bytes := [1, 2], late := true, ptp := none }
    let b := sending (mtxDesc 2 3 0) { txq := [q], seqNr := 65535 } {}
    (netAt (after (.ethFrameSent 3 ⟨8, 9⟩) b) 3).txq = [] ∧ (netAt (after (.ethFrameSent 3 ⟨8, 9⟩) b) 3).seqNr = 0 ∧
      ((ring (after (.ethFrameSent 3 ⟨8, 9⟩) b) 6).fetched.map fun d => d.done.map fun x => (x.status, x.tick)) = [some (stLAUNCH_LATE, 8)] ∧
      (after (.ethFrameSent 3 ⟨8, 9⟩) b).out = [.eth 3 0 ([1, 2] ++ List.replicate 58 0 ++ [0xFF, 0xFF, 0xA0, 52, 0x88, 0xFB])] := by decide +kernel

theorem wit_PayloadsSent_forced :
    let q : EthTx := { ring := 6, idx := 7, bytes := [1, 2], late := true, ptp := none }
    let b := sending { mtxDesc 2 3 0 with handed := true } { txq := [q] } {}
    let c := { b with glb := { b.glb with bank0 := bankOf [(3, [(246, 0x1000000)])] }, saf := { fns := [(31, { tripped := true })] } }
    moduleForce c = true ∧ (netAt c 3).txq = [q] ∧ (netAt (after (.ethFrameSent 3 ⟨8, 9⟩) c) 3).txq = [] ∧
      ((ring (after (.ethFrameSent 3 ⟨8, 9⟩) c) 6).fetched.map fun d => d.done.map (·.status)) = [some stTX_FAILED] := by decide +kernel

theorem wit_PayloadsSent_event :
    let q : EthTx := { ring := 6, idx := 7, bytes := [1, 2], late := false, ptp := some (1, true) }
    let b := { sending (mtxDesc 2 3 0) { txq := [q] } {} with tim := { sc1 := 5 * unitsPerSecond } }
    (netAt b 3).txq = [q] ∧ ((ring (after (.ethFrameSent 3 ⟨9, 3⟩) b) 6).fetched.map fun d => d.done.map (·.status)) = [some 0] := by decide +kernel

theorem wit_PayloadsSent_serialDone :
    let b := sending { mtxDesc 3 23 0 with handed := true } {} { tx := some (6, 7, 4, false) }
    (serAt (after (.serialTxComplete 23) b) 23).tx = none ∧
      ((ring (after (.serialTxComplete 23) b) 6).fetched.map fun d => d.done.map fun x => (x.status, x.tick)) = [some (0, 4)] := by decide +kernel

/-! Serial ports. -/

/-- Port 23, which requires checksums and forwards everything to MRX ring 6, in a mode. -/
def lined (mode : Nat) (x : SerPort) : Block :=
  let b := withRing 6 (runRing 5 []) (banked [(8, [(92, 0x6E01 + 8 * mode)])])
  { b with tb := 9, ser := { ports := [(23, x)] } }

/-- "$GPX,1*52" and CR LF, and the same with another checksum. -/
def goodLine : List Byte := [0x24, 0x47, 0x50, 0x58, 0x2C, 0x31, 0x2A, 0x35, 0x32, 0x0D, 0x0A]
def badLine : List Byte := [0x24, 0x47, 0x50, 0x58, 0x2C, 0x31, 0x2A, 0x35, 0x33, 0x0D, 0x0A]

theorem wit_LinesRead_good :
    let b := lined 0 { good := 65535 }
    serHears b 23 8 = true ∧ serMode b 23 = 0 ∧ serDeaf b 23 9 = false ∧ goodLine.length ≤ 1024 ∧ cutStarts (splitLine goodLine).2 = [goodLine] ∧
      sentenceFail false (serReqCsum b 23) (splitLine goodLine).1 goodLine = none ∧ talkerPass b 23 (sentenceAddr goodLine) = true ∧
      serRawEn b 23 = true ∧ serRawAll b 23 = true ∧ (ring b 6).kind = tMRX ∧ serAt (after (.sentenceReceive 23 goodLine 8 [] true) b) 23 =
        { good := 0, goodAt := some 9 } ∧ (ring (after (.sentenceReceive 23 goodLine 8 [] true) b) 6).frames =
        [{ bus := 3, port := 23, obj := 0, time := 8, flags := 0, body := goodLine }] := by decide +kernel

theorem wit_LinesRead_fails :
    let b := lined 0 { csum := 255 }
    sentenceFail false (serReqCsum b 23) (splitLine badLine).1 badLine = some 1 ∧ cutStarts (splitLine badLine).2 = [badLine] ∧
      serAt (after (.sentenceReceive 23 badLine 8 [] true) b) 23 = { csum := 255, latch := 2 } ∧
      serAt (after (.sentenceReceive 23 badLine 8 [] false) b) 23 = { csum := 255, bufDrop := 1, latch := 8 } ∧
      serAt (after (.sentenceReceive 23 badLine 8 [4] true) b) 23 = { csum := 255, framing := 1, latch := 1 } ∧
      serHears b 23 b.tb = true ∧ serAt (after (.sentenceGap 23) b) 23 = { csum := 255, format := 1, latch := 4 } := by decide +kernel

theorem wit_LinesRead_talker :
    let b := lined 0 {}
    let c := { b with glb := { b.glb with bank0 := bankOf [(8, [(92, 0x6E01), (94, 0x5A5A)])] } }
    sentenceFail false (serReqCsum c 23) (splitLine goodLine).1 goodLine = none ∧ talkerPass c 23 (sentenceAddr goodLine) = false ∧
      serHears c 23 8 = true ∧ serAt (after (.sentenceReceive 23 goodLine 8 [] true) c) 23 = { talker := 1 } := by decide +kernel

theorem wit_LinesRead_chunk :
    let b := lined 1 {}
    serMode b 23 = 1 ∧ serHears b 23 8 = true ∧ serAt (after (.chunkEnd 23 [5] 8 0 0) b) 23 = { goodAt := some 9 } ∧
      (ring (after (.chunkEnd 23 [5] 8 0 0) b) 6).frames = [{ bus := 3, port := 23, obj := 0, time := 8, flags := 4, body := [5] }] := by decide +kernel

/-! Faults and ageing. -/

/-- A location of loop lane `n`. -/
def laneLoc (n : Nat) : Word := locOf 2 0 0 n 0x3F 0xFF

/-- Slot 15 holds the open record of a fault of loop lane 15, which reaction 1 fences. -/
def opened (reaction : Nat) (f : Flt) : Block :=
  { plain with
    tb := 9
    flt := { f with recs := [(15, { isOpen := true, loc := laneLoc 15, reaction := reaction, source := 5, merges := 255 })], newest := 15 } }

/-- Record `k` once a command has been carried out. -/
def recAfter (c : Instr) (b : Block) (k : Nat) : FaultRec := tget {} (after c b).flt.recs k

theorem wit_FaultsRecorded_opens :
    let b := opened 1 { seq := 65535 }
    locOk (chnLoc 3 0) = true ∧ openSlot b.flt (locDomain (chnLoc 3 0)) = none ∧ (recAfter (.faultDetected 0x0C (chnLoc 3 0) false false .plain) b 0).source = 0x0C ∧
      (recAfter (.faultDetected 0x0C (chnLoc 3 0) false false .plain) b 0).seq = 0 ∧
      (recAfter (.faultDetected 0x0C (chnLoc 3 0) false false .plain) b 0).first = 9 := by decide +kernel

theorem wit_FaultsRecorded_forced :
    let b := opened 1 { forceLo := 0x1000, forceMode := 1, injected := 65535 }
    forceArmed b.flt 0x0C (chnLoc 3 0) 0 = true ∧ (after (.faultDetected 0x0C (chnLoc 3 0) false true .plain) b).flt.injected = 0 ∧
      forceArmed { b.flt with spent := [0x0C] } 0x0C (chnLoc 3 0) 0 = false ∧
      after (.faultDetected 0x0C (chnLoc 3 0) false true .plain) (opened 1 { forceLo := 0x1000 }) = opened 1 { forceLo := 0x1000 } := by decide +kernel

theorem wit_FaultsRecorded_merges :
    let b := opened 1 { merges := 255 }
    openSlot b.flt 2 = some 15 ∧ locDomain (laneLoc 3) = 2 ∧ locOk (laneLoc 3) = true ∧ srcAlways 0x0C = false ∧
      (recAfter (.faultDetected 0x0C (laneLoc 3) false false .plain) b 15).merges = 255 ∧
      (recAfter (.faultDetected 0x0C (laneLoc 3) false false .plain) b 15).lastSource = 0x0C ∧
      (recAfter (.faultDetected 0x0C (laneLoc 3) false false .plain) b 15).lastLoc = laneLoc 3 := by decide +kernel

theorem wit_FaultsRecorded_unlisted : locOk 0xC0000000 = false ∧ locOk (laneLoc 20) = false ∧
    after (.faultDetected 0x0C 0xC0000000 true false .plain) (opened 1 {}) = opened 1 {} ∧
    after (.faultDetected 5 (laneLoc 20) true false .plain) (opened 1 {}) = opened 1 {} := by decide +kernel

theorem wit_FaultsRecorded_isolates :
    let b := opened 1 {}
    b.flt.isolated = false ∧ openSlot b.flt 4 = none ∧ openSlot b.flt 7 = none := by decide

theorem wit_FaultsRecorded_closes :
    let b := opened 0 { corrected := 65535 }
    openSlot b.flt 2 = some 15 ∧ (recAfter (.faultHandlingEnd 2) b 15).isOpen = false ∧ (recAfter (.faultHandlingEnd 2) b 15).last = 9 ∧
      (after (.faultHandlingEnd 2) b).flt.corrected = 65535 ∧ openSlot (opened 3 {}).flt 2 = some 15 ∧
      after (.faultHandlingEnd 2) (opened 3 {}) = opened 3 {} := by decide +kernel

theorem wit_FaultsRecorded_hang :
    let b := banked [(3, [])]
    actExists b 1 = true ∧ 29 ∈ actSites b 1 ∧ openSlot b.flt (locDomain (siteLoc 29)) = none ∧ (recAfter (.stageHang 1 29) b 0).loc = siteLoc 29 := by
  decide +kernel

theorem wit_FaultsRecorded_scrub : (after (.scrubPassEnd 1 3) (opened 1 {})).flt.mramPass = 9 ∧ (after (.scrubPassEnd 0 3) (opened 1 {})).flt.sramPass = 9 := by
  decide +kernel

theorem wit_FaultsRecorded_forces :
    let b := opened 1 { spent := [5] }
    let h := { b with links := [(1, { held := some (0xB0020, 0xFFFFFFFF) })] }
    let c := { b with sec := { lifecycle := 2 } }
    b.glb.ready = true ∧ forceAllowed b = true ∧ (after (.forceWrite 1 2 7) b).flt.forceLoc = 7 ∧ (after (.forceWrite 1 3 2) b).flt.forceMode = 2 ∧
      (hostLink h 1).held = some (0xB0020, 0xFFFFFFFF) ∧ (after (.forceWrite 1 1 7) h).flt.forceLo = 0xFF9FFFFF ∧ (after (.forceWrite 1 1 7) h).flt.forceHi = 7 ∧
      (hostLink (after (.forceWrite 1 0 7) b) 1).held = some (0xB0020, 7) ∧ forceAllowed c = false ∧ (after (.forceWrite 1 2 7) c).flt.forceRefused = true ∧
      (after (.forceWrite 1 2 7) c).flt.forceLoc = 0xFFFFFFFF ∧ (after (.forceWrite 1 3 3) b).flt.forceRefused = true := by decide +kernel

/-- A module at a tick with its growth monitor. -/
def grown (tick : Nat) (g : Growth) : Block := { plain with tb := tick, growth := g }

theorem wit_GrowthAges_reading :
    let b := grown 10000000 { sites := [(32, { window := [(9990000, 5), (0, 4)], obsRing := [(4, 8)] })], trimApplied := 0 }
    b.tb % 10000 = 0 ∧ isFenced b .growth = false ∧
      (siteAt (after (.replicaMeasurement (List.replicate 33 7)) b) 32).window = [(10000000, 7), (9990000, 5)] ∧
      tget 0 (siteAt (after (.replicaMeasurement (List.replicate 33 7)) b) 32).obsRing 4 = 8 ∧
      tget 0 (siteAt (after (.replicaMeasurement (List.replicate 33 7)) b) 32).obsMark 4 = 7 := by decide +kernel

theorem wit_GrowthAges_bark :
    let b := grown 100000000 { sites := [(32, { window := [(99990000, 8)] })] }
    b.tb % 100000000 = 0 ∧ (siteAt b 32).window.head? = some (99990000, 8) ∧
      (siteAt (after (.barkMeasurement (List.replicate 33 4)) b) 32).gMax = 0x40000000 ∧
      (siteAt (after (.barkMeasurement (List.replicate 33 4)) b) 32).gHourN = 1 := by decide +kernel

theorem wit_GrowthAges_age :
    let b := grown 36000000000 { age := 0xFFFFFFFF }
    b.tb % 36000000000 = 0 ∧ b.tb ≠ 0 ∧ (after .ageSave b).growth.age = 0 := by decide +kernel

theorem wit_GrowthAges_mark :
    let b := grown 9 { age := 7305 }
    b.growth.age % 7305 = 0 ∧ b.growth.closed < b.growth.age / 7305 ∧ isFenced b .growth = false := by decide

theorem wit_GrowthAges_out :
    let b := grown 1000000 { exceed := [(1, 1)] }
    tget 0 b.growth.exceed 1 ≠ 0 ∧ tget 0 b.growth.exceed 1 + 1000000 ≤ b.tb + 1 ∧ 1 ∉ b.growth.outRaised ∧ isFenced b .growth = false ∧
      actSites b 1 = [29] ∧ openSlot b.flt (locDomain (siteLoc 29)) = none := by decide

theorem wit_GrowthAges_trims :
    let b := grown 8640000000000 { quietSince := some 0, trimReq := -3, trimSeq := 255 }
    0 + 8640000000000 ≤ b.tb ∧ -4 < b.growth.trimReq ∧ b.glb.growthStep = none ∧ (after .trimStepDown b).growth.trimReq = -4 ∧
      (after .trimStepDown b).growth.trimSeq = 0 ∧ (after .trimStepDown b).out = [.carrier (trimFrame (-4) 0)] := by decide +kernel

theorem wit_GrowthAges_repeats :
    let b := grown 2000000 { trimEcho := false, trimReq := 1, trimSeq := 6 }
    b.growth.trimSent + 2000000 ≤ b.tb ∧ (after .trimReqRepeat b).out = [.carrier (trimFrame 1 6)] ∧
      (after (.trimAck [0x41, 0xFF, 6, crc8 0x07 [0x41, 0xFF, 6]]) b).growth.trimApplied = -1 ∧
      (after (.trimAck [0x41, 0xFF, 6, crc8 0x07 [0x41, 0xFF, 6]]) b).growth.trimEcho = true ∧ crc8 0x07 [0x41, 0xFF, 6] ≠ 0 ∧
      after (.trimAck [0x41, 0xFF, 6, 0]) b = b := by decide +kernel

theorem wit_GrowthAges_differs :
    let b := grown 1000000 { trimReq := 1 }
    b.growth.trimApplied ≠ b.growth.trimReq ∧ b.growth.trimRaised = false ∧ b.growth.trimAt + 1000000 ≤ b.tb ∧
      openSlot b.flt (locDomain (siteLoc 32)) = none ∧ (recAfter .trim b 0).source = 0x14 ∧ (after .trim b).growth.trimRaised = true := by decide +kernel

theorem wit_GrowthAges_monitor :
    let b := { grown 9 {} with prf := { mons := [(31, { count := 5 })] } }
    b.glb.ready = true ∧ isFenced b .monitors = false ∧ (after (.clr 1 31) b).prf.clears = [31] ∧
      (tget {} (after (.clr 1 31) b).prf.mons 31).count = 5 ∧ tget {} (idleTick (after (.clr 1 31) b)).prf.mons 31 = {} := by decide +kernel

/-! The recorder and the display. -/

/-- A snapshot of 23 values, of which a part has been written. -/
def snapshot (n : Nat) : Snapshot :=
  { kind := 1, trigger := 31, tick := 5, vtSec := 0, vtNsec := 0, vtValid := false, state := 0, detail := 0, vals := List.replicate 23 9, crc := 0, written := n }

theorem wit_RecordsWritten_last :
    let b := { plain with recorder := { held := [snapshot 1], seq := 0xFFFFFFFF, sapNext := 32767 } }
    b.recorder.logicFenced = false ∧ b.glb.mramOk = true ∧ nextHeld b.recorder.held = some 0 ∧ b.recorder.held[0]? = some (snapshot 1) ∧
      b.sec.lifecycle ≠ 3 ∧ hwOpen b.recorder = false ∧ (after .recordWritten b).recorder.seq = 1 ∧ (after .recordWritten b).recorder.sapNext = 0 ∧
      (tget {} (after .recordWritten b).recorder.sap 32767).part = 0x21 ∧ (tget {} (after .recordWritten b).recorder.sap 32767).data = [9] ∧
      (after .recordWritten b).recorder.held = [] := by decide +kernel

theorem wit_RecordsWritten_heartwood :
    let b := { plain with recorder := { held := [snapshot 0], hwOpened := true, hwCount := 4094 } }
    hwOpen b.recorder = true ∧ b.recorder.hwCount + 1 ≠ 4096 ∧ (after .recordWritten b).recorder.hwCount = 4095 ∧
      (tget {} (after .recordWritten b).recorder.hw 4094).seqA = 1 ∧ (after .recordWritten b).recorder.held = [snapshot 1] := by decide +kernel

/-- A display with HB_PERIOD 1 s, the shortest update interval 0.1 s and REFRESH_PERIOD 1 h, whose last segment is always dark. -/
def shown (tick : Nat) (d : Dsp) : Block := { banked [(0xA, [(1088, 0x808083), (1523, 3)])] with tb := tick, dsp := d }

theorem wit_DisplayDrives_update :
    let b := shown 10000000 { railsOk := true }
    b.glb.active = true ∧ bit (dspCfg b) 0 = true ∧ dspFree b = true ∧ gapOver b = true ∧ 383 < 384 ∧
      wantsDark b 383 = true := by decide

theorem wit_DisplayDrives_frames :
    let b := shown 9 { state := 1, frames := 3, maskDark := 2, next := [(0, 1)], updates := 65535 }
    let c := shown 9 { state := 1, frames := 1, next := [(0, 1)], updates := 65535 }
    b.dsp.frameAt + b.dsp.frameT ≤ b.tb ∧ b.dsp.compensating = false ∧ b.dsp.stopAsked = false ∧ b.dsp.frame + 1 < b.dsp.frames ∧
      (after .displayFrame b).dsp.frame = 1 ∧ (after .displayFrame b).dsp.imbDark = -1 ∧ c.dsp.frames ≤ c.dsp.frame + 1 ∧
      (after .displayFrame c).dsp.shown = [(0, 1)] ∧ (after .displayFrame c).dsp.updates = 0 ∧ (after .displayFrame c).dsp.state = 0 := by decide +kernel

theorem wit_DisplayDrives_refresh :
    let b := shown 9 { railsOk := true, wanted := some 2 }
    b.dsp.wanted = some 2 ∧ dspView b = some b ∧ dspFree b = true := by decide

theorem wit_DisplayDrives_period :
    let b := shown 360000000000 {}
    fld (dspCfg b) 15 8 = 1 ∧ b.dsp.refreshFrom + 1 * 360000000000 ≤ b.tb ∧ (after .refreshPeriod b).dsp.wanted = some 4 := by decide +kernel

theorem wit_DisplayDrives_warm :
    let b := shown 10000000 { band := 5 }
    b.tb % 10000000 = 0 ∧ dspView b = some b ∧ (after (.thermistorRead (some 850)) b).dsp.tempOk = true ∧
      (after (.thermistorRead (some (-400))) b).dsp.temp = -400 ∧ (after (.thermistorRead (some 851)) b).dsp.tempOk = false ∧
      bit (after (.thermistorRead none) b).dsp.latch dlTempBad = true ∧ (after (.thermistorRead none) b).dsp.bandNow = 1 := by decide +kernel

theorem wit_DisplayDrives_rails :
    let b := shown 100000 { railsOk := true, state := 2 }
    b.tb % 100000 = 0 ∧ (after (.railCheck 15750 14250 3000) b).dsp.railsOk = true ∧ (after (.railCheck 15750 14250 3000) b).dsp.railP = 787 ∧
      (after (.railCheck 15751 14250 3000) b).dsp.railsOk = false ∧ (after (.railCheck 15751 14250 3000) b).dsp.wanted = some 2 ∧
      (after (.railCheck 15751 14250 3000) b).dsp.state = 0 ∧ bit (after (.railCheck 15751 14250 3000) b).dsp.latch dlRailsLost = true := by decide +kernel

theorem wit_DisplayDrives_heartbeat :
    let b := shown 100000000 {}
    fld (dspCfg b) 1 6 = 1 ∧ b.dsp.hbAt + 1 * 100000000 ≤ b.tb ∧ (after .heartbeat b).dsp.heartbeat = true ∧
      after .heartbeat { b with tb := 99999999 } = { b with tb := 99999999 } ∧ fld (dspCfg plain) 1 6 = 0 ∧
      (after .heartbeat { plain with dsp := { heartbeat := true } }).dsp.heartbeat = false := by decide +kernel

/-! Lifecycle, debug and power. -/

/-- A module with a bank in force that is confirmed or not, the key asserted, in a role, with its security state. -/
def secured (role : Nat) (c : Sec) : Block :=
  let b := banked []
  { b with tb := 5999999999, glb := { b.glb with key := true, bank0 := { b.glb.bank0 with confirmed := true } }, ptn := { role := role }, sec := c }

theorem wit_LifecycleTurns_typed : (after (.secConfirmWrite 1 7) (secured 1 {})).sec.typed = some 7 ∧
    (after (.secConfirmWrite 1 7) plain).sec.typed = none := by decide +kernel

theorem wit_LifecycleTurns_open :
    let b := secured 1 { level := 2 }
    b.sec.lifecycle = 0 ∧ b.sec.power < 2 ∧ (after (.openAction 2) b).sec.lifecycle = 1 ∧ (after (.openAction 2) b).sec.lcB = some 1 ∧
      (after (.openAction 2) b).sec.level = 0 ∧ (after (.openAction 1) b).sec.lifecycle = 0 ∧ (after (.openAction 1) b).sec.refuse = rfSOURCE := by
  decide +kernel

theorem wit_LifecycleTurns_seal :
    let b := secured 1 { lifecycle := 1, typed := some 0, seals := 255 }
    bankCrc b = 0 ∧ b.glb.key = true ∧ b.tb < b.sec.typedAt + 6000000000 ∧ b.sec.power < 2 ∧ b.sec.lcLock = false ∧ b.glb.shadow ≠ .loading ∧
      b.glb.shadow ≠ .checking ∧ b.glb.shadow ≠ .pending ∧ activeConfirmed b = true ∧ (after (.seal 1) b).sec.lifecycle = 2 ∧
      (after (.seal 1) b).sec.seals = 255 := by decide +kernel

theorem wit_LifecycleTurns_unseal :
    let b := secured 1 { lifecycle := 2, typed := some 0, lcA := some 2, lcB := some 2 }
    b.glb.active = true ∧ bankCrc b = 0 ∧ bit b.sec.policy 3 = true ∧ (after (.unseal 1) b).sec.lifecycle = 1 ∧ (after (.unseal 1) b).sec.unseals = 1 := by
  decide +kernel

theorem wit_LifecycleTurns_retire :
    let v := loW Sys2Proof.Config.serial.toNat
    let b := secured 2 { lifecycle := 2, typed := some v }
    b.sec.typed = some v ∧ b.sec.lifecycle = 2 ∧ b.ptn.role ≠ 0 ∧ paired b = false ∧ b.glb.key = true ∧ b.tb < b.sec.typedAt + 6000000000 ∧
      b.sec.power < 2 ∧ b.sec.lcLock = false := by
  refine ⟨rfl, rfl, ?_⟩
  decide

theorem wit_LifecycleTurns_level :
    let b := secured 1 { level := 1, lifecycle := 1, policy := 0xE }
    (after (.dbgSet 0 0) b).sec.level = 0 ∧ b.sec.level < 2 ∧ b.sec.lifecycle ≠ 2 ∧ bit b.sec.policy 2 = true ∧ (after (.dbgSet 0 2) b).sec.level = 2 := by
  decide +kernel

theorem wit_LifecycleTurns_port :
    let b := secured 1 { level := 1, dbgErr := true, dbgData := 5 }
    (after (.regRead 0xFFFFC) b).sec.dbgErr = false ∧ (after (.regRead 0xFFFFC) b).out = [.debug true 5] ∧
      (after (.regRead 0) (secured 1 {})).sec.dbgErr = true ∧ (after (.regWrite 0xF0020 7) b).sec.dbgErr = true ∧
      (after (.regWrite 0xF0020 0x12345) (secured 1 { level := 2 })).prf.actSel = 0x2345 ∧ (after .dbgNop b).sec.dbgErr = false := by decide +kernel

theorem wit_LifecycleTurns_array :
    let b := secured 1 { level := 1 }
    let c := secured 1 { level := 1, power := 1 }
    b.sec.power ≠ 1 ∧ gatedTile 0x40000000 = true ∧ locOk (laneLoc 15) = true ∧ openSlot b.flt (locDomain (laneLoc 15)) = none ∧
      (after (.arrayRead (laneLoc 15) (some 8)) b).flt.sramCorrected = 1 ∧ c.sec.power = 1 ∧ gatedTile 0x60000000 = false := by decide

theorem wit_PowerRides_alone :
    let b := { plain with sec := { feedA := true, feedB := true } }
    b.sec.power < 2 ∧ (after (.logicFeedLost 1) b).sec = { feedA := true } ∧ (after (.logicFeedRestored 1) (after (.logicFeedLost 1) b)).sec = b.sec := by
  decide +kernel

theorem wit_PowerRides_both :
    let b := { plain with tb := 9, growth := { age := 3 }, sec := { feedB := true, power := 1 } }
    (after (.logicFeedLost 1) b).sec = { power := 2, before := 1, rideFrom := 9, lastLoss := 3, latch := 2 } := by decide +kernel

theorem wit_PowerRides_early :
    let b := { plain with tb := 9, glb := { mramOk := false, start := some feeds }, sec := { feedB := true, lastLoss := 5 } }
    b.glb.mramOk = false ∧ (after (.logicFeedLost 1) b).sec.power = 3 ∧ (after (.logicFeedLost 1) b).glb.start = none ∧
      (after (.logicFeedLost 1) b).sec.lastLoss = 5 ∧ (after (.logicFeedLost 1) b).sec.powerDowns = 0 := by decide +kernel

theorem wit_PowerRides_returns :
    let b := { plain with tb := 9, sec := { power := 2, survived := 255 } }
    b.sec.downAt = none ∧ (after (.logicFeedRestored 1) b).sec.power = 0 ∧ (after (.logicFeedRestored 1) b).sec.feedB = true ∧
      (after (.logicFeedRestored 1) b).sec.survived = 255 := by decide +kernel

theorem wit_PowerRides_falls :
    let b := { plain with tb := 2000000, sec := { power := 2 } }
    b.sec.downAt = none ∧ b.sec.rideFrom + 2000000 ≤ b.tb ∧ 400 ≤ 400 := by decide

theorem wit_PowerRides_low :
    (after (.holdupLow 1599) { plain with sec := { chargedAt := some 0 } }).sec = { holdupMj := 1599 } := by decide +kernel

theorem wit_PowerRides_off :
    let b := { plain with sec := { power := 2, downAt := some 0 } }
    b.dsp.state ≠ 1 ∧ b.dsp.state ≠ 2 ∧ (after .powerOff b).sec.power = 3 := by decide +kernel

theorem wit_PowerRides_commit :
    let b := { plain with sec := { power := 2, downAt := some 0 }, ptn := { commit := some 1, commitPrev := true, buffer := { words := [0, 8] }, buffer1 := { words := [0, 7] } } }
    (after .powerOff b).sec.power = 3 ∧ (after .powerOff b).ptn.commit = none ∧ (after .powerOff b).ptn.slot1 = some { words := [0, 7] } := by decide +kernel

theorem wit_PowerRides_wakes :
    let b := { plain with sec := { waking := true } }
    let l := locOf 2 0 0 15 0x3F 0xFF
    locOk l = true ∧ (after (.wakeTest []) b).sec.waking = false ∧ unitAt l = .fence (.loopLane 15) ∧ openSlot b.flt (locDomain l) = none ∧
      (after (.wakeTest [l]) b).flt.fenced = [.loopLane 15] ∧ (tget {} (after (.wakeTest [l]) b).flt.recs 0).source = 5 := by decide +kernel
/-! Further clauses of the statements. -/

theorem wit_FetchTakes_own :
    let b := withRing 127 { runRing 0 [] with asked := 1, hIdx := 1, hUse := 1, err := 3 } askBlock
    0 < (ring askBlock 127).asked ∧ ringAvail (ring askBlock 127) = 1 ∧ bit (wAt [5] 7) 31 = false ∧
      (ring (after (.descriptorFetch 127 (some [5])) askBlock) 127).state = .stopped ∧
      (ring (after (.descriptorFetch 127 (some [5])) askBlock) 127).err = erOWN_ERR ∧ (ring (after (.descriptorFetch 127 (some [5])) b) 127).err = 3 ∧
      (ring (after (.descriptorFetch 127 none) b) 127).err = 3 ∧ (ring (after (.descriptorFetch 127 none) askBlock) 127).err = erFETCH_DMA := by decide

theorem wit_FetchTakes_credit :
    let b := withRing 127 { runRing 5 [] with asked := 1, fIdx := 131071, mIdx := 131071, hIdx := 0, hUse := 0 } askBlock
    ringAvail (ring b 127) = 1 ∧ creditFor b 127 { idx := 131071, w := readWords } = true ∧
      (ring (after (.descriptorFetch 127 (some readWords)) b) 127).state = .running ∧ (ring (after (.descriptorFetch 127 (some readWords)) b) 127).fIdx = 0 ∧
      (ring (after (.descriptorFetch 127 (some readWords)) b) 127).fetched.map (fun d => (d.idx, d.w)) = [(131071, readWords)] := by decide

theorem wit_FetchTakes_payload :
    let d : Desc := { idx := 9, w := [0, 0, 0, 0, 0x00020004, 0, 0, 0], buf := .requested }
    let b := withRing 127 (runRing 4 [d]) plain
    descAt b 127 9 = some d ∧ (ring b 127).kind = tMTX ∧
      (ring (after (.bufferReadCompletion 127 9 none) b) 127).fetched.map (fun e => e.done.map (·.status)) = [some stDMA] ∧
      (ring (after (.completionTimeout 127 (some 9)) b) 127).fetched.map (fun e => e.done.map (·.status)) = [some stDMA] := by decide

/-- The pass-through request of `passBlock` to a channel whose modem is as given. -/
def passOnline (h : Hart) : Block := { passBlock with chn := { chans := [(0, { fe := 3, hart := h })] } }

theorem wit_BufferedReplies_queue :
    let b := passOnline { state := 3, flight := some { kind := 1 }, queue := [{ kind := 3 }, { kind := 3 }, { kind := 3 }] }
    Accepts b .hartPassThrough 5 (bufDesc 0x05000000 16 [1, 0, 1, 5, 0, 0, 0, 0]) ∧ (chanAt b 0).hart.queue.length < 4 ∧
      (chanAt (after (.hartPassThrough 5) b) 0).hart.queue.length = 4 ∧ (after (.hartPassThrough 5) b).out = [] :=
  ⟨accepts_of (by decide), by decide, by decide, by decide⟩

theorem wit_BufferedReplies_sent :
    let b := passOnline { state := 2 }
    Accepts b .hartPassThrough 5 (bufDesc 0x05000000 16 [1, 0, 1, 5, 0, 0, 0, 0]) ∧ hartMay b 0 = true ∧ (chanAt b 0).hart.flight = none ∧
      ((chanAt (after (.hartPassThrough 5) b) 0).hart.flight.map fun t => (t.kind, t.idx)) = some (3, 7) ∧ (after (.hartPassThrough 5) b).out.length = 1 :=
  ⟨accepts_of (by decide), by decide, by decide, by decide, by decide⟩

theorem wit_SamplesAndImages_waits :
    let b := oneChan 191 1 { fe := 3, due := some 5, dueLate := true, dueSt := 0xB } 0 plain
    let c := { b with chn := { b.chn with chans := [(0, { due := some 4, dueLate := true }), (191, chanAt b 191)] } }
    let d := { imaged with chn := { imaged.chn with
      images := [(62, { due := some 0, deferred := true }), (63, { due := some 1, deferred := true })] } }
    (chanAt c 191).due = some 5 ∧ writeFirst c 191 5 = true ∧ after (.sampleWrite 191 0 false) c = c ∧ imageFirst d 63 1 = true ∧
      (imageAt d 63).deferred = true ∧ after (.imageAssembly 63 7) d = d := by decide

theorem wit_VaultKept_repairs :
    let b := { plain with tb := 1000000, glb := { plain.glb with selA := none, selB := some 1 } }
    (after .seedBoundary b).glb.selA = some 1 ∧ (after .seedBoundary b).glb.selB = some 1 := by decide +kernel

theorem wit_SeedCarried_slot :
    let b := { seeded { role := 0, capturing := some 497000, buffer := smallSeed, slot0 := some smallSeed, slot1 := some smallSeed } with freeze := some 497000 }
    b.ptn.nextSlot = 0 ∧ b.glb.mramOk = true ∧ (after .seedCaptureComplete b).ptn.slot0 = none ∧
      (after .seedCaptureComplete b).ptn.slot1 = some smallSeed := by decide +kernel

theorem wit_FaultsRecorded_waits :
    let b := opened 1 {}
    let r : FaultRec := { isOpen := true, loc := chnLoc 3 1, reaction := 0, source := 0x0C, members := [{ source := 0x0C, act := 0, loc := chnLoc 3 1, persistent := false }] }
    let c := { b with flt := { recs := [(15, r)], newest := 15 }, chn := { chans := [(3, { devRetry := some 5 })] } }
    openSlot c.flt 1 = some 15 ∧ r.members.all (memberDone c 0) = false ∧ after (.faultHandlingEnd 1) c = c ∧
      r.members.all (memberDone { c with tb := 1000005 } 0) = true ∧ (recAfter (.faultHandlingEnd 1) { c with tb := 1000005 } 15).isOpen = false := by
  decide +kernel

theorem wit_FaultsRecorded_credits :
    let b := opened 1 {}
    b.tb % 1000000 ≠ 0 ∧ after (.faultDetected 7 (chnLoc 3 0) false false .plain) b = b ∧
      (recAfter (.faultDetected 7 (chnLoc 3 0) false false .plain) { b with tb := 1000000 } 0).source = 7 := by decide +kernel

theorem wit_GrowthAges_image :
    let b := { grown 1000000 { exceed := [(0x43F, 1)] } with glb := { (grown 0 {}).glb with active := true } }
    tget 0 b.growth.exceed 0x43F + 1000000 ≤ b.tb + 1 ∧ isFenced b .growth = false ∧
      openSlot b.flt (locDomain (siteLoc (carrierSite b 0x43F (dCurAt b 0x43F)))) = none ∧ (recAfter (.marginOut 0x43F) b 0).source = 0x12 ∧
      (recAfter (.marginOut 0x43F) b 0).isOpen = false ∧ (after (.marginOut 0x43F) b).growth.outRaised = [0x43F] := by decide +kernel

theorem wit_GrowthAges_fenced :
    let b := { grown 9 { trimReq := 1 } with flt := { fenced := [.growth] } }
    (after (.trimAck [0x41, 1, 0, crc8 0x07 [0x41, 1, 0]]) b).growth.trimApplied = 0 ∧
      (after (.trimAck [0x41, 1, 0, crc8 0x07 [0x41, 1, 0]]) b).growth.trimEcho = true := by decide +kernel

theorem wit_CanErrors_off :
    let p : CanPend := { frame := frame1, inArb := some 9 }
    let b := canned 3 { state := 1, tec := 248, errs := 65535 } { pend := some p } []
    let e : CanFailure := { lost := false, lec := 4, dominant := false, exempt := false, eights := 0 }
    tdcOver b 15 0 frame1 = false ∧ (objAt (after (.canAttemptFailed 15 e 0) b) 2047).pend = none := by decide +kernel

theorem wit_PowersUp_contents :
    let b := { State.reset.blk with
      glb := { bank0 := bankOf [(3, [])], selA := some 1 }, ptn := { slot0 := some smallSeed, capSeq := 9 }, growth := { age := 7, trimReq := -1 }
      recorder := { seq := 5 }, links := [(0, { up := true })] }
    let c := after (.powerUp feeds) b
    b.glb.ready = false ∧ feeds.feedA = true ∧ c.glb.bank0 = b.glb.bank0 ∧ c.glb.selA = some 1 ∧ c.ptn.slot0 = some smallSeed ∧ c.ptn.capSeq = 0 ∧
      c.growth.age = 7 ∧ c.growth.trimReq = -1 ∧ c.recorder.seq = 5 ∧ c.links = [] ∧
      c.out = [.carrier (trimFrame (-1) c.growth.trimSeq)] ∧ after (.powerUp { feeds with feedA := false, feedB := false }) b = b := by decide +kernel

end Sys2Proof.Tests
end

namespace Sys2Proof.Laws

open Sys2Proof.Machine Sys2Proof.Safety

/-! The queue: a command leaves it as it stands, and a step takes its front. -/

/-- No command faults or is refused, and none touches the queue. -/
theorem exec_next (c : Instr) (s : State) : ∃ b, exec c s = .next { s with blk := b } := by
  obtain ⟨f, h⟩ := exec_actAlways c s
  exact ⟨_, h⟩

/-- As many steps as commands wait empty the queue. -/
theorem reaches_empty (l : List Instr) (b : Block) : ∃ c, Reaches l.length { pending := l, blk := b } { pending := [], blk := c } := by
  induction l generalizing b with
  | nil => exact ⟨b, rfl⟩
  | cons i l ih =>
    obtain ⟨b', hb'⟩ := exec_next i { pending := l, blk := b }
    obtain ⟨c, hc⟩ := ih b'
    exact ⟨c, _, hb', hc⟩

/-- Settles O2: `exec_next` gives the command's part, and the queue's part follows by induction on the queue. -/
theorem queueDrains : Obligations.QueueDrains := by
  unfold Obligations.QueueDrains
  constructor
  · intro c s
    obtain ⟨b, hb⟩ := exec_next c s
    exact ⟨_, hb, rfl, trivial⟩
  · intro s
    obtain ⟨c, hc⟩ := reaches_empty s.pending s.blk
    exact ⟨_, hc, rfl⟩

/-- A command whose operation leaves the module alone leaves everything alone, in Off and with operands that name nothing too. -/
theorem idle_of_act {c : Instr} {f : Block → Block} {s : State} (he : exec c s = act c f s) (hf : f s.blk = s.blk) : Idle c s := by
  rw [Idle, he]
  simp [act, actAlways, hf]

/-! Accesses through a host link (R12 to R16): what `hostWrite` and `hostRead` come to for each kind of register. -/

/-- A write of a source to an aligned offset is taken: the offset is a register's, no other link owns the configuration channel (R64), and its
block is ready (R51). -/
structure WriteTaken (b : Block) (src off : Nat) : Prop where
  aligned : off % 4 = 0
  inside : off < 0x100000
  mine : ¬ (src < 2 ∧ b.glb.owned = true ∧ b.glb.owner ≠ src ∧ ownedReg off = true)
  ready : 0x10000 ≤ off → b.glb.ready = true

/-- A module that is Ready, with the configuration channel owned by no link, takes every write to an aligned register. -/
theorem writeTaken_of_ready {b : Block} {src off : Nat} (hready : b.glb.ready = true) (howned : b.glb.owned = false) (ha : off % 4 = 0)
    (hi : off < 0x100000) : WriteTaken b src off :=
  ⟨ha, hi, by simp [howned], fun _ => hready⟩

/-- Every write ends the wait of a low word that the source wrote before (R13). -/
def dropHeld (src : Nat) (b : Block) : Block := modLink src (fun h => { h with held := none }) b

@[simp] theorem hostLink_dropHeld_self (src : Nat) (b : Block) : hostLink (dropHeld src b) src = { hostLink b src with held := none } := by
  simp [dropHeld, hostLink_modLink]

/-- A narrow or misaligned write is discarded (R12). -/
theorem hostWrite_discarded {src off : Nat} {v : Word} {wide : Bool} {b : Block} (h : wide = false ∨ off % 4 ≠ 0) :
    hostWrite src off v wide b = b := by
  refine if_pos ?_
  rcases h with h | h
  · exact .inl (by simp [h])
  · exact .inr (.inl h)

/-- The low word that a write to the high word commits: the one the source holds for that register, else the one present (R13). -/
def lowWord (b : Block) (src off : Nat) : Word :=
  match (hostLink b src).held with
  | some (o, w) => if o = off then w else readReg (dropHeld src b) src off
  | none => readReg (dropHeld src b) src off

theorem lowWord_of_held {src off : Nat} {lo : Word} {b : Block} (h : (hostLink b src).held = some (off, lo)) : lowWord b src off = lo := by
  simp [lowWord, h]

theorem lowWord_of_none {src off : Nat} {b : Block} (h : (hostLink b src).held = none) :
    lowWord b src off = readReg (dropHeld src b) src off := by
  simp [lowWord, h]

/-- What a write that is taken does depends on the kind of its register alone. -/
theorem hostWrite_taken {src off : Nat} {v : Word} {b : Block} (h : WriteTaken b src off) :
    hostWrite src off v true b =
      if isLow64 off then modLink src (fun l => { l with held := some (off, v) }) (dropHeld src b)
      else if isHigh64 off then write64 src (off - 4) (lowWord b src (off - 4)) v (dropHeld src b)
      else write32 src off v (dropHeld src b) := by
  obtain ⟨ha, hi, hm, hr⟩ := h
  have hword : ¬ ((!true) = true ∨ off % 4 ≠ 0 ∨ 0x100000 ≤ off) := by simp [ha, hi]
  have hready : ¬ (0x10000 ≤ off ∧ (!b.glb.ready) = true) := fun ⟨h1, h2⟩ => by simp [hr h1] at h2
  unfold hostWrite
  rw [if_neg hword, if_neg hm]
  exact if_neg hready

/-- A write to the low word of a 64-bit register is held for the source (R13). -/
theorem hostWrite_low64 {src off : Nat} {v : Word} {b : Block} (h : WriteTaken b src off) (hl : isLow64 off = true) :
    hostWrite src off v true b = modLink src (fun l => { l with held := some (off, v) }) (dropHeld src b) := by
  rw [hostWrite_taken h, if_pos hl]

/-- A write to the high word of a 64-bit register commits both words (R13). -/
theorem hostWrite_high64 {src off : Nat} {v : Word} {b : Block} (h : WriteTaken b src off) (hl : isLow64 off = false)
    (hh : isHigh64 off = true) : hostWrite src off v true b = write64 src (off - 4) (lowWord b src (off - 4)) v (dropHeld src b) := by
  simp [hostWrite_taken h, hl, hh]

/-- A write to a 32-bit register reaches it (R15). -/
theorem hostWrite_word {src off : Nat} {v : Word} {b : Block} (h : WriteTaken b src off) (hl : isLow64 off = false)
    (hh : isHigh64 off = false) : hostWrite src off v true b = write32 src off v (dropHeld src b) := by
  simp [hostWrite_taken h, hl, hh]

/-- A read of a whole aligned word shows what the source reads there, and loads its latches (R12). -/
theorem hostRead_word {src off : Nat} {b : Block} (ha : off % 4 = 0) (hi : off < 0x100000) :
    hostRead src off 4 b = emit (.regValue src off (w32 (fld (readThrough b src off) 0 32))) (readLatch src off b) := by
  simp [hostRead, ha, Nat.not_le.mpr hi]

/-- A read of a low word latches the high word for the source (R13). -/
theorem readLatch_low64 {src off : Nat} {b : Block} (hl : isLow64 off = true) :
    readLatch src off b = modLink src (fun h => { h with latch := some (off, readReg b src (off + 4)) }) b :=
  if_pos hl

/-- No bit of GLB_CFG_ADDR is reserved. -/
theorem readReg_addrLo (b : Block) (src : Nat) : readReg b src 0x40 = b.glb.addrLo :=
  BitVec.and_allOnes

/-! O16: the two words of a 64-bit register. -/

/-- HIGH_WORD_WRITE to the high word of a 64-bit register is the link's write there. -/
theorem does_highWordWrite {link off : Nat} {v : Word} {s : State} {Q : Block → Prop} (hlink : link < 2) (hon : On s)
    (h : WriteTaken s.blk link off) (hh : isHigh64 off = true) (hq : Q (hostWrite link off v true s.blk)) :
    Does (.highWordWrite link off v) s Q :=
  does_act rfl (by simp [Instr.ok, hlink, h.inside, h.aligned]) hon (by simpa [hh] using hq)

/-- Settles O16: each clause by the law of `hostRead` or `hostWrite` for the word it accesses. -/
theorem longRegisters : Obligations.LongRegisters := by
  unfold Obligations.LongRegisters
  intro link off v s hlink hon hready howned hi ha
  have h : WriteTaken s.blk link off := writeTaken_of_ready hready howned ha hi
  have h44 : WriteTaken s.blk link 0x44 := writeTaken_of_ready hready howned rfl (by decide)
  refine ⟨fun hl => ?read, fun hl => ?low, fun lo held => ?commit, fun held => ?alone⟩
  case read =>
    refine does_act rfl (by simp [Instr.ok, hlink, hi]) hon ?_
    rw [hostRead_word ha hi, readLatch_low64 hl]
    exact ⟨by simp [hostLink, modLink, tget_tmod], rfl, rfl⟩
  case low =>
    refine does_act rfl (by simp [Instr.ok, hlink, hi, ha]) hon ?_
    rw [if_pos hl, hostWrite_low64 h hl]
    exact ⟨by simp [hostLink_modLink], rfl⟩
  case commit =>
    refine does_highWordWrite hlink hon h44 rfl ?_
    rw [hostWrite_high64 h44 rfl rfl, lowWord_of_held held]
    exact ⟨congrArg HostLink.held (hostLink_dropHeld_self link s.blk), rfl⟩
  case alone =>
    refine does_highWordWrite hlink hon h44 rfl ?_
    rw [hostWrite_high64 h44 rfl rfl, lowWord_of_none held, readReg_addrLo]
    rfl

/-! O17: a register of each access code. -/

/-- REGISTER_WRITE to a 32-bit register that takes the write does what the register's row says. -/
theorem does_registerWrite {link off : Nat} {v : Word} {s : State} {Q : Block → Prop} (hlink : link < 2) (hon : On s)
    (h : WriteTaken s.blk link off) (hl : isLow64 off = false) (hh : isHigh64 off = false)
    (hq : Q (write32 link off v (dropHeld link s.blk))) : Does (.registerWrite link off v true) s Q :=
  does_act rfl (by simp [Instr.ok, hlink, h.inside]) hon (by rwa [hostWrite_word h hl hh])

/-- Below the rings' registers no register of the ring block is 64 bits long (Table 3.17). -/
theorem isLow64_rngHead {r : Nat} (h : r < 0x1000) : isLow64 (0x10000 + r) = false := by
  have hb : (0x10000 + r) / 0x10000 = 1 := by omega
  have hr : (0x10000 + r) % 0x10000 = r := by omega
  simp [isLow64, hb, hr, h]

/-- The holdoff registers stand at 0x200 to 0x27C of the ring block. -/
theorem write32_holdoff {src k : Nat} {v : Word} {b : Block} (hk : k < 32) :
    write32 src (0x10200 + 4 * k) v b = modRng (fun g => { g with holdoff := tset 0 g.holdoff k (v &&& 0xFFFF#32) }) b := by
  have hb : (0x10200 + 4 * k) / 0x10000 = 1 := by omega
  have hr : (0x10200 + 4 * k) % 0x10000 = 0x200 + 4 * k := by omega
  have h8 : 0x200 + 4 * k ≠ 8 := by omega
  have hmap : ¬ (0x100 ≤ 0x200 + 4 * k ∧ 0x200 + 4 * k < 0x200) := by omega
  have hhold : 0x200 ≤ 0x200 + 4 * k ∧ 0x200 + 4 * k < 0x280 := by omega
  simp only [write32, hb, hr, writeRng, if_neg h8, if_neg hmap, if_pos hhold]
  rw [Nat.add_sub_cancel_left, Nat.mul_div_cancel_left k (by decide)]

theorem fld_low16 (v : Word) : fld (v &&& 0xFFFF#32) 0 16 = v.toNat % 0x10000 := by
  simp [fld, Nat.and_two_pow_sub_one_eq_mod v.toNat 16]

/-- The holdoff time of a vector after its register is written. -/
theorem holdoffT_written (k : Nat) (v : Word) (b : Block) :
    holdoffT (modRng (fun g => { g with holdoff := tset 0 g.holdoff k (v &&& 0xFFFF#32) }) b) k = v.toNat % 0x10000 * 100 := by
  simp [holdoffT, fld_low16]

/-- SEC_POLICY is written in Factory and Open only (Table 0.7). -/
theorem write32_policy (src : Nat) (v : Word) (b : Block) :
    write32 src 0xE0004 v b = modSec (fun x => { x with policy := if x.lifecycle ≤ 1 then v &&& 0xF#32 else x.policy }) b := by
  change (if b.sec.lifecycle ≤ 1 then _ else b) = _
  split
  · simp [modSec, *]
  · simp [modSec, *]

/-- Settles O17: the discarded writes by `hostWrite_discarded`, the others by the row of `write32` for their register. -/
theorem registerWrites : Obligations.RegisterWrites := by
  unfold Obligations.RegisterWrites
  intro link off v s hlink hi hon hready howned
  have taken {o : Nat} (ha : o % 4 = 0) (ho : o < 0x100000) : WriteTaken s.blk link o := writeTaken_of_ready hready howned ha ho
  refine ⟨?narrow, fun hoff => ?misaligned, ?len, fun k hk => ?holdoff, ?selector, ?timLatch, ?recLatch, ?policy⟩
  case narrow => exact idle_of_act rfl (hostWrite_discarded (.inl rfl))
  case misaligned => exact idle_of_act rfl (hostWrite_discarded (.inr hoff))
  case len => exact does_registerWrite hlink hon (taken rfl (by decide)) rfl rfl rfl
  case holdoff =>
    have hlow : isLow64 (0x10200 + 4 * k) = false := by
      rw [show 0x10200 + 4 * k = 0x10000 + (0x200 + 4 * k) by omega]
      exact isLow64_rngHead (by omega)
    have hhigh : isHigh64 (0x10200 + 4 * k) = false := by
      rw [isHigh64, show 0x10200 + 4 * k - 4 = 0x10000 + (0x1FC + 4 * k) by omega, isLow64_rngHead (by omega), Bool.and_false]
    refine does_registerWrite hlink hon (taken (by omega) (by omega)) hlow hhigh ?_
    rw [write32_holdoff hk]
    exact ⟨holdoffT_written .., rfl⟩
  case selector => exact does_registerWrite hlink hon (taken rfl (by decide)) rfl rfl rfl
  case timLatch => exact does_registerWrite hlink hon (taken rfl (by decide)) rfl rfl rfl
  case recLatch => exact does_registerWrite hlink hon (taken rfl (by decide)) rfl rfl rfl
  case policy =>
    refine does_registerWrite hlink hon (taken rfl (by decide)) rfl rfl ?_
    rw [write32_policy]
    rfl

end Sys2Proof.Laws

namespace Sys2Proof.Laws

open Sys2Proof.Machine Sys2Proof.Safety

/-- Settles O27: every field of the state after reset is the one its record names. -/
theorem resetValues : Obligations.ResetValues :=
  ⟨rfl, rfl, rfl, rfl, rfl, rfl, rfl, rfl, rfl, fun _ => rfl, fun _ => rfl, rfl, rfl, rfl, rfl, rfl⟩

/-! Rows of the command table: which descriptors a row takes, and what carrying one out comes to. -/

/-- The opcode of the descriptors that a row carries out (Table 3.14); NOP is 5. -/
def rowOpcode : CmdKind → Nat
  | .nop => 5
  | .release => 3
  | .entry => 4
  | .tuneStart => 4
  | .data => 4
  | .hartPassThrough => 4
  | .timeSnapshot => 4
  | k => if k ∈ readRows then 2 else 1

theorem rowOpcode_writeKind (cls i f : Nat) (v : Word) : rowOpcode (writeKind cls i f v) = 1 := by
  unfold writeKind
  repeat' split
  all_goals rfl

theorem rowOpcode_readKind (cls i f : Nat) : rowOpcode (readKind cls i f) = 2 := by
  unfold readKind
  repeat' split
  all_goals rfl

theorem rowOpcode_bufferedKind (cls : Nat) : rowOpcode (bufferedKind cls) = 4 := by
  unfold bufferedKind
  split <;> rfl

/-- What the checks of R100 establish of a command other than NOP that passes them, as far as the rows rest on it. -/
structure Checked (b : Block) (d : Desc) : Prop where
  field : fieldAt (cmdClass d) (cmdIndex d) (cmdField d) (cmdOpcode d) = true
  exists' : targetExists b (cmdClass d) (cmdIndex d) (cmdField d) = true
  value : valueOk b (cmdClass d) (cmdIndex d) (cmdField d) (cmdOpcode d) d = true

theorem checked_of_allowed {b : Block} {n : Nat} {d : Desc} (h : cmdRefusal b n d = none) (hop : cmdOpcode d ≠ 5) : Checked b d := by
  simp only [cmdRefusal, if_neg hop] at h
  by_cases hexists : (fieldAt (cmdClass d) (cmdIndex d) (cmdField d) (cmdOpcode d) && targetExists b (cmdClass d) (cmdIndex d) (cmdField d)) = true
  · by_cases hvalue : valueOk b (cmdClass d) (cmdIndex d) (cmdField d) (cmdOpcode d) d = true
    · rw [Bool.and_eq_true] at hexists
      exact ⟨hexists.1, hexists.2, hvalue⟩
    · simp only [cmdClass, cmdIndex, cmdField] at hvalue
      simp [hvalue, ite_eq_iff] at h
  · simp only [cmdClass, cmdIndex, cmdField] at hexists
    simp [hexists, ite_eq_iff] at h

/-- A command that no rule refuses has one of the five opcodes. -/
theorem opcode_of_allowed {b : Block} {n : Nat} {d : Desc} (h : cmdRefusal b n d = none) : 1 ≤ cmdOpcode d ∧ cmdOpcode d ≤ 5 := by
  by_contra hc
  have hbad : cmdOpcode d = 0 ∨ 5 < cmdOpcode d := by omega
  simp [cmdRefusal, hbad] at h

theorem rowOpcode_cmdKindOf {d : Desc} (h1 : 1 ≤ cmdOpcode d) (h5 : cmdOpcode d ≤ 5) : rowOpcode (cmdKindOf d) = cmdOpcode d := by
  have hcases : cmdOpcode d = 1 ∨ cmdOpcode d = 2 ∨ cmdOpcode d = 3 ∨ cmdOpcode d = 4 ∨ cmdOpcode d = 5 := by omega
  unfold cmdKindOf
  rcases hcases with h | h | h | h | h <;> rw [h]
  · exact rowOpcode_writeKind ..
  · exact rowOpcode_readKind ..
  · rfl
  · exact rowOpcode_bufferedKind ..
  · rfl

section Accepted

variable {b : Block} {k : CmdKind} {n : Nat} {d : Desc}

theorem accepts_opcode (h : Accepts b k n d) : cmdOpcode d = rowOpcode k := by
  obtain ⟨h1, h5⟩ := opcode_of_allowed h.allowed
  rw [← h.kind, rowOpcode_cmdKindOf h1 h5]

theorem accepts_checked (h : Accepts b k n d) (hk : k ≠ .nop) : Checked b d := by
  refine checked_of_allowed h.allowed ?_
  rw [accepts_opcode h]
  revert hk
  cases k <;> decide

/-- A row of opcode WRITE is the row of the field that the command names. -/
theorem accepts_writeKind (h : Accepts b k n d) (hk : rowOpcode k = 1) :
    writeKind (cmdClass d) (cmdIndex d) (cmdField d) (cmdValue d) = k := by
  have hop := accepts_opcode h
  rw [hk] at hop
  rw [← h.kind, cmdKindOf, hop]
  rfl

theorem accepts_readKind (h : Accepts b k n d) (hk : rowOpcode k = 2) : readKind (cmdClass d) (cmdIndex d) (cmdField d) = k := by
  have hop := accepts_opcode h
  rw [hk] at hop
  rw [← h.kind, cmdKindOf, hop]
  rfl

/-- The ring of an accepted command is a RUNNING CMD ring. -/
theorem cmdNext_ring {b : Block} {n : Nat} {d : Desc} (h : cmdNext b n = some d) : (ring b n).kind = tCMD ∧ (ring b n).state = .running := by
  unfold cmdNext at h
  split at h
  · assumption
  · cases h

theorem cmdAct_order (hop : cmdOpcode d = 1) (ho : isOrder (cmdClass d) (cmdIndex d) (cmdField d) = true) :
    cmdAct k n d b = placeOrder (cmdKey d) n d.idx (cmdValue d) b := by
  rw [cmdAct, hop]
  exact if_pos ho

theorem cmdAct_once (hop : cmdOpcode d = 1) (ho : isOrder (cmdClass d) (cmdIndex d) (cmdField d) = false) :
    cmdAct k n d b = actOnce k n d.idx (cmdIndex d) (cmdValue d) b := by
  rw [cmdAct, hop]
  exact if_neg (by rw [← cmdClass, ← cmdIndex, ← cmdField, ho]; decide)

theorem cmdAct_read (hop : cmdOpcode d = 2) :
    cmdAct k n d b = completeWith n d.idx stOK (readValue k b (cmdClass d) (cmdIndex d) (cmdField d)) b := by
  rw [cmdAct, hop]
  rfl

theorem cmdAct_release (hop : cmdOpcode d = 3) : cmdAct k n d b = releaseOrder (cmdKey d) n d.idx b := by
  rw [cmdAct, hop]
  rfl

theorem cmdAct_buffered {bytes : List Byte} (hop : cmdOpcode d = 4) (hbuf : d.buf = .data bytes) :
    cmdAct k n d b = actBuffered k n (cmdIndex d) d bytes b := by
  rw [cmdAct, hop]
  simp only [hbuf]
  rfl

theorem cmdAct_nop (hop : cmdOpcode d = 5) : cmdAct k n d b = refuse n d.idx stOK b := by
  rw [cmdAct, hop]
  rfl

end Accepted

/-! O11: refused commands. -/

/-- Settles O11: the row's command is refused, and `refuse_only` says what that leaves. -/
theorem refusedCommand : Obligations.RefusedCommand := by
  unfold Obligations.RefusedCommand
  intro k n st d s hn hon hnext hkind href
  refine does_act (exec_cmdRow k n s) (ok_cmdRow k hn) hon ?_
  have hrun : runCmd k n s.blk = refuse n d.idx st s.blk := by simp [runCmd, hnext, hkind, href]
  rw [hrun]
  exact refuse_only

/-! O10: standing orders. -/

@[simp] theorem ring_modTarget (k : Nat) (f : Target → Target) (b : Block) (n : Nat) : ring (modTarget k f b) n = ring b n := rfl

theorem targetAt_modTarget (k j : Nat) (f : Target → Target) (b : Block) :
    targetAt (modTarget k f b) j = if j = k then f (targetAt b k) else targetAt b j :=
  tget_tmod

@[simp] theorem targetAt_modDesc (n idx : Nat) (f : Desc → Desc) (b : Block) (k : Nat) : targetAt (modDesc n idx f b) k = targetAt b k := rfl

/-- A command that changes its target and starts changes nothing else. -/
theorem onlyTarget_start (k n idx : Nat) (f : Target → Target) (b : Block) :
    let c := modDesc n idx (fun d => { d with started := true }) (modTarget k f b)
    c = { b with rng := c.rng } ∧ OnlyTarget b c k (f (targetAt b k)) n (withStarted (ring b n).fetched idx) := by
  refine ⟨rfl, rfl, ?_, fun j hj => ?_, modDesc_ring .., fun m hm => modDesc_other hm⟩
  · simp [targetAt_modTarget]
  · simp [targetAt_modTarget, hj]

/-- Settles O10: an accepted WRITE of such a row is `placeOrder`, a RELEASE is `releaseOrder`, and either is `onlyTarget_start`. -/
theorem ordersStand : Obligations.OrdersStand := by
  unfold Obligations.OrdersStand
  intro k n d s hon h
  refine ⟨fun hk ho => does_cmd hon h ?_, fun hk => ?_⟩
  · have hop : cmdOpcode d = 1 := by
      rw [accepts_opcode h]
      revert hk
      cases k <;> decide
    rw [cmdAct_order hop ho]
    exact onlyTarget_start ..
  · subst hk
    refine does_cmd hon h ?_
    rw [cmdAct_release (accepts_opcode h)]
    exact onlyTarget_start ..

end Sys2Proof.Laws

namespace Sys2Proof.Laws

open Sys2Proof.Machine Sys2Proof.Safety

/-! O9: status registers of the set-up window. -/

/-- A register none of whose bits is reserved reads as its unit holds it (R14). -/
theorem readReg_eq_rawReg {b : Block} {src off : Nat} (hrows : ∀ m ∈ maskRows (off / 0x10000), m.holds (off % 0x10000) = false)
    (hmixed : mixedMask b off = BitVec.allOnes 32) : readReg b src off = rawReg b src off := by
  have hfind : (maskRows (off / 0x10000)).find? (fun m => m.holds (off % 0x10000)) = none := by
    rw [List.find?_eq_none]
    exact fun m hm => by simp [hrows m hm]
  have hbits : definedBits b off = BitVec.allOnes 32 := by rw [definedBits, hfind, hmixed]
  rw [readReg, hbits, BitVec.and_allOnes]

section Window

variable {b : Block} {src r : Nat} (hready : b.glb.ready = true) (hr : r < 0x10000) (h4 : r % 4 = 0)
include hready hr h4

theorem readReg_chn (hrows : ∀ m ∈ chnMasks, m.holds r = false) : readReg b src (0x30000 + r) = readChn b r := by
  have hdiv : (0x30000 + r) / 0x10000 = 3 := by omega
  have hmod : (0x30000 + r) % 0x10000 = r := by omega
  have hword : (0x30000 + r) % 4 = 0 := by omega
  rw [readReg_eq_rawReg (by rwa [hdiv, hmod]) (by simp [mixedMask, hdiv]), rawReg, hdiv, hmod]
  simp [hready, hword]

theorem readReg_lpe (hrows : ∀ m ∈ lpeMasks, m.holds r = false) : readReg b src (0x50000 + r) = readLpe b r := by
  have hdiv : (0x50000 + r) / 0x10000 = 5 := by omega
  have hmod : (0x50000 + r) % 0x10000 = r := by omega
  have hword : (0x50000 + r) % 4 = 0 := by omega
  rw [readReg_eq_rawReg (by rwa [hdiv, hmod]) (by simp [mixedMask, hdiv]), rawReg, hdiv, hmod]
  simp [hready, hword]

theorem readReg_dpe (hrows : ∀ m ∈ dpeMasks, m.holds r = false) : readReg b src (0x60000 + r) = readDpe b r := by
  have hdiv : (0x60000 + r) / 0x10000 = 6 := by omega
  have hmod : (0x60000 + r) % 0x10000 = r := by omega
  have hword : (0x60000 + r) % 4 = 0 := by omega
  rw [readReg_eq_rawReg (by rwa [hdiv, hmod]) (by simp [mixedMask, hdiv]), rawReg, hdiv, hmod]
  simp [hready, hword]

theorem readReg_can (hrows : ∀ m ∈ canMasks, m.holds r = false) (harg : r % 0x10 ≠ 8) : readReg b src (0x70000 + r) = readCan b r := by
  have hdiv : (0x70000 + r) / 0x10000 = 7 := by omega
  have hmod : (0x70000 + r) % 0x10000 = r := by omega
  have hword : (0x70000 + r) % 4 = 0 := by omega
  rw [readReg_eq_rawReg (by rwa [hdiv, hmod]) (by simp [mixedMask, hdiv, hmod, harg]), rawReg, hdiv, hmod]
  simp [hready, hword]

end Window

/-! The registers of one channel, loop, sensor, thruster or object: block offset `r`, with the place of the register among the unit's own. -/

section Registers

variable {b : Block} {r : Nat}

theorem readChn_chnStatus (h : 0x1000 ≤ r) (h' : r < 0x1000 + 0x20 * 192) (hq : (r - 0x1000) % 0x20 = 0x10) :
    readChn b r = chnStatus b ((r - 0x1000) / 0x20) := by
  simp only [readChn]
  simp (disch := omega) only [if_neg, if_pos]

theorem readChn_hartStatus (h : 0x3000 ≤ r) (h' : r < 0x3000 + 0x10 * 192) (hq : (r - 0x3000) % 0x10 = 0xC) :
    readChn b r = hartStatus b ((r - 0x3000) / 0x10) := by
  simp only [readChn]
  simp (disch := omega) only [if_neg, if_pos]

section Context

variable (h : 0x1000 ≤ r) (h' : r < 0x9000) (hactive : b.glb.active = true) (hen : lpeEn b ((r - 0x1000) / 0x80) = true)
include h h' hactive hen

theorem readLpe_ctxStatus (hq : (r - 0x1000) % 0x80 = 0x60) : readLpe b r = ctxStatus b ((r - 0x1000) / 0x80) := by
  simp only [readLpe, hactive, hen]
  simp (disch := omega) only [if_neg, if_pos, Bool.and_self, Bool.not_true, Bool.false_eq_true, if_false]

theorem readLpe_ctxPv (hq : (r - 0x1000) % 0x80 = 0x64) : readLpe b r = (ctxAt b ((r - 0x1000) / 0x80)).pv := by
  simp only [readLpe, hactive, hen]
  simp (disch := omega) only [if_neg, if_pos, Bool.and_self, Bool.not_true, Bool.false_eq_true, if_false]

theorem readLpe_ctxOut (hq : (r - 0x1000) % 0x80 = 0x7C) : readLpe b r = (ctxAt b ((r - 0x1000) / 0x80)).u := by
  simp only [readLpe, hactive, hen]
  simp (disch := omega) only [if_neg, if_pos, Bool.and_self, Bool.not_true, Bool.false_eq_true, if_false]

end Context

theorem readDpe_snStatus (h : 0x1000 ≤ r) (h' : r < 0x2000) (hq : (r - 0x1000) % 0x80 = 0x60) :
    readDpe b r = snStatus b ((r - 0x1000) / 0x80) := by
  simp only [readDpe, readSlotReg]
  simp (disch := omega) only [if_neg, if_pos]

theorem readDpe_thrStatus (h : 0x3000 ≤ r) (h' : r < 0x3C00) (hq : (r - 0x3000) % 0x80 = 0x40) :
    readDpe b r = thrStatus b ((r - 0x3000) / 0x80) := by
  simp only [readDpe]
  simp (disch := omega) only [if_neg, if_pos]

theorem readCan_objStatus (h : 0x8000 ≤ r) (h' : r < 0x10000) (hq : (r - 0x8000) % 0x10 = 0xC) :
    readCan b r = objStatus b ((r - 0x8000) / 0x10) := by
  simp only [readCan]
  simp (disch := omega) only [if_neg, if_pos]

end Registers

section StatusRegisters

variable {b : Block} {src i : Nat} (hready : b.glb.ready = true)
include hready

theorem readReg_chnStatus (hi : i < 192) : readReg b src (0x31010 + 0x20 * i) = chnStatus b i := by
  obtain ⟨r, hr⟩ : ∃ r, r = 0x1010 + 0x20 * i := ⟨_, rfl⟩
  rw [show 0x31010 + 0x20 * i = 0x30000 + r by omega,
    readReg_chn hready (by omega) (by omega) (by simp [chnMasks, MaskRow.holds]; omega),
    readChn_chnStatus (by omega) (by omega) (by omega), show (r - 0x1000) / 0x20 = i by omega]

theorem readReg_hartStatus (hi : i < 192) : readReg b src (0x3300C + 0x10 * i) = hartStatus b i := by
  obtain ⟨r, hr⟩ : ∃ r, r = 0x300C + 0x10 * i := ⟨_, rfl⟩
  rw [show 0x3300C + 0x10 * i = 0x30000 + r by omega,
    readReg_chn hready (by omega) (by omega) (by simp [chnMasks, MaskRow.holds]; omega),
    readChn_hartStatus (by omega) (by omega) (by omega), show (r - 0x3000) / 0x10 = i by omega]

/-- A context register of a loop of the bank in force stands at its place `q` from 0x60 on. -/
theorem readReg_ctx {q : Nat} (hq : q = 0x60 ∨ q = 0x64 ∨ q = 0x7C) (hi : i < 256) :
    ∃ r, readReg b src (0x51000 + q + 0x80 * i) = readLpe b r ∧ 0x1000 ≤ r ∧ r < 0x9000 ∧ (r - 0x1000) / 0x80 = i ∧ (r - 0x1000) % 0x80 = q := by
  obtain ⟨r, hr⟩ : ∃ r, r = 0x1000 + q + 0x80 * i := ⟨_, rfl⟩
  refine ⟨r, ?_, by omega, by omega, by omega, by omega⟩
  rw [show 0x51000 + q + 0x80 * i = 0x50000 + r by omega]
  exact readReg_lpe hready (by omega) (by omega) (by simp [lpeMasks, MaskRow.holds]; omega)

section Loop

variable (hactive : b.glb.active = true) (hen : lpeEn b i = true) (hi : i < 256)
include hactive hen hi

theorem readReg_loopStatus : readReg b src (0x51060 + 0x80 * i) = ctxStatus b i := by
  obtain ⟨r, hread, h, h', rfl, hq⟩ := readReg_ctx (src := src) (q := 0x60) hready (by decide) hi
  rw [hread]
  exact readLpe_ctxStatus h h' hactive hen hq

theorem readReg_loopPv : readReg b src (0x51064 + 0x80 * i) = (ctxAt b i).pv := by
  obtain ⟨r, hread, h, h', rfl, hq⟩ := readReg_ctx (src := src) (q := 0x64) hready (by decide) hi
  rw [hread]
  exact readLpe_ctxPv h h' hactive hen hq

theorem readReg_loopOut : readReg b src (0x5107C + 0x80 * i) = (ctxAt b i).u := by
  obtain ⟨r, hread, h, h', rfl, hq⟩ := readReg_ctx (src := src) (q := 0x7C) hready (by decide) hi
  rw [hread]
  exact readLpe_ctxOut h h' hactive hen hq

end Loop

theorem readReg_snStatus (hi : i < 0x1C) : readReg b src (0x61060 + 0x80 * i) = snStatus b i := by
  obtain ⟨r, hr⟩ : ∃ r, r = 0x1060 + 0x80 * i := ⟨_, rfl⟩
  rw [show 0x61060 + 0x80 * i = 0x60000 + r by omega,
    readReg_dpe hready (by omega) (by omega) (by simp [dpeMasks, MaskRow.holds]; omega),
    readDpe_snStatus (by omega) (by omega) (by omega), show (r - 0x1000) / 0x80 = i by omega]

theorem readReg_thrStatus (hi : i < 24) : readReg b src (0x63040 + 0x80 * i) = thrStatus b i := by
  obtain ⟨r, hr⟩ : ∃ r, r = 0x3040 + 0x80 * i := ⟨_, rfl⟩
  rw [show 0x63040 + 0x80 * i = 0x60000 + r by omega,
    readReg_dpe hready (by omega) (by omega) (by simp [dpeMasks, MaskRow.holds]; omega),
    readDpe_thrStatus (by omega) (by omega) (by omega), show (r - 0x3000) / 0x80 = i by omega]

theorem readReg_objStatus (hi : i < 2048) : readReg b src (0x7800C + 0x10 * i) = objStatus b i := by
  obtain ⟨r, hr⟩ : ∃ r, r = 0x800C + 0x10 * i := ⟨_, rfl⟩
  rw [show 0x7800C + 0x10 * i = 0x70000 + r by omega,
    readReg_can hready (by omega) (by omega) (by simp [canMasks, MaskRow.holds]; omega) (by omega),
    readCan_objStatus (by omega) (by omega) (by omega), show (r - 0x8000) / 0x10 = i by omega]

theorem readReg_inStatus : readReg b src 0x60000 = inStatus b := readReg_dpe (r := 0) hready (by decide) rfl (by decide)
theorem readReg_dpStatus : readReg b src 0x60100 = dpStatus b := readReg_dpe (r := 0x100) hready (by decide) rfl (by decide)

theorem readReg_ptnStatus : readReg b src 0xA0000 = ptnStatus b := by
  rw [readReg_eq_rawReg (by decide) rfl]
  simp [rawReg, hready, readPtn]

theorem readReg_timStatus : readReg b src 0x20000 = timStatus b := by
  rw [readReg_eq_rawReg (by decide) rfl]
  simp [rawReg, hready, readTim]

theorem readReg_recStatus : readReg b src 0xC0000 = recStatus b := by
  rw [readReg_eq_rawReg (by decide) rfl]
  simp [rawReg, hready, readRec]

theorem readReg_dspStatus : readReg b src 0xD0000 = dspStatus b := by
  rw [readReg_eq_rawReg (by decide) rfl]
  simp [rawReg, hready, readDsp]

end StatusRegisters

end Sys2Proof.Laws

namespace Sys2Proof.Laws

open Sys2Proof.Machine Sys2Proof.Safety

/-- The class of the targets whose status a READ row shows (Table 3.15). -/
def shownClass : CmdKind → Nat
  | .channelStatus => 1
  | .loopPv | .loopOut | .loopStatus => 2
  | .intakeStatus | .dpStatus => 3
  | .objectStatus => 4
  | .hartStatus => 5
  | .timeStatus => 6
  | .recorderStatus => 9
  | .displayStatus => 0xA
  | .roleStatus => 0xB
  | _ => 0

theorem readKind_class {cls i f : Nat} (h : (shownAt (readKind cls i f) i).isSome = true) : cls = shownClass (readKind cls i f) := by
  revert h
  unfold readKind
  repeat' split
  all_goals simp [shownAt, shownClass]

/-- A row that shows a status register is a READ. -/
theorem rowOpcode_of_shown {k : CmdKind} {i : Nat} (h : (shownAt k i).isSome = true) : rowOpcode k = 2 := by
  revert h
  cases k <;> simp [shownAt, rowOpcode, readRows]

/-- The READ of an intake or DP index names FIELD 0x10 of an index that Tables 9.10 and 10.13 give a status. -/
theorem dpStatus_index {i f : Nat} (h : readKind 3 i f = .intakeStatus ∨ readKind 3 i f = .dpStatus) (hfield : fieldAt 3 i f 2 = true) :
    if readKind 3 i f = .intakeStatus then i < 0x1C ∨ i = 0x20 else i = 0x40 ∨ 0x80 ≤ i ∧ i < 0x98 := by
  have hf : f = 0x10 := by
    by_contra hc
    simp [readKind, hc] at h
  subst hf
  have hi : i ≤ 0x1B ∨ 0x20 ≤ i ∧ i ≤ 0x20 ∨ 0x40 ≤ i ∧ i ≤ 0x40 ∨ 0x80 ≤ i ∧ i ≤ 0x97 := by
    simpa [fieldAt, fieldRows, fieldRowsA, fieldRowsB, FieldRow.takes, opsOrder] using hfield
  by_cases hlow : i ≤ 0x20
  · simp [readKind, hlow]
    omega
  · simp [readKind, hlow]
    omega

/-- What a READ of a status field returns is what its register shows. -/
theorem readValue_shown {b : Block} {k : CmdKind} {src off cls i f : Nat} (hready : b.glb.ready = true) (hoff : shownAt k i = some off)
    (hkind : readKind cls i f = k) (hfield : fieldAt cls i f 2 = true) (hexists : targetExists b cls i f = true) :
    readValue k b cls i f = readReg b src off := by
  have hcls : cls = shownClass k := by
    subst hkind
    exact readKind_class (by rw [hoff]; rfl)
  cases k <;> simp only [shownAt, reduceCtorEq, Option.some.injEq] at hoff <;> subst hoff hcls <;>
    simp only [shownClass, targetExists, Bool.and_eq_true, decide_eq_true_eq] at hexists hfield hkind
  case channelStatus =>
    obtain ⟨⟨-, hi⟩, -⟩ := hexists
    exact (readReg_chnStatus hready hi).symm
  case hartStatus =>
    obtain ⟨⟨-, hi⟩, -⟩ := hexists
    exact (readReg_hartStatus hready hi).symm
  case loopPv =>
    obtain ⟨⟨hactive, hi⟩, hen⟩ := hexists
    exact (readReg_loopPv hready hactive hen hi).symm
  case loopOut =>
    obtain ⟨⟨hactive, hi⟩, hen⟩ := hexists
    exact (readReg_loopOut hready hactive hen hi).symm
  case loopStatus =>
    obtain ⟨⟨hactive, hi⟩, hen⟩ := hexists
    exact (readReg_loopStatus hready hactive hen hi).symm
  case objectStatus =>
    obtain ⟨⟨⟨-, hi⟩, -⟩, -⟩ := hexists
    exact (readReg_objStatus hready hi).symm
  case roleStatus => exact (readReg_ptnStatus hready).symm
  case timeStatus => exact (readReg_timStatus hready).symm
  case recorderStatus => exact (readReg_recStatus hready).symm
  case displayStatus => exact (readReg_dspStatus hready).symm
  case intakeStatus =>
    have hi := dpStatus_index (.inl hkind) hfield
    rw [if_pos hkind] at hi
    rcases hi with hi | rfl
    · rw [if_neg (by omega), readReg_snStatus hready hi]
      exact if_pos hi
    · exact (readReg_inStatus hready).symm
  case dpStatus =>
    have hi := dpStatus_index (.inr hkind) hfield
    rw [if_neg (by rw [hkind]; decide)] at hi
    rcases hi with rfl | hi
    · exact (readReg_dpStatus hready).symm
    · obtain ⟨j, rfl⟩ : ∃ j, i = 0x80 + j := ⟨i - 0x80, by omega⟩
      rw [if_neg (by omega), Nat.add_sub_cancel_left, readReg_thrStatus hready (by omega)]
      simp (disch := omega) only [readValue, dpStatusAt, if_neg, Nat.add_sub_cancel_left]

/-- Settles O9: the READ row returns `readValue`, which `readValue_shown` finds in the register. -/
theorem readsShowRegisters : Obligations.ReadsShowRegisters := by
  unfold Obligations.ReadsShowRegisters
  intro k n src off d s hoff hon hready h
  have hrow : rowOpcode k = 2 := rowOpcode_of_shown (i := cmdIndex d) (by rw [hoff]; rfl)
  have hop : cmdOpcode d = 2 := (accepts_opcode h).trans hrow
  have hc : Checked s.blk d := accepts_checked h (by rintro rfl; cases hrow)
  have hfield := hc.field
  rw [hop] at hfield
  refine does_cmd hon h ?_
  rw [cmdAct_read hop, readValue_shown hready hoff (accepts_readKind h hrow) hfield hc.exists', completeWith_ring]

end Sys2Proof.Laws

namespace Sys2Proof.Laws

open Sys2Proof.Machine Sys2Proof.Safety

/-! Rows whose WRITE acts once (R568). -/

/-- The rows whose WRITE acts once. -/
def onceRows : List CmdKind :=
  [.cancel, .restartAck, .tuneAccept, .tuneReject, .tuneAbort, .readmit, .reOrigin, .spHere, .lock, .fire, .refresh, .handover]

/-- No field of a row that acts once takes a standing order. -/
theorem isOrder_of_once {cls i f : Nat} {v : Word} (h : writeKind cls i f v ∈ onceRows) : isOrder cls i f = false := by
  revert h
  unfold writeKind
  repeat' split
  all_goals simp [onceRows, isOrder]
  all_goals omega

theorem cmdAct_of_once {b : Block} {k : CmdKind} {n : Nat} {d : Desc} (h : Accepts b k n d) (hk : k ∈ onceRows) :
    cmdAct k n d b = actOnce k n d.idx (cmdIndex d) (cmdValue d) b := by
  have hrow : rowOpcode k = 1 := by
    revert hk
    cases k <;> decide
  refine cmdAct_once ((accepts_opcode h).trans hrow) (isOrder_of_once (v := cmdValue d) ?_)
  rwa [accepts_writeKind h hrow]

/-- The rows of a TUNE write, and the VALUE that names each (Table 8.5). -/
def tuneRows : List CmdKind := [.tuneAccept, .tuneReject, .tuneAbort]
def tuneValue : CmdKind → Word
  | .tuneAccept => 3
  | .tuneReject => 4
  | _ => 2

theorem tune_field {cls i f : Nat} {v : Word} (h : writeKind cls i f v ∈ tuneRows) : cls = 2 ∧ f = 5 := by
  revert h
  unfold writeKind
  repeat' split
  all_goals simp [tuneRows]

theorem accepts_tuneValue {b : Block} {k : CmdKind} {n : Nat} {d : Desc} (h : Accepts b k n d) (hk : k ∈ tuneRows) : cmdValue d = tuneValue k := by
  have hrow : rowOpcode k = 1 := by
    revert hk
    cases k <;> decide
  have hop : cmdOpcode d = 1 := (accepts_opcode h).trans hrow
  have hkind := accepts_writeKind h hrow
  have hvalue := (accepts_checked h (by rintro rfl; cases hrow)).value
  obtain ⟨hc, hf⟩ := tune_field (hkind ▸ hk)
  rw [hc, hf] at hkind hvalue
  have hcases : (cmdValue d = 2 ∨ cmdValue d = 3) ∨ cmdValue d = 4 := by simpa [valueOk, hop] using hvalue
  subst hkind
  rcases hcases with (hv | hv) | hv
  · rw [hv]
    rfl
  · rw [hv]
    rfl
  · rw [hv]
    rfl

/-! A command that completes at once, on a module that its row has changed elsewhere. -/

@[simp] theorem refuse_lpe (n idx st : Nat) (b : Block) : (refuse n idx st b).lpe = b.lpe := rfl
@[simp] theorem refuse_can (n idx st : Nat) (b : Block) : (refuse n idx st b).can = b.can := rfl
@[simp] theorem refuse_recorder (n idx st : Nat) (b : Block) : (refuse n idx st b).recorder = b.recorder := rfl
@[simp] theorem refuse_dsp (n idx st : Nat) (b : Block) : (refuse n idx st b).dsp = b.dsp := rfl
@[simp] theorem refuse_tb (n idx st : Nat) (b : Block) : (refuse n idx st b).tb = b.tb := rfl

theorem refuse_other {n m idx st : Nat} {b : Block} (h : m ≠ n) : ring (refuse n idx st b) m = ring b m := by
  obtain ⟨_, _, _, _, hother⟩ := refuse_only (b := b) (n := n) (idx := idx) (st := st)
  exact hother m h

/-- The descriptors of a ring once one of its commands completes, where what the row did before left them and the tick alone. -/
theorem refuse_fetched {b c : Block} {n idx st : Nat} (hf : (ring c n).fetched = (ring b n).fetched) (ht : c.tb = b.tb) :
    ∃ v, (ring (refuse n idx st c) n).fetched = withDone (ring b n).fetched idx { status := st, result := v, tick := b.tb } := by
  obtain ⟨_, v, _, hring, _⟩ := refuse_only (b := c) (n := n) (idx := idx) (st := st)
  exact ⟨v, by rw [hring, hf, ht]⟩

/-! FIRE. -/

/-- A firing that is due and finds no snapshot of its trigger held takes one, at this tick (R495, R496). -/
theorem fireTriggerOf_holds {t : Nat} {b : Block} (htakes : recTakes b = true)
    (hnone : (b.recorder.held.find? fun h => h.kind == 1 && h.trigger == t) = none)
    (hdue : tget 0 b.recorder.fired t % max 1 (fld (trgArg b t) 8 16) = 0) :
    ∃ h, (fireTriggerOf t b).recorder.held = b.recorder.held ++ [h] ∧ h.kind = 1 ∧ h.trigger = t ∧ h.tick = b.tb ∧ h.detail = 0 := by
  let c : Block := { b with recorder := { b.recorder with fired := tset 0 b.recorder.fired t (tget 0 b.recorder.fired t + 1) } }
  have htakes' : recTakes c = true := htakes
  have hfire : fireTrigger t 0 b = (holdSnapshot 1 t 0 (trgValues c t) c, none) := by
    have hdue' : ¬ tget 0 b.recorder.fired t % max 1 (fld (trgArg c t) 8 16) ≠ 0 := not_not.mpr hdue
    unfold fireTrigger
    rw [if_neg (by simp [htakes])]
    dsimp only
    rw [if_neg hdue', hnone]
  rw [fireTriggerOf, hfire]
  simp only [holdSnapshot, if_pos htakes']
  exact ⟨_, rfl, rfl, rfl, rfl, rfl⟩

/-! Tune slots. -/

/-- A tune slot takes a state, and the rest of what its event leaves is no part of the loop engine. -/
theorem setSlotState_lpe (z v reason : Nat) (b : Block) :
    (setSlotState z v reason b).lpe = (modSlot z (fun x => if v = 0 then {} else { x with state := v, reason := reason }) b).lpe :=
  lpe_of_calm (calm_fire ..)

theorem setSlotState_fetched (z v reason : Nat) (b : Block) (n : Nat) :
    (ring (setSlotState z v reason b) n).fetched = (ring b n).fetched :=
  fetched_of_calm (calm_fire ..) n

theorem setSlotState_tb (z v reason : Nat) (b : Block) : (setSlotState z v reason b).tb = b.tb := (tb_of_calm (calm_fire ..)).trans rfl

theorem tuneAt_setSlotState (z v reason : Nat) (b : Block) :
    tuneAt (setSlotState z v reason b) z = if v = 0 then {} else { tuneAt b z with state := v, reason := reason } := by
  rw [tuneAt, setSlotState_lpe, ← tuneAt, tuneAt_modSlot]
  exact if_pos rfl

theorem ctxAt_setSlotState (z v reason : Nat) (b : Block) (c : Nat) : ctxAt (setSlotState z v reason b) c = ctxAt b c := by
  rw [ctxAt, setSlotState_lpe]
  rfl

/-- The slot that a list of slots finds by its state and its loop satisfies both. -/
theorem find_slot {b : Block} {p : Nat → Bool} {i z : Nat}
    (h : (List.range 4).find? (fun z => p (tuneAt b z).state && (tuneAt b z).loop == i) = some z) :
    p (tuneAt b z).state = true ∧ (tuneAt b z).loop = i := by
  simpa using List.find?_some h

/-! O13. -/

/-- An accepted command of a row that acts once does what `actOnce` says. -/
theorem does_once {k : CmdKind} {n : Nat} {d : Desc} {s : State} {Q : Block → Prop} (hon : On s) (h : Accepts s.blk k n d)
    (hk : k ∈ onceRows) (hq : Q (actOnce k n d.idx (cmdIndex d) (cmdValue d) s.blk)) : Does (cmdRow k n) s Q :=
  does_cmd hon h (by rwa [cmdAct_of_once h hk])

/-- Settles O13: each row by what `actOnce` does to its own unit, before `refuse` completes the command. -/
theorem onceActs : Obligations.OnceActs := by
  unfold Obligations.OnceActs
  intro k n d s hon h
  refine ⟨?nop, ?fire, ?refresh, ?lock, ?unlock, ?accept, ?reject, ?abort⟩
  case nop =>
    rintro rfl
    refine does_cmd hon h ?_
    rw [cmdAct_nop (accepts_opcode h)]
    exact ⟨refuse_fetched rfl rfl, refuse_only.1⟩
  case fire =>
    rintro rfl htakes hnone hdue
    refine does_once hon h (by decide) ?_
    exact ⟨refuse_fetched (fetched_of_calm (calm_fireTriggerOf ..) n) (tb_of_calm (calm_fireTriggerOf ..)),
      fireTriggerOf_holds htakes hnone hdue⟩
  case refresh =>
    rintro rfl
    exact does_once hon h (by decide) ⟨refuse_fetched rfl rfl, rfl⟩
  case lock =>
    rintro rfl hv hfree
    refine does_once hon h (by decide) ?_
    have hlock : actOnce .lock n d.idx (cmdIndex d) (cmdValue d) s.blk =
        refuse n d.idx stOK (modObj (cmdIndex d) (fun x => { x with locked := some (n, s.blk.tb) }) s.blk) := by
      simp [actOnce, canLock, hv, hfree]
    rw [hlock]
    exact ⟨refuse_fetched rfl rfl, (objAt_modObj ..).trans (if_pos rfl)⟩
  case unlock =>
    rintro rfl hv t hheld
    refine does_once hon h (by decide) ?_
    have hunlock : actOnce .lock n d.idx (cmdIndex d) (cmdValue d) s.blk = refuse n d.idx stOK (objUnlock (cmdIndex d) s.blk) := by
      simp [actOnce, canLock, hv, hheld]
    rw [hunlock]
    exact ⟨refuse_fetched rfl rfl, (objAt_modObj ..).trans (if_pos rfl)⟩
  case accept =>
    rintro rfl z hz horders
    refine does_once hon h (by decide) ?_
    have hnone : ¬ ([2, 3, 4].any fun f => !(targetAt s.blk (targetKey 2 (cmdIndex d) f)).orders.isEmpty) = true := by
      simpa using horders
    have hact : actOnce .tuneAccept n d.idx (cmdIndex d) (cmdValue d) s.blk =
        refuse n d.idx stOK (setSlotState z 0 0 (modCtx (cmdIndex d)
          (fun x => { x with accept := some ((tuneAt s.blk z).kp, (tuneAt s.blk z).ki, (tuneAt s.blk z).kd) }) s.blk)) := by
      simp [actOnce, tuneWrite, show cmdValue d = 3 from accepts_tuneValue h (by decide), hz, hnone]
    rw [hact]
    refine ⟨refuse_fetched (setSlotState_fetched ..) (setSlotState_tb ..), tuneAt_setSlotState .., ?_⟩
    exact (ctxAt_setSlotState ..).trans ((ctxAt_modCtx ..).trans (if_pos rfl))
  case reject =>
    rintro rfl z hz
    refine does_once hon h (by decide) ?_
    have hact : actOnce .tuneReject n d.idx (cmdIndex d) (cmdValue d) s.blk = refuse n d.idx stOK (setSlotState z 0 0 s.blk) := by
      simp [actOnce, tuneWrite, show cmdValue d = 4 from accepts_tuneValue h (by decide), hz]
    rw [hact]
    exact ⟨refuse_fetched (setSlotState_fetched ..) (setSlotState_tb ..), tuneAt_setSlotState ..⟩
  case abort =>
    rintro rfl z hz
    refine does_once hon h (by decide) ?_
    obtain ⟨hstate, -⟩ := find_slot (p := (· == 1)) hz
    have hact : ∃ c, actOnce .tuneAbort n d.idx (cmdIndex d) (cmdValue d) s.blk = refuse n d.idx stOK (setSlotState z 3 1 c) ∧
        tuneAt c z = tuneAt s.blk z ∧ c.rng = s.blk.rng ∧ c.tb = s.blk.tb := by
      simp only [beq_iff_eq] at hstate
      refine ⟨if (tuneAt s.blk z).begun then modCtx (tuneAt s.blk z).loop (fun x => { x with exit := some (tuneAt s.blk z).u0 }) s.blk
        else s.blk, ?_, ?_⟩
      · simp [actOnce, tuneWrite, show cmdValue d = 2 from accepts_tuneValue h (by decide), hz, failTune, hstate]
      · split <;> exact ⟨rfl, rfl, rfl⟩
    obtain ⟨c, hact, htune, hrng, htb⟩ := hact
    rw [hact]
    refine ⟨refuse_fetched ((setSlotState_fetched ..).trans (by rw [ring, hrng, ← ring])) ((setSlotState_tb ..).trans htb), ?_⟩
    exact (tuneAt_setSlotState ..).trans (by rw [htune]; rfl)

/-! O14: commands that wait. -/

theorem startDesc_fetched (n idx : Nat) (b : Block) : (ring (startDesc n idx b) n).fetched = withStarted (ring b n).fetched idx :=
  congrArg Ring.fetched (modDesc_ring ..)

/-- The boundary of a planned handover: a seed boundary at least 10 ms ahead, and the first such (R371). -/
theorem nextMultiple_boundary (t : Nat) : nextMultiple 1000000 (t + 1000000) % 1000000 = 0 ∧ t + 1000000 ≤ nextMultiple 1000000 (t + 1000000) ∧
    nextMultiple 1000000 (t + 1000000) < t + 2000000 := by
  unfold nextMultiple
  omega

/-- Settles O14: each row starts its descriptor and queues it with its unit. -/
theorem onceAwaits : Obligations.OnceAwaits := by
  unfold Obligations.OnceAwaits
  intro k n d s hon h
  refine ⟨?restart, ?readmit, ?reOrigin, ?spHere, ?handover⟩
  case restart =>
    rintro rfl
    exact does_once hon h (by decide) ⟨startDesc_fetched .., (chanAt_modChan ..).trans (if_pos rfl)⟩
  case readmit =>
    rintro rfl
    exact does_once hon h (by decide) ⟨startDesc_fetched .., rfl⟩
  case reOrigin =>
    rintro rfl
    exact does_once hon h (by decide) ⟨startDesc_fetched .., rfl⟩
  case spHere =>
    rintro rfl
    exact does_once hon h (by decide) ⟨startDesc_fetched .., rfl⟩
  case handover =>
    rintro rfl
    obtain ⟨hmod, hlow, hhigh⟩ := nextMultiple_boundary s.blk.tb
    refine does_once hon h (by decide) ⟨?_, _, ptn_of_calm (calm_fire ..), rfl, rfl, hmod, hlow, hhigh, rfl, rfl⟩
    exact (fetched_of_calm (calm_fire ..) n).trans (startDesc_fetched ..)

end Sys2Proof.Laws

namespace Sys2Proof.Laws

open Sys2Proof.Machine Sys2Proof.Safety

/-! O15: BUFFERED commands. -/

/-- A descriptor that an update leaves its index is found by it afterwards, as updated. -/
theorem descAt_modDesc_self {n idx : Nat} {f : Desc → Desc} {b : Block} (hf : ∀ d, (f d).idx = d.idx) :
    descAt (modDesc n idx f b) n idx = (descAt b n idx).map f := by
  have hkey : ((fun d : Desc => d.idx == idx) ∘ fun d => if d.idx = idx then f d else d) = fun d => d.idx == idx := by
    funext d
    by_cases h : d.idx = idx <;> simp [h, hf]
  rw [descAt, modDesc_ring, List.find?_map, hkey, ← descAt]
  cases hd : descAt b n idx with
  | none => rfl
  | some d =>
    have hidx : d.idx = idx := by simpa using List.find?_some hd
    simp [hidx]

/-- A BUFFERED command completes with its reply, cut to its LEN (Table 3.14). -/
theorem completeReply_ring {n idx : Nat} {d : Desc} {r : List Byte} {b : Block} (hd : descAt b n idx = some d) :
    ring (completeReply n idx r b) n = { ring b n with
      fetched := withDone (ring b n).fetched idx { status := stOK, result := w32 r.length, tick := b.tb, reply := r.take (cmdLen d) } } := by
  unfold completeReply
  rw [hd]
  exact modDesc_ring ..

/-- An accepted BUFFERED command whose buffer has been read does what `actBuffered` says. -/
theorem does_buffered {k : CmdKind} {n : Nat} {d : Desc} {bytes : List Byte} {s : State} {Q : Block → Prop} (hon : On s)
    (h : Accepts s.blk k n d) (hk : rowOpcode k = 4) (hbuf : d.buf = .data bytes) (hq : Q (actBuffered k n (cmdIndex d) d bytes s.blk)) :
    Does (cmdRow k n) s Q :=
  does_cmd hon h (by rwa [cmdAct_buffered ((accepts_opcode h).trans hk) hbuf])

/-- A tune that starts takes the lowest idle slot (R262). -/
theorem tuneStart_some {c z : Nat} {bytes : List Byte} {b x : Block} (h : tuneStart c bytes b = some (z, x)) :
    (tuneAt b z).state = 0 ∧ (∀ y, y < z → (tuneAt b y).state ≠ 0) ∧ ∃ t : TuneSlot, t.loop = c ∧ t.startAt = b.tb ∧
      x = setSlotState z 1 0 (modSlot z (fun _ => t) b) := by
  unfold tuneStart at h
  dsimp only at h
  split at h
  · cases h
  next slot hslot =>
  split at h
  · cases h
  obtain ⟨rfl, rfl⟩ := Prod.mk.inj (Option.some.inj h)
  rw [List.find?_range_eq_some] at hslot
  obtain ⟨hidle, -, hbefore⟩ := hslot
  refine ⟨by simpa using hidle, fun y hy => by simpa using hbefore y hy, _, ?_, ?_, rfl⟩
  · rfl
  · rfl

/-! HART pass-through (R174, R175). -/

theorem chanAt_modHart (n : Nat) (f : Hart → Hart) (b : Block) :
    chanAt (modHart n f b) n = { chanAt b n with hart := f (chanAt b n).hart } :=
  (chanAt_modChan ..).trans (if_pos rfl)

@[simp] theorem ring_modHart (n : Nat) (f : Hart → Hart) (b : Block) (m : Nat) : ring (modHart n f b) m = ring b m := rfl
@[simp] theorem chanAt_emit (o : Output) (b : Block) (n : Nat) : chanAt (emit o b) n = chanAt b n := rfl

/-- What the modem's own record holds does not decide whether it may transmit. -/
theorem hartMay_modHart (n : Nat) (f : Hart → Hart) (b : Block) : hartMay (modHart n f b) n = hartMay b n := by
  rw [hartMay, chanAt_modHart]
  rfl

/-- A transaction waits while another is in flight, or while the modem may not transmit. -/
theorem hartNext_waits {n : Nat} {b : Block} (h : (chanAt b n).hart.flight.isSome = true ∨ hartMay b n = false) : hartNext n b = b := by
  unfold hartNext
  exact if_pos (h.imp_right fun h => .inr (by simp [h]))

/-- The only transaction that waits is sent when none is in flight and the modem may transmit. -/
theorem hartNext_sends {n : Nat} {t : HartTrans} {b : Block} (hflight : (chanAt b n).hart.flight = none) (hstate : (chanAt b n).hart.state ≠ 0)
    (hmay : hartMay b n = true) (hqueue : (chanAt b n).hart.queue = [t]) :
    hartNext n b = hartSend n t (modHart n (fun h => { h with queue := [] }) b) := by
  unfold hartNext
  simp [hflight, hstate, hmay, hqueue]

/-- The frame of a pass-through does not depend on what waits. -/
theorem hartFrame_modHart {n : Nat} {t : HartTrans} {f : Hart → Hart} {b : Block} (huid : (f (chanAt b n).hart).uid = (chanAt b n).hart.uid) :
    hartFrame (modHart n f b) n t = hartFrame b n t := by
  have haddr : hartAddr (modHart n f b) n t = hartAddr b n t := by
    unfold hartAddr
    rw [chanAt_modHart]
    simp only [huid]
    rfl
  rw [hartFrame, hartFrame, haddr]

/-- A pass-through that the modem may send goes out as a frame after the channel's preambles. -/
theorem hartSend_may {n : Nat} {t : HartTrans} {b : Block} (hmay : hartMay b n = true) (hkind : t.kind ≠ 2) :
    hartSend n t b = emit (.hart n (List.replicate (max 5 (chanAt b n).hart.preambles) 0xFF ++ hartFrame b n t))
      (modHart n (fun h => { h with flight := some { t with sentAt := b.tb } }) b) := by
  unfold hartSend
  rw [if_neg (by simp [hmay])]
  simp only [if_neg hkind]

/-- Settles O15: each row by what `actBuffered` gives. -/
theorem bufferedReplies : Obligations.BufferedReplies := by
  unfold Obligations.BufferedReplies
  intro k n d bytes s hon h hdesc hbuf
  refine ⟨?entry, ?time, ?data, ?tune, ?offline, ?hart⟩
  case entry =>
    rintro rfl
    exact does_buffered hon h rfl hbuf ⟨rfl, congrArg Ring.fetched (completeReply_ring hdesc)⟩
  case time =>
    rintro rfl
    exact does_buffered hon h rfl hbuf ⟨rfl, congrArg Ring.fetched (completeReply_ring hdesc)⟩
  case data =>
    rintro rfl
    exact does_buffered hon h rfl hbuf
      ⟨congrArg Ring.fetched (completeReply_ring (b := (canData (cmdIndex d) s.blk).2) hdesc), (objAt_modObj ..).trans (if_pos rfl), rfl⟩
  case tune =>
    rintro rfl z c hstart
    obtain ⟨hidle, hbefore, t, hloop, hat, hc⟩ := tuneStart_some hstart
    have hslot : tuneAt c z = { t with state := 1, reason := 0 } := by
      rw [hc, tuneAt_setSlotState, tuneAt_modSlot]
      simp
    have hrings : (ring c n).fetched = (ring s.blk n).fetched := by rw [hc, setSlotState_fetched]; rfl
    have hdesc' : descAt c n d.idx = some d := by rw [descAt, hrings]; exact hdesc
    have htb : c.tb = s.blk.tb := by rw [hc, setSlotState_tb]; rfl
    have hact : actBuffered .tuneStart n (cmdIndex d) d bytes s.blk = completeReply n d.idx [BitVec.ofNat 8 z] c := by
      simp only [actBuffered, hstart]
    refine does_buffered hon h rfl hbuf ?_
    rw [hact]
    have hkept : ∀ y, tuneAt (completeReply n d.idx [BitVec.ofNat 8 z] c) y = tuneAt c y := fun _ => rfl
    simp only [completeReply_ring hdesc', hkept, hslot, hloop, hat, htb]
    exact ⟨rfl, hidle, trivial, trivial, trivial, hbefore⟩
  case offline =>
    rintro rfl hlen h2 h3
    have hact : actBuffered .hartPassThrough n (cmdIndex d) d bytes s.blk =
        completeReply n d.idx (hartReplyBytes 5 0 0 []) (startDesc n d.idx s.blk) := by
      have hstate : (chanAt (startDesc n d.idx s.blk) (cmdIndex d)).hart.state ≠ 2 ∧
          (chanAt (startDesc n d.idx s.blk) (cmdIndex d)).hart.state ≠ 3 := ⟨h2, h3⟩
      simp only [actBuffered, if_neg (Nat.not_lt.mpr hlen), hartPassThrough, if_pos hstate]
    have hstarted : descAt (startDesc n d.idx s.blk) n d.idx = some { d with started := true } := by
      rw [startDesc, descAt_modDesc_self (f := fun x => { x with started := true }) fun _ => rfl, hdesc]
      rfl
    refine does_buffered hon h rfl hbuf ?_
    rw [hact]
    refine ⟨rfl, _, ?_, rfl⟩
    rw [completeReply_ring hstarted, startDesc_fetched]
    rfl
  case hart =>
    rintro rfl hlen
    intro hart t started hstate hroom
    let c := startDesc n d.idx s.blk
    let q := modHart (cmdIndex d) (fun h => { h with queue := h.queue ++ [t] }) c
    have hact : actBuffered .hartPassThrough n (cmdIndex d) d bytes s.blk = hartNext (cmdIndex d) q := by
      have hlinked : ¬ ((chanAt c (cmdIndex d)).hart.state ≠ 2 ∧ (chanAt c (cmdIndex d)).hart.state ≠ 3) := by
        show ¬ (hart.state ≠ 2 ∧ hart.state ≠ 3)
        omega
      have hfits : ¬ 4 ≤ (chanAt c (cmdIndex d)).hart.queue.length := Nat.not_le.mpr hroom
      simp only [actBuffered, if_neg (Nat.not_lt.mpr hlen), hartPassThrough]
      rw [if_neg hlinked, if_neg hfits]
    have hq : chanAt q (cmdIndex d) = { chanAt s.blk (cmdIndex d) with hart := { hart with queue := hart.queue ++ [t] } } :=
      chanAt_modHart ..
    have hmayq : hartMay q (cmdIndex d) = hartMay s.blk (cmdIndex d) := hartMay_modHart ..
    have hstarted : (ring q n).fetched = withStarted (ring s.blk n).fetched d.idx := startDesc_fetched ..
    refine ⟨fun hwait => does_buffered hon h rfl hbuf ?_, fun hflight hqueue hmay => does_buffered hon h rfl hbuf ?_⟩
    · rw [hact, hartNext_waits (by rw [hq, hmayq]; exact hwait)]
      exact ⟨hstarted, by rw [hq], rfl⟩
    · have hone : (chanAt q (cmdIndex d)).hart.queue = [t] := by rw [hq]; simp [hart, hqueue]
      have hidle : (chanAt q (cmdIndex d)).hart.flight = none := by rw [hq]; exact hflight
      have hlinked : (chanAt q (cmdIndex d)).hart.state ≠ 0 := by
        rw [hq]
        show hart.state ≠ 0
        omega
      rw [hact, hartNext_sends hidle hlinked (hmayq.trans hmay) hone, hartSend_may (by rw [hartMay_modHart, hmayq, hmay]) (show (3 : Nat) ≠ 2 by decide)]
      refine ⟨hstarted, ?_, ?_⟩
      · rw [chanAt_emit, chanAt_modHart, chanAt_modHart, hq]
        simp only [hqueue]
        rfl
      · have hframe : hartFrame (modHart (cmdIndex d) (fun h => { h with queue := [] }) q) (cmdIndex d) t = hartFrame s.blk (cmdIndex d) t := by
          rw [hartFrame_modHart rfl]
          exact hartFrame_modHart (b := c) rfl
        rw [emit_out, chanAt_modHart, hq, hframe]
        rfl

end Sys2Proof.Laws

namespace Sys2Proof.Laws

open Sys2Proof.Machine Sys2Proof.Safety

/-! O25: message-signalled interrupts (R112). -/

section Vectors

variable (l v : Nat) (f : Vec → Vec) (b : Block)

@[simp] theorem vecAt_modVec : vecAt (modVec l v f b) l v = f (vecAt b l v) := by
  simp [vecAt, modVec, hostLink_modLink, tget_tmod]

@[simp] theorem linkUp_modVec : linkUp (modVec l v f b) l = linkUp b l := by
  simp [linkUp, modVec, hostLink_modLink, isFenced]

@[simp] theorem holdoffT_modVec : holdoffT (modVec l v f b) v = holdoffT b v := rfl

end Vectors

/-- A vector that is not masked sends its message at once and starts its holdoff. -/
theorem sendVec_unmasked {l v : Nat} {b : Block} (h : (vecAt b l v).masked = false) :
    (sendVec l v b).out = .msix l v :: b.out ∧
    vecAt (sendVec l v b) l v = { vecAt b l v with
      pending := false, merged := false, holdEnd := if holdoffT b v = 0 then none else some (b.tb + holdoffT b v) } := by
  have hsend : sendVec l v b = emit (.msix l v) (modVec l v (fun x => { x with
      pending := false, merged := false, holdEnd := if holdoffT b v = 0 then none else some (b.tb + holdoffT b v) }) b) := by
    rw [sendVec, h]
    rfl
  rw [hsend]
  exact ⟨rfl, vecAt_modVec ..⟩

/-- A holdoff that is over ends, and a merged request is sent. -/
theorem msixHoldoffEnd_due {l v t : Nat} {b : Block} (h : (vecAt b l v).holdEnd = some t) (ht : t ≤ b.tb) :
    msixHoldoffEnd l v b =
      let c := modVec l v (fun x => { x with holdEnd := none, merged := false }) b
      if (vecAt b l v).merged then sendVec l v c else c := by
  unfold msixHoldoffEnd
  rw [h]
  exact if_neg (Nat.not_lt.mpr ht)

/-- Settles O25: the two ends of a holdoff by `msixHoldoffEnd_due`, and every message that goes out by `sendVec_unmasked`. -/
theorem vectorsSend : Obligations.VectorsSend := by
  unfold Obligations.VectorsSend
  intro l v t s hl hv hon
  refine ⟨fun hend ht hmerged hmasked => ?merged, fun hend ht hmerged => ?plain, fun hpending hup => ?unmask⟩
  case merged =>
    refine does_act rfl (by simp [Instr.ok, hl, hv]) hon ?_
    rw [msixHoldoffEnd_due hend ht, if_pos hmerged]
    obtain ⟨hout, hvec⟩ := sendVec_unmasked (l := l) (v := v) (b := modVec l v (fun x => { x with holdEnd := none, merged := false }) s.blk)
      (by simpa using hmasked)
    rw [hout, hvec]
    exact ⟨rfl, rfl, rfl⟩
  case plain =>
    refine does_act rfl (by simp [Instr.ok, hl, hv]) hon ?_
    rw [msixHoldoffEnd_due hend ht, hmerged]
    exact ⟨rfl, by simp⟩
  case unmask =>
    refine does_act rfl (by simp [Instr.ok, hl, hv]) hon ?_
    have hact : vectorUnmask l v s.blk = sendVec l v (modVec l v (fun x => { x with masked := false }) s.blk) := by
      simp [vectorUnmask, Nat.not_le.mpr hv, hpending, hup]
    obtain ⟨hout, hvec⟩ := sendVec_unmasked (l := l) (v := v) (b := modVec l v (fun x => { x with masked := false }) s.blk) (by simp)
    rw [hact, hout, hvec]
    exact ⟨rfl, rfl, by simp⟩

end Sys2Proof.Laws

namespace Sys2Proof.Laws

open Sys2Proof.Machine Sys2Proof.Safety

/-! O26: the resolution of a target. -/

/-- A fold keeps what each of its steps keeps. -/
theorem foldl_keeps {α β : Type} {g : Block → β} {f : Block → α → Block} (hf : ∀ b a, g (f b a) = g b) (l : List α) (b : Block) :
    g (l.foldl f b) = g b := by
  induction l generalizing b with
  | nil => rfl
  | cons a l ih => exact (ih _).trans (hf _ _)

/-- What a resolution leaves alone once it has written the target: the targets, and every unit but the ring engine's descriptors, CAN and what
events leave. -/
@[irreducible] def targetView (b : Block) : Tab Target × Block :=
  (b.rng.targets, { b with rng := {}, flt := {}, dsp := {}, prf := {}, recorder := {}, fresh := [], can := {} })

theorem targetView_upd {b c : Block} (ht : c.rng.targets = b.rng.targets)
    (hu : { c with rng := {}, flt := {}, dsp := {}, prf := {}, recorder := {}, fresh := [], can := {} } =
      { b with rng := {}, flt := {}, dsp := {}, prf := {}, recorder := {}, fresh := [], can := {} }) : targetView c = targetView b := by
  unfold targetView
  rw [ht, hu]

theorem targetAt_of_view {b c : Block} (h : targetView c = targetView b) (k : Nat) : targetAt c k = targetAt b k := by
  unfold targetView at h
  rw [targetAt, (Prod.mk.inj h).1, ← targetAt]

theorem units_of_view {b c : Block} (h : targetView c = targetView b) : c = { b with
    rng := c.rng, flt := c.flt, dsp := c.dsp, prf := c.prf, recorder := c.recorder, fresh := c.fresh, can := c.can } := by
  unfold targetView at h
  exact congrArg (fun x : Block => { x with
    rng := c.rng, flt := c.flt, dsp := c.dsp, prf := c.prf, recorder := c.recorder, fresh := c.fresh, can := c.can }) (Prod.mk.inj h).2

theorem targetView_of_calm {b c : Block} (h : calm c = calm b) : targetView c = targetView b := by
  have hs := spared_of_calm h
  have hquiet : { quiet c with can := {}, out := c.out, free := c.free } = { quiet b with can := {}, out := b.out, free := b.free } := by
    rw [hs.units, hs.out, hs.free]
  exact targetView_upd (targets_of_calm h) hquiet

theorem targetView_complete (n idx : Nat) (x : Done) (b : Block) : targetView (complete n idx x b) = targetView b := targetView_upd rfl rfl

theorem targetView_completeWith (n idx st : Nat) (v : Word) (b : Block) : targetView (completeWith n idx st v b) = targetView b :=
  targetView_complete ..

theorem targetView_modObj (o : Nat) (f : CanObj → CanObj) (b : Block) : targetView (modObj o f b) = targetView b := targetView_upd rfl rfl

theorem targetView_dropPend (o st : Nat) (b : Block) : targetView (dropPend o st b) = targetView b := by
  unfold dropPend
  split
  · rfl
  · dsimp only
    split
    · exact (targetView_completeWith ..).trans (targetView_modObj ..)
    · exact (targetView_modObj ..).trans (targetView_modObj ..)

theorem targetView_canSweep (b : Block) : targetView (canSweep b) = targetView b := by
  refine foldl_keeps (fun c p => ?_) _ _
  split
  · split
    · exact targetView_dropPend ..
    · rfl
  · rfl

/-- What a resolution writes into its target at tick `tb` (R102, R104). -/
def resolvedTo (r : Resolution) (tb : Nat) (t : Target) : Target :=
  { t with
    inForce := r.value, decided := t.decided || r.top.isSome, superseded := [], releases := [], resolved := tb + 1
    orders := t.orders.map fun o => { o with waits := none } }

/-- A target that has not resolved at this tick takes its resolution; the rest completes commands and reports a conflict. -/
theorem resolveTarget_view {k : Nat} {info : TInfo} {b : Block} (hinfo : targetInfo b k = some info)
    (hnew : (targetAt b k).resolved ≠ b.tb + 1) :
    targetView (resolveTarget k b) =
      targetView (modTarget k (resolvedTo (resolution ((targetAt b k).settled b.tb) info) b.tb) b) := by
  unfold resolveTarget
  rw [hinfo]
  dsimp only
  rw [if_neg hnew]
  refine (foldl_keeps (fun _ _ => targetView_completeWith ..) _ _).trans ?_
  refine (foldl_keeps (fun _ _ => targetView_completeWith ..) _ _).trans ?_
  refine (foldl_keeps (fun c o => ?order) _ _).trans ?conflict
  case order =>
    split
    · exact targetView_completeWith ..
    · rfl
  case conflict =>
    split
    · refine (targetView_of_calm ((calm_fire ..).trans (calm_perf ..))).trans (targetView_upd rfl rfl)
    · rfl

theorem targetResolve_view {k : Nat} {info : TInfo} {b : Block} (hcycle : targetCycle b k = true) (hinfo : targetInfo b k = some info)
    (hnew : (targetAt b k).resolved ≠ b.tb + 1) :
    targetView (targetResolve k b) =
      targetView (modTarget k (resolvedTo (resolution ((targetAt b k).settled b.tb) info) b.tb) b) := by
  unfold targetResolve
  rw [if_pos hcycle]
  split
  · exact (targetView_canSweep _).trans (resolveTarget_view hinfo hnew)
  · exact resolveTarget_view hinfo hnew

/-- Settles O26: `targetResolve_view` reads the target and every other unit off the one write that a resolution is. -/
theorem targetsResolve : Obligations.TargetsResolve := by
  unfold Obligations.TargetsResolve
  intro cls i f info s hcls hi hf hon hinfo hcycle hnew
  refine does_act rfl (by simp [Instr.ok, hcls, hi, hf]) hon ?_
  have hview := targetResolve_view hcycle hinfo hnew
  have htarget := (targetAt_of_view hview (targetKey cls i f)).trans ((targetAt_modTarget ..).trans (if_pos rfl))
  dsimp only
  rw [htarget]
  exact ⟨rfl, rfl, rfl, rfl, rfl, rfl, (units_of_view hview :)⟩

end Sys2Proof.Laws

namespace Sys2Proof.Laws

open Sys2Proof.Machine Sys2Proof.Safety

/-- A command that names something of a module that is not Off answers the state after its meaning. -/
theorem exec_eq_of_act {c : Instr} {f : Block → Block} {s : State} (he : exec c s = act c f s) (hok : c.ok = true) (hon : On s) :
    exec c s = .next { s with blk := f s.blk } := by
  rw [he]
  simp [act, actAlways, hok, show ¬ s.blk.sec.power = 3 from hon]

/-! O12 and O20 fail on a state whose table lists a key twice, which is not the canonical form `twf`: no state that a run from reset reaches
holds such a table, but both statements speak of every state. A table reads as its first entry for a key, and the second shows through where an
operation works on the entries themselves. -/

/-! O12: `canCancel` looks for the frame among all the entries, and then ends the one that the object reads as. -/

/-- The CANCEL, in ring 0, of descriptor 0 of MTX ring 1 (Table 3.7). -/
def cancelCmd : Desc := { idx := 3, w := [0, 0x07000100, 0, 0, 1] }

/-- A CAN descriptor that has been handed over. -/
def handedFrame : Desc := { w := [0, 0, 0, 0x10000000], handed := true }

/-- CAN object 0 is listed twice: its first entry holds a frame of the CANCEL itself, the second one of the descriptor to cancel. -/
def doubledObjects : Block :=
  { rng := { rings := [(0, { state := .running, fetched := [cancelCmd] }), (1, { cfg := 8, state := .running, fetched := [handedFrame] })] }
    can := { objs := [(0, { pend := some { frame := {}, mtx := some (0, 3) } }), (0, { pend := some { frame := {}, mtx := some (1, 0) } })] } }

theorem doubledObjects_accepts : Accepts doubledObjects .cancel 0 cancelCmd where
  ring := by decide
  next := by decide +kernel
  kind := by decide +kernel
  allowed := by decide +kernel

/-- The CANCEL ends with CANCELLED in place of OK. -/
theorem doubledObjects_cancel :
    (ring (runCmd .cancel 0 doubledObjects) 0).fetched = [{ cancelCmd with done := some { status := stCANCELLED } }] := by decide +kernel

/-- Refutes O12: with `doubledObjects`, whose table of CAN objects lists object 0 twice, the CANCEL itself comes back with CANCELLED. -/
theorem not_cancelActs : ¬ Obligations.CancelActs := by
  unfold Obligations.CancelActs
  intro h
  obtain ⟨t, hexec, -, ⟨v, hok⟩, -⟩ := h 0 cancelCmd { blk := doubledObjects } (by decide) doubledObjects_accepts
  rw [exec_eq_of_act rfl (by decide) (by decide)] at hexec
  cases hexec
  have hdone := doubledObjects_cancel.symm.trans hok
  simp [withDone, cancelCmd, doubledObjects, ring, tget, stCANCELLED, stOK] at hdone

/-! O20: `unreserve`, which a CPL ring going down applies to every entry of the rings, drops an entry that reads as an unlisted ring. -/

/-- Link 0 is up, with a running CPL ring 0; ring 5 is listed twice, first as disabled and then as running. -/
def doubledRings : Block :=
  { links := [(0, { up := true })], rng := { rings := [(0, { cfg := 2, state := .running }), (5, {}), (5, { state := .running })] } }

theorem doubledRings_linkDown : (ring doubledRings 5).state = .disabled ∧ (ring (linkDown 0 doubledRings) 5).state = .down := by decide +kernel

/-- Refutes O20: with `doubledRings`, whose table of rings lists ring 5 twice, the DISABLED ring 5 comes up DOWN as link 0 goes down. -/
theorem not_linksUpDown : ¬ Obligations.LinksUpDown := by
  unfold Obligations.LinksUpDown
  intro h
  obtain ⟨-, hdown, -⟩ := h 0 false { blk := doubledRings } (by decide) (by decide)
  obtain ⟨t, hexec, -, -, -, -, hbound⟩ := hdown rfl
  rw [exec_eq_of_act rfl (by decide) (by decide)] at hexec
  cases hexec
  obtain ⟨hbefore, hafter⟩ := doubledRings_linkDown
  have h5 := hbound 5 (by decide) (by decide)
  simp [hbefore, hafter] at h5

end Sys2Proof.Laws

namespace Sys2Proof.Laws

open Sys2Proof.Machine Sys2Proof.Safety

/-! Ring states (O21, O23): what the operations around a change of state leave alone. -/

/-- A key of a mapped table reads as what the map makes of it, unless that is what an unlisted key reads as: `tmap` drops such an entry. -/
theorem tget_tmap {α : Type} [DecidableEq α] {d : α} {f : α → α} {t : Tab α} {k : Nat} (hd : f d = d) (hk : f (tget d t k) ≠ d) :
    tget d (tmap d f t) k = f (tget d t k) := by
  induction t with
  | nil => exact absurd hd hk
  | cons p t ih =>
    obtain ⟨j, v⟩ := p
    by_cases hj : j = k
    · subst hj
      have hv : f v ≠ d := by simpa [tget] using hk
      simp [tmap, tget, hv]
    · have hrest : tget d (tmap d f t) k = f (tget d t k) := ih (by simpa [tget, hj] using hk)
      by_cases hv : f v = d <;> simp_all [tmap, tget]

/-- A ring without its staged entries and its counts of what was dropped, and of its descriptors the index and the words alone. -/
def Slot (r : Ring) : Ring × List (Nat × List Word) :=
  ({ r with fetched := [], cancels := [], cpls := [], evts := [], imgs := [], frames := [], drops := 0, dropsSince := 0 },
    r.fetched.map fun d => (d.idx, d.w))

/-- What completing descriptors and discarding staged entries leave alone: the slot of ring `m`, and what says which links are up. -/
@[irreducible] def slotView (m : Nat) (b : Block) : (Ring × List (Nat × List Word)) × Tab HostLink × List FUnit :=
  (Slot (ring b m), b.links, b.flt.fenced)

section SlotView

variable {m : Nat}

theorem slotView_upd {b c : Block} (hr : Slot (ring c m) = Slot (ring b m)) (hl : c.links = b.links) (hf : c.flt.fenced = b.flt.fenced) :
    slotView m c = slotView m b := by
  unfold slotView
  rw [hr, hl, hf]

theorem slot_of_view {b c : Block} (h : slotView m c = slotView m b) : Slot (ring c m) = Slot (ring b m) := by
  unfold slotView at h
  exact (Prod.mk.inj h).1

theorem linkUp_of_view {b c : Block} (h : slotView m c = slotView m b) (l : Nat) : linkUp c l = linkUp b l := by
  unfold slotView at h
  obtain ⟨-, h⟩ := Prod.mk.inj h
  obtain ⟨hlinks, hfenced⟩ := Prod.mk.inj h
  simp only [linkUp, hostLink, isFenced, hlinks, hfenced]

theorem slotView_modRing {n : Nat} {f : Ring → Ring} (hf : ∀ r, Slot (f r) = Slot r) (b : Block) :
    slotView m (modRing n f b) = slotView m b := by
  refine slotView_upd ?_ rfl rfl
  rw [ring_modRing]
  split
  · next h => rw [hf, h]
  · rfl

/-- A change of a ring that its slot decides comes out the same on modules that agree on it. -/
theorem slotView_modRing_congr {f : Ring → Ring} {b c : Block} (hf : ∀ {r q}, Slot r = Slot q → Slot (f r) = Slot (f q))
    (h : slotView m c = slotView m b) : slotView m (modRing m f c) = slotView m (modRing m f b) := by
  have hslot := slot_of_view h
  unfold slotView at h ⊢
  obtain ⟨-, hrest⟩ := Prod.mk.inj h
  rw [ring_modRing_self, ring_modRing_self, hf hslot]
  exact congrArg _ hrest

theorem slotView_modDesc {n idx : Nat} {f : Desc → Desc} (hidx : ∀ d, (f d).idx = d.idx) (hw : ∀ d, (f d).w = d.w) (b : Block) :
    slotView m (modDesc n idx f b) = slotView m b := by
  refine slotView_modRing (fun r => ?_) b
  have hkeep : ((fun d : Desc => (d.idx, d.w)) ∘ fun d => if d.idx = idx then f d else d) = fun d => (d.idx, d.w) := by
    funext d
    by_cases h : d.idx = idx <;> simp [h, hidx, hw]
  simp only [Slot, List.map_map, hkeep]

theorem slotView_complete (n idx : Nat) (x : Done) (b : Block) : slotView m (complete n idx x b) = slotView m b := by
  refine slotView_modDesc (fun d => ?_) (fun d => ?_) b
  · split <;> rfl
  · split <;> rfl

theorem slotView_completeWith (n idx st : Nat) (v : Word) (b : Block) : slotView m (completeWith n idx st v b) = slotView m b :=
  slotView_complete ..

theorem slotView_refuse (n idx st : Nat) (b : Block) : slotView m (refuse n idx st b) = slotView m b :=
  (slotView_completeWith ..).trans (slotView_upd rfl rfl rfl)

theorem slotView_of_calm {b c : Block} (h : calm c = calm b) : slotView m c = slotView m b := by
  refine slotView_upd ?_ (links_of_calm h) ?_
  · rw [ring_of_calm h]
    rfl
  · rw [(spared_of_calm h).flt]

theorem slotView_abandonCommands (n : Nat) (b : Block) : slotView m (abandonCommands n b) = slotView m b := by
  refine foldl_keeps (fun c d => ?_) _ _
  split
  · exact slotView_refuse ..
  · rfl

theorem slotView_releaseLocks (n : Nat) (b : Block) : slotView m (releaseLocks n b) = slotView m b := by
  refine foldl_keeps (fun c p => ?_) _ _
  exact slotView_upd rfl rfl rfl

theorem slotView_withdrawRing (n : Nat) (b : Block) : slotView m (withdrawRing n b) = slotView m b := slotView_upd rfl rfl rfl

theorem slotView_discardStaged (keep n : Nat) (b : Block) : slotView m (discardStaged keep n b) = slotView m b := by
  refine (foldl_keeps (fun c e => ?_) _ _).trans ?_
  · exact slotView_modRing (fun _ => by rfl) _
  · exact slotView_modRing (fun _ => by rfl) _

theorem slotView_detachRing (n : Nat) (b : Block) : slotView m (detachRing n b) = slotView m b := slotView_upd rfl rfl rfl

/-- A ring whose commands have lost their reservations on CPL ring `c` (R105). -/
def unreservedRing (c : Nat) (r : Ring) : Ring :=
  { r with fetched := r.fetched.map fun d => if d.cplTo = some c then { d with cplTo := none } else d }

theorem slot_unreservedRing (c : Nat) (r : Ring) : Slot (unreservedRing c r) = Slot r := by
  have hkeep : ((fun d : Desc => (d.idx, d.w)) ∘ fun d => if d.cplTo = some c then { d with cplTo := none } else d) =
      fun d => (d.idx, d.w) := by
    funext d
    by_cases h : d.cplTo = some c <;> simp [h]
  simp only [Slot, unreservedRing, List.map_map, hkeep]

/-- A ring that is not DISABLED keeps its place in the table when reservations on a CPL ring are dropped. -/
theorem slotView_unreserve {c : Nat} {b : Block} (h : (ring b m).state ≠ .disabled) : slotView m (unreserve c b) = slotView m b := by
  refine slotView_upd ?_ rfl rfl
  have hring : ring (unreserve c b) m = unreservedRing c (ring b m) :=
    tget_tmap (f := unreservedRing c) rfl fun he => h (congrArg Ring.state he)
  rw [hring, slot_unreservedRing]

end SlotView

/-- What is left of a ring that stops (R83, R114). -/
def stoppedRing (err : Nat) (r : Ring) : Ring :=
  { r with
    state := .stopped, asked := 0, blocked := none, err := if r.err = 0 then err else r.err
    fetched := if r.kind = tCPL then [] else r.fetched }

/-- A RUNNING ring that stops has what `stoppedRing` says, but for what its commands and its staged entries become. -/
theorem ringStop_view {n err : Nat} {b : Block} (h : (ring b n).state = .running) :
    slotView n (ringStop n err b) = slotView n (modRing n (stoppedRing err) b) := by
  have hstate : (ring (modRing n (stoppedRing err) b) n).state ≠ .disabled := by
    rw [ring_modRing_self]
    exact nofun
  have hfire : ∀ c x, slotView n (if err = 0 then c else fire 5 x c) = slotView n c := fun c x => by
    split
    · rfl
    · exact slotView_of_calm (calm_fire ..)
  have hcmd : ∀ c, slotView n (if (ring b n).kind = tCMD then releaseLocks n (withdrawRing n (abandonCommands n c)) else c) = slotView n c :=
    fun c => by
      split
      · exact (slotView_releaseLocks ..).trans ((slotView_withdrawRing ..).trans (slotView_abandonCommands ..))
      · rfl
  have hcpl : slotView n (if (ring b n).kind = tCPL then unreserve n (modRing n (stoppedRing err) b) else modRing n (stoppedRing err) b) =
      slotView n (modRing n (stoppedRing err) b) := by
    split
    · exact slotView_unreserve hstate
    · rfl
  unfold ringStop
  rw [if_neg (by simp [h])]
  exact (hfire ..).trans ((slotView_discardStaged ..).trans ((hcmd _).trans hcpl))

/-- What is left of a ring that goes down (R79, R114). -/
def downRing (r : Ring) : Ring :=
  { r with
    state := .down, asked := 0, blocked := none, drops := sat32 r.drops (cplLost r)
    fetched := if r.kind = tMTX then r.fetched else [], resetting := false, err := if r.err = 0 then erLINK_DOWN else r.err }

theorem slot_downRing {r q : Ring} (h : Slot r = Slot q) : Slot (downRing r) = Slot (downRing q) := by
  have hslot : ∀ r, Slot (downRing r) = ({ (Slot r).1 with
      state := .down, asked := 0, blocked := none, resetting := false, err := if (Slot r).1.err = 0 then erLINK_DOWN else (Slot r).1.err },
      if (Slot r).1.kind = tMTX then (Slot r).2 else []) := by
    intro r
    by_cases hk : r.kind = tMTX
    · simp only [downRing, Slot, Ring.kind] at hk ⊢
      simp only [hk, if_true]
      rfl
    · simp only [downRing, Slot, Ring.kind] at hk ⊢
      simp only [hk, if_false, List.map_nil]
      rfl
  rw [hslot, hslot, h]

theorem state_of_slot {r q : Ring} (h : Slot r = Slot q) : r.state = q.state := (congrArg (fun x => x.1.state) h :)

/-- A RUNNING ring that goes down has what `downRing` says, but for what its staged entries become. -/
theorem ringDown_view {n : Nat} {b : Block} (h : (ring b n).state = .running) :
    slotView n (ringDown n b) = slotView n (modRing n downRing b) := by
  have hcmd : slotView n (if (ring b n).kind = tCMD then releaseLocks n (withdrawRing n b) else b) = slotView n b := by
    split
    · exact (slotView_releaseLocks ..).trans (slotView_withdrawRing ..)
    · rfl
  have hcpl : ∀ c, slotView n c = slotView n b → slotView n (if (ring b n).kind = tCPL then unreserve n c else c) = slotView n b := by
    intro c hc
    split
    · refine (slotView_unreserve ?_).trans hc
      rw [state_of_slot (slot_of_view hc), h]
      exact nofun
    · exact hc
  have hmtx : ∀ c, slotView n (if (ring b n).kind = tMTX then c else detachRing n c) = slotView n c := by
    intro c
    split
    · rfl
    · exact slotView_detachRing ..
  unfold ringDown
  rw [if_neg (by simp [h])]
  exact slotView_modRing_congr slot_downRing ((hmtx _).trans (hcpl _ ((slotView_discardStaged ..).trans hcmd)))

/-! The catch buffers of CAN, which drain after a fetch and after a ring is enabled (R397). -/

/-- Draining the catch buffers keeps what staging a received frame and updating a controller keep. -/
theorem canDrain_keeps {β : Type} {g : Block → β} (hctl : ∀ c f b, g (modCtl c f b) = g b) (hstage : ∀ n f b, g (stageMrx n f b) = g b)
    (b : Block) : g (canDrain b) = g b := by
  have hN : ∀ k c b, g (canDrainN k c b) = g b := by
    intro k
    induction k with
    | zero => exact fun _ _ => rfl
    | succ k ih =>
      intro c b
      unfold canDrainN
      dsimp only
      split
      · rfl
      · split
        · exact (ih ..).trans ((hctl ..).trans (hstage ..))
        · rfl
  exact foldl_keeps (fun _ _ => hN ..) _ _

theorem slotView_canDrain (m : Nat) (b : Block) : slotView m (canDrain b) = slotView m b := by
  have hdrop : ∀ n b, slotView m (dropMrx n b) = slotView m b := by
    intro n b
    unfold dropMrx
    dsimp only
    split
    · rfl
    · exact (slotView_of_calm (calm_perf ..)).trans (slotView_modRing (fun _ => by rfl) _)
  refine canDrain_keeps (fun _ _ _ => slotView_upd rfl rfl rfl) (fun n f b => ?_) b
  unfold stageMrx
  dsimp only
  split
  · rfl
  · split
    · exact slotView_modRing (fun _ => by rfl) _
    · exact hdrop ..

/-- A received frame that is staged or dropped leaves every descriptor alone. -/
theorem fetched_canDrain (m : Nat) (b : Block) : (ring (canDrain b) m).fetched = (ring b m).fetched := by
  have hring : ∀ {n : Nat} {f : Ring → Ring} (b : Block), (∀ r, (f r).fetched = r.fetched) → (ring (modRing n f b) m).fetched = (ring b m).fetched := by
    intro n f b hf
    rw [ring_modRing]
    split
    · next h => rw [hf, h]
    · rfl
  refine canDrain_keeps (g := fun b => (ring b m).fetched) (fun _ _ _ => rfl) (fun n f b => ?_) b
  unfold stageMrx dropMrx
  dsimp only
  split
  · rfl
  · split
    · exact hring _ fun _ => rfl
    · exact (fetched_of_calm (calm_perf ..) m).trans (hring _ fun _ => rfl)

/-! O21. -/

/-- What a slot says of a ring that its registers show or that a fetch rests on. -/
theorem fields_of_slot {r q : Ring} (h : Slot r = Slot q) : r.state = q.state ∧ r.cfg = q.cfg ∧ r.err = q.err ∧ r.hIdx = q.hIdx ∧
    r.mIdx = q.mIdx ∧ r.fIdx = q.fIdx ∧ r.count = q.count ∧ r.asked = q.asked ∧
    r.fetched.map (fun d => (d.idx, d.w)) = q.fetched.map fun d => (d.idx, d.w) :=
  ⟨(congrArg (fun x => x.1.state) h :), (congrArg (fun x => x.1.cfg) h :), (congrArg (fun x => x.1.err) h :), (congrArg (fun x => x.1.hIdx) h :),
    (congrArg (fun x => x.1.mIdx) h :), (congrArg (fun x => x.1.fIdx) h :), (congrArg (fun x => x.1.count) h :),
    (congrArg (fun x => x.1.asked) h :), congrArg Prod.snd h⟩

/-- The slot of a ring that returns to DISABLED (Table 3.3). -/
theorem ringDisable_ring (n : Nat) (b : Block) : ring (ringDisable n b) n =
    { baseLo := (ring b n).baseLo, baseHi := (ring b n).baseHi, cfg := putBit (ring b n).cfg 0 false, cfg2 := (ring b n).cfg2,
      count := (ring b n).count, drops := (ring b n).drops, imgSeq := (ring b n).imgSeq } :=
  ring_modRing_self ..

/-- A ring that holds no descriptor is DISABLED by a RESET at once (R83). -/
theorem ringReset_disables {n : Nat} {b : Block} (hstate : (ring b n).state ≠ .disabled) (hempty : (ring b n).fetched = []) :
    ∃ c, ringReset n b = ringDisable n c := by
  have hsettle : ∀ c, (ring c n).fetched = [] →
      ringSettle n (modRing n (fun r => { r with resetting := true }) c) = ringDisable n (modRing n (fun r => { r with resetting := true }) c) := by
    intro c hc
    unfold ringSettle
    rw [ring_modRing_self]
    exact if_pos (by simp [hc])
  unfold ringReset
  split
  case h_1 h => exact absurd h hstate
  case h_2 => exact ⟨_, rfl⟩
  case h_3 => exact ⟨_, hsettle b hempty⟩
  case h_4 h =>
    have hview := (fields_of_slot (slot_of_view (ringStop_view (err := 0) h)))
    obtain ⟨_, _, _, _, _, _, _, _, hfetched⟩ := hview
    rw [ring_modRing_self] at hfetched
    refine ⟨_, hsettle _ ?_⟩
    simpa [stoppedRing, hempty] using hfetched

/-! The registers of one ring (Table 3.17): ring `n` at 0x11000 + 0x40 n. -/

section RingRegisters

variable {n : Nat} (hn : n < 128)
include hn

theorem isLow64_ring {q : Nat} (hq : q < 0x40) : isLow64 (0x11000 + 0x40 * n + q) = decide (q = 0) := by
  have hblk : (0x11000 + 0x40 * n + q) / 0x10000 = 1 := by omega
  have hr : (0x11000 + 0x40 * n + q) % 0x10000 = 0x1000 + 0x40 * n + q := by omega
  have hq' : (0x1000 + 0x40 * n + q - 0x1000) % 0x40 = q := by omega
  have hlo : 0x1000 ≤ 0x1000 + 0x40 * n + q := by omega
  have hhi : 0x1000 + 0x40 * n + q < 0x1000 + 0x40 * 128 := by omega
  simp only [isLow64, hblk, hr, hq', hlo, hhi, decide_true, Bool.true_and]
  rfl

theorem isHigh64_ring {q : Nat} (hq : q < 0x40) (h4 : q % 4 = 0) : isHigh64 (0x11000 + 0x40 * n + q) = decide (q = 4) := by
  have hoff : 4 ≤ 0x11000 + 0x40 * n + q := by omega
  rw [isHigh64, decide_eq_true hoff, Bool.true_and]
  by_cases hzero : q = 0
  · subst hzero
    cases n with
    | zero => rfl
    | succ n =>
      rw [show 0x11000 + 0x40 * (n + 1) + 0 - 4 = 0x11000 + 0x40 * n + 0x3C by omega, isLow64_ring (by omega) (by omega)]
      rfl
  · rw [show 0x11000 + 0x40 * n + q - 4 = 0x11000 + 0x40 * n + (q - 4) by omega, isLow64_ring hn (by omega)]
    exact decide_eq_decide.mpr (by omega)

theorem writeTaken_ring {q link : Nat} {b : Block} (hready : b.glb.ready = true) (hq : q < 0x40) (h4 : q % 4 = 0) :
    WriteTaken b link (0x11000 + 0x40 * n + q) where
  aligned := by omega
  inside := by omega
  ready _ := hready
  mine := by
    have hfree : ownedReg (0x11000 + 0x40 * n + q) = false := by
      simp [ownedReg]
      omega
    simp [hfree]

theorem write32_ring {q src : Nat} {v : Word} {b : Block} (hq : q < 0x40) :
    write32 src (0x11000 + 0x40 * n + q) v b =
      if q = 8 then
        (if (ring b n).state = .disabled then canDrain (ringCfgWrite (imgLen b) n (v &&& 0x3FFFFFFF#32) b)
        else ringCfgWrite (imgLen b) n (v &&& 0x3FFFFFFF#32) b)
      else if q = 0xC then modIdle n (fun x => { x with cfg2 := v &&& 0xFF#32 }) b
      else if q = 0x10 then ringDoorbell n v b
      else if q = 0x18 then ringCtrlWrite n v b
      else b := by
  have hblk : (0x11000 + 0x40 * n + q) / 0x10000 = 1 := by omega
  have hr : (0x11000 + 0x40 * n + q) % 0x10000 = 0x1000 + 0x40 * n + q := by omega
  obtain ⟨r, hr'⟩ : ∃ r, r = 0x1000 + 0x40 * n + q := ⟨_, rfl⟩
  have hn' : (r - 0x1000) / 0x40 = n := by omega
  have hq' : (r - 0x1000) % 0x40 = q := by omega
  simp only [write32, hblk, hr, ← hr', writeRng, hn', hq']
  simp (disch := omega) only [if_neg, if_pos]
  split
  · rfl
  · rfl
  · rfl
  · rfl
  · next h8 hC h10 h18 =>
    rw [if_neg h8, if_neg hC, if_neg h10, if_neg h18]

end RingRegisters

/-- What a ring that has just been enabled holds (R81). -/
def enabledRing (r : Ring) : Ring :=
  { r with
    state := .running, err := 0, hIdx := 0, hUse := 0, bells := [], mIdx := 0, fIdx := 0, asked := 0, blocked := none, count := 0, drops := 0
    dropsSince := 0, imgSeq := 0, fetched := [], cancels := [], resetting := false }

/-- A ring that has just been enabled on a link that is down goes DOWN (R79). -/
def linkSettled (n : Nat) (b : Block) : Block := if linkUp b (ring b n).link then b else ringDown n b

/-- A write of RNG_RING_CFG with EN = 1 to a DISABLED ring (R81): enabled, or refused with CFG_INVALID. -/
theorem ringCfgWrite_enable {len : Nat → Nat} {n : Nat} {v : Word} {b : Block} (hstate : (ring b n).state = .disabled) (hv : bit v 0 = true) :
    ringCfgWrite len n v b =
      if ringEnableOk len (modRing n (fun r => { r with cfg := v }) b) n = true then
        linkSettled n (modRing n enabledRing (modRing n (fun r => { r with cfg := v }) b))
      else modRing n (fun r => { r with err := erCFG_INVALID }) (modRing n (fun r => { r with cfg := v }) b) := by
  unfold ringCfgWrite
  rw [if_neg (by simp [hstate])]
  dsimp only
  rw [if_neg (by simp [hv])]
  rfl

theorem imgBlocksFrom_congr {b c : Block} (h : c.glb = b.glb) (k p : Nat) : imgBlocksFrom c k p = imgBlocksFrom b k p := by
  have hbyte : ∀ i, chnSecByte c i = chnSecByte b i := fun i => by simp only [chnSecByte, h]
  induction k generalizing p with
  | zero => rfl
  | succ k ih => simp only [imgBlocksFrom, hbyte, ih]

/-- The lengths of the images rest on the image in force alone. -/
theorem imgLen_congr {b c : Block} (h : c.glb = b.glb) : imgLen c = imgLen b := by
  have hword : ∀ i, cfgW c 2 i = cfgW b 2 i := fun i => by simp only [cfgW, h]
  have hen : imgEn c = imgEn b := funext fun i => by simp only [imgEn, imgCfg, hword]
  have hblocks : imgBlocks c = imgBlocks b := funext fun i => by simp only [imgBlocks, imgList, hword, imgBlocksFrom_congr h]
  unfold imgLen
  rw [hen, hblocks]

/-- Whether a ring may be enabled rests on the rings and the image in force. -/
theorem ringEnableOk_congr {len : Nat → Nat} {n : Nat} {b c : Block} (h : c.rng = b.rng) (hglb : c.glb = b.glb) :
    ringEnableOk len c n = ringEnableOk len b n := by
  have hring : ring c = ring b := funext fun m => by simp only [ring, h]
  have himg : imgEn c = imgEn b := funext fun i => by simp only [imgEn, imgCfg, cfgW, hglb]
  unfold ringEnableOk ringImageOk enabledRings
  rw [hring, himg, hglb]

/-- A ring on a link that is up runs; one on a link that is down is DOWN; either way its indices are 0. -/
theorem enabled_view {n : Nat} {c : Block} (h : (ring c n).state = .running) :
    slotView n (linkSettled n c) =
      slotView n (modRing n (fun r => if linkUp c (ring c n).link then r else downRing r) c) := by
  unfold linkSettled
  split
  · exact slotView_upd (by rw [ring_modRing_self]) rfl rfl
  · exact ringDown_view h

end Sys2Proof.Laws

namespace Sys2Proof.Laws

open Sys2Proof.Machine Sys2Proof.Safety

theorem bit_and_ring (v : Word) : bit (v &&& 0x3FFFFFFF#32) 0 = bit v 0 := by
  simp [bit]

theorem bit_putBit_zero (v : Word) (x : Bool) : bit (putBit v 0 x) 0 = x := by
  cases x <;> simp [bit, putBit]

/-! Writes to the registers of a ring. -/

section RingWrites

variable {link n : Nat} {b : Block} (hn : n < 128) (hready : b.glb.ready = true)
include hn hready

theorem hostWrite_ringWord {q : Nat} {v : Word} (hq : q < 0x40) (h4 : q % 4 = 0) (h0 : q ≠ 0) (hhi : q ≠ 4) :
    hostWrite link (0x11000 + 0x40 * n + q) v true b = write32 link (0x11000 + 0x40 * n + q) v (dropHeld link b) :=
  hostWrite_word (writeTaken_ring hn hready hq h4) (by simp [isLow64_ring hn hq, h0]) (by simp [isHigh64_ring hn hq h4, hhi])

theorem hostWrite_ringCtrl (v : Word) : hostWrite link (0x11018 + 0x40 * n) v true b = ringCtrlWrite n v (dropHeld link b) := by
  rw [show 0x11018 + 0x40 * n = 0x11000 + 0x40 * n + 0x18 by omega, hostWrite_ringWord hn hready (by decide) rfl (by decide) (by decide),
    write32_ring hn (by decide)]
  rfl

theorem hostWrite_ringCfg (v : Word) : hostWrite link (0x11000 + 0x40 * n + 8) v true b =
    let c := ringCfgWrite (imgLen (dropHeld link b)) n (v &&& 0x3FFFFFFF#32) (dropHeld link b)
    if (ring b n).state = .disabled then canDrain c else c := by
  rw [hostWrite_ringWord hn hready (by decide) rfl (by decide) (by decide), write32_ring hn (by decide)]
  rfl

section Configured

variable (hstate : (ring b n).state ≠ .disabled)
include hstate

/-- While a ring is not DISABLED, EN = 0 acts as RESET and EN = 1 does nothing (R82). -/
theorem hostWrite_ringCfg_held (v : Word) : hostWrite link (0x11000 + 0x40 * n + 8) v true b =
    if bit v 0 = true then dropHeld link b else ringReset n (dropHeld link b) := by
  rw [hostWrite_ringCfg hn hready, ← bit_and_ring v]
  exact (if_neg hstate).trans (if_pos hstate)

/-- While a ring is not DISABLED, a write that would commit its base, or of RNG_RING_CFG2, has no effect (R82). -/
theorem hostWrite_ring_held {q : Nat} (v : Word) (hq : q = 4 ∨ q = 0xC) :
    hostWrite link (0x11000 + 0x40 * n + q) v true b = dropHeld link b := by
  have hidle : ∀ f, modIdle n f (dropHeld link b) = dropHeld link b := fun f => if_neg hstate
  rcases hq with rfl | rfl
  case inl =>
    have hbase : (0x11000 ≤ 0x11000 + 0x40 * n + 4 - 4) ∧ 0x11000 + 0x40 * n + 4 - 4 < 0x13000 := by omega
    have hslot : (0x11000 + 0x40 * n + 4 - 4 - 0x11000) / 0x40 = n := by omega
    rw [hostWrite_high64 (writeTaken_ring hn hready (by decide) rfl) (isLow64_ring hn (by decide)) (isHigh64_ring hn (by decide) rfl)]
    unfold write64
    dsimp only
    rw [if_pos hbase, hslot]
    exact hidle _
  case inr =>
    rw [hostWrite_ringWord hn hready (by decide) rfl (by decide) (by decide), write32_ring hn (by decide)]
    exact hidle _

end Configured

end RingWrites

/-- A ring that has just been enabled runs on a link that is up and is DOWN on one that is not, with its indices at 0 (R79, R81). -/
theorem enabled_fields {n : Nat} {r : Ring} {y b : Block} (hy : ring y n = enabledRing r) (hb : canDrain (linkSettled n y) = b) :
    (ring b n).cfg = r.cfg ∧ (ring b n).state = (if linkUp b (ring b n).link then RingState.running else RingState.down) ∧
      (ring b n).hIdx = 0 ∧ (ring b n).mIdx = 0 ∧ (ring b n).fIdx = 0 ∧ (ring b n).count = 0 := by
  subst hb
  have hview := (slotView_canDrain n (linkSettled n y)).trans (enabled_view (c := y) (by rw [hy]; rfl))
  have hup : ∀ l, linkUp (canDrain (linkSettled n y)) l = linkUp y l := fun l => (linkUp_of_view hview l).trans rfl
  obtain ⟨hst, hcfg, -, hh, hm, hf, hcount, -⟩ := fields_of_slot (slot_of_view hview)
  have hlink : (ring (canDrain (linkSettled n y)) n).link = (ring _ n).link := congrArg (fld · 9 1) hcfg
  rw [ring_modRing_self] at hst hcfg hh hm hf hcount hlink
  rw [hlink, hup, hst, hcfg, hh, hm, hf, hcount, hy]
  by_cases h : linkUp y (enabledRing r).link = true
  · rw [if_pos h, if_pos h]
    exact ⟨rfl, rfl, rfl, rfl, rfl, rfl⟩
  · rw [if_neg h]
    exact ⟨rfl, (if_neg h).symm, rfl, rfl, rfl, rfl⟩

/-- Settles O21: the registers by `hostWrite_ringCfg`, `_ringCtrl` and `_ring_held`, the changes of state by `enabled_fields`, `ringStop_view` and
`ringReset_disables`. -/
theorem ringStates : Obligations.RingStates := by
  unfold Obligations.RingStates
  intro link n cfg s hlink hn hon hready c x
  let configured := modRing n (fun r => { r with cfg := c }) (dropHeld link s.blk)
  have hen : bit c 0 = true := (bit_and_ring _).trans (bit_putBit_zero ..)
  have hallowed : ringEnableOk (imgLen (dropHeld link s.blk)) configured n = ringEnableOk (imgLen s.blk) x n := by
    rw [imgLen_congr (b := s.blk) (c := dropHeld link s.blk) rfl]
    exact ringEnableOk_congr (b := x) rfl rfl
  have hcfg (hstate : (ring s.blk n).state = .disabled) : hostWrite link (0x11008 + 0x40 * n) (putBit cfg 0 true) true s.blk =
      canDrain (if ringEnableOk (imgLen s.blk) x n = true then linkSettled n (modRing n enabledRing configured)
        else modRing n (fun r => { r with err := erCFG_INVALID }) configured) := by
    rw [show 0x11008 + 0x40 * n = 0x11000 + 0x40 * n + 8 by omega, hostWrite_ringCfg hn hready, ← hallowed]
    exact (if_pos hstate).trans (congrArg canDrain (ringCfgWrite_enable hstate hen))
  refine ⟨fun hstate hok => ?enable, fun hstate hbad => ?invalid, fun hstate => ?stop, fun hstate hempty => ?reset, fun hstate => ?writes⟩
  case enable =>
    refine does_act rfl (by simp [Instr.ok, hlink, hn]) hon ?_
    refine enabled_fields (r := { ring s.blk n with cfg := c }) (y := modRing n enabledRing configured) ?_ ?_
    · rw [ring_modRing_self, ring_modRing_self]
      rfl
    · exact ((hcfg hstate).trans (congrArg canDrain (if_pos hok))).symm
  case invalid =>
    refine does_act rfl (by simp [Instr.ok, hlink, hn]) hon ?_
    have hact := (hcfg hstate).trans (congrArg canDrain (if_neg (ne_true_of_eq_false hbad)))
    obtain ⟨hst, -, herr, -⟩ := fields_of_slot (slot_of_view (slotView_canDrain n (modRing n (fun r => { r with err := erCFG_INVALID }) configured)))
    rw [hact, hst, herr, ring_modRing_self, ring_modRing_self]
    exact ⟨hstate, rfl⟩
  case stop =>
    refine does_act rfl (by simp [Instr.ok, hlink, hn]) hon ?_
    rw [hostWrite_ringCtrl hn hready]
    have hview := ringStop_view (err := 0) (b := dropHeld link s.blk) hstate
    exact (state_of_slot (slot_of_view hview)).trans (congrArg Ring.state (ring_modRing_self ..))
  case reset =>
    refine does_act rfl (by simp [Instr.ok, hlink, hn]) hon ?_
    obtain ⟨y, hy⟩ := ringReset_disables (b := dropHeld link s.blk) hstate hempty
    have hact : hostWrite link (0x11018 + 0x40 * n) 2 true s.blk = ringDisable n y := (hostWrite_ringCtrl hn hready 2).trans hy
    rw [hact, ringDisable_ring]
    exact ⟨rfl, bit_putBit_zero .., rfl, rfl, rfl⟩
  case writes =>
    intro wr untouched
    have hok {q : Nat} (hq : q < 0x40) : (Instr.registerWrite link (0x11000 + 0x40 * n + q) cfg true).ok = true := by
      have hinside : 0x11000 + 0x40 * n + q < 0x100000 := by omega
      simp [Instr.ok, hlink, hinside]
    have hnothing {q : Nat} {y : Block} (hq : q < 0x40) (hw : hostWrite link (0x11000 + 0x40 * n + q) cfg true s.blk = y) (hy : untouched y) :
        Does (.registerWrite link (0x11000 + 0x40 * n + q) cfg true) s untouched :=
      does_act rfl (hok hq) hon (by rwa [hw])
    have hlow := hostWrite_low64 (v := cfg) (writeTaken_ring (link := link) (q := 0) hn hready (by decide) rfl) (isLow64_ring hn (by decide))
    refine ⟨fun hoff => ?_, fun hset => ?_, ?_, ?_, ?_⟩
    · have hreset := (hostWrite_ringCfg_held (link := link) hn hready hstate cfg).trans (if_neg (ne_true_of_eq_false hoff))
      have hctrl : hostWrite link (0x11018 + 0x40 * n) 2 true s.blk = ringReset n (dropHeld link s.blk) := hostWrite_ringCtrl hn hready 2
      show exec (.registerWrite link (0x11000 + 0x40 * n + 8) cfg true) s = _
      rw [exec_eq_of_act rfl (hok (by decide)) hon, exec_eq_of_act rfl (by simp [Instr.ok, hlink, hn]) hon, hreset, hctrl]
    · exact hnothing (q := 8) (by decide) ((hostWrite_ringCfg_held hn hready hstate cfg).trans (if_pos hset)) ⟨rfl, rfl⟩
    · exact hnothing (q := 0) (by decide) hlow ⟨rfl, rfl⟩
    · exact hnothing (q := 4) (by decide) (hostWrite_ring_held hn hready hstate cfg (by decide)) ⟨rfl, rfl⟩
    · exact hnothing (q := 0xC) (by decide) (hostWrite_ring_held hn hready hstate cfg (by decide)) ⟨rfl, rfl⟩

end Sys2Proof.Laws

namespace Sys2Proof.Laws

open Sys2Proof.Machine Sys2Proof.Safety

/-! O23: fetched descriptors and data buffers. -/

/-- The ring once the read of its descriptors has come back. -/
def answered (n : Nat) (b : Block) : Block := modRing n (fun r => { r with asked := 0 }) b

theorem ring_answered (n : Nat) (b : Block) : ring (answered n b) n = { ring b n with asked := 0 } := ring_modRing_self ..

/-- Credit does not rest on the reads that a ring has asked for. -/
theorem creditFor_answered (n m : Nat) (d : Desc) (b : Block) : creditFor (answered n b) m d = creditFor b m d := by
  have hring : ring (answered n b) = fun m => { ring b m with asked := (ring (answered n b) m).asked } := by
    funext m
    by_cases h : m = n
    · subst h
      rw [ring_answered]
    · rw [answered, ring_modRing_ne h]
  generalize answered n b = c at hring
  unfold creditFor cplTarget cplUsed mtxUsed rrdUsed enabledRings
  rw [hring]
  rfl

section Taking

variable {m : Nat}

theorem slotView_askBuffer (n addr len : Nat) (d : Desc) (b : Block) : slotView m (askBuffer n addr len d b) = slotView m b := by
  refine (foldl_keeps (fun _ _ => ?_) _ _).trans ?_
  · exact slotView_upd rfl rfl rfl
  · exact slotView_modDesc (fun _ => by rfl) (fun _ => by rfl) _

theorem slotView_takeCmd (n : Nat) (d : Desc) (b : Block) : slotView m (takeCmd n d b) = slotView m b := by
  have hcpl : slotView m (if cmdCpl d && cplTarget b n then modDesc n d.idx (fun x => { x with cplTo := some (ring b n).cplRing }) b else b) =
      slotView m b := by
    split
    · exact slotView_modDesc (fun _ => by rfl) (fun _ => by rfl) _
    · rfl
  unfold takeCmd
  dsimp only
  split
  · exact (slotView_refuse ..).trans hcpl
  split
  · exact hcpl
  split
  · exact (slotView_refuse ..).trans hcpl
  split
  · exact (slotView_askBuffer ..).trans hcpl
  · exact hcpl

theorem slotView_takeMtx (n : Nat) (d : Desc) (b : Block) : slotView m (takeMtx n d b) = slotView m b := by
  have hlate : slotView m (modDesc n d.idx (fun x => { x with late := mtxLaunch d != 0 && decide (mtxLaunch d ≤ b.tb) }) b) = slotView m b :=
    slotView_modDesc (fun _ => by rfl) (fun _ => by rfl) _
  unfold takeMtx
  dsimp only
  split
  · exact (slotView_completeWith ..).trans ((slotView_modRing (fun _ => by rfl) _).trans hlate)
  split
  · split
    · exact (slotView_completeWith ..).trans hlate
    · exact (slotView_modDesc (fun _ => by rfl) (fun _ => by rfl) _).trans hlate
  · exact (slotView_askBuffer ..).trans hlate

theorem slotView_takeRrd (n : Nat) (d : Desc) (b : Block) : slotView m (takeRrd n d b) = slotView m b := slotView_complete ..

theorem slotView_orderMtx (n idx : Nat) (b : Block) : slotView m (orderMtx n idx b) = slotView m b := slotView_upd rfl rfl rfl

end Taking

/-- A ring with one more fetched descriptor (R87). -/
def takenRing (d : Desc) (r : Ring) : Ring := { r with fetched := r.fetched ++ [d], fIdx := (r.fIdx + 1) % ringMod }

theorem takeDesc_view (n : Nat) (d : Desc) (b : Block) : slotView n (takeDesc n d b) = slotView n (modRing n (takenRing d) b) := by
  unfold takeDesc
  dsimp only
  split
  · exact slotView_takeCmd ..
  split
  · exact (slotView_takeMtx ..).trans (slotView_orderMtx ..)
  split
  · exact slotView_takeRrd ..
  · rfl

/-- A command that returns nothing and has no buffer is only put among the fetched ones. -/
theorem takeDesc_plain {n : Nat} {d : Desc} {b : Block} (hkind : (ring b n).kind = tCMD) (hop : cmdOpcode d = 2) (hcpl : cmdCpl d = false) :
    takeDesc n d b = modRing n (takenRing d) b := by
  have htake : ∀ c, takeCmd n d c = c := fun c => by simp [takeCmd, hop, hcpl]
  unfold takeDesc
  dsimp only
  rw [if_pos (by rw [ring_modRing_self]; exact hkind), htake]
  rfl

section Fetch

variable {n : Nat} {b : Block} (hrun : (ring b n).state = .running)
include hrun

/-- A ring that stops, whether or not catch buffers drain afterwards, is STOPPED with its first error. -/
theorem ringStop_fields (err : Nat) : (ring (ringStop n err b) n).state = .stopped ∧
    (ring (ringStop n err b) n).err = if (ring b n).err = 0 then err else (ring b n).err := by
  obtain ⟨hstate, -, herr, -⟩ := fields_of_slot (slot_of_view (ringStop_view (err := err) hrun))
  rw [ring_modRing_self] at hstate herr
  exact ⟨hstate, herr⟩

/-- A fetch read that fails stops its ring (R114). -/
theorem descriptorFetch_failed (h : 0 < (ring b n).asked) : descriptorFetch n none b = ringStop n erFETCH_DMA b :=
  if_neg (by simp [hrun]; omega)

/-- A fetch read that returns words takes descriptors from them. -/
theorem descriptorFetch_words (ws : List Word) (h : 0 < (ring b n).asked) :
    descriptorFetch n (some ws) b = takeDescs n (ring b n).asked ws (answered n b) :=
  if_neg (by simp [hrun]; omega)

/-- A descriptor without OWN stops its ring (R90). -/
theorem descriptorFetch_unowned {ws : List Word} (h : 0 < (ring b n).asked) (havail : ringAvail (ring b n) ≠ 0) (hown : bit (wAt ws 7) 31 = false) :
    descriptorFetch n (some ws) b = ringStop n erOWN_ERR (answered n b) := by
  obtain ⟨k, hk⟩ : ∃ k, (ring b n).asked = k + 1 := ⟨_, (Nat.succ_pred_eq_of_pos h).symm⟩
  have havail' : ringAvail (ring (answered n b) n) ≠ 0 := by rwa [ring_answered]
  rw [descriptorFetch_words hrun _ h, hk]
  exact (if_neg havail').trans (if_pos (by simp [hown]))

/-- A descriptor that the module owns, asked for alone, is taken. -/
theorem descriptorFetch_one {ws : List Word} (hasked : (ring b n).asked = 1) (havail : ringAvail (ring b n) ≠ 0) (hown : bit (wAt ws 7) 31 = true)
    (hcredit : creditFor b n { idx := (ring b n).fIdx, w := ws.take 8 } = true) :
    descriptorFetch n (some ws) b = takeDesc n { idx := (ring b n).fIdx, w := ws.take 8 } (answered n b) := by
  have havail' : ringAvail (ring (answered n b) n) ≠ 0 := by rwa [ring_answered]
  have hidx : (ring (answered n b) n).fIdx = (ring b n).fIdx := by rw [ring_answered]
  rw [descriptorFetch_words hrun _ (by omega), hasked, takeDescs, hidx]
  refine (if_neg havail').trans ((if_neg (by simp [hown])).trans (if_neg ?_))
  rw [creditFor_answered, hcredit]
  exact nofun

end Fetch

/-- The control word of a READ that names no CPL ring: opcode 2, bit 8 clear (Table 3.7). -/
theorem read_of_fld {d : Desc} (h : fld (wAt d.w 4) 0 9 = 2) : cmdOpcode d = 2 ∧ cmdCpl d = false := by
  have hw : (wAt d.w 4).toNat % 512 = 2 := by simpa [fld] using h
  constructor
  · simp only [cmdOpcode, fld]
    omega
  · have hbit : (wAt d.w 4).toNat.testBit 8 = false := by
      rw [Nat.testBit_eq_decide_div_mod_eq]
      exact decide_eq_false (by omega)
    exact hbit

theorem wAt_take {ws : List Word} {k i : Nat} (h : i < k) : wAt (ws.take k) i = wAt ws i := by
  simp [wAt, List.getD_eq_getElem?_getD, h]

/-! Data buffers (R96). -/

theorem kind_modDesc (n idx : Nat) (f : Desc → Desc) (b : Block) : (ring (modDesc n idx f b) n).kind = (ring b n).kind := by
  rw [modDesc_ring]
  rfl

section Buffers

variable {n idx : Nat} {d : Desc} {b : Block} (hd : descAt b n idx = some d) (hbuf : d.buf = .requested) (hdone : d.done = none)
include hd hbuf hdone

/-- The buffer of an MTX descriptor that cannot be read ends it with DMA. -/
theorem bufferFailed_mtx (hkind : (ring b n).kind = tMTX) : ∃ e ∈ (ring (bufferReadCompletion n idx none b) n).fetched,
    e.idx = idx ∧ e.done = some { status := stDMA, result := 0, tick := b.tb } := by
  have hidx : d.idx = idx := by simpa using List.find?_some hd
  let x : Done := { status := stDMA, result := 0, tick := b.tb }
  have hfound : descAt (bufferReadCompletion n idx none b) n idx = some { d with buf := .failed, done := some x } := by
    unfold bufferReadCompletion
    rw [hd]
    dsimp only
    rw [if_neg (by simp [hbuf, hdone]), kind_modDesc, if_pos hkind]
    refine (descAt_modDesc_self fun y => ?_).trans ?_
    · split <;> rfl
    · rw [descAt_modDesc_self (f := fun x => { x with buf := .failed }) fun _ => rfl, hd]
      simp [hdone, x]
  exact ⟨_, List.mem_of_find?_eq_some hfound, hidx, rfl⟩

/-- The buffer of a command arrives, cut to LEN, or cannot be read. -/
theorem buffer_cmd (hkind : (ring b n).kind = tCMD) (data : Option (List Byte)) :
    bufferReadCompletion n idx data b = modDesc n idx (fun y => { y with buf := match data with
      | none => .failed
      | some bytes => .data (bytes.take (cmdLen d)) }) b := by
  have hk : ¬ (ring b n).kind = tMTX := by rw [hkind]; decide
  unfold bufferReadCompletion
  rw [hd]
  dsimp only
  rw [if_neg (by simp [hbuf, hdone])]
  cases data with
  | none => exact if_neg (by rwa [kind_modDesc])
  | some bytes =>
    dsimp only
    rw [if_neg hk]
    exact if_neg (by rwa [kind_modDesc])

end Buffers

theorem modDesc_onlyFetched (n idx : Nat) (f : Desc → Desc) (b : Block) : modDesc n idx f b = { b with rng := (modDesc n idx f b).rng } ∧
    OnlyFetched b (modDesc n idx f b) n ((ring b n).fetched.map fun y => if y.idx = idx then f y else y) :=
  ⟨rfl, rfl, modDesc_ring .., fun _ hm => modDesc_other hm⟩

theorem does_descriptorFetch {n : Nat} {data : Option (List Word)} {s : State} {Q : Block → Prop} (hn : n < 128) (hon : On s)
    (hq : Q (canDrain (descriptorFetch n data s.blk))) : Does (.descriptorFetch n data) s Q :=
  does_act (f := fun b => canDrain (descriptorFetch n data b)) rfl (by simp [Instr.ok, hn]) hon hq

/-- Settles O23: what a fetch comes to by `descriptorFetch_failed`, `_unowned` and `_one`; what a buffer read comes to by `bufferFailed_mtx` and
`buffer_cmd`. -/
theorem fetchTakes : Obligations.FetchTakes := by
  unfold Obligations.FetchTakes
  intro n ws s hn hon hrun r stops
  have hdrained {c : Block} {code : Nat} (h : (ring c n).state = .stopped ∧ (ring c n).err = if r.err = 0 then code else r.err) :
      stops code (canDrain c) := by
    obtain ⟨hstate, -, herr, -⟩ := fields_of_slot (slot_of_view (slotView_canDrain n c))
    exact ⟨hstate.trans h.1, herr.trans h.2⟩
  refine ⟨fun hask => ?failed, fun hask => ?timeout, fun hask havail hown => ?unowned, fun hask havail hown hcredit => ?taken,
    fun hask havail hkind hown hread => ?read, fun idx d hd hbuf hdone hkind => ?mtx, fun idx d bytes hd hbuf hdone hkind => ?cmd⟩
  case failed =>
    refine does_descriptorFetch hn hon (hdrained ?_)
    rw [descriptorFetch_failed hrun hask]
    exact ringStop_fields hrun _
  case timeout =>
    refine does_act rfl (by simp [Instr.ok, hn]) hon ?_
    show stops _ (descriptorFetch n none s.blk)
    rw [descriptorFetch_failed hrun hask]
    exact ringStop_fields hrun _
  case unowned =>
    refine does_descriptorFetch hn hon (hdrained ?_)
    have hring := ring_answered n s.blk
    have hstopped := ringStop_fields (n := n) (b := answered n s.blk) (by rw [hring]; exact hrun) erOWN_ERR
    rw [descriptorFetch_unowned hrun hask havail hown]
    rwa [show (ring (answered n s.blk) n).err = r.err by rw [hring]] at hstopped
  case taken =>
    refine does_descriptorFetch hn hon ?_
    rw [descriptorFetch_one hrun hask havail hown hcredit]
    obtain ⟨hstate, -, -, -, -, hf, -, hasked, hfetched⟩ :=
      fields_of_slot (slot_of_view ((slotView_canDrain n _).trans (takeDesc_view n { idx := r.fIdx, w := ws.take 8 } (answered n s.blk))))
    rw [ring_modRing_self, ring_answered] at hstate hf hasked hfetched
    refine ⟨hstate.trans hrun, hf, hasked, ?_⟩
    have hmem : (r.fIdx, ws.take 8) ∈ (takenRing { idx := r.fIdx, w := ws.take 8 } { r with asked := 0 }).fetched.map fun d => (d.idx, d.w) := by
      simp [takenRing]
    rw [← hfetched] at hmem
    obtain ⟨d, hd, heq⟩ := List.mem_map.mp hmem
    exact ⟨d, hd, (Prod.mk.inj heq).1, (Prod.mk.inj heq).2⟩
  case read =>
    obtain ⟨hop, hcpl⟩ := read_of_fld (d := { idx := r.fIdx, w := ws.take 8 }) (by rwa [wAt_take (by decide)])
    have hcredit : creditFor s.blk n { idx := r.fIdx, w := ws.take 8 } = true :=
      (if_pos hkind).trans (by simp [hcpl])
    have hkind' : (ring (answered n s.blk) n).kind = tCMD := by rw [ring_answered]; exact hkind
    refine does_descriptorFetch hn hon ?_
    rw [descriptorFetch_one hrun hask havail hown hcredit, takeDesc_plain hkind' hop hcpl]
    obtain ⟨-, -, -, -, -, hf, -⟩ := fields_of_slot (slot_of_view (slotView_canDrain n (modRing n (takenRing { idx := r.fIdx, w := ws.take 8 }) (answered n s.blk))))
    rw [fetched_canDrain, hf, ring_modRing_self, ring_answered]
    exact ⟨rfl, rfl⟩
  case mtx =>
    have hfails := bufferFailed_mtx hd hbuf hdone hkind
    exact ⟨does_act rfl (by simp [Instr.ok, hn]) hon hfails, does_act rfl (by simp [Instr.ok, hn]) hon hfails⟩
  case cmd =>
    intro gets
    have hdoes (data : Option (List Byte)) : gets (match data with
        | none => .failed
        | some bytes => .data (bytes.take (cmdLen d))) (bufferReadCompletion n idx data s.blk) := by
      rw [buffer_cmd hd hbuf hdone hkind]
      exact modDesc_onlyFetched ..
    exact ⟨does_act rfl (by simp [Instr.ok, hn]) hon (hdoes (some bytes)), does_act rfl (by simp [Instr.ok, hn]) hon (hdoes none),
      does_act rfl (by simp [Instr.ok, hn]) hon (hdoes none)⟩

end Sys2Proof.Laws

namespace Sys2Proof.Laws

open Sys2Proof.Machine Sys2Proof.Safety

/-! O53: the queue of frames of a network. -/

/-- A network with the frames `q` queued. -/
def withTxq (n : Nat) (q : List EthTx) (b : Block) : Block := modNet n (fun y => { y with txq := q }) b

theorem netAt_withTxq (n : Nat) (q : List EthTx) (b : Block) : netAt (withTxq n q b) n = { netAt b n with txq := q } :=
  (netAt_modNet ..).trans (if_pos rfl)

theorem netAt_modNet_ne {n m : Nat} {f : Net → Net} {b : Block} (h : m ≠ n) : netAt (modNet n f b) m = netAt b m :=
  (netAt_modNet ..).trans (if_neg h)

/-- Which LANs carry frames does not rest on the frames queued. -/
theorem lanUp_withTxq (n : Nat) (q : List EthTx) (b : Block) : lanUp (withTxq n q b) = lanUp b := by
  funext m l
  have hfenced : isFenced (withTxq n q b) = isFenced b := rfl
  unfold lanUp
  by_cases h : m = n
  · rw [h, netAt_withTxq, hfenced]
  · rw [withTxq, netAt_modNet_ne h]
    rfl

theorem lansUp_withTxq (n m : Nat) (q : List EthTx) (b : Block) : lansUp (withTxq n q b) m = lansUp b m := by
  have hsingle : netSingle (withTxq n q b) m = netSingle b m := rfl
  unfold lansUp
  rw [lanUp_withTxq, hsingle]

theorem ethTxLans_withTxq (n m : Nat) (q : List EthTx) (b : Block) (ptp : Option (Nat × Bool)) :
    ethTxLans (withTxq n q b) m ptp = ethTxLans b m ptp := by
  cases ptp with
  | none => exact lansUp_withTxq ..
  | some k =>
    show List.filter (lanUp (withTxq n q b) m) _ = _
    rw [lanUp_withTxq]
    rfl

/-- A frame that its network drops: no LAN carries it, the network is off, or a module force stands against it (R196). -/
def dropped (b : Block) (n : Nat) (x : EthTx) : Bool :=
  (ethTxLans b n x.ptp).isEmpty || !netEn b n || (x.ptp.isNone && moduleForce b)

theorem ethFlush_eq (n : Nat) (b : Block) : ethFlush n b =
    ((netAt b n).txq.filter (dropped b n)).foldl (fun b x => completeWith x.ring x.idx stTX_FAILED 0 b)
      (withTxq n ((netAt b n).txq.filter fun x => !dropped b n x) b) := by
  unfold ethFlush
  rw [List.partition_eq_filter_filter]
  rfl

/-- Where every queued frame may leave, none is dropped. -/
theorem ethFlush_keeps {n : Nat} {b : Block} (h : ∀ x ∈ (netAt b n).txq, dropped b n x = false) :
    ethFlush n b = withTxq n (netAt b n).txq b := by
  have hgone : (netAt b n).txq.filter (dropped b n) = [] := List.filter_eq_nil_iff.mpr fun x hx => by simp [h x hx]
  have hkept : ((netAt b n).txq.filter fun x => !dropped b n x) = (netAt b n).txq := List.filter_eq_self.mpr fun x hx => by simp [h x hx]
  rw [ethFlush_eq, hgone, hkept]
  rfl

/-- The only frame queued, where it may not leave, is dropped. -/
theorem ethFlush_drops {n : Nat} {z : EthTx} {b : Block} (hq : (netAt b n).txq = [z]) (h : dropped b n z = true) :
    ethFlush n b = completeWith z.ring z.idx stTX_FAILED 0 (withTxq n [] b) := by
  rw [ethFlush_eq, hq]
  simp only [List.filter_singleton, h, Bool.not_true]
  rfl

/-- A sequence of outputs, the last one at the head. -/
theorem foldl_emit {α : Type} (o : α → Output) (l : List α) (b : Block) :
    l.foldl (fun b a => emit (o a) b) b = { b with out := (l.map o).reverse ++ b.out } := by
  induction l generalizing b with
  | nil => rfl
  | cons a l ih =>
    rw [List.foldl_cons, ih]
    simp [emit]

/-- What leaves for a frame on one LAN: padded, and with its trailer where the network is redundant (R434, R435). -/
def wireFrame (b : Block) (n : Nat) (f : List Sys2Proof.Byte) (l : Nat) : Output :=
  let body := f ++ List.replicate (60 - f.length) 0
  .eth n l (body ++ if netSingle b n then [] else rctBytes (netAt b n).seqNr l (lsduSize body))

/-- The sequence number after a frame has left: one trailer's further on a redundant network. -/
def nextSeq (b : Block) (n : Nat) : Nat := if netSingle b n then (netAt b n).seqNr else ((netAt b n).seqNr + 1) % 65536

/-- A network whose oldest frame has been taken from its queue, which was written back as it stood: `zs` stay queued. -/
def dequeued (n : Nat) (zs : List EthTx) (b : Block) : Block := withTxq n zs (withTxq n (netAt b n).txq b)

section Dequeued

variable (n : Nat) (zs : List EthTx) (b : Block)

theorem netAt_dequeued : netAt (dequeued n zs b) n = { netAt b n with txq := zs } := by
  rw [dequeued, netAt_withTxq, netAt_withTxq]

theorem netAt_dequeued_ne {m : Nat} (h : m ≠ n) : netAt (dequeued n zs b) m = netAt b m := (netAt_modNet_ne h).trans (netAt_modNet_ne h)

theorem lansUp_dequeued : lansUp (dequeued n zs b) n = lansUp b n := by
  rw [dequeued, lansUp_withTxq, lansUp_withTxq]

theorem ethTxLans_dequeued (ptp : Option (Nat × Bool)) : ethTxLans (dequeued n zs b) n ptp = ethTxLans b n ptp := by
  rw [dequeued, ethTxLans_withTxq, ethTxLans_withTxq]

theorem wireFrame_dequeued (f : List Sys2Proof.Byte) : wireFrame (dequeued n zs b) n f = wireFrame b n f := by
  unfold wireFrame
  rw [netAt_dequeued]
  rfl

theorem nextSeq_dequeued : nextSeq (dequeued n zs b) n = nextSeq b n := by
  unfold nextSeq
  rw [netAt_dequeued]
  rfl

end Dequeued

/-- What a network's frame that is sent changes: the outputs, and the sequence number. -/
structure Sent (n : Nat) (f : List Sys2Proof.Byte) (a b : Block) : Prop where
  out : b.out = ((lansUp a n).map (wireFrame a n f)).reverse ++ a.out
  net : netAt b n = { netAt a n with seqNr := nextSeq a n }
  nets : ∀ m, m ≠ n → netAt b m = netAt a m
  rest : b = { a with out := b.out, eth := { a.eth with nets := b.eth.nets } }

theorem ethSend_sent (n : Nat) (f : List Sys2Proof.Byte) (b : Block) : Sent n f b (ethSend n f b) := by
  by_cases h : netSingle b n = true
  · have hseq : nextSeq b n = (netAt b n).seqNr := if_pos h
    have hwire : wireFrame b n f = fun l => .eth n l (f ++ List.replicate (60 - f.length) 0) := by
      funext l
      simp [wireFrame, h]
    have heq : ethSend n f b = { b with out := ((lansUp b n).map (wireFrame b n f)).reverse ++ b.out } := by
      rw [hwire]
      exact (if_pos h).trans (foldl_emit ..)
    rw [heq]
    exact ⟨rfl, by rw [hseq]; rfl, fun _ _ => rfl, rfl⟩
  · have hseq : nextSeq b n = ((netAt b n).seqNr + 1) % 65536 := if_neg h
    have hwire : wireFrame b n f = fun l =>
        let body := f ++ List.replicate (60 - f.length) 0
        .eth n l (body ++ rctBytes (netAt b n).seqNr l (lsduSize body)) := by
      funext l
      simp [wireFrame, h]
    have heq : ethSend n f b = modNet n (fun x => { x with seqNr := (x.seqNr + 1) % 65536 })
        { b with out := ((lansUp b n).map (wireFrame b n f)).reverse ++ b.out } := by
      rw [hwire]
      exact (if_neg h).trans (congrArg (modNet n _) (foldl_emit ..))
    rw [heq]
    refine ⟨rfl, ?_, fun m hm => netAt_modNet_ne hm, rfl⟩
    rw [netAt_modNet, if_pos rfl, hseq]
    rfl

/-- The transmit timestamp of a frame: that of the first LAN it leaves on. -/
def txTick (b : Block) (n : Nat) (tx : TxStamps) (z : EthTx) : Nat := if (ethTxLans b n z.ptp).contains 0 then tx.lanA else tx.lanB

/-- The time that a frame's descriptor shows: that of a PTP event message in its domain's clock (R108). -/
def frameTime (b : Block) (n : Nat) (tx : TxStamps) (z : EthTx) : Nat :=
  match z.ptp with
  | some (k, true) => ptpTime b k (txTick b n tx z)
  | _ => txTick b n tx z

/-- A frame leaves: a PTP message on its domain's LAN alone, without a trailer. -/
def frameLeaves (n : Nat) (z : EthTx) (b : Block) : Block :=
  match z.ptp with
  | some _ => (ethTxLans b n z.ptp).foldl (fun b l => emit (.eth n l (z.bytes ++ List.replicate (60 - z.bytes.length) 0)) b) b
  | none => ethSend n z.bytes b

theorem txTick_dequeued (n : Nat) (zs : List EthTx) (b : Block) (tx : TxStamps) (z : EthTx) : txTick (dequeued n zs b) n tx z = txTick b n tx z := by
  rw [txTick, ethTxLans_dequeued, txTick]

theorem frameTime_plain {b : Block} {n : Nat} {tx : TxStamps} {z : EthTx} (h : z.ptp = none) : frameTime b n tx z = txTick b n tx z := by
  simp only [frameTime, h]

theorem frameTime_event {b : Block} {n k : Nat} {tx : TxStamps} {z : EthTx} (h : z.ptp = some (k, true)) :
    frameTime b n tx z = ptpTime b k (txTick b n tx z) := by
  simp only [frameTime, h]

theorem frameLeaves_plain {b : Block} {n : Nat} {z : EthTx} (h : z.ptp = none) : frameLeaves n z b = ethSend n z.bytes b := by
  simp only [frameLeaves, h]

theorem frameLeaves_ptp {b : Block} {n : Nat} {z : EthTx} {k : Nat × Bool} (h : z.ptp = some k) : frameLeaves n z b =
    { b with out := ((ethTxLans b n z.ptp).map fun l => Output.eth n l (z.bytes ++ List.replicate (60 - z.bytes.length) 0)).reverse ++ b.out } := by
  rw [← foldl_emit]
  simp only [frameLeaves, h]

section FrameSent

variable {n : Nat} {z : EthTx} {zs : List EthTx} {b : Block} (tx : TxStamps)

/-- Where nothing queued is dropped the oldest frame leaves, and the rest stays queued. -/
theorem ethFrameSent_kept (hq : (netAt b n).txq = z :: zs) (hkeep : ∀ x ∈ (netAt b n).txq, dropped b n x = false) :
    ethFrameSent n tx b = complete z.ring z.idx { status := mtxSent z.late, tick := frameTime (dequeued n zs b) n tx z }
      (frameLeaves n z (dequeued n zs b)) := by
  have hhead : (netAt (withTxq n (netAt b n).txq b) n).txq = z :: zs := by
    rw [netAt_withTxq]
    exact hq
  unfold ethFrameSent
  rw [ethFlush_keeps hkeep]
  dsimp only
  rw [hhead]
  rfl

/-- The frame of a descriptor that is no PTP message leaves on every LAN that carries frames. -/
theorem ethFrameSent_plain (hq : (netAt b n).txq = z :: zs) (hkeep : ∀ x ∈ (netAt b n).txq, dropped b n x = false) (hptp : z.ptp = none) :
    let c := ethFrameSent n tx b
    netAt c n = { netAt b n with txq := zs, seqNr := nextSeq b n } ∧ (∀ m, m ≠ n → netAt c m = netAt b m) ∧
      (∀ l ∈ lansUp b n, wireFrame b n z.bytes l ∈ c.out) ∧
      (ring c z.ring).fetched = withDone (ring b z.ring).fetched z.idx { status := mtxSent z.late, result := 0, tick := txTick b n tx z } ∧
      c = { b with rng := c.rng, out := c.out, eth := { b.eth with nets := c.eth.nets } } := by
  obtain ⟨hout, hsent, hothers, hrest⟩ := ethSend_sent n z.bytes (dequeued n zs b)
  rw [ethFrameSent_kept tx hq hkeep, frameLeaves_plain hptp, frameTime_plain hptp, txTick_dequeued]
  refine ⟨hsent.trans (by rw [netAt_dequeued, nextSeq_dequeued]), fun m hm => (hothers m hm).trans (netAt_dequeued_ne _ _ _ hm), fun l hl => ?out,
    ?fetched, ?rest⟩
  case out =>
    show wireFrame b n z.bytes l ∈ (ethSend n z.bytes (dequeued n zs b)).out
    rw [hout, wireFrame_dequeued, lansUp_dequeued]
    exact List.mem_append_left _ (List.mem_reverse.mpr (List.mem_map_of_mem hl))
  case fetched =>
    have hring : ring (ethSend n z.bytes (dequeued n zs b)) z.ring = ring b z.ring := (congrArg (ring · z.ring) hrest).trans rfl
    refine (congrArg Ring.fetched (modDesc_ring ..)).trans ?_
    rw [hring]
    rfl
  case rest =>
    generalize ethSend n z.bytes (dequeued n zs b) = y at hrest
    exact congrArg (fun w => { w with
      rng := (complete z.ring z.idx { status := mtxSent z.late, result := 0, tick := txTick b n tx z } y).rng }) hrest

/-- A PTP event message leaves, and its descriptor shows its domain's clock (R108). -/
theorem ethFrameSent_event {k : Nat} (hq : (netAt b n).txq = z :: zs) (hkeep : ∀ x ∈ (netAt b n).txq, dropped b n x = false)
    (hptp : z.ptp = some (k, true)) :
    netAt (ethFrameSent n tx b) n = { netAt b n with txq := zs } ∧ (ring (ethFrameSent n tx b) z.ring).fetched =
      withDone (ring b z.ring).fetched z.idx { status := mtxSent z.late, result := 0, tick := ptpTime b k (txTick b n tx z) } := by
  rw [ethFrameSent_kept tx hq hkeep, frameLeaves_ptp hptp, frameTime_event hptp, txTick_dequeued]
  exact ⟨netAt_dequeued .., congrArg Ring.fetched (modDesc_ring ..)⟩

/-- The only frame queued ends with TX_FAILED where it may not leave. -/
theorem ethFrameSent_dropped (hq : (netAt b n).txq = [z]) (h : dropped b n z = true) :
    ethFrameSent n tx b = completeWith z.ring z.idx stTX_FAILED 0 (withTxq n [] b) := by
  have hempty : (netAt (completeWith z.ring z.idx stTX_FAILED 0 (withTxq n [] b)) n).txq = [] := congrArg Net.txq (netAt_withTxq n [] b)
  unfold ethFrameSent
  rw [ethFlush_drops hq h]
  dsimp only
  rw [hempty]

end FrameSent

/-! Handing a descriptor over. -/

/-- A frame is refused exactly where it may not be sent (R430). -/
theorem frame_refused_iff (b : Block) (n : Nat) (ptp : Option (Nat × Bool)) :
    ((ethTxLans b n ptp).isEmpty ∨ (ptp.isNone ∧ (!isActive b ∨ moduleForce b))) ↔
      ¬ (ethTxLans b n ptp ≠ [] ∧ (ptp = none → isActive b = true ∧ moduleForce b = false)) := by
  simp only [List.isEmpty_iff, Option.isNone_iff_eq_none, Bool.not_eq_true', ← Bool.not_eq_true]
  tauto

/-- A descriptor for a bus whose launch tick has come is not held back. -/
theorem due_goes {k : Nat} {d : Desc} {b : Block} (hdue : d.late = true ∨ mtxLaunch d ≤ b.tb) (hbus : mtxBus d = k) :
    ¬ (mtxBus d ≠ k ∨ (!d.late ∧ b.tb < mtxLaunch d)) := by
  rcases hdue with h | h
  · simp [hbus, h]
  · simp [hbus, h]

section Launch

variable {r : Nat} {d : Desc} {bytes : List Sys2Proof.Byte} {b : Block} (hnext : mtxNext b r = some d) (hdata : mtxPayload d = some bytes)
  (hdue : d.late = true ∨ mtxLaunch d ≤ b.tb)
include hnext hdata hdue

theorem ethLaunch_due (hbus : mtxBus d = 2) :
    ethLaunch r b =
      let n := mtxPort d
      let ptp := ptpDomain b n 2 bytes
      if (ethTxLans b n ptp).isEmpty ∨ (ptp.isNone ∧ (!isActive b ∨ moduleForce b)) then completeWith r d.idx stTX_FAILED 0 b
      else
        let x : EthTx := { ring := r, idx := d.idx, bytes := bytes, late := d.late, ptp := ptp }
        modNet n (fun y => { y with txq := if !d.late && mtxLaunch d != 0 then y.txq.take 1 ++ [x] ++ y.txq.drop 1 else y.txq ++ [x] })
          (modDesc r d.idx (fun d => { d with handed := true }) b) := by
  unfold ethLaunch
  rw [hnext]
  dsimp only
  rw [hdata]
  exact if_neg (due_goes hdue hbus)

theorem serialTransmit_due (hbus : mtxBus d = 3) :
    (∀ st, serRefuses b (mtxPort d) = some st → serialTransmit r b = completeWith r d.idx st 0 b) ∧
    (serRefuses b (mtxPort d) = none → serialTransmit r b =
      if (serAt b (mtxPort d)).tx.isSome ∨ serAhead b r d then b
      else emit (.serial (mtxPort d) bytes) (modSerPort (mtxPort d) (fun x => { x with tx := some (r, d.idx, b.tb, d.late) })
        (modDesc r d.idx (fun d => { d with handed := true }) b))) := by
  unfold serialTransmit
  rw [hnext]
  dsimp only
  rw [hdata]
  dsimp only
  rw [if_neg (due_goes hdue hbus)]
  exact ⟨fun st h => by rw [h], fun h => by rw [h]⟩

end Launch

/-- Settles O53: a launch by `ethLaunch_due` and `serialTransmit_due`, a frame that leaves by `ethFrameSent_plain` and `ethFrameSent_event`, one
that a force stops by `ethFrameSent_dropped`. -/
theorem payloadsSent : Obligations.PayloadsSent := by
  unfold Obligations.PayloadsSent
  intro r n p tx s hr hn hp hon x left handed ends
  refine ⟨fun d bytes hnext hdata hdue => ⟨fun hbus => ?eth, fun hbus => ?serial⟩, fun z hq hptp hforce => ?forced,
    fun z zs hq hen hforce hlans => ?frame, fun m idx start late htx => ?done⟩
  case eth =>
    intro e ptp z old may
    have hact := ethLaunch_due hnext hdata hdue hbus
    have hiff := frame_refused_iff s.blk e ptp
    refine ⟨fun hmay => does_act rfl (by simp [Instr.ok, hr]) hon ?_, fun hmay => does_act rfl (by simp [Instr.ok, hr]) hon ?_⟩
    · rw [hact.trans (if_neg fun h => hiff.mp h hmay)]
      refine ⟨modDesc_ring .., ?_, fun m hm => netAt_modNet_ne hm, rfl⟩
      refine (netAt_modNet ..).trans ((if_pos rfl).trans ?_)
      have htimed : (!d.late && mtxLaunch d != 0) = true ↔ d.late = false ∧ mtxLaunch d ≠ 0 := by simp
      exact congrArg (fun q => { netAt s.blk e with txq := q }) (if_congr htimed rfl rfl)
    · rw [hact.trans (if_pos (hiff.mpr hmay))]
      exact completeWith_only
  case serial =>
    intro e
    obtain ⟨hrefused, hsent⟩ := serialTransmit_due hnext hdata hdue hbus
    refine ⟨fun hst htx hahead => does_act rfl (by simp [Instr.ok, hr]) hon ?_, fun hst hbusy => ?_,
      fun st hst => does_act rfl (by simp [Instr.ok, hr]) hon ?_⟩
    · have hfree : ¬ ((serAt s.blk e).tx.isSome ∨ serAhead s.blk r d) := by simp [htx, hahead]
      rw [(hsent hst).trans (if_neg hfree)]
      exact ⟨modDesc_ring .., (serAt_modSerPort ..).trans (if_pos rfl), rfl, fun m hm => (serAt_modSerPort ..).trans (if_neg hm), rfl⟩
    · have hwait : (serAt s.blk e).tx.isSome ∨ serAhead s.blk r d := hbusy.imp_left Option.isSome_iff_ne_none.mpr
      show exec _ s = _
      rw [exec_eq_of_act rfl (by simp [Instr.ok, hr]) hon, (hsent hst).trans (if_pos hwait)]
    · rw [hrefused st hst]
      exact completeWith_only
  case forced =>
    refine does_act rfl (by simp [Instr.ok, hn]) hon ?_
    rw [ethFrameSent_dropped tx hq (by simp [dropped, hptp, hforce])]
    exact ⟨netAt_withTxq .., fun m hm => netAt_modNet_ne hm, (completeWith_only (b := withTxq n [] s.blk)).2⟩
  case frame =>
    have hkeep : ∀ y ∈ (netAt s.blk n).txq, dropped s.blk n y = false := fun y hy => by
      simpa [dropped, hen, hforce] using hlans y hy
    refine ⟨fun hptp => does_act rfl (by simp [Instr.ok, hn]) hon ?_, fun k hptp => does_act rfl (by simp [Instr.ok, hn]) hon ?_⟩
    · obtain ⟨hnet, hnets, hout, hfetched, hrest⟩ := ethFrameSent_plain tx hq hkeep hptp
      exact ⟨congrArg Net.txq hnet, hnets, hout, congrArg Net.seqNr hnet, hfetched, hrest⟩
    · exact ethFrameSent_event tx hq hkeep hptp
  case done =>
    have hact : serialTxComplete p s.blk = complete m idx { status := mtxSent late, tick := start } (serTxEnds p start s.blk) := by
      unfold serialTxComplete
      rw [htx]
    refine does_act rfl (by simp [Instr.ok, hp]) hon ?_
    rw [hact]
    exact ⟨(serAt_modSerPort ..).trans (if_pos rfl), fun e he => (serAt_modSerPort ..).trans (if_neg he),
      ⟨rfl, modDesc_ring .., fun _ hm => modDesc_other hm⟩, rfl⟩

end Sys2Proof.Laws

namespace Sys2Proof.Laws

open Sys2Proof.Machine Sys2Proof.Safety

/-! O35, O36: front ends and group supply (chapter 4). The operations of a front end change the record of their channel, fire events, and end HART
transactions; `Becomes` follows the record through them. -/

/-! Status bits. -/

theorem bit_two_pow {i j : Nat} (hj : j < 32) : bit (BitVec.ofNat 32 (2 ^ i)) j = decide (i = j) := by
  rw [bit, BitVec.getLsbD_ofNat, Nat.testBit_two_pow, decide_eq_true hj, Bool.true_and]

theorem bit_or (x y : Word) (i : Nat) : bit (x ||| y) i = (bit x i || bit y i) := BitVec.getLsbD_or

theorem bit_and_not {x y : Word} {i : Nat} (hi : i < 32) : bit (x &&& ~~~y) i = (bit x i && !bit y i) := by
  rw [bit, BitVec.getLsbD_and, BitVec.getLsbD_not, decide_eq_true hi, Bool.true_and]
  rfl

theorem bit_putBit {w : Word} {i j : Nat} {v : Bool} (hj : j < 32) : bit (putBit w i v) j = if j = i then v else bit w j := by
  cases v with
  | false =>
    rw [putBit, if_neg (by decide), bit_and_not hj, bit_two_pow hj]
    by_cases e : j = i <;> simp [e, Ne.symm]
  | true =>
    rw [putBit, if_pos rfl, bit_or, bit_two_pow hj]
    by_cases e : j = i <;> simp [e, Ne.symm]

/-- Putting the value that a bit has changes nothing. -/
theorem putBit_bit {w : Word} {i : Nat} {v : Bool} (h : bit w i = v) : putBit w i v = w := by
  refine BitVec.eq_of_getLsbD_eq fun j hj => ?_
  refine (bit_putBit hj).trans ?_
  split
  next e => rw [e, ← h]; rfl
  next => rfl

/-- Status bits set or cleared, as `setStBits` does. -/
def maskBits (bits : Word) (v : Bool) (w : Word) : Word := if v then w ||| bits else w &&& ~~~bits

theorem bit_maskBits {bits w : Word} {v : Bool} {i : Nat} (hi : i < 32) :
    bit (maskBits bits v w) i = if bit bits i then v else bit w i := by
  cases v with
  | false =>
    rw [maskBits, if_neg (by decide), bit_and_not hi]
    cases bit bits i <;> simp
  | true =>
    rw [maskBits, if_pos rfl, bit_or]
    cases bit bits i <;> simp

/-- A channel whose status bits are set or cleared, with the latch of those set. -/
def maskChan (bits : Word) (v : Bool) (c : Chan) : Chan :=
  { c with st := maskBits bits v c.st, latch := if v then c.latch ||| bits else c.latch }

/-! One channel's record. -/

theorem onlyChan_trans {a b c : Block} {n : Nat} (h : OnlyChan a b n) (h' : OnlyChan b c n) : OnlyChan a c n := by
  obtain ⟨hq, hc, hm⟩ := h
  obtain ⟨hq', hc', hm'⟩ := h'
  exact ⟨hq'.trans (by rw [hq]), hc'.trans (by rw [hc]), fun m h => (hm' m h).trans (hm m h)⟩

/-- What leaves the units and the channels as they are changes no channel. -/
theorem onlyChan_of_quiet {a b : Block} (n : Nat) (hq : quiet b = quiet a) : OnlyChan a b n := by
  have hc : b.chn = a.chn := (congrArg Block.chn hq :)
  exact ⟨by rw [hq, hc]; rfl, by rw [hc], fun _ _ => by rw [chanAt, hc, chanAt]⟩

theorem onlyChan_modChan (n : Nat) (f : Chan → Chan) (b : Block) : OnlyChan b (modChan n f b) n :=
  ⟨rfl, rfl, fun _ h => (chanAt_modChan ..).trans (if_neg h)⟩

/-- What a channel's record holds of its front end, its status bits apart: not the latch, the marks of entries into a state and the modem. -/
def coreOf (c : Chan) : Chan := { c with st := 0, latch := 0, firsts := [], restart := false, testAt := 0, hart := {} }

/-- The status bits that an entry into a state may set or clear: WIRE_BREAK, BAND, SUPPLY and RESTART_HELD (Table 4.18). -/
def entryBits : List Nat := [12, 13, 14, 17]

/-- From `a` to `b` channel `n` comes to hold the front end's part of `c`, up to the status bits of `l`, and nothing changes but this channel, what
events leave, and what the end of its HART transactions does. -/
structure Becomes (l : List Nat) (n : Nat) (c : Chan) (a b : Block) : Prop where
  only : OnlyChan a b n
  flt : b.flt = { a.flt with latches := b.flt.latches }
  core : coreOf (chanAt b n) = coreOf c
  bits : ∀ i, i < 32 → i ∉ l → (chanAt b n).stBit i = c.stBit i

namespace Becomes

variable {l : List Nat} {n : Nat} {c d : Chan} {a b x y : Block}

theorem refl (l : List Nat) (n : Nat) (b : Block) : Becomes l n (chanAt b n) b b :=
  ⟨onlyChan_of_quiet n rfl, rfl, rfl, fun _ _ _ => rfl⟩

theorem congr (h : Becomes l n c a b) (hcore : coreOf c = coreOf d) (hbits : ∀ i, i < 32 → i ∉ l → c.stBit i = d.stBit i) :
    Becomes l n d a b :=
  ⟨h.only, h.flt, h.core.trans hcore, fun i hi hl => (h.bits i hi hl).trans (hbits i hi hl)⟩

theorem ite {p : Prop} {_ : Decidable p} (hx : Becomes l n c a x) (hy : Becomes l n c a y) : Becomes l n c a (if p then x else y) := by
  split
  · exact hx
  · exact hy

theorem branch {p : Prop} {_ : Decidable p} (h : Becomes l n c a b) (hx : Becomes l n c a b → Becomes l n c a x)
    (hy : Becomes l n c a b → Becomes l n c a y) : Becomes l n c a (if p then x else y) := ite (hx h) (hy h)

theorem when {p : Prop} {_ : Decidable p} (h : Becomes l n c a b) (hx : Becomes l n c a b → Becomes l n c a x) :
    Becomes l n c a (if p then x else b) := ite (hx h) h

theorem fe (h : Becomes l n c a b) : (chanAt b n).fe = c.fe := (congrArg Chan.fe h.core :)
theorem applied (h : Becomes l n c a b) : (chanAt b n).applied = c.applied := (congrArg Chan.applied h.core :)
theorem cmds (h : Becomes l n c a b) : (chanAt b n).cmds = c.cmds := (congrArg Chan.cmds h.core :)
theorem foldAt (h : Becomes l n c a b) : (chanAt b n).foldAt = c.foldAt := (congrArg Chan.foldAt h.core :)
theorem foldRelease (h : Becomes l n c a b) : (chanAt b n).foldRelease = c.foldRelease := (congrArg Chan.foldRelease h.core :)
theorem devAt (h : Becomes l n c a b) : (chanAt b n).devAt = c.devAt := (congrArg Chan.devAt h.core :)
theorem devRetry (h : Becomes l n c a b) : (chanAt b n).devRetry = c.devRetry := (congrArg Chan.devRetry h.core :)
theorem overAt (h : Becomes l n c a b) : (chanAt b n).overAt = c.overAt := (congrArg Chan.overAt h.core :)

/-- What touches neither the units nor the fault collector's records changes no channel. -/
theorem upd (h : Becomes l n c a b) (hq : quiet x = quiet b) (hf : x.flt = { b.flt with latches := x.flt.latches }) : Becomes l n c a x := by
  have hchn : x.chn = b.chn := (congrArg Block.chn hq :)
  have hat : chanAt x n = chanAt b n := by rw [chanAt, hchn, chanAt]
  exact ⟨onlyChan_trans h.only (onlyChan_of_quiet n hq), hf.trans (by rw [h.flt]), by rw [hat, h.core],
    fun i hi hl => by rw [hat, h.bits i hi hl]⟩

theorem calm (h : Becomes l n c a b) (hx : calm x = calm b) : Becomes l n c a x := h.upd (quiet_of_calm hx) (spared_of_calm hx).flt

/-- A change of the channel's record that does not read what `coreOf` leaves out and keeps the status bits. -/
theorem modChan (h : Becomes l n c a b) {f : Chan → Chan} (hf : ∀ z, coreOf (f z) = coreOf (f (coreOf z))) (hst : ∀ z, (f z).st = z.st) :
    Becomes l n (f c) a (modChan n f b) := by
  have hat : chanAt (Machine.modChan n f b) n = f (chanAt b n) := (chanAt_modChan ..).trans (if_pos rfl)
  refine ⟨onlyChan_trans h.only (onlyChan_modChan n f b), h.flt, ?_, fun i hi hl => ?_⟩
  · rw [hat, hf, h.core, ← hf]
  · rw [hat, Chan.stBit, hst, Chan.stBit, hst]
    exact h.bits i hi hl

theorem modHart (h : Becomes l n c a b) (f : Hart → Hart) : Becomes l n c a (modHart n f b) :=
  (h.modChan (f := fun z => { z with hart := f z.hart }) (fun _ => rfl) fun _ => rfl).congr rfl fun _ _ _ => rfl

/-! What every change of a status bit or of the front end's state does besides. -/

theorem hartEvent (h : Becomes l n c a b) (m cause : Nat) : Becomes l n c a (hartEvent m cause b) := h.calm (calm_fire ..)

theorem hartOut (h : Becomes l n c a b) : Becomes l n c a (hartOut n b) := by
  unfold Machine.hartOut
  exact ite h ((h.modHart _).when (·.hartEvent ..))

theorem hartEnd (h : Becomes l n c a b) (t : HartTrans) (result : Nat) : Becomes l n c a (hartEnd t result b) := by
  unfold Machine.hartEnd
  exact h.when fun h => h.upd rfl rfl

theorem hartEnds (h : Becomes l n c a b) (ts : List HartTrans) (result : Nat) :
    Becomes l n c a (ts.foldl (fun b t => Machine.hartEnd t result b) b) := by
  induction ts generalizing b with
  | nil => exact h
  | cons t ts ih => exact ih (h.hartEnd t result)

theorem hartOff (h : Becomes l n c a b) : Becomes l n c a (hartOff n b) := by
  unfold Machine.hartOff
  exact ((h.modHart _).when (·.hartEvent ..)).hartEnds ..

theorem hartSearch (h : Becomes l n c a b) : Becomes l n c a (hartSearch n b) := by
  unfold Machine.hartSearch
  exact ite h (h.modHart _)

/-! Status bits and the front end's state. -/

theorem setStBits (h : Becomes l n c a b) (bits : Word) (v : Bool) :
    Becomes l n { c with st := maskBits bits v c.st } a (setStBits n bits v b) := by
  have hat : chanAt (Machine.modChan n (maskChan bits v) b) n = maskChan bits v (chanAt b n) := (chanAt_modChan ..).trans (if_pos rfl)
  have hmod : Becomes l n { c with st := maskBits bits v c.st } a (Machine.modChan n (maskChan bits v) b) := by
    refine ⟨onlyChan_trans h.only (onlyChan_modChan ..), h.flt, ?_, fun i hi hl => ?_⟩
    · rw [hat]
      exact h.core
    · rw [hat]
      have hbit : bit (chanAt b n).st i = bit c.st i := h.bits i hi hl
      show bit (maskBits bits v (chanAt b n).st) i = bit (maskBits bits v c.st) i
      rw [bit_maskBits hi, bit_maskBits hi, hbit]
  exact ((hmod.when fun h => h.calm (calm_markSet ..)).calm (calm_fireIf ..)).hartOut

theorem setSt (h : Becomes l n c a b) {i : Nat} (hi : i < 32) (hl : i ∉ l) (v : Bool) :
    Becomes l n { c with st := putBit c.st i v } a (setSt n i v b) := by
  unfold Machine.setSt
  split
  next hv =>
    have hbit : bit c.st i = v := (h.bits i hi hl).symm.trans (by simpa using hv)
    rwa [putBit_bit hbit]
  next => exact h.setStBits _ v

/-- A change of status bits of `l` alone. -/
theorem setStBits_free (h : Becomes l n c a b) {bits : Word} (hfree : ∀ i, i < 32 → i ∉ l → bit bits i = false) (v : Bool) :
    Becomes l n c a (Machine.setStBits n bits v b) :=
  (h.setStBits bits v).congr rfl fun i hi hl => (bit_maskBits hi).trans (by rw [hfree i hi hl]; rfl)

theorem setSt_free (h : Becomes l n c a b) {i : Nat} (hl : i ∈ l) (v : Bool) : Becomes l n c a (Machine.setSt n i v b) := by
  unfold Machine.setSt
  refine ite h (h.setStBits_free (fun j hj hjl => ?_) v)
  rw [bit_two_pow hj, decide_eq_false]
  rintro rfl
  exact hjl hl

theorem setFe (h : Becomes entryBits n c a b) (v : Nat) : Becomes entryBits n { c with fe := v } a (setFe n v b) := by
  have hfe : (chanAt b n).fe = c.fe := h.fe
  by_cases hv : (chanAt b n).fe = v
  · have hsame : Machine.setFe n v b = b := if_pos hv
    rw [hsame, ← hv, hfe]
    exact h
  · refine (congrArg (Becomes entryBits n _ a) (if_neg hv)).mpr ?_
    have h14 : 14 ∈ entryBits := by decide
    have hwb : ∀ i, i < 32 → i ∉ entryBits → bit 0x00003000#32 i = false := by decide
    have hmod := (h.modChan (f := fun c => { c with
        fe := v
        firsts := if v = 2 ∨ v = 3 then c.firsts ++ [b.tb] else c.firsts
        restart := c.restart || v == 0 || v == 5
        testAt := if v = 1 ∨ v = 6 then b.tb else c.testAt }) (fun _ => rfl) fun _ => rfl).congr (d := { c with fe := v }) rfl fun _ _ _ => rfl
    exact (((((hmod.when (·.hartOff)).when (·.hartSearch)).branch (·.setSt_free h14 true) (·.when (·.setSt_free h14 false))).when
      (·.setSt_free (by decide) false)).when (·.setStBits_free hwb false)).hartOut

/-- A cause of HOLD that has just arisen: an overload, the thermal limit or a deviation (Table 4.10). -/
theorem feCause (h : Becomes entryBits n c a b) (hfe : c.fe = 3 ∨ c.fe = 4)
    (hcause : c.stBit 8 = true ∨ c.stBit 9 = true ∨ c.stBit 19 = true) :
    Becomes entryBits n { c with fe := 4 } a (feCause n b) := by
  have hhold : holdCause (chanAt b n) = true := by
    rw [holdCause, h.bits 8 (by decide) (by decide), h.bits 9 (by decide) (by decide), h.bits 19 (by decide) (by decide)]
    rcases hcause with hc | hc | hc <;> simp [hc]
  rcases hfe with h3 | h4
  · exact (congrArg (Becomes entryBits n _ a) (if_pos ⟨h.fe.trans h3, hhold⟩)).mpr (h.setFe 4)
  · have hkept : Machine.feCause n b = b := if_neg fun hc => absurd (h4.symm.trans (h.fe.symm.trans hc.1)) (by decide)
    rw [hkept, ← h4]
    exact h

theorem cutOutput (h : Becomes l n c a b) : Becomes l n { c with applied := 0, cmds := [] } a (cutOutput n b) :=
  (h.modChan (f := fun c => { c with applied := 0, cmds := [] }) (fun _ => rfl) fun _ => rfl :)

theorem stBit_put (h : Becomes l n c a b) {i : Nat} {w : Word} {v : Bool} (hc : c.st = putBit w i v) (hi : i < 32) (hl : i ∉ l) :
    (chanAt b n).stBit i = v := by
  rw [h.bits i hi hl, Chan.stBit, hc, bit_putBit hi, if_pos rfl]

theorem stBit_put_ne (h : Becomes l n c a b) {i j : Nat} {w : Word} {v : Bool} (hc : c.st = putBit w i v) (hj : j < 32) (hl : j ∉ l)
    (hne : j ≠ i) : (chanAt b n).stBit j = bit w j := by
  rw [h.bits j hj hl, Chan.stBit, hc, bit_putBit hj, if_neg hne]

theorem stBit_mask (h : Becomes l n c a b) {i : Nat} {w bits : Word} {v : Bool} (hc : c.st = maskBits bits v w) (hi : i < 32) (hl : i ∉ l)
    (hbit : bit bits i = true) : (chanAt b n).stBit i = v := by
  rw [h.bits i hi hl, Chan.stBit, hc, bit_maskBits hi, if_pos hbit]

end Becomes

/-- A command whose meaning changes one channel does what its change of the record implies. -/
theorem does_becomes {i : Instr} {f : Block → Block} {s : State} {l : List Nat} {n : Nat} {c : Chan} {Q : Block → Prop}
    (he : exec i s = act i f s) (hok : i.ok = true) (hon : On s) (h : Becomes l n c s.blk (f s.blk)) (hq : ∀ b, Becomes l n c s.blk b → Q b) : Does i s Q :=
  does_act he hok hon (hq _ h)

/-! The protective functions, each where its condition holds. -/

section Protective

variable {n : Nat} {b : Block}

theorem becomes_of_eq {l : List Nat} {c : Chan} {x y : Block} (e : x = y) (h : Becomes l n c b y) : Becomes l n c b x := by rwa [e]

theorem foldback_becomes (hm : isAI (chnMode b n) = true) (hfe : (chanAt b n).fe = 3) (hlim : (chanAt b n).limited = true) :
    Becomes [] n { chanAt b n with st := putBit (chanAt b n).st 7 true, foldAt := b.tb, foldRelease := none } b (foldback n b) :=
  becomes_of_eq (if_pos (by simp [hm, hfe, hlim]))
    (((Becomes.refl [] n b).modChan (f := fun c => { c with foldAt := b.tb, foldRelease := none }) (fun _ => rfl) fun _ => rfl).setSt
      (by decide) (by decide) true)

theorem foldbackRetry_eq (h7 : (chanAt b n).stBit 7 = true) (hrel : (chanAt b n).foldRelease = none)
    (hdue : (chanAt b n).foldAt + 100000000 ≤ b.tb) : foldbackRetry n b = modChan n (fun c => { c with foldRelease := some b.tb }) b :=
  if_pos (by simp [h7, hrel, hdue])

theorem compliance_short (hm : chnMode b n = 3) (hfe : (chanAt b n).fe = 3)
    (hshort : fLt mA02 ((num (appliedOf b n)).sub (num (chanAt b n).meas)).v = true) :
    Becomes [] n { chanAt b n with st := putBit (chanAt b n).st 10 true } b (compliance n b) := by
  refine becomes_of_eq ?_ ((Becomes.refl [] n b).setSt (by decide) (by decide) true)
  simp [compliance, hm, hfe, hshort]

theorem compliance_back (hm : chnMode b n = 3) (hfe : (chanAt b n).fe = 4) (hback : offBy (chanAt b n).meas (appliedOf b n) mA01 = false) :
    Becomes [] n { chanAt b n with st := maskBits 0x00000C00 false (chanAt b n).st } b (compliance n b) := by
  refine becomes_of_eq ?_ ((Becomes.refl [] n b).setStBits 0x00000C00 false)
  simp [compliance, hm, hfe, hback]

theorem openLoad_ao (hm : chnMode b n = 3) (hfe : (chanAt b n).fe = 3) (hdet : chnOpenDet b n = true) (hcmd : fLe mA1 (appliedOf b n) = true)
    (hopen : fLt (chanAt b n).meas mA01 = true) :
    Becomes [] n { chanAt b n with st := maskBits 0x00000C00 true (chanAt b n).st } b (openLoad n b) := by
  refine becomes_of_eq ?_ ((Becomes.refl [] n b).setStBits 0x00000C00 true)
  simp [openLoad, hm, hfe, hdet, hcmd, hopen]

theorem openLoad_do (hm : chnMode b n = 5) (hfe : (chanAt b n).fe = 3) (hdet : chnOpenDet b n = true) (hcmd : appliedOf b n = 1) :
    Becomes [] n { chanAt b n with st := putBit (chanAt b n).st 11 (fLt (chanAt b n).load amp5m) } b (openLoad n b) := by
  refine becomes_of_eq ?_ ((Becomes.refl [] n b).setSt (by decide) (by decide) _)
  simp [openLoad, hm, hfe, hdet, hcmd]

/-- An overload puts the switch into HOLD with its output OFF. -/
theorem overload_becomes (hm : chnMode b n = 5 ∨ chnMode b n = 8) (hfe : (chanAt b n).fe = 3) (hlim : (chanAt b n).limited = true) :
    Becomes entryBits n { chanAt b n with
      st := putBit (chanAt b n).st 8 true, overAt := b.tb, overOff := false, fe := 4, applied := 0, cmds := [] } b (overload n b) := by
  have hset := ((Becomes.refl entryBits n b).modChan (f := fun c => { c with overAt := b.tb, overOff := false }) (fun _ => rfl)
    fun _ => rfl).setSt (i := 8) (by decide) (by decide) true
  exact becomes_of_eq (if_pos ⟨hm, hfe, hlim⟩) (hset.feCause (.inl hfe) (.inl (bit_putBit (by decide)))).cutOutput

theorem overloadRetry_becomes (h8 : (chanAt b n).stBit 8 = true) (hretry : chnRetry b n = true) (h9 : (chanAt b n).stBit 9 = false)
    (hdue : (chanAt b n).overAt + 100000000 ≤ b.tb) (hon : outOn b n = true) :
    Becomes [] n { chanAt b n with st := putBit (chanAt b n).st 8 false } b (overloadRetry n b) :=
  becomes_of_eq (if_pos ⟨h8, hretry, by rw [h9]; rfl, hdue, hon⟩) ((Becomes.refl [] n b).setSt (by decide) (by decide) false)

/-- What `thermal` does once the output is taken away: of a switch it acts as an overload. -/
def thermalHold (n : Nat) (b : Block) : Block :=
  feCause n (if chnMode b n = 3 then b else setSt n 8 true (modChan n (fun c => { c with overAt := b.tb, overOff := false }) b))

theorem thermal_eq (hm : isOut (chnMode b n) = true) (hfe : (chanAt b n).fe = 3 ∨ (chanAt b n).fe = 4) :
    thermal n true b = thermalHold n (cutOutput n (setSt n 9 true b)) := by
  unfold thermal
  rw [if_neg (by decide), if_pos ⟨hm, hfe⟩, thermalHold]

theorem thermalHold_becomes {a : Block} {c : Chan} (h : Becomes entryBits n c a b) (hfe : c.fe = 3 ∨ c.fe = 4) (h9 : c.stBit 9 = true) :
    ∃ d, d.fe = 4 ∧ d.stBit 9 = true ∧ Becomes entryBits n d a (thermalHold n b) := by
  unfold thermalHold
  split
  · exact ⟨{ c with fe := 4 }, rfl, h9, h.feCause hfe (.inr (.inl h9))⟩
  · have hover := (h.modChan (f := fun c => { c with overAt := b.tb, overOff := false }) (fun _ => rfl) fun _ => rfl).setSt (i := 8)
      (by decide) (by decide) true
    have h9' : bit (putBit c.st 8 true) 9 = true := (bit_putBit (by decide)).trans h9
    exact ⟨{ c with st := putBit c.st 8 true, overAt := b.tb, overOff := false, fe := 4 }, rfl, h9', hover.feCause hfe (.inr (.inl h9'))⟩

/-- An output stage that has crossed its limit stands in HOLD with THERMAL; so does that of an AO (log 77, DEDUCED). -/
theorem thermal_hot (hm : isOut (chnMode b n) = true) (hfe : (chanAt b n).fe = 3 ∨ (chanAt b n).fe = 4) :
    ∃ c, c.fe = 4 ∧ c.stBit 9 = true ∧ Becomes entryBits n c b (thermal n true b) := by
  rw [thermal_eq hm hfe]
  exact thermalHold_becomes ((Becomes.refl entryBits n b).setSt (i := 9) (by decide) (by decide) true).cutOutput hfe (bit_putBit (by decide))

theorem thermal_cool : Becomes [] n { chanAt b n with st := putBit (chanAt b n).st 9 false } b (thermal n false b) :=
  (Becomes.refl [] n b).setSt (by decide) (by decide) false

theorem wireBreak_pi (hm : chnMode b n = 6) (hwb : chnWb b n = true) (hfe : (chanAt b n).fe = 2 ∨ (chanAt b n).fe = 3 ∨ (chanAt b n).fe = 4)
    (hcls : (chanAt b n).cls = false) (hopen : fLt (chanAt b n).meas mA02 = true) :
    Becomes [] n { chanAt b n with st := putBit (chanAt b n).st 12 true } b (wireBreak n b) := by
  refine becomes_of_eq ?_ ((Becomes.refl [] n b).setSt (by decide) (by decide) true)
  rcases hfe with hfe | hfe | hfe <;> simp [wireBreak, wbModes, hm, hwb, hfe, hcls, hopen]

/-- The retry of a deviation leaves HOLD where no other cause stands. -/
theorem deviationRetry_becomes (hfe : (chanAt b n).fe = 4) (h19 : (chanAt b n).stBit 19 = true) (h8 : (chanAt b n).stBit 8 = false)
    (h9 : (chanAt b n).stBit 9 = false) (h17 : (chanAt b n).stBit 17 = false) (hdue : (chanAt b n).devAt + 10000000 ≤ b.tb) :
    Becomes entryBits n { chanAt b n with st := putBit (chanAt b n).st 19 false, devRetry := some b.tb, fe := 3 } b (deviationRetry n b) := by
  have hset (l : List Nat) (hl : 19 ∉ l) : Becomes l n { chanAt b n with st := putBit (chanAt b n).st 19 false, devRetry := some b.tb } b
      (setSt n 19 false (modChan n (fun c => { c with devRetry := some b.tb }) b)) :=
    ((Becomes.refl l n b).modChan (f := fun c => { c with devRetry := some b.tb }) (fun _ => rfl) fun _ => rfl).setSt (by decide) hl false
  have hclear := hset [] (by decide)
  have hother (j : Nat) (hj : j < 32) (hne : j ≠ 19) := hclear.stBit_put_ne (i := 19) (v := false) rfl hj (by simp) hne
  have h19' := hclear.stBit_put (i := 19) (v := false) rfl (by decide) (by decide)
  refine becomes_of_eq ((if_pos ⟨hfe, h19, hdue⟩).trans (if_neg ?_)) ((hset entryBits (by decide)).setFe 3)
  rw [holdCause, hother 8 (by decide) (by decide), hother 9 (by decide) (by decide), hother 17 (by decide) (by decide), h19']
  simp only [Chan.stBit] at h8 h9 h17
  simp [h8, h9, h17]

end Protective

/-! Faults of a front end (R147, R461, Table 15.2). -/

theorem chnLoc_toNat {n k : Nat} (hn : n < 192) (hk : k < 64) :
    (chnLoc n k).toNat = 2 ^ 29 + 2 ^ 25 + n / 24 * 2 ^ 19 + n % 24 * 2 ^ 14 + k * 2 ^ 8 + 255 := by
  simp only [chnLoc, locOf, regOf, List.foldl, BitVec.toNat_ofNat]
  omega

section Location

variable {n k : Nat} (hn : n < 192) (hk : k < 64)
include hn hk

theorem locDomain_chnLoc : locDomain (chnLoc n k) = 1 := by
  rw [locDomain, fld, chnLoc_toNat hn hk]
  omega

/-- A front end's location names its channel. -/
theorem unitAt_chnLoc : unitAt (chnLoc n k) = .fence (.channel n) := by
  have hengine : locEngine (chnLoc n k) = 1 := by
    rw [locEngine, fld, chnLoc_toNat hn hk]
    omega
  have htile : locTile (chnLoc n k) = n / 24 := by
    rw [locTile, fld, chnLoc_toNat hn hk]
    omega
  have hlane : locLane (chnLoc n k) = n % 24 := by
    rw [locLane, fld, chnLoc_toNat hn hk]
    omega
  have hin : n / 24 < 8 ∧ n % 24 < 24 := by omega
  simp only [unitAt, locDomain_chnLoc hn hk, hengine, htile, hlane, if_pos hin]
  rw [Nat.div_add_mod]

end Location

/-- The record that `openRecord` opens. -/
def openedRec (source act : Nat) (l : Word) (persistent forced : Bool) (r : Nat) (b : Block) : FaultRec :=
  { source := source, cls := srcClass source, reaction := r, persistent := persistent, forced := forced,
    isOpen := true, loc := l, first := b.tb, last := b.tb, seq := (b.flt.seq + 1) % 0x10000, lastLoc := firstLastLoc source act, used := true,
    members := [⟨source, l, persistent, act⟩] }

section Record

variable {source act r n : Nat} {l : Word} {persistent forced : Bool} {a b : Block}

/-- A record opens in the next free slot, and the collector's fences stand. -/
theorem openRecord_opens (source act : Nat) (l : Word) (persistent forced : Bool) (r : Nat) (b : Block) :
    let c := openRecord source act l persistent forced r b
    tget {} c.flt.recs (nextSlot b.flt) = openedRec source act l persistent forced r b ∧ c.flt.fenced = b.flt.fenced ∧ quiet c = quiet b := by
  intro c
  have hcalm := spared_of_calm (calm_fire 224
    (regOf [(0, 6, source), (6, 2, r), (8, 4, nextSlot b.flt), (12, 3, locDomain l), (15, 1, b1 forced)]) (modFlt (fun f => { f with
      recs := tset {} f.recs (nextSlot b.flt) (openedRec source act l persistent forced r b), newest := nextSlot b.flt,
      seq := (b.flt.seq + 1) % 0x10000 }) b))
  refine ⟨?_, (congrArg Flt.fenced hcalm.flt :), hcalm.units⟩
  rw [show c.flt.recs = _ from (congrArg Flt.recs hcalm.flt :)]
  exact tget_tset_self

theorem applyRecord_one {s : Nat} {m : FaultMember} (h : (tget {} b.flt.recs s).members = [m]) :
    applyRecord s b = applyReaction (tget {} b.flt.recs s).reaction m.source m.act m.loc b := by
  rw [applyRecord, h]
  rfl

theorem imageClose_other {s : Nat} (h : (tget {} b.flt.recs s).reaction ≠ 2) : imageClose s b = b := by
  unfold imageClose
  simp only [beq_eq_false_iff_ne.mpr h, Bool.and_false, Bool.false_and]
  rfl

theorem perf_flt (ev arg wild : Nat) (b : Block) : (perf ev arg wild b).flt = b.flt := by
  unfold perf
  split
  · rfl
  · rfl

/-- A fault that finds no open record in its domain opens one, and its reaction applies (R461). -/
theorem report_opens (hopen : openSlot b.flt (locDomain l) = none)
    (hr : effReaction b (srcReaction source persistent act l) (unitFor source act l) = r) :
    report source l persistent forced act b = imageClose (nextSlot b.flt) (applyReaction r source act l
      (openRecord source act l persistent forced r (if srcReaction source persistent act l = 0 then perf 6 0 0 b else b))) := by
  have hflt : (if srcReaction source persistent act l = 0 then perf 6 0 0 b else b).flt = b.flt := by
    split
    · exact perf_flt ..
    · rfl
  obtain ⟨hrec, -, -⟩ := openRecord_opens source act l persistent forced r (if srcReaction source persistent act l = 0 then perf 6 0 0 b else b)
  rw [hflt] at hrec
  unfold report
  simp only [hr, hflt, hopen]
  rw [applyRecord_one (by rw [hrec]; rfl), hrec]
  rfl

/-- A record that has opened shows its fault. -/
theorem recorded_openRecord (hflt : b.flt = { a.flt with latches := b.flt.latches }) (htb : b.tb = a.tb) :
    Recorded a (openRecord source act l persistent forced r b) source l := by
  have hslot : nextSlot a.flt = nextSlot b.flt := by rw [hflt]; rfl
  obtain ⟨hrec, -, -⟩ := openRecord_opens source act l persistent forced r b
  unfold Recorded
  rw [hslot, hrec]
  refine ⟨rfl, rfl, rfl, htb, ?_⟩
  rw [openedRec, hflt]

theorem recorded_congr {c : Block} (h : Recorded a b source l) (hrecs : c.flt.recs = b.flt.recs) : Recorded a c source l := by
  unfold Recorded
  rw [hrecs]
  exact h

end Record

section ChannelFault

variable {n : Nat} {b : Block} (hn : n < 192)

/-- A channel that is not fenced becomes fenced (R147). -/
theorem applyFence_channel {l : Word} (hf : isFenced b (.channel n) = false) :
    OnlyChan b (applyFence (.channel n) l b) n ∧ (chanAt (applyFence (.channel n) l b) n).fe = 5 ∧
    (applyFence (.channel n) l b).flt.recs = b.flt.recs ∧ (applyFence (.channel n) l b).flt.fenced = b.flt.fenced ++ [.channel n] := by
  have h := (((Becomes.refl entryBits n (modFlt (fun f => { f with
    fenced := f.fenced ++ [.channel n], fences := sat8 f.fences 1, notes := { unit := .channel n, at' := b.tb, lane := none } :: f.notes }) b)).calm
      (calm_fire 225 l _)).setFe 5).calm (calm_fire (17 + 4 * grpOf n) (regOf [(0, 8, n), (8, 1, b1 true)]) _)
  have heq : applyFence (.channel n) l b = _ := if_neg (by rw [hf]; decide)
  rw [heq]
  exact ⟨onlyChan_trans (onlyChan_of_quiet n rfl) h.only, h.fe, (congrArg Flt.recs h.flt :), (congrArg Flt.fenced h.flt :)⟩

include hn

/-- A front-end fault that is not persistent is recorded, and nothing is fenced (Table 15.2). -/
theorem fault_corrected {k : Nat} (hk : k < 64) (hopen : openSlot b.flt 1 = none) :
    fault 0x0C (chnLoc n k) false false .plain b = openRecord 0x0C 0 (chnLoc n k) false false 0 (perf 6 0 0 b) := by
  have hreport := report_opens (source := 0x0C) (act := 0) (l := chnLoc n k) (persistent := false) (forced := false) (r := 0) (b := b)
    (by rw [locDomain_chnLoc hn hk, hopen]) rfl
  obtain ⟨hrec, -, -⟩ := openRecord_opens 0x0C 0 (chnLoc n k) false false 0 (perf 6 0 0 b)
  rw [perf_flt] at hrec
  refine hreport.trans (imageClose_other (b := openRecord 0x0C 0 (chnLoc n k) false false 0 (perf 6 0 0 b)) ?_)
  rw [hrec]
  exact show (0 : Nat) ≠ 2 by decide

/-- The loss of a coupler is recorded and fences its channel (R147, Table 15.2). -/
theorem fault_fenced (hopen : openSlot b.flt 1 = none) (hf : isFenced b (.channel n) = false) :
    fault 0x0D (chnLoc n 3) true false .plain b =
      applyFence (.channel n) (chnLoc n 3) (openRecord 0x0D 0 (chnLoc n 3) true false 1 b) := by
  have hunit : unitFor 0x0D 0 (chnLoc n 3) = .fence (.channel n) := unitAt_chnLoc hn (by decide)
  have hreport := report_opens (source := 0x0D) (act := 0) (l := chnLoc n 3) (persistent := true) (forced := false) (r := 1) (b := b)
    (by rw [locDomain_chnLoc hn (by decide), hopen]) (by rw [hunit]; rfl)
  have hreact (c : Block) : applyReaction 1 0x0D 0 (chnLoc n 3) c = applyFence (.channel n) (chnLoc n 3) c := by
    unfold applyReaction
    rw [hunit]
    rfl
  obtain ⟨hrec, hfenced, -⟩ := openRecord_opens 0x0D 0 (chnLoc n 3) true false 1 b
  rw [hreact] at hreport
  obtain ⟨-, -, hrecs, -⟩ := applyFence_channel (n := n) (l := chnLoc n 3) (b := openRecord 0x0D 0 (chnLoc n 3) true false 1 b)
    (by rw [isFenced, hfenced]; exact hf)
  refine hreport.trans (imageClose_other (b := applyFence (.channel n) (chnLoc n 3) (openRecord 0x0D 0 (chnLoc n 3) true false 1 b)) ?_)
  rw [hrecs, hrec]
  exact show (1 : Nat) ≠ 2 by decide

end ChannelFault

section Reports

variable {n : Nat} {b : Block}

/-- A channel in SERVE once a deviation has put it into HOLD, its fault not reported yet. -/
def deviationHeld (n : Nat) (b : Block) : Block :=
  feCause n (setSt n 19 true (modChan n (fun c => { c with devAt := b.tb, devRetry := none }) b))

theorem deviationHeld_becomes (hfe : (chanAt b n).fe = 3) :
    Becomes entryBits n { chanAt b n with st := putBit (chanAt b n).st 19 true, devAt := b.tb, devRetry := none, fe := 4 } b (deviationHeld n b) :=
  (((Becomes.refl entryBits n b).modChan (f := fun c => { c with devAt := b.tb, devRetry := none }) (fun _ => rfl) fun _ => rfl).setSt
    (i := 19) (by decide) (by decide) true).feCause (.inl hfe) (.inr (.inr (bit_putBit (by decide))))

variable (hn : n < 192)
include hn

/-- A deviation of an AO outside a shortfall puts it into HOLD and is recorded (R129). -/
theorem deviation_holds (hm : chnMode b n = 3) (hfe : (chanAt b n).fe = 3) (h10 : (chanAt b n).stBit 10 = false)
    (hoff : offBy (chanAt b n).meas (appliedOf b n) mA05 = true) (hretry : (chanAt b n).devRetry = none)
    (harmed : forceArmed b.flt 0x0C (chnLoc n 1) 0 = false) (hopen : openSlot b.flt 1 = none) :
    OnlyChan b (deviation n b) n ∧ Recorded b (deviation n b) 0x0C (chnLoc n 1) ∧ (chanAt (deviation n b) n).stBit 19 = true ∧
      (chanAt (deviation n b) n).fe = 4 ∧ (chanAt (deviation n b) n).devAt = b.tb := by
  have hx := deviationHeld_becomes hfe
  have hopenx : openSlot (deviationHeld n b).flt 1 = none := by rw [hx.flt]; exact hopen
  have hact : deviation n b = openRecord 0x0C 0 (chnLoc n 1) false false 0 (perf 6 0 0 (deviationHeld n b)) := by
    rw [← fault_corrected hn (by decide) hopenx]
    simp [deviation, inShortfall, hm, hfe, h10, hoff, hretry, harmed, deviationHeld]
  obtain ⟨-, -, hquiet⟩ := openRecord_opens 0x0C 0 (chnLoc n 1) false false 0 (perf 6 0 0 (deviationHeld n b))
  have hquiet' : quiet (deviation n b) = quiet (deviationHeld n b) := by rw [hact, hquiet, quiet_of_calm (calm_perf ..)]
  have hchn : (deviation n b).chn = (deviationHeld n b).chn := (congrArg Block.chn hquiet' :)
  have hat : chanAt (deviation n b) n = chanAt (deviationHeld n b) n := by rw [chanAt, hchn, chanAt]
  refine ⟨onlyChan_trans hx.only (onlyChan_of_quiet n hquiet'), ?_, ?_, ?_, ?_⟩
  · rw [hact]
    refine recorded_openRecord (by rw [perf_flt]; exact hx.flt) ?_
    rw [tb_of_calm (calm_perf ..)]
    exact (congrArg Block.tb hx.only.1 :)
  · rw [hat]
    exact hx.stBit_put rfl (by decide) (by decide)
  · rw [hat, hx.fe]
  · rw [hat, hx.devAt]

theorem couplerLoss_fences (hfe : (chanAt b n).fe ≠ 5) (hf : isFenced b (.channel n) = false) (hopen : openSlot b.flt 1 = none) :
    OnlyChan b (couplerLoss n b) n ∧ Recorded b (couplerLoss n b) 0x0D (chnLoc n 3) ∧ (chanAt (couplerLoss n b) n).fe = 5 ∧
      (couplerLoss n b).flt.fenced = b.flt.fenced ++ [.channel n] := by
  have hact : couplerLoss n b = applyFence (.channel n) (chnLoc n 3) (openRecord 0x0D 0 (chnLoc n 3) true false 1 b) :=
    (if_neg (by simp [hfe, hn])).trans (fault_fenced hn hopen hf)
  obtain ⟨-, hfenced, hquiet⟩ := openRecord_opens 0x0D 0 (chnLoc n 3) true false 1 b
  obtain ⟨honly, hfe5, hrecs, hfence⟩ := applyFence_channel (n := n) (l := chnLoc n 3) (b := openRecord 0x0D 0 (chnLoc n 3) true false 1 b)
    (by rw [isFenced, hfenced]; exact hf)
  rw [hact]
  exact ⟨onlyChan_trans (onlyChan_of_quiet n hquiet) honly, recorded_congr (recorded_openRecord rfl rfl) hrecs, hfe5, by rw [hfence, hfenced]⟩

end Reports

/-- Settles O35: each operation by what it makes of the channel's record (`foldback_becomes` to `deviationRetry_becomes`), the two faults by
`deviation_holds` and `couplerLoss_fences`. -/
theorem frontEndProtects : Obligations.FrontEndProtects := by
  unfold Obligations.FrontEndProtects
  intro n s hn hon c m alone
  have hok : decide (n < 192) = true := decide_eq_true hn
  refine ⟨fun hm hfe hlim => ?foldback, fun h7 hrel hdue => ?foldbackRetry, fun hm hfe hshort => ?short, fun hm hfe hback => ?back,
    fun hm hfe hdet hcmd hopen => ?openAo, fun hm hfe hdet hcmd => ?openDo, fun hm hfe hlim => ?overload,
    fun h8 hretry h9 hdue hout => ?overloadRetry, fun hm hfe => ?hot, fun _ => ?cool, fun hm hwb hfe hcls hopen => ?wire,
    fun hfe h19 h8 h9 h17 hdue => ?deviationRetry, fun hm hfe h10 _ hoff hretry harmed hopen => ?deviation, fun hfe hf hopen => ?loss⟩
  case foldback =>
    exact does_becomes rfl hok hon (foldback_becomes hm hfe hlim) fun b h =>
      ⟨h.only, h.stBit_put rfl (by decide) (by decide), h.foldAt, h.foldRelease⟩
  case foldbackRetry =>
    refine does_act rfl hok hon ?_
    rw [foldbackRetry_eq h7 hrel hdue]
    exact ⟨onlyChan_modChan .., (chanAt_modChan ..).trans (if_pos rfl)⟩
  case short =>
    exact does_becomes rfl hok hon (compliance_short hm hfe hshort) fun b h => ⟨h.only, h.stBit_put rfl (by decide) (by decide), h.fe.trans hfe⟩
  case back =>
    exact does_becomes rfl hok hon (compliance_back hm hfe hback) fun b h =>
      ⟨h.only, h.stBit_mask rfl (by decide) (by decide) (by decide), h.fe.trans hfe⟩
  case openAo =>
    exact does_becomes rfl hok hon (openLoad_ao hm hfe hdet hcmd hopen) fun b h =>
      ⟨h.only, h.stBit_mask rfl (by decide) (by decide) (by decide), h.stBit_mask rfl (by decide) (by decide) (by decide), h.fe.trans hfe⟩
  case openDo =>
    exact does_becomes rfl hok hon (openLoad_do hm hfe hdet hcmd) fun b h => ⟨h.only, h.stBit_put rfl (by decide) (by decide), h.fe.trans hfe⟩
  case overload =>
    exact does_becomes rfl hok hon (overload_becomes hm hfe hlim) fun b h =>
      ⟨h.only, h.stBit_put rfl (by decide) (by decide), h.fe, h.overAt, h.applied, h.cmds⟩
  case overloadRetry =>
    exact does_becomes rfl hok hon (overloadRetry_becomes h8 hretry h9 hdue hout) fun b h =>
      ⟨h.only, h.stBit_put rfl (by decide) (by decide), h.fe⟩
  case hot =>
    obtain ⟨d, hd, h9, hthermal⟩ := thermal_hot hm hfe
    exact does_becomes rfl hok hon hthermal fun b h => ⟨h.only, (h.bits 9 (by decide) (by decide)).trans h9, h.fe.trans hd⟩
  case cool =>
    exact does_becomes rfl hok hon thermal_cool fun b h => ⟨h.only, h.stBit_put rfl (by decide) (by decide), h.fe⟩
  case wire =>
    exact does_becomes rfl hok hon (wireBreak_pi hm hwb hfe hcls hopen) fun b h => ⟨h.only, h.stBit_put rfl (by decide) (by decide), h.fe⟩
  case deviationRetry =>
    exact does_becomes rfl hok hon (deviationRetry_becomes hfe h19 h8 h9 h17 hdue) fun b h =>
      ⟨h.only, h.stBit_put rfl (by decide) (by decide), h.devRetry, h.fe⟩
  case deviation => exact does_act rfl hok hon (deviation_holds hn hm hfe h10 hoff hretry harmed hopen)
  case loss => exact does_act rfl hok hon (couplerLoss_fences hn hfe hf hopen)

end Sys2Proof.Laws

namespace Sys2Proof.Laws

open Sys2Proof.Machine Sys2Proof.Safety

/-! O36: group supply (R145, R149). An operation on every channel of a group is a fold of operations on one channel each (`OverChans`). -/

theorem mem_chansOf {g n : Nat} : n ∈ chansOf g ↔ n / 24 = g := by
  simp only [chansOf, List.mem_map, List.mem_range]
  constructor
  · rintro ⟨i, hi, rfl⟩
    omega
  · rintro rfl
    exact ⟨n % 24, by omega, by omega⟩

theorem nodup_chansOf (g : Nat) : (chansOf g).Nodup := List.nodup_range.map fun _ _ h => Nat.add_left_cancel h

/-- From `a` to `b` only the channels of a list change, each as `R` says, apart from what events leave and what the ends of HART transactions do. -/
structure OverChans (l : List Nat) (R : Chan → Chan → Prop) (a b : Block) : Prop where
  units : quiet b = { quiet a with chn := b.chn }
  chn : b.chn = { a.chn with chans := b.chn.chans }
  others : ∀ m, m ∉ l → chanAt b m = chanAt a m
  each : ∀ m, m ∈ l → R (chanAt a m) (chanAt b m)

theorem overChans_foldl {R : Chan → Chan → Prop} {f : Block → Nat → Block}
    (hf : ∀ b n, OnlyChan b (f b n) n ∧ R (chanAt b n) (chanAt (f b n) n)) {l : List Nat} (hl : l.Nodup) (b : Block) :
    OverChans l R b (l.foldl f b) := by
  induction l generalizing b with
  | nil => exact ⟨rfl, rfl, fun _ _ => rfl, fun _ h => absurd h (by simp)⟩
  | cons n l ih =>
    obtain ⟨hn, hnodup⟩ := List.nodup_cons.mp hl
    obtain ⟨⟨hquiet, hchn, hne⟩, hR⟩ := hf b n
    obtain ⟨hunits, hchn', hothers, heach⟩ := ih hnodup (f b n)
    refine ⟨hunits.trans (by rw [hquiet]; rfl), hchn'.trans (by rw [hchn]; rfl), fun m hm => ?_, fun m hm => ?_⟩
    · rw [List.mem_cons, not_or] at hm
      exact (hothers m hm.2).trans (hne m hm.1)
    · rcases List.mem_cons.mp hm with rfl | hm
      · exact (hothers m hn).symm ▸ hR
      · exact (hne m fun e => hn (e ▸ hm)) ▸ heach m hm

theorem onlyGroup_trans {a b c : Block} {g : Nat} (h : OnlyGroup a b g) (h' : OnlyGroup b c g) : OnlyGroup a c g := by
  obtain ⟨hq, hc, hg, hm⟩ := h
  obtain ⟨hq', hc', hg', hm'⟩ := h'
  exact ⟨hq'.trans (by rw [hq]), hc'.trans (by rw [hc]), fun k hk => (hg' k hk).trans (hg k hk), fun m hk => (hm' m hk).trans (hm m hk)⟩

theorem onlyGroup_modGroup (g : Nat) (f : Machine.Group → Machine.Group) (b : Block) : OnlyGroup b (modGroup g f b) g :=
  ⟨rfl, rfl, fun _ h => (groupAt_modGroup ..).trans (if_neg h), fun _ _ => rfl⟩

theorem onlyGroup_of_calm {a b : Block} (g : Nat) (h : calm b = calm a) : OnlyGroup a b g := by
  have hc := chn_of_calm h
  exact ⟨by rw [quiet_of_calm h, hc]; rfl, by rw [hc], fun k _ => by rw [groupAt, hc, groupAt], fun m _ => by rw [chanAt, hc, chanAt]⟩

/-- A change of a group's channels leaves every group's record alone. -/
theorem OverChans.group {a b : Block} {l : List Nat} {R : Chan → Chan → Prop} (h : OverChans l R a b) (k : Nat) : groupAt b k = groupAt a k := by
  rw [groupAt, h.chn, groupAt]

theorem OverChans.onlyGroup {a b : Block} {g : Nat} {R : Chan → Chan → Prop} (h : OverChans (chansOf g) R a b) : OnlyGroup a b g :=
  ⟨h.units, by rw [h.chn], fun k _ => h.group k, fun m hm => h.others m fun hin => hm (mem_chansOf.mp hin)⟩

/-! A group's feeds. -/

/-- A feed is up. -/
def feedOk (x : Machine.Group) (feed : Nat) : Bool := if feed = 0 then x.okA else x.okB

/-- The voltage of a feed. -/
def feedVolt (x : Machine.Group) (feed : Nat) : Nat := if feed = 0 then x.voltA else x.voltB

/-- A group with one of its feeds as given. -/
def withFeed (feed : Nat) (ok : Bool) (volts : Nat) (x : Machine.Group) : Machine.Group :=
  if feed = 0 then { x with okA := ok, voltA := volts } else { x with okB := ok, voltB := volts }

/-- A group with the currents of its feeds as they have stood. -/
def withCurrents (curA curB : Nat) (x : Machine.Group) : Machine.Group :=
  { x with curA := curA, curB := curB, overcurrent := decide (6000 < curA + curB) }

section Feed

variable {feed volts : Nat} {ok : Bool} {x : Machine.Group}

@[simp] theorem feedOk_withFeed : feedOk (withFeed feed ok volts x) feed = ok := by
  by_cases h : feed = 0 <;> simp [feedOk, withFeed, h]

@[simp] theorem feedVolt_withFeed : feedVolt (withFeed feed ok volts x) feed = volts := by
  by_cases h : feed = 0 <;> simp [feedVolt, withFeed, h]

theorem feedOk_withFeed_other (hfeed : feed < 2) : feedOk (withFeed feed ok volts x) (1 - feed) = feedOk x (1 - feed) := by
  obtain rfl | rfl : feed = 0 ∨ feed = 1 := by omega
  · rfl
  · rfl

@[simp] theorem withFeed_latch : (withFeed feed ok volts x).latch = x.latch := by
  unfold withFeed
  split <;> rfl

@[simp] theorem withFeed_converters : (withFeed feed ok volts x).converters = x.converters := by
  unfold withFeed
  split <;> rfl

/-- Some feed is up after one is lost where the other one is. -/
theorem anyFeed_withFeed (hfeed : feed < 2) :
    ((withFeed feed false volts x).okA = true ∨ (withFeed feed false volts x).okB = true) ↔ feedOk x (1 - feed) = true := by
  obtain rfl | rfl : feed = 0 ∨ feed = 1 := by omega
  · simp [withFeed, feedOk]
  · simp [withFeed, feedOk]

end Feed

section Supply

variable {g feed volts : Nat} {b : Block}

theorem calm_groupLatch (bits : Word) : calm (groupLatch g bits b) = calm (modGroup g (fun x => { x with latch := x.latch ||| bits }) b) :=
  (calm_fireIf ..).trans (calm_markSet ..)

theorem groupAt_groupLatch (bits : Word) : groupAt (groupLatch g bits b) g = { groupAt b g with latch := (groupAt b g).latch ||| bits } := by
  rw [groupAt, chn_of_calm (calm_groupLatch bits)]
  exact (groupAt_modGroup ..).trans (if_pos rfl)

theorem chans_groupLatch (bits : Word) : (groupLatch g bits b).chn.chans = b.chn.chans := by
  rw [chn_of_calm (calm_groupLatch bits)]
  rfl

theorem onlyGroup_groupLatch (bits : Word) : OnlyGroup b (groupLatch g bits b) g :=
  onlyGroup_trans (onlyGroup_modGroup ..) (onlyGroup_of_calm g (calm_groupLatch bits))

/-- The group's converters go off, and its channels show FIELD_LOST. -/
def supplyLost (g : Nat) (b : Block) : Block :=
  (chansOf g).foldl (fun b n => setSt n 15 true b) (modGroup g (fun x => { x with fieldLost := true, converters := false }) b)

theorem supplyLost_chans : OverChans (chansOf g) (fun c d => d.stBit 15 = true ∧ d.fe = c.fe)
    (modGroup g (fun x => { x with fieldLost := true, converters := false }) b) (supplyLost g b) := by
  refine overChans_foldl (fun b n => ?_) (nodup_chansOf g) _
  have h := (Becomes.refl [] n b).setSt (i := 15) (by decide) (by decide) true
  exact ⟨h.only, h.stBit_put rfl (by decide) (by decide), h.fe⟩

/-- A channel shows its supply again, and a front end that is OFF begins INIT. -/
def chanBack (b : Block) (n : Nat) : Block :=
  if (chanAt (setSt n 15 false b) n).fe = 0 then setFe n 1 (setSt n 15 false b) else setSt n 15 false b

theorem chanBack_only (b : Block) (n : Nat) : OnlyChan b (chanBack b n) n ∧ (chanAt (chanBack b n) n).stBit 15 = false ∧
    (chanAt (chanBack b n) n).fe = if (chanAt b n).fe = 0 then 1 else (chanAt b n).fe := by
  have h := (Becomes.refl entryBits n b).setSt (i := 15) (by decide) (by decide) false
  have hfe : (chanAt (setSt n 15 false b) n).fe = (chanAt b n).fe := h.fe
  unfold chanBack
  rw [hfe]
  split
  · have hinit := h.setFe 1
    exact ⟨hinit.only, hinit.stBit_put (i := 15) (v := false) rfl (by decide) (by decide), hinit.fe⟩
  · exact ⟨h.only, h.stBit_put rfl (by decide) (by decide), h.fe⟩

theorem chansBack : OverChans (chansOf g) (fun c d => d.stBit 15 = false ∧ d.fe = if c.fe = 0 then 1 else c.fe)
    b ((chansOf g).foldl chanBack b) := overChans_foldl chanBack_only (nodup_chansOf g) b

/-- The bits of CHN_GRP_LATCH that the loss of a feed sets: the feed's, and FIELD_LOST with the last one. -/
theorem regOf_lostFeed {other : Bool} (hfeed : feed < 2) : regOf [(feed, 1, 1), (2, 1, b1 (!other))] =
    if other = true then (if feed = 0 then 1 else 2) else (if feed = 0 then 5 else 6) := by
  obtain rfl | rfl : feed = 0 ∨ feed = 1 := by omega
  · cases other <;> decide
  · cases other <;> decide

/-- The sum of the feed currents decides OVERCURRENT, and what becomes set is latched (R149). -/
theorem overcurrent_group (hg : g < 8) (curA curB : Nat) :
    OnlyGroup b (overcurrent g curA curB b) g ∧ (overcurrent g curA curB b).chn.chans = b.chn.chans ∧
    groupAt (overcurrent g curA curB b) g = { groupAt b g with
      curA := curA, curB := curB, overcurrent := decide (6000 < curA + curB),
      latch := if 6000 < curA + curB then (groupAt b g).latch ||| 8 else (groupAt b g).latch } := by
  have hset : groupAt (modGroup g (withCurrents curA curB) b) g = withCurrents curA curB (groupAt b g) := (groupAt_modGroup ..).trans (if_pos rfl)
  have heq : overcurrent g curA curB b = if decide (6000 < curA + curB) = true then groupLatch g 8 (modGroup g (withCurrents curA curB) b)
      else modGroup g (withCurrents curA curB) b := if_neg (by omega)
  rw [heq]
  by_cases h : 6000 < curA + curB
  · rw [if_pos (decide_eq_true h), if_pos h, groupAt_groupLatch, hset]
    exact ⟨onlyGroup_trans (onlyGroup_modGroup ..) (onlyGroup_groupLatch _), chans_groupLatch _, rfl⟩
  · rw [if_neg (by simpa using h), if_neg h, hset]
    exact ⟨onlyGroup_modGroup .., rfl, rfl⟩

section Lost

variable (hg : g < 8) (hfeed : feed < 2) (hok : feedOk (groupAt b g) feed = true) (hv : volts < 320)
include hg hfeed hok hv

theorem fieldFeedLost_eq :
    fieldFeedLost g feed volts b = groupLatch g (regOf [(feed, 1, 1), (2, 1, b1 (!feedOk (groupAt b g) (1 - feed)))])
      (if feedOk (groupAt b g) (1 - feed) = true then modGroup g (withFeed feed false volts) b
        else supplyLost g (modGroup g (withFeed feed false volts) b)) := by
  have hgroup : groupAt (modGroup g (withFeed feed false volts) b) g = withFeed feed false volts (groupAt b g) :=
    (groupAt_modGroup ..).trans (if_pos rfl)
  have hgo : ¬ (8 ≤ g ∨ (!feedOk (groupAt b g) feed) = true ∨ 320 ≤ volts) := by simp [hok]; omega
  refine (if_neg hgo).trans ?_
  show (if (groupAt (modGroup g (withFeed feed false volts) b) g).okA = true ∨ (groupAt (modGroup g (withFeed feed false volts) b) g).okB = true
    then groupLatch g (if feed = 0 then 1 else 2) (modGroup g (withFeed feed false volts) b)
    else groupLatch g (if feed = 0 then 5 else 6) (supplyLost g (modGroup g (withFeed feed false volts) b))) = _
  rw [hgroup, regOf_lostFeed hfeed]
  simp only [anyFeed_withFeed hfeed]
  split
  · rfl
  · rfl

/-- A feed is lost: its bits in its group, and with the last feed the converters and the channels (R145). -/
theorem fieldFeedLost_group :
    let x := groupAt b g
    let other := feedOk x (1 - feed)
    groupAt (fieldFeedLost g feed volts b) g = { withFeed feed false volts x with
      latch := x.latch ||| regOf [(feed, 1, 1), (2, 1, b1 (!other))]
      fieldLost := if other = true then (withFeed feed false volts x).fieldLost else true
      converters := if other = true then x.converters else false } := by
  intro x other
  have hset : groupAt (modGroup g (withFeed feed false volts) b) g = withFeed feed false volts x := (groupAt_modGroup ..).trans (if_pos rfl)
  rw [fieldFeedLost_eq hg hfeed hok hv, groupAt_groupLatch]
  by_cases h : other = true
  · rw [if_pos h, if_pos h, if_pos h, hset, withFeed_latch, ← withFeed_converters (feed := feed) (volts := volts) (ok := false)]
  · rw [if_neg h, if_neg h, if_neg h, supplyLost_chans.group, groupAt_modGroup, if_pos rfl, hset, withFeed_latch]

theorem fieldFeedLost_only : OnlyGroup b (fieldFeedLost g feed volts b) g := by
  rw [fieldFeedLost_eq hg hfeed hok hv]
  refine onlyGroup_trans ?_ (onlyGroup_groupLatch _)
  split
  · exact onlyGroup_modGroup ..
  · exact onlyGroup_trans (onlyGroup_modGroup ..) (onlyGroup_trans (onlyGroup_modGroup ..) supplyLost_chans.onlyGroup)

theorem fieldFeedLost_chans (hlast : feedOk (groupAt b g) (1 - feed) = false) {n : Nat} (hn : n / 24 = g) :
    (chanAt (fieldFeedLost g feed volts b) n).stBit 15 = true ∧ (chanAt (fieldFeedLost g feed volts b) n).fe = (chanAt b n).fe := by
  have heach := (supplyLost_chans (b := modGroup g (withFeed feed false volts) b)).each n (mem_chansOf.mpr hn)
  rw [fieldFeedLost_eq hg hfeed hok hv, chanAt, chans_groupLatch, if_neg (by rw [hlast]; decide)]
  exact heach

end Lost

section Restored

variable (hg : g < 8) (hok : feedOk (groupAt b g) feed = false) (hv : 340 ≤ volts)
include hg hok hv

theorem fieldFeedRestored_eq :
    fieldFeedRestored g feed volts b =
      let c := modGroup g (fun x => { withFeed feed true volts x with fieldLost := false, converters := true }) b
      if (groupAt b g).converters = true then c else (chansOf g).foldl chanBack c := by
  have hgo : ¬ (8 ≤ g ∨ feedOk (groupAt b g) feed = true ∨ volts < 340) := by simp [hok]; omega
  have hset : (fun x : Machine.Group => { withFeed feed true volts x with fieldLost := false, converters := true }) = fun x =>
      if feed = 0 then { x with okA := true, voltA := volts, fieldLost := false, converters := true }
      else { x with okB := true, voltB := volts, fieldLost := false, converters := true } := by
    funext x
    unfold withFeed
    split
    · rfl
    · rfl
  rw [hset]
  exact if_neg hgo

/-- A feed returns: its bits in its group, and FIELD_LOST ends (R145). -/
theorem fieldFeedRestored_group :
    groupAt (fieldFeedRestored g feed volts b) g =
      { withFeed feed true volts (groupAt b g) with fieldLost := false, converters := true } := by
  rw [fieldFeedRestored_eq hg hok hv]
  dsimp only
  split
  · exact (groupAt_modGroup ..).trans (if_pos rfl)
  · exact (chansBack.group g).trans ((groupAt_modGroup ..).trans (if_pos rfl))

theorem fieldFeedRestored_only : OnlyGroup b (fieldFeedRestored g feed volts b) g := by
  rw [fieldFeedRestored_eq hg hok hv]
  dsimp only
  split
  · exact onlyGroup_modGroup ..
  · exact onlyGroup_trans (onlyGroup_modGroup ..) chansBack.onlyGroup

theorem fieldFeedRestored_chans (hoff : (groupAt b g).converters = false) {n : Nat} (hn : n / 24 = g) :
    (chanAt (fieldFeedRestored g feed volts b) n).stBit 15 = false ∧
      (chanAt (fieldFeedRestored g feed volts b) n).fe = if (chanAt b n).fe = 0 then 1 else (chanAt b n).fe := by
  rw [fieldFeedRestored_eq hg hok hv, if_neg (by rw [hoff]; decide)]
  exact chansBack.each n (mem_chansOf.mpr hn)

end Restored

end Supply

/-- Settles O36: a loss and a return of a feed by `fieldFeedLost_eq` and `fieldFeedRestored_eq`, the channels of the group by `supplyLost_chans` and
`chansBack`. -/
theorem groupSupply : Obligations.GroupSupply := by
  unfold Obligations.GroupSupply
  intro g feed v w s hg hfeed hon x okOf voltOf
  have hok : (decide (g < 8) && decide (feed < 2)) = true := by simp [hg, hfeed]
  refine ⟨fun hup hv => ?lost, fun hdown hv => ?restored, ?overcurrent, fun hlisten hend => ?listen⟩
  case lost =>
    have hother : feedOk (withFeed feed false v x) (1 - feed) = feedOk x (1 - feed) := feedOk_withFeed_other hfeed
    refine does_act rfl hok hon ⟨fieldFeedLost_only hg hfeed hup hv, ?_⟩
    rw [fieldFeedLost_group hg hfeed hup hv]
    exact ⟨feedOk_withFeed, feedVolt_withFeed, hother, rfl, fun h => if_pos h, fun h => ⟨if_neg (ne_true_of_eq_false h),
      if_neg (ne_true_of_eq_false h), fun n _ hn => fieldFeedLost_chans hg hfeed hup hv h hn⟩⟩
  case restored =>
    refine does_act rfl hok hon ⟨fieldFeedRestored_only hg hdown hv, ?_⟩
    rw [fieldFeedRestored_group hg hdown hv]
    exact ⟨feedOk_withFeed, feedVolt_withFeed, rfl, rfl, withFeed_latch, fun h n _ hn => fieldFeedRestored_chans hg hdown hv h hn⟩
  case overcurrent => exact does_act rfl (by simp [Instr.ok, hg]) hon (overcurrent_group hg v w)
  case listen => exact does_act rfl rfl hon (if_pos ⟨hlisten, hend⟩)

end Sys2Proof.Laws

namespace Sys2Proof.Laws

open Sys2Proof.Machine Sys2Proof.Safety

/-! O8: READ rows. -/

theorem rowOpcode_of_read {k : CmdKind} (h : k ∈ readRows) : rowOpcode k = 2 := by
  revert h
  cases k <;> decide

/-- Settles O8: an accepted READ completes with `readValue` (`cmdAct_read`), and `completeWith_only` is its frame. -/
theorem readsReturn : Obligations.ReadsReturn := by
  unfold Obligations.ReadsReturn
  intro k n d s hk hon h
  have hop : cmdOpcode d = 2 := (accepts_opcode h).trans (rowOpcode_of_read hk)
  refine does_cmd hon h ?_
  rw [cmdAct_read hop]
  obtain ⟨hframe, hring⟩ := completeWith_only (b := s.blk) (n := n) (idx := d.idx) (st := stOK)
    (v := readValue k s.blk (cmdClass d) (cmdIndex d) (cmdField d))
  exact ⟨hframe, hring, by rintro rfl; rfl⟩

end Sys2Proof.Laws

namespace Sys2Proof.Laws

open Sys2Proof.Machine Sys2Proof.Safety

/-! O38: the HART modem of a channel. First what one modem's record comes to, whatever transaction its link starts next. -/

theorem onlyChan_modHart (n : Nat) (f : Hart → Hart) (b : Block) : OnlyChan b (modHart n f b) n := onlyChan_modChan ..

/-- What a modem holds of its link and of the last set of variables: not its transactions and what they are due for, nor what the comparison of
R177 keeps, nor the loop current and the unit codes. -/
def linkOf (h : Hart) : Hart :=
  { h with
    flight := none, queue := [], pollDue := false, due48 := false, last48 := none, fails := 0
    disRun := 0, agreeRun := 0, disagree := false, outStatus := 0, loopCurrent := 0, units := [] }

/-- From `a` to `b` the modem of channel `n` comes to hold the link's part of `g`, no ring's descriptors change, and no unit does but this
channel's. -/
structure Links (n : Nat) (g : Hart) (a b : Block) : Prop where
  only : OnlyChan a b n
  fetched : ∀ m, (ring b m).fetched = (ring a m).fetched
  link : linkOf (chanAt b n).hart = linkOf g

namespace Links

variable {n : Nat} {g g' : Hart} {a b x : Block}

theorem refl (n : Nat) (b : Block) : Links n (chanAt b n).hart b b := ⟨onlyChan_of_quiet n rfl, fun _ => rfl, rfl⟩

theorem tb (h : Links n g a b) : b.tb = a.tb := (congrArg Block.tb h.only.1 :)

theorem congr (h : Links n g a b) (hg : linkOf g = linkOf g') : Links n g' a b := ⟨h.only, h.fetched, h.link.trans hg⟩

theorem ite {p : Prop} {_ : Decidable p} (hx : Links n g a b) (hy : Links n g a x) : Links n g a (if p then b else x) := by
  split
  · exact hx
  · exact hy

theorem when {p : Prop} {_ : Decidable p} (h : Links n g a b) (hx : Links n g a b → Links n g a x) : Links n g a (if p then x else b) :=
  ite (hx h) h

/-- What touches neither the units nor any ring's descriptors. -/
theorem upd (h : Links n g a b) (hq : quiet x = quiet b) (hr : ∀ m, (ring x m).fetched = (ring b m).fetched) : Links n g a x := by
  have hchn : x.chn = b.chn := (congrArg Block.chn hq :)
  have hat : chanAt x n = chanAt b n := by rw [chanAt, hchn, chanAt]
  exact ⟨onlyChan_trans h.only (onlyChan_of_quiet n hq), fun m => (hr m).trans (h.fetched m), by rw [hat, h.link]⟩

theorem emit {o : Output} (h : Links n g a b) : Links n g a (emit o b) := h.upd rfl fun _ => rfl

theorem hartEvent (h : Links n g a b) (m cause : Nat) : Links n g a (hartEvent m cause b) :=
  h.upd (quiet_of_calm (calm_fire ..)) (fetched_of_calm (calm_fire ..))

/-- A change of the modem's record that does not read what `linkOf` leaves out. -/
theorem modHart (h : Links n g a b) {f : Hart → Hart} (hf : ∀ z, linkOf (f z) = linkOf (f (linkOf z))) :
    Links n (f g) a (modHart n f b) := by
  refine ⟨onlyChan_trans h.only (onlyChan_modHart ..), h.fetched, ?_⟩
  rw [chanAt_modHart]
  exact (hf _).trans (by rw [h.link, ← hf])

/-- A change of what `linkOf` leaves out alone. -/
theorem hidden (h : Links n g a b) {f : Hart → Hart} (hf : ∀ z, linkOf (f z) = linkOf z) : Links n g a (Machine.modHart n f b) :=
  ⟨onlyChan_trans h.only (onlyChan_modHart ..), h.fetched, by rw [chanAt_modHart, hf, h.link]⟩

theorem hartState (h : Links n g a b) (v cause : Nat) : Links n { g with state := v } a (hartState n v cause b) :=
  hartEvent (when (h.modHart (f := fun z => { z with state := v }) fun _ => rfl) (hartEvent · ..)) ..

theorem hartDevStatus (h : Links n g a b) (dev : Nat) : Links n { g with devStatus := dev } a (hartDevStatus n dev b) :=
  when (when (h.modHart (f := fun z => { z with devStatus := dev }) fun _ => rfl) (hartEvent · ..)) fun h => h.hidden fun _ => rfl

theorem hartOut (h : Links n g a b) : Links n g a (hartOut n b) := by
  unfold Machine.hartOut
  exact ite h (when (h.hidden fun _ => rfl) (hartEvent · ..))

theorem hartCompare (h : Links n g a b) : Links n g a (hartCompare n b) := by
  unfold Machine.hartCompare
  exact ite h (ite (hartOut (h.hidden fun _ => rfl)) (hartOut (h.hidden fun _ => rfl)))

end Links

/-- The record of a modem once a set of dynamic variables has come in (Table 5.9). -/
def newVars (resp source tick : Nat) (data : List Byte) (h : Hart) : Hart :=
  { h with
    resp := resp, pv := hartVal data 0, sv := hartVal data 1, tv := hartVal data 2, qv := hartVal data 3
    dvSeq := (h.dvSeq + 1) % 0x10000, dvTick := tick, source := source }

/-- The modem transmits: an attempt goes out after the preambles, whatever its command. -/
theorem hartSend_goes {n : Nat} {t : HartTrans} {b : Block} (hmay : hartMay b n = true) :
    hartSend n t b = emit (.hart n (List.replicate (max 5 (chanAt b n).hart.preambles) 0xFF ++ hartFrame b n t))
      (modHart n (fun h => { h with
        flight := some { t with sentAt := b.tb }, last48 := if t.kind = 2 then some b.tb else (chanAt b n).hart.last48 }) b) :=
  if_neg (by simp [hmay])

namespace Links

variable {n : Nat} {g : Hart} {a b : Block}

theorem hartVars (h : Links n g a b) (resp source : Nat) (data : List Byte) :
    Links n (newVars resp source a.tb data g) a (hartVars n resp source data b) := by
  have hfree : Links n g a (takeFree b).2 := h.upd rfl fun _ => rfl
  rw [← hfree.tb]
  exact hartCompare ((hfree.modHart fun _ => rfl).congr rfl)

theorem hartIdent (h : Links n g a b) (data : List Byte) : ∃ g', Links n g' a (hartIdent n data b) := by
  unfold Machine.hartIdent
  dsimp only
  split
  · exact ⟨_, hartState (when (h.modHart fun _ => rfl) (hartEvent · ..)) ..⟩
  · exact ⟨_, when (h.modHart fun _ => rfl) (hartEvent · ..)⟩

theorem hartOverheard (h : Links n g a b) (t : HartTrans) (resp : Nat) (data : List Byte) :
    ∃ g', Links n g' a (hartOverheard n t resp data b) := by
  unfold Machine.hartOverheard
  dsimp only
  split
  · exact h.hartIdent data
  split
  · exact ⟨_, h.hartVars ..⟩
  split
  · exact ⟨_, h.modHart fun _ => rfl⟩
  · exact ⟨g, h⟩

theorem hartSend (h : Links n g a b) (hmay : hartMay b n = true) (t : HartTrans) : Links n g a (hartSend n t b) := by
  rw [hartSend_goes hmay]
  exact emit (h.hidden fun _ => rfl)

/-- The next transaction is sent from a record of which only what is due changes. -/
theorem sendNext (h : Links n g a b) (hmay : hartMay b n = true) {t : HartTrans} {f : Hart → Hart}
    (hf : ∀ z, linkOf (f z) = linkOf z) : Links n g a (Machine.hartSend n t (Machine.modHart n f b)) :=
  hartSend (h.hidden hf) ((hartMay_modHart ..).trans hmay) t

/-- Whatever transaction is next, its start leaves the link's part of the record alone. -/
theorem hartNext (h : Links n g a b) : Links n g a (hartNext n b) := by
  unfold Machine.hartNext
  dsimp only
  split
  · exact h
  next hgo =>
  have hmay : hartMay b n = true := by
    by_contra hno
    exact hgo (.inr (.inr (by simp [hno])))
  split
  · exact h.sendNext hmay fun _ => rfl
  · split
    · exact ite (h.sendNext hmay fun _ => rfl) (ite (h.sendNext hmay fun _ => rfl) (h.hidden fun _ => rfl))
    · exact ite (h.sendNext hmay fun _ => rfl) h

/-- The set of variables that a modem with the link's part of `newVars` holds. -/
theorem dynVars {resp source tick : Nat} {data : List Byte} (h : Links n (newVars resp source tick data g) a b) :
    let x := (chanAt b n).hart
    x.pv = hartVal data 0 ∧ x.sv = hartVal data 1 ∧ x.tv = hartVal data 2 ∧ x.qv = hartVal data 3 ∧ x.resp = resp ∧
      x.devStatus = g.devStatus ∧ x.dvSeq = (g.dvSeq + 1) % 0x10000 ∧ x.dvTick = tick ∧ x.source = source :=
  have hl := h.link
  ⟨(congrArg Hart.pv hl :), (congrArg Hart.sv hl :), (congrArg Hart.tv hl :), (congrArg Hart.qv hl :), (congrArg Hart.resp hl :),
    (congrArg Hart.devStatus hl :), (congrArg Hart.dvSeq hl :), (congrArg Hart.dvTick hl :), (congrArg Hart.source hl :)⟩

end Links

/-! Polls (R174, Table 5.8). -/

/-- The modem once POLL_PERIOD has elapsed: a poll is due, and the next one a period later. -/
def pollAsked (n : Nat) (b : Block) : Block := modHart n (fun h => { h with pollDue := true, pollAt := b.tb + hartPeriod b n }) b

/-- The transaction that a poll is: Command 3 while the link is ONLINE, Command 0 while it is sought. -/
def pollOf (h : Hart) : HartTrans := { kind := if h.state = 2 then 1 else 0 }

section Poll

variable {n : Nat} {b : Block} (hmay : hartMay b n = true) (hflight : (chanAt b n).hart.flight = none) (hqueue : (chanAt b n).hart.queue = [])
  (hstate : (chanAt b n).hart.state = 1 ∨ (chanAt b n).hart.state = 2 ∨ (chanAt b n).hart.state = 4)
include hmay hflight hqueue hstate

/-- A poll that is due goes out when nothing else waits. -/
theorem hartNext_polls (hdue : (chanAt b n).hart.pollDue = true) :
    hartNext n b = hartSend n (pollOf (chanAt b n).hart) (modHart n (fun h => { h with pollDue := false }) b) := by
  unfold hartNext
  rcases hstate with h | h | h <;> simp [hflight, hmay, hqueue, hdue, h, pollOf]

theorem hartPoll_sends (hat : (chanAt b n).hart.pollAt ≤ b.tb) :
    hartPoll n b = hartSend n (pollOf (chanAt b n).hart) (modHart n (fun h => { h with pollDue := false }) (pollAsked n b)) := by
  have hasked : hartPoll n b = hartNext n (pollAsked n b) := if_pos ⟨hstate, hat⟩
  have hrecord : (chanAt (pollAsked n b) n).hart = { (chanAt b n).hart with pollDue := true, pollAt := b.tb + hartPeriod b n } :=
    congrArg Chan.hart (chanAt_modHart ..)
  have hmay' : hartMay (pollAsked n b) n = true := (hartMay_modHart ..).trans hmay
  rw [hasked, hartNext_polls hmay' (by rw [hrecord]; exact hflight) (by rw [hrecord]; exact hqueue)
    (by rw [hrecord]; exact hstate) (by rw [hrecord]), hrecord]
  rfl

/-- What a poll that is due leaves: the record with the poll in flight, and its frame. -/
theorem hartPoll_leaves (hat : (chanAt b n).hart.pollAt ≤ b.tb) :
    OnlyChan b (hartPoll n b) n ∧
    (chanAt (hartPoll n b) n).hart = { (chanAt b n).hart with
      pollDue := false, pollAt := b.tb + hartPeriod b n, flight := some { pollOf (chanAt b n).hart with sentAt := b.tb } } ∧
    (hartPoll n b).out = .hart n (List.replicate (max 5 (chanAt b n).hart.preambles) 0xFF ++ hartFrame b n (pollOf (chanAt b n).hart)) ::
      b.out := by
  have hmay' : hartMay (modHart n (fun h => { h with pollDue := false }) (pollAsked n b)) n = true :=
    (hartMay_modHart ..).trans ((hartMay_modHart ..).trans hmay)
  have hlinks : Links n _ b (modHart n (fun h => { h with pollDue := false }) (pollAsked n b)) :=
    ((Links.refl n b).modHart (f := fun h => { h with pollDue := true, pollAt := b.tb + hartPeriod b n }) fun _ => rfl).hidden fun _ => rfl
  have hkind : (pollOf (chanAt b n).hart).kind ≠ 2 := by
    unfold pollOf
    split <;> decide
  have hframe : hartFrame (pollAsked n b) n (pollOf (chanAt b n).hart) = hartFrame b n (pollOf (chanAt b n).hart) := hartFrame_modHart rfl
  rw [hartPoll_sends hmay hflight hqueue hstate hat]
  refine ⟨(hlinks.hartSend hmay' _).only, ?record, ?frame⟩
  case record =>
    rw [hartSend_may hmay' hkind, chanAt_emit, chanAt_modHart, chanAt_modHart, pollAsked, chanAt_modHart]
    rfl
  case frame =>
    rw [hartSend_may hmay' hkind, emit_out, chanAt_modHart, hartFrame_modHart rfl, hframe, pollAsked, chanAt_modHart]
    rfl

end Poll

/-! Failed attempts and valid replies (R169). -/

section Attempt

variable {n : Nat} {t : HartTrans} {b : Block}

/-- A failed attempt is repeated while attempts are left (R169). -/
theorem hartAttemptFailed_again (hleft : t.failed < hartRetries b n) (hmay : hartMay b n = true) (invalid : Bool) :
    OnlyChan b (hartAttemptFailed n t invalid b) n ∧
    (chanAt (hartAttemptFailed n t invalid b) n).hart.errors = sat16 (chanAt b n).hart.errors 1 ∧
    (chanAt (hartAttemptFailed n t invalid b) n).hart.flight =
      some { t with failed := t.failed + 1, invalid := t.invalid || invalid, sentAt := b.tb } := by
  let again : HartTrans := { t with failed := t.failed + 1, invalid := t.invalid || invalid }
  let c := modHart n (fun h => { h with errors := sat16 h.errors 1 }) b
  have hsend : hartAttemptFailed n t invalid b = hartSend n again c := if_pos hleft
  have hmayc : hartMay c n = true := (hartMay_modHart ..).trans hmay
  have hlinks := ((Links.refl n b).modHart (f := fun h => { h with errors := sat16 h.errors 1 }) fun _ => rfl).hartSend hmayc again
  rw [hsend]
  refine ⟨hlinks.only, (congrArg Hart.errors hlinks.link :), ?_⟩
  rw [hartSend_goes hmayc, chanAt_emit, chanAt_modHart]
  rfl

/-- The modem once a valid reply has ended the transaction in flight, with the device status that it brings (R169, R178). -/
def replied (n dev : Nat) (b : Block) : Block := hartDevStatus n dev (modHart n (fun h => { h with flight := none, fails := 0 }) b)

theorem links_replied (n dev : Nat) (b : Block) : Links n { (chanAt b n).hart with devStatus := dev } b (replied n dev b) := by
  refine Links.hartDevStatus ?_ dev
  exact (Links.refl n b).hidden fun _ => rfl

theorem hartReply_variables (hflight : (chanAt b n).hart.flight = some t) (hkind : t.kind = 1) (resp dev : Nat) (data : List Byte) :
    hartReply n true resp dev data b = hartNext n (hartVars n resp 1 data (replied n dev b)) := by
  simp [hartReply, hflight, hkind, replied]

theorem hartReply_through (hflight : (chanAt b n).hart.flight = some t) (hkind : t.kind = 3) (resp dev : Nat) (data : List Byte) :
    hartReply n true resp dev data b =
      hartNext n (hartOverheard n t resp data (completeReply t.ring t.idx (hartReplyBytes 0 resp dev data) (replied n dev b))) := by
  simp [hartReply, hflight, hkind, replied]

theorem hartReply_invalid (hflight : (chanAt b n).hart.flight = some t) (resp dev : Nat) (data : List Byte) :
    hartReply n false resp dev data b = hartAttemptFailed n t true b := by
  simp [hartReply, hflight]

theorem hartReplyTimeout_late (hflight : (chanAt b n).hart.flight = some t) (hlate : t.sentAt + 25666667 ≤ b.tb) :
    hartReplyTimeout n b = hartAttemptFailed n t false b := by
  simp [hartReplyTimeout, hflight, hlate]

end Attempt

/-! Burst mode (R171). -/

/-- The modem once a burst frame of Command 3 is counted, with the device status that it brings. -/
def burstCame (n dev : Nat) (b : Block) : Block :=
  let c := hartDevStatus n dev (modHart n (fun h => { h with bursts := (h.bursts + 1) % 0x10000 }) b)
  modHart n (fun h => { h with lastBurst := c.tb }) c

/-- The link takes the state BURST from ONLINE. -/
def burstTaken (n dev : Nat) (b : Block) : Block :=
  if (chanAt b n).hart.state = 2 then hartState n 3 6 (modHart n (fun h => { h with pollDue := false }) (burstCame n dev b)) else burstCame n dev b

/-- The record of a modem that a burst frame of Command 3 has reached. -/
def burstRecord (dev tick : Nat) (h : Hart) : Hart :=
  { h with bursts := (h.bursts + 1) % 0x10000, devStatus := dev, lastBurst := tick }

theorem links_burstCame (n dev : Nat) (b : Block) : Links n (burstRecord dev b.tb (chanAt b n).hart) b (burstCame n dev b) := by
  have hcounted := ((Links.refl n b).modHart (f := fun h => { h with bursts := (h.bursts + 1) % 0x10000 }) fun _ => rfl).hartDevStatus dev
  simp only [burstCame, hcounted.tb]
  exact (hcounted.modHart (f := fun h => { h with lastBurst := b.tb }) fun _ => rfl).congr rfl

section Burst

variable {n : Nat} {b : Block} (hstate : (chanAt b n).hart.state = 2 ∨ (chanAt b n).hart.state = 3) (resp dev : Nat) (data : List Byte)
include hstate

theorem hartBurstFrame_variables :
    hartBurstFrame n 3 resp dev data b = hartNext n (hartVars n resp 2 data (burstTaken n dev b)) := by
  have hlinked : ¬ (chanAt b n).hart.state = 0 := by omega
  exact (if_neg hlinked).trans (congrArg (hartNext n) (if_pos ⟨rfl, hstate⟩))

theorem links_burstTaken : Links n { burstRecord dev b.tb (chanAt b n).hart with state := 3 } b (burstTaken n dev b) := by
  have hcame := links_burstCame n dev b
  unfold burstTaken
  split
  next =>
    refine Links.hartState (g := burstRecord dev b.tb (chanAt b n).hart) ?_ 3 6
    exact hcame.hidden fun _ => rfl
  next honline =>
    have h3 : (burstRecord dev b.tb (chanAt b n).hart).state = 3 := hstate.resolve_left honline
    rwa [← h3]

/-- A burst frame of Command 3 brings variables and leaves the link in BURST. -/
theorem links_hartBurstFrame :
    Links n (newVars resp 2 b.tb data { burstRecord dev b.tb (chanAt b n).hart with state := 3 }) b (hartBurstFrame n 3 resp dev data b) := by
  rw [hartBurstFrame_variables hstate]
  exact ((links_burstTaken hstate dev).hartVars ..).hartNext

end Burst

/-- A HART event after a change of the channel alone adds nothing to it but what events leave (R178). -/
theorem hartEvent_after {n m cause : Nat} {b c : Block} (hchn : c = { b with chn := c.chn }) (honly : OnlyChan b c n) :
    Spared { b with chn := (hartEvent m cause c).chn } (hartEvent m cause c) ∧ OnlyChan b (hartEvent m cause c) n ∧
      chanAt (hartEvent m cause c) n = chanAt c n := by
  have hcalm : calm (hartEvent m cause c) = calm c := calm_fire ..
  have hkept : (hartEvent m cause c).chn = c.chn := chn_of_calm hcalm
  refine ⟨?_, onlyChan_trans honly (onlyChan_of_quiet n (quiet_of_calm hcalm)), by rw [chanAt, hkept, chanAt]⟩
  rw [hkept, ← hchn]
  exact spared_of_calm hcalm

/-- The modem that has had no burst frame for too long: ONLINE, with the next poll at `tick`. -/
def silenced (n tick : Nat) (b : Block) : Block := modHart n (fun h => { h with state := 2 }) (modHart n (fun h => { h with pollAt := tick }) b)

theorem onlyChan_silenced (n tick : Nat) (b : Block) : OnlyChan b (silenced n tick b) n :=
  onlyChan_trans (onlyChan_modHart n (fun h => { h with pollAt := tick }) b) (onlyChan_modHart ..)

theorem chanAt_silenced (n tick : Nat) (b : Block) : chanAt (silenced n tick b) n =
    { chanAt b n with hart := { (chanAt b n).hart with state := 2, pollAt := tick } } := by
  rw [silenced, chanAt_modHart, chanAt_modHart]

/-- The event of cause 7 is not reported twice (R178). -/
theorem hartState_silent (n v : Nat) (b : Block) : hartState n v 7 b = hartEvent n 7 (modHart n (fun h => { h with state := v }) b) := by
  simp only [hartState]
  rw [if_neg (by simp)]

/-- A link in BURST without burst frames is ONLINE again, with its event (R171, R178). -/
theorem hartBurstTimeout_ends {n : Nat} {b : Block} (hstate : (chanAt b n).hart.state = 3)
    (hquiet : (chanAt b n).hart.lastBurst + 2 * hartPeriod b n ≤ b.tb) :
    hartBurstTimeout n b = hartEvent n 7 (silenced n (b.tb + hartPeriod b n) b) :=
  (if_pos ⟨hstate, hquiet⟩).trans (hartState_silent ..)

theorem hartBurstTimeout_leaves {n : Nat} {b : Block} (hstate : (chanAt b n).hart.state = 3)
    (hquiet : (chanAt b n).hart.lastBurst + 2 * hartPeriod b n ≤ b.tb) :
    Spared { b with chn := (hartBurstTimeout n b).chn } (hartBurstTimeout n b) ∧ OnlyChan b (hartBurstTimeout n b) n ∧
    chanAt (hartBurstTimeout n b) n =
      { chanAt b n with hart := { (chanAt b n).hart with state := 2, pollAt := b.tb + hartPeriod b n } } := by
  obtain ⟨hspared, honly, hchan⟩ := hartEvent_after (m := n) (cause := 7) (b := b) (c := silenced n (b.tb + hartPeriod b n) b) rfl
    (onlyChan_silenced ..)
  rw [hartBurstTimeout_ends hstate hquiet]
  exact ⟨hspared, honly, hchan.trans (chanAt_silenced ..)⟩

/-- Settles O38: a poll by `hartPoll_leaves`, failed attempts by `hartAttemptFailed_again`, and what replies and burst frames leave by `Links`.
The frame is that of log 22, a reply times out from `sentAt` (log 147), and the poll after BURST is one period later (log 165). -/
theorem hartModem : Obligations.HartModem := by
  unfold Obligations.HartModem
  intro n resp dev data t s hn hresp hdev hon h dynVars
  have hok (valid : Bool) : (Instr.hartReply n valid resp dev data).ok = true := by simp [Instr.ok, hn, hresp, hdev]
  refine ⟨fun hstate hat hflight hqueue hmay => does_act rfl (decide_eq_true hn) hon (hartPoll_leaves hmay hflight hqueue hstate hat),
    fun hflight hkind => does_act rfl (hok true) hon ?vars,
    fun d hflight hkind hdesc => does_act rfl (hok true) hon ?through,
    fun hflight hleft hmay => does_act rfl (hok false) hon ?invalid, fun hflight hleft hmay hlate => does_act rfl (decide_eq_true hn) hon ?timeout,
    fun hstate => does_act rfl (by simp [Instr.ok, hn, hresp, hdev]) hon ?burst,
    fun hstate hquiet => does_act rfl (decide_eq_true hn) hon (hartBurstTimeout_leaves hstate hquiet)⟩
  case vars =>
    rw [hartReply_variables hflight hkind]
    have hlinks := ((links_replied n dev s.blk).hartVars resp 1 data).hartNext
    exact ⟨hlinks.only, hlinks.dynVars⟩
  case through =>
    have hreplied := links_replied n dev s.blk
    have hdesc' : descAt (replied n dev s.blk) t.ring t.idx = some d := by
      rw [descAt, hreplied.fetched]
      exact hdesc
    obtain ⟨g, hlinks⟩ :=
      (Links.refl n (completeReply t.ring t.idx (hartReplyBytes 0 resp dev data) (replied n dev s.blk))).hartOverheard t resp data
    refine ⟨_, rfl, ?_⟩
    rw [hartReply_through hflight hkind, hlinks.hartNext.fetched, completeReply_ring hdesc', hreplied.fetched, hreplied.tb]
  case invalid =>
    rw [hartReply_invalid hflight]
    obtain ⟨honly, herrors, hagain⟩ := hartAttemptFailed_again hleft hmay true
    exact ⟨honly, herrors, by rw [hagain, Bool.or_true]⟩
  case timeout =>
    rw [hartReplyTimeout_late hflight hlate]
    obtain ⟨honly, herrors, hagain⟩ := hartAttemptFailed_again hleft hmay false
    exact ⟨honly, herrors, by rw [hagain, Bool.or_false]⟩
  case burst =>
    have hlinks := links_hartBurstFrame hstate resp dev data
    exact ⟨hlinks.only, hlinks.dynVars, (congrArg Hart.bursts hlinks.link :), (congrArg Hart.lastBurst hlinks.link :),
      (congrArg Hart.state hlinks.link :)⟩

end Sys2Proof.Laws

namespace Sys2Proof.Laws

open Sys2Proof.Machine Sys2Proof.Safety

/-! O18: the blocks that hold only registers to read (Tables 6.10, 8.7 and 9.12). -/

/-- The configuration channel's registers stand below every other block (R64). -/
theorem ownedReg_above {off : Nat} (h : 0x10000 ≤ off) : ownedReg off = false := by
  simp only [ownedReg, List.contains_eq_mem, List.mem_cons, List.not_mem_nil, or_false, decide_eq_false_iff_not]
  omega

/-- A write to a block that is not ready yet only ends the wait of a held low word (R13, R51). -/
theorem hostWrite_unready {src off : Nat} {v : Word} {b : Block} (ha : off % 4 = 0) (hi : off < 0x100000) (hoff : 0x10000 ≤ off)
    (hready : b.glb.ready = false) : hostWrite src off v true b = dropHeld src b := by
  have hword : ¬ ((!true) = true ∨ off % 4 ≠ 0 ∨ 0x100000 ≤ off) := by simp [ha, hi]
  have hmine : ¬ (src < 2 ∧ b.glb.owned = true ∧ b.glb.owner ≠ src ∧ ownedReg off = true) := by simp [ownedReg_above hoff]
  unfold hostWrite
  rw [if_neg hword, if_neg hmine]
  exact if_pos ⟨hoff, by simp [hready]⟩

section ReadOnly

variable {src off : Nat} {b : Block}

/-- No 32-bit register of blocks 4 to 6 takes a write. -/
theorem write32_readOnly {v : Word} (hlo : 0x40000 ≤ off) (hhi : off < 0x70000) : write32 src off v b = b := by
  obtain h | h | h : off / 0x10000 = 4 ∨ off / 0x10000 = 5 ∨ off / 0x10000 = 6 := by omega
  all_goals simp only [write32, h]

/-- No 64-bit register whose high word stands in blocks 4 to 6 takes a write. -/
theorem write64_readOnly {lo hi : Word} (hlo : 0x3FFFC ≤ off) (hhi : off < 0x70000) : write64 src off lo hi b = b := by
  unfold write64
  dsimp only
  rw [if_neg (by omega)]
  split
  case h_9 => rfl
  all_goals omega

/-- A write to blocks 4 to 6 reaches the link's own held word and nothing else. -/
theorem hostWrite_readOnly {v : Word} {wide : Bool} (hlo : 0x40000 ≤ off) (hhi : off < 0x70000) :
    hostWrite src off v wide b = { b with links := (hostWrite src off v wide b).links } := by
  by_cases hword : wide = false ∨ off % 4 ≠ 0
  · rw [hostWrite_discarded hword]
  obtain ⟨rfl, ha⟩ : wide = true ∧ off % 4 = 0 := by simpa using hword
  cases hready : b.glb.ready with
  | false =>
    rw [hostWrite_unready ha (by omega) (by omega) hready]
    rfl
  | true =>
    have htaken : WriteTaken b src off :=
      ⟨ha, by omega, by simp [ownedReg_above (show 0x10000 ≤ off by omega)], fun _ => hready⟩
    rw [hostWrite_taken htaken, write64_readOnly (by omega) (by omega), write32_readOnly hlo hhi]
    split
    · rfl
    · split <;> rfl

end ReadOnly

/-- Settles O18: whichever way the link's write goes, `hostWrite_readOnly` leaves the link's own words as all it can change. -/
theorem readOnlyBlocks : Obligations.ReadOnlyBlocks := by
  unfold Obligations.ReadOnlyBlocks
  intro link off v wide s hlink hlo hhi hon
  have hok : (Instr.registerWrite link off v wide).ok = true := by
    simp only [Instr.ok, Bool.and_eq_true, decide_eq_true_eq]
    omega
  exact does_act rfl hok hon (hostWrite_readOnly hlo hhi)

/-! O40: test pulses (R187, R191, Table 6.2) and lost data (R186). -/

/-- The channel record of one side of a pair: side 0 is A, side 1 is B. -/
def pairSide (side : Nat) (x : SafPair) : SafCh := if side = 0 then x.a else x.b

/-- The field channel that one side of a pair uses. -/
def sideChannel (b : Block) (p side : Nat) : Nat := if side = 0 then spA b p else spB b p

/-- A slot's tick has come in a module whose safety engine runs and may drive its outputs (R187, R202). -/
structure SlotDue (b : Block) (k : Nat) : Prop where
  period : safTpp b ≠ 0
  tick : b.tb % safTpp b = 50000 * k
  acts : safActs b = true
  run : b.saf.engine = 2

/-- A channel's record once a pulse of a kind starts on it. -/
def startPulse (tick kind : Nat) (c : SafCh) : SafCh := { c with pulse := some tick, kind := kind, offSeen := false }

/-- Ticks that an input window (kind 1) or an OFF-test (kind 2) of a pair lasts (R188, R191). -/
def pulseTime (b : Block) (p kind : Nat) : Nat := if kind = 1 then spTpw b p - 5000 else spTpw b p

/-- From `a` to `b` one side of a pair starts a pulse of a kind, which goes out at its pin, and nothing else changes. -/
structure PairPulses (a b : Block) (p side kind : Nat) : Prop where
  channel : pairSide side (pairAt b p) = startPulse a.tb kind (pairSide side (pairAt a p))
  others : ∀ q, q ≠ p → pairAt b q = pairAt a q
  frame : b = { a with saf := { a.saf with pairs := b.saf.pairs }, out := b.out }
  pin : b.out = .testPulse (sideChannel a p side) a.tb (a.tb + pulseTime a p kind) false :: a.out

/-- From `a` to `b` a port starts its OFF-test pulse, which goes out at its pin, and nothing else changes. -/
structure PortPulses (a b : Block) (n : Nat) : Prop where
  port : portAt b n = { portAt a n with ch := startPulse a.tb 1 (portAt a n).ch }
  others : ∀ q, q ≠ n → portAt b q = portAt a q
  frame : b = { a with saf := { a.saf with ports := b.saf.ports }, out := b.out }
  pin : b.out = .testPulse (192 + n) a.tb (a.tb + (scTpw a n - 5000)) false :: a.out

@[simp] theorem pairAt_emit (o : Output) (b : Block) (p : Nat) : pairAt (emit o b) p = pairAt b p := rfl
@[simp] theorem portAt_emit (o : Output) (b : Block) (n : Nat) : portAt (emit o b) n = portAt b n := rfl

theorem pairPulse_pulses {kind : Nat} (hkind : kind = 1 ∨ kind = 2) (p side : Nat) (b : Block) :
    PairPulses b (pairPulse p side kind b) p side kind where
  channel := by
    rw [pairPulse, pairAt_emit, pairAt_modPair, if_pos rfl]
    by_cases h : side = 0 <;> simp [pairSide, startPulse, h]
  others q hq := by rw [pairPulse, pairAt_emit, pairAt_modPair, if_neg hq]
  frame := rfl
  pin := by rcases hkind with rfl | rfl <;> simp [pairPulse, emit, sideChannel, pulseTime]

theorem portPulse_pulses (n : Nat) (b : Block) : PortPulses b (portPulse n b) n where
  port := by
    rw [portPulse, portAt_emit, portAt_modPort, if_pos rfl]
    rfl
  others q hq := by rw [portPulse, portAt_emit, portAt_modPort, if_neg hq]
  frame := rfl
  pin := rfl

section Slot

variable {k : Nat} {b : Block}

/-- A slot that is due does not skip its tick. -/
theorem SlotDue.goes (h : SlotDue b k) :
    ¬ (safTpp b = 0 ∨ b.tb % safTpp b ≠ 50000 * k ∨ (!safActs b) = true ∨ b.saf.engine ≠ 2) := by
  simp [h.period, h.tick, h.acts, h.run]

/-- An SDO pair whose ON its front ends have held since before the period applies it at its slot's tick. -/
theorem sdoApplied_of_held {p : Nat} (hcmd : (pairAt b p).cmd = true) (hsent : (pairAt b p).cmdSent = true)
    (hat : (pairAt b p).cmdAt + 50000 * k < b.tb) : sdoApplied b p = true := by
  have hbefore : (pairAt b p).cmdAt < b.tb := by omega
  simp [sdoApplied, hcmd, hsent, hbefore]

/-- The slot of a SAFETY channel that is no output opens its input window. -/
theorem testPulseSlot_input (h : SlotDue b k) (hk : k < 48) (hfe : (chanAt b (sideChannel b (k / 2) (k % 2))).fe = 3)
    (htype : spType b (k / 2) ≠ 0) (hin : spType b (k / 2) ≠ 2) : testPulseSlot k b = pairPulse (k / 2) (k % 2) 1 b := by
  rw [testPulseSlot, if_neg h.goes, if_pos hk]
  exact (if_neg (not_or.mpr ⟨not_not.mpr hfe, htype⟩)).trans (if_pos hin)

/-- The slot of an SDO channel that is ON since before the period takes the OFF-test (log 51). -/
theorem testPulseSlot_output (h : SlotDue b k) (hk : k < 48) (hfe : (chanAt b (sideChannel b (k / 2) (k % 2))).fe = 3)
    (htype : spType b (k / 2) = 2) (hcmd : (pairAt b (k / 2)).cmd = true) (hsent : (pairAt b (k / 2)).cmdSent = true)
    (hat : (pairAt b (k / 2)).cmdAt + 50000 * k < b.tb) : testPulseSlot k b = pairPulse (k / 2) (k % 2) 2 b := by
  rw [testPulseSlot, if_neg h.goes, if_pos hk]
  refine (if_neg (not_or.mpr ⟨not_not.mpr hfe, by simp [htype]⟩)).trans ?_
  rw [if_neg (not_not.mpr htype), if_pos (sdoApplied_of_held hcmd hsent hat), if_pos (by simp [hat])]

/-- The slot of a port of mode SOURCE takes its OFF-test (Table 6.5). -/
theorem testPulseSlot_port (h : SlotDue b k) (hlo : 48 ≤ k) (hhi : k < 52) (hmode : scMode b (k - 48) = 1) :
    testPulseSlot k b = portPulse (k - 48) b := by
  rw [testPulseSlot, if_neg h.goes, if_neg (Nat.not_lt.mpr hlo), if_pos ⟨hhi, .inl hmode⟩]

end Slot

/-- An SDI or SDO channel that is not listed yet is listed as lost, and ES059 fires (R186). -/
theorem safetyDataLost_lists {n : Nat} {b : Block} (hmode : chnMode b n = 7 ∨ chnMode b n = 8) (hnew : n ∉ b.saf.lost) :
    Spared { b with saf := { b.saf with lost := b.saf.lost ++ [n], gaps := b.saf.gaps ++ [(n, b.tb)] } } (safetyDataLost n b) := by
  have hsafety : safetyChannel b n = true := by rcases hmode with h | h <;> simp [safetyChannel, h]
  rw [safetyDataLost, if_pos ⟨hsafety, by simpa using hnew⟩]
  exact spared_of_calm (calm_fire ..)

/-- Settles O40: the slot of a channel by `testPulseSlot_input` and `testPulseSlot_output` with `pairPulse_pulses`, that of a port by
`testPulseSlot_port` with `portPulse_pulses`, and lost data by `safetyDataLost_lists`. An output that came ON in this period waits for the
next (log 51), and the pulse shows as its first and last tick (log 85). -/
theorem safetyPulses : Obligations.SafetyPulses := by
  unfold Obligations.SafetyPulses
  intro k n s hon hn p side ch opened
  refine ⟨fun hperiod htick hacts hrun => ?slot, fun hmode hnew => ?lost⟩
  case lost => exact does_act rfl (decide_eq_true hn) hon (safetyDataLost_lists hmode hnew)
  case slot =>
    have hdue : SlotDue s.blk k := ⟨hperiod, htick, hacts, hrun⟩
    have hok (h : k < 52) : (Instr.testPulseSlot k).ok = true := decide_eq_true (by omega)
    have hopened {kind : Nat} (hkind : kind = 1 ∨ kind = 2) : opened kind (pairPulse p (k % 2) kind s.blk) := by
      obtain ⟨hchannel, hothers, hframe, hpin⟩ := pairPulse_pulses hkind p (k % 2) s.blk
      exact ⟨hchannel, hothers, hframe, hpin⟩
    refine ⟨fun hk hfe htype hin => does_act rfl (hok (by omega)) hon ?input,
      fun hk hfe htype hcmd hsent hat => does_act rfl (hok (by omega)) hon ?output,
      fun hlo hhi hscMode => does_act rfl (hok hhi) hon ?port⟩
    case input =>
      rw [testPulseSlot_input hdue hk hfe htype hin]
      exact hopened (.inl rfl)
    case output =>
      rw [testPulseSlot_output hdue hk hfe htype hcmd hsent hat]
      exact hopened (.inr rfl)
    case port =>
      rw [testPulseSlot_port hdue hlo hhi hscMode]
      obtain ⟨hport, hothers, hframe, hpin⟩ := portPulse_pulses (k - 48) s.blk
      exact ⟨hport, hothers, hframe, hpin⟩

end Sys2Proof.Laws

namespace Sys2Proof.Laws

open Sys2Proof.Machine Sys2Proof.Safety

/-! O41: the Safe Layer (chapter 7). The receivers change one connection's record and fire events; `ConnBecomes` follows the record through them. -/

/-! What the firing of events leaves alone, up to the safety engine. -/

theorem calm_setSaf {a b : Block} (h : calm b = calm a) (x : Saf) : calm { b with saf := x } = calm { a with saf := x } := by
  unfold calm at h ⊢
  exact congrArg (fun p => ({ p.1 with saf := x }, p.2)) h

/-! The record of a sub-channel within its connection. -/

/-- A connection with one sub-channel changed, as `modSub` changes it. -/
def withSub (s : Nat) (f : UslSub → UslSub) (x : UslConn) : UslConn := if s = 0 then { x with a := f x.a } else { x with b := f x.b }

/-- A sub-channel that enters SYNC, with the deadline of its watchdog (R226, R228). -/
def intoSync (deadline : Nat) (y : UslSub) : UslSub := { y with state := 1, rejects := 0, hasRef := false, deadline := deadline }

/-- A sub-channel that accepts a frame, with the deadline of its watchdog (R228). -/
def takesFrame (f : UslFrame) (deadline : Nat) (y : UslSub) : UslSub :=
  { y with hasRef := true, seq := f.seq, runWord := f.runWord, resetWord := f.resetWord, role := f.role, run := f.run, rejects := 0,
           deadline := deadline }

/-- A connection of which one sub-channel leaves FAILED, if it is there, for SYNC (R229). -/
def leavesFailed (deadline : Nat) (x : UslConn) (s : Nat) : UslConn :=
  if (getSub x s).state = 3 then withSub s (intoSync deadline) x else x

section WithSub

variable {s : Nat} {f : UslSub → UslSub} {x : UslConn}

@[simp] theorem getSub_withSub_self : getSub (withSub s f x) s = f (getSub x s) := by
  by_cases h : s = 0 <;> simp [getSub, withSub, h]

theorem getSub_withSub_other {t : Nat} (h : s = 0 ↔ t ≠ 0) : getSub (withSub s f x) t = getSub x t := by
  by_cases hs : s = 0
  · simp [getSub, withSub, hs, h.mp hs]
  · simp [getSub, withSub, hs, not_not.mp (mt h.mpr hs)]

@[simp] theorem withSub_lost : (withSub s f x).lost = x.lost := by
  unfold withSub
  split <;> rfl

@[simp] theorem withSub_timeouts : (withSub s f x).timeouts = x.timeouts := by
  unfold withSub
  split <;> rfl

theorem getSub_leavesFailed_self (d s : Nat) (x : UslConn) :
    getSub (leavesFailed d x s) s = if (getSub x s).state = 3 then intoSync d (getSub x s) else getSub x s := by
  unfold leavesFailed
  split
  · exact getSub_withSub_self
  · rfl

theorem getSub_leavesFailed_other {t : Nat} (h : s = 0 ↔ t ≠ 0) (d : Nat) (x : UslConn) : getSub (leavesFailed d x s) t = getSub x t := by
  unfold leavesFailed
  split
  · exact getSub_withSub_other h
  · rfl

/-- Each of the two sub-channels leaves FAILED on its own. -/
theorem getSub_leavesFailed_both {q : Nat} (hq : q < 2) (d : Nat) (x : UslConn) :
    getSub ([0, 1].foldl (leavesFailed d) x) q = if (getSub x q).state = 3 then intoSync d (getSub x q) else getSub x q := by
  rw [List.foldl_cons, List.foldl_cons, List.foldl_nil]
  obtain rfl | rfl : q = 0 ∨ q = 1 := by omega
  · rw [getSub_leavesFailed_other (by decide), getSub_leavesFailed_self]
  · rw [getSub_leavesFailed_self, getSub_leavesFailed_other (by decide)]

end WithSub

/-! One connection's record. -/

/-- From `a` to `b` connection `c` comes to be `x`, no other connection changes, and outside the safety engine nothing changes but what events leave. -/
structure ConnBecomes (c : Nat) (x : UslConn) (a b : Block) : Prop where
  conn : connAt b c = x
  others : ∀ e, e ≠ c → connAt b e = connAt a e
  frame : calm b = calm { a with saf := b.saf }

theorem cnPeriod_congr {a b : Block} (h : b.glb = a.glb) (c : Nat) : cnPeriod b c = cnPeriod a c := by
  simp only [cnPeriod, uslWord, cfgW, h]

namespace ConnBecomes

variable {c : Nat} {x : UslConn} {a b : Block}

theorem refl (c : Nat) (b : Block) : ConnBecomes c (connAt b c) b b := ⟨rfl, fun _ _ => rfl, rfl⟩

theorem tb (h : ConnBecomes c x a b) : b.tb = a.tb := (tb_of_calm h.frame :)

theorem period (h : ConnBecomes c x a b) : cnPeriod b c = cnPeriod a c := cnPeriod_congr (glb_of_calm h.frame :) c

theorem spared (h : ConnBecomes c x a b) : Spared { a with saf := b.saf } b := spared_of_calm h.frame

theorem quiet_eq (h : ConnBecomes c x a b) : quiet b = { quiet a with saf := b.saf } := quiet_of_calm h.frame

/-- A further change within the safety engine that leaves the connections as they are. -/
theorem modSaf (h : ConnBecomes c x a b) {f : Saf → Saf} (hf : (f b.saf).conns = b.saf.conns) : ConnBecomes c x a (modSaf f b) := by
  have hconns (e : Nat) : connAt (Machine.modSaf f b) e = connAt b e := by rw [connAt, modSaf_saf, hf, connAt]
  exact ⟨(hconns c).trans h.conn, fun e he => (hconns e).trans (h.others e he), calm_setSaf h.frame (f b.saf)⟩

theorem modConn (h : ConnBecomes c x a b) (f : UslConn → UslConn) : ConnBecomes c (f x) a (modConn c f b) where
  conn := by rw [connAt_modConn, if_pos rfl, h.conn]
  others e he := by rw [connAt_modConn, if_neg he, h.others e he]
  frame := calm_setSaf h.frame _

theorem modSub (h : ConnBecomes c x a b) (s : Nat) (f : UslSub → UslSub) : ConnBecomes c (withSub s f x) a (modSub c s f b) := h.modConn _

theorem of_calm (h : ConnBecomes c x a b) {d : Block} (hd : calm d = calm b) : ConnBecomes c x a d := by
  have hconns (e : Nat) : connAt d e = connAt b e := by rw [connAt, saf_of_calm hd, connAt]
  refine ⟨(hconns c).trans h.conn, fun e he => (hconns e).trans (h.others e he), ?_⟩
  rw [saf_of_calm hd]
  exact hd.trans h.frame

theorem fire (h : ConnBecomes c x a b) (src : Nat) (detail : Word) : ConnBecomes c x a (fire src detail b) := h.of_calm (calm_fire ..)

/-- A sub-channel enters SYNC at a tick. -/
theorem intoSync (h : ConnBecomes c x a b) (s cause tick : Nat) :
    ConnBecomes c (withSub s (intoSync (tick + cnPeriod a c)) x) a (setSub c s 1 cause tick b) := by
  rw [← h.period]
  exact (h.modSub s _).of_calm (calm_fireIf ..)

end ConnBecomes

/-! The corruption monitor and the watchdog (R228, R229). -/

/-- The first failure that the monitor sees is only kept. -/
theorem uslCorrupt_first {c tick : Nat} {b : Block} (h : (connAt b c).corruptAt = none) :
    uslCorrupt c tick b = modConn c (fun x => { x with corruptAt := some tick }) b := by
  simp [uslCorrupt, h]

/-- The watchdog of a sub-channel expires: SYNC from its deadline on, and TIMEOUTS counts. -/
theorem uslExpire_becomes (c s : Nat) (b : Block) :
    ConnBecomes c (withSub s (intoSync ((getSub (connAt b c) s).deadline + cnPeriod b c))
      { connAt b c with timeouts := sat8 (connAt b c).timeouts 1 }) b (uslExpire c s b) :=
  ((ConnBecomes.refl c b).modConn fun x => { x with timeouts := sat8 x.timeouts 1 }).intoSync s 2 _

theorem uslWatchdog_expires {c s : Nat} {b : Block} (hfreeze : b.freeze = none)
    (hstate : (getSub (connAt b c) s).state = 1 ∨ (getSub (connAt b c) s).state = 2) (hdue : (getSub (connAt b c) s).deadline ≤ b.tb) :
    uslWatchdog c s b = uslExpire c s b := by
  refine if_neg ?_
  rw [hfreeze]
  simp only [Option.isSome_none, Bool.false_eq_true, false_or]
  omega

/-- A sub-channel in FAILED goes to SYNC, as `uslFailedEnd` sends it there. -/
def endFailed (c : Nat) (b : Block) (s : Nat) : Block := if (getSub (connAt b c) s).state = 3 then setSub c s 1 5 b.tb b else b

theorem ConnBecomes.endFailed {c : Nat} {x : UslConn} {a b : Block} (h : ConnBecomes c x a b) (s : Nat) :
    ConnBecomes c (leavesFailed (a.tb + cnPeriod a c) x s) a (endFailed c b s) := by
  rw [Laws.endFailed, h.conn, leavesFailed]
  split
  · rw [← h.tb]
    exact h.intoSync s 5 b.tb
  · exact h

theorem uslFailedEnd_becomes {c t : Nat} {b : Block} (hfreeze : b.freeze = none) (hat : (connAt b c).corruptAt = some t)
    (hpast : t + cnCorrupt b c ≤ b.tb) :
    ConnBecomes c ([0, 1].foldl (leavesFailed (b.tb + cnPeriod b c)) (connAt b c)) b (uslFailedEnd c b) := by
  have hgoes : uslFailedEnd c b = [0, 1].foldl (endFailed c) b := by
    unfold uslFailedEnd
    rw [hat]
    exact if_neg (by simpa [hfreeze] using hpast)
  rw [hgoes]
  exact ((ConnBecomes.refl c b).endFailed 0).endFailed 1

/-! Receiving (R222 to R227, Table 7.4). -/

/-- A connection that receives (R212): enabled by the bank in force, and no transmit connection. -/
structure Receives (b : Block) (c : Nat) : Prop where
  active : b.glb.active = true
  enabled : cnEn b c = true
  rx : cnTx b c = false
  inside : c < 24

/-- The sub-channel whose identity gives a frame's CRC (R222). -/
def crcFits (b : Block) (c : Nat) (bytes : List Byte) : Option Nat :=
  [0, 1].find? fun i => subId b c i != 0 && uslCrc (subId b c i) (bytes.take 24) == w32 (leAt bytes 24 4)

/-- A frame passes checks 1 to 4 of Table 7.4 for sub-channel `s`, at a vessel time. -/
structure Passes (b : Block) (c s vt : Nat) (bytes : List Byte) : Prop where
  length : bytes.length = 28
  format : leAt bytes 0 1 = 0x11
  crc : crcFits b c bytes = some s
  ident : (uslParse bytes).connId = subId b c s
  notEarly : -(cnSkew b c * 100000 : Int) ≤ uslAge vt (uslParse bytes)
  notLate : uslAge vt (uslParse bytes) < (cnAgeMax b c * 1000000 : Int)

section Receive

variable {b : Block} {c s tick vt : Nat} {bytes : List Byte}

theorem Receives.goes (h : Receives b c) : ¬ (!b.glb.active || !cnEn b c || cnTx b c || decide (24 ≤ c)) = true := by
  simp [h.active, h.enabled, h.rx, Nat.not_le.mpr h.inside]

/-- Outside a freeze window a frame is checked at the tick at which it arrives (R230). -/
theorem uslReceive_live (h : b.freeze = none) : uslReceive c bytes b = uslCheck c bytes b.tb b.tim.vt b.tim.vtValid b := if_neg (by simp [h])

/-- What passes checks 1 to 4 comes to the check of its SEQ. -/
theorem uslCheck_passes (hrx : Receives b c) (h : Passes b c s vt bytes) :
    uslCheck c bytes tick vt true b = uslSeq c s tick (uslParse bytes) b := by
  have hformat : ¬ (bytes.length ≠ 28 ∨ leAt bytes 0 1 ≠ 0x11) := by simp [h.length, h.format]
  unfold uslCheck
  rw [if_neg hrx.goes]
  refine (if_neg hformat).trans ?_
  have hcrc := h.crc
  unfold crcFits at hcrc
  simp only [hcrc]
  simp [h.ident, h.notEarly, h.notLate]

/-- A frame that no identity's CRC fits counts in ERR_CRC and goes to the corruption monitor. -/
theorem uslCheck_noCrc (hrx : Receives b c) (hlength : bytes.length = 28) (hformat : leAt bytes 0 1 = 0x11) (hcrc : crcFits b c bytes = none)
    (vtValid : Bool) : uslCheck c bytes tick vt vtValid b =
      uslCorrupt c tick (fire 65 (regOf [(0, 5, c), (8, 1, 0)]) (modConn c (fun x => { x with errCrc := sat8 x.errCrc 1 }) b)) := by
  have hgood : ¬ (bytes.length ≠ 28 ∨ leAt bytes 0 1 ≠ 0x11) := by simp [hlength, hformat]
  unfold uslCheck
  rw [if_neg hrx.goes]
  refine (if_neg hgood).trans ?_
  unfold crcFits at hcrc
  simp only [hcrc]
  rfl

/-- The first frame with a wrong CRC is counted and kept by the monitor. -/
theorem uslCheck_corrupt (hrx : Receives b c) (hlength : bytes.length = 28) (hformat : leAt bytes 0 1 = 0x11)
    (hcrc : crcFits b c bytes = none) (hfirst : (connAt b c).corruptAt = none) (vtValid : Bool) :
    ConnBecomes c { connAt b c with errCrc := sat8 (connAt b c).errCrc 1, corruptAt := some tick } b (uslCheck c bytes tick vt vtValid b) := by
  rw [uslCheck_noCrc hrx hlength hformat hcrc]
  have hfired := ((ConnBecomes.refl c b).modConn fun x => { x with errCrc := sat8 x.errCrc 1 }).fire 65 (regOf [(0, 5, c), (8, 1, 0)])
  rw [uslCorrupt_first (by rw [hfired.conn]; exact hfirst)]
  exact hfired.modConn fun x => { x with corruptAt := some tick }

/-- No watchdog interval is over before the deadline. -/
theorem uslOverdue_early (h : tick < (getSub (connAt b c) s).deadline) : uslOverdue c s tick b = b := if_pos (.inr h)

/-- In RUN a frame within the sequence window is accepted, and the frames before it that are missing count in LOST (R227). -/
theorem uslSeq_window {f : UslFrame} {d : Nat} (hd : (f.seq + 0x10000 - (getSub (connAt b c) s).seq) % 0x10000 = d)
    (hrun : (getSub (connAt b c) s).state = 2) (hlive : tick < (getSub (connAt b c) s).deadline) (hpos : 0 < d) (hwin : d ≤ cnSeqWin b c) :
    uslSeq c s tick f b = uslAccept c s tick f (modConn c (fun y => { y with lost := sat16 y.lost (d - 1) }) b) := by
  simp [uslSeq, uslOverdue_early hlive, hrun, hd, Nat.ne_of_gt hpos, hwin]

/-- An accepted frame stands in its sub-channel, and the inputs take its reset demands (R228, R232). -/
theorem ConnBecomes.uslAccept {x : UslConn} {a : Block} (h : ConnBecomes c x a b) (s tick : Nat) (f : UslFrame) :
    ConnBecomes c { withSub s (takesFrame f (tick + cnPeriod a c)) x with lastSeq := f.seq } a (uslAccept c s tick f b) := by
  rw [← h.period]
  refine List.foldlRecOn _ _ ((h.modSub s _).modConn fun x => { x with lastSeq := f.seq }) fun d hd k _ => ?_
  dsimp only
  split
  · exact (hd.modSaf rfl).fire ..
  · exact hd

end Receive

/-! Sending (R217 to R221). -/

/-- A transmit connection that has sent a frame (R217, Table 7.2). -/
def sentNext (x : UslConn) : UslConn :=
  { x with lastSeq := x.txSeq, txSeq := (x.txSeq + 1) % 65536, sent := true, resetLeft := tmap 0 (fun n => n - 1) x.resetLeft }

/-- The stamp of a frame (R220): free values while vessel time is invalid (log 90). -/
def stamp (b : Block) : Word × Word :=
  if b.tim.vtValid then (w32 (clkSec b.tim.vt), w32 (clkNs b.tim.vt)) else ((takeFree b).1, (takeFree (takeFree b).2).1)

/-- A frame with a stamp (Table 7.1). -/
def frameBytes (b : Block) (c : Nat) (sec ns : Word) : List Byte :=
  let body := leBytes 1 0x11 ++ leBytes 1 (b.ptn.role + 4 * b1 (b.saf.engine == 2)) ++ leBytes 2 (connAt b c).txSeq ++
    wordBytes (cnOwnId b c) ++ wordBytes sec ++ wordBytes ns ++ wordBytes (uslRunWord b) ++ wordBytes (cnResetWord b c)
  body ++ wordBytes (uslCrc (cnOwnId b c) body)

/-- The trailer of the frames that a network sends next: none on a network of one LAN. -/
def nextTrailer (b : Block) (n : Nat) : Option Nat := if netSingle b n then none else some (netAt b n).seqNr

/-- A Safe Layer frame leaves on every LAN of a network that carries frames. -/
def ethSends (c : Nat) (bytes : List Byte) (b : Block) : Block :=
  { b with out := ((lansUp b (cnPort b c)).map fun l => .uslEth (cnPort b c) l c (nextTrailer b (cnPort b c)) bytes).reverse ++ b.out }

/-- A frame of a connection goes to its transport (R212): a CAN object, the LANs of a network, or both partner links. -/
def toTransport (c : Nat) (bytes : List Byte) (b : Block) : Block :=
  if cnBus b c = 1 then canSendUsl (128 * cnPort b c + cnObj b c) bytes b
  else if cnBus b c = 2 then
    if netSingle b (cnPort b c) then ethSends c bytes b
    else modNet (cnPort b c) (fun x => { x with seqNr := (x.seqNr + 1) % 65536 }) (ethSends c bytes b)
  else
    let m := leBytes 1 (cnObj b c) ++ [0, 0, 0] ++ bytes
    sendMsg 1 3 (msgFlags b) m (sendMsg 0 3 (msgFlags b) m b)

section Send

variable {c : Nat} {b : Block}

theorem uslFrame_eq (c : Nat) (b : Block) :
    uslFrame c b = (frameBytes b c (stamp b).1 (stamp b).2, { b with free := if b.tim.vtValid then b.free else b.free + 2 }) := by
  unfold uslFrame stamp
  by_cases hvalid : b.tim.vtValid = true
  · simp only [if_pos hvalid]
    rfl
  · simp only [if_neg hvalid]
    rfl

/-- Building a frame takes free values at most (R220, log 90). -/
theorem uslFrame_block (c : Nat) (b : Block) : (uslFrame c b).2 = { b with free := (uslFrame c b).2.free } := by rw [uslFrame_eq]

/-- Nothing of a connection but its SEQ and its reset bits goes into a frame. -/
theorem uslFrame_modConn {f : UslConn → UslConn} (hseq : (f (connAt b c)).txSeq = (connAt b c).txSeq)
    (hreset : (f (connAt b c)).resetLeft = (connAt b c).resetLeft) : (uslFrame c (modConn c f b)).1 = (uslFrame c b).1 := by
  have hown : connAt (modConn c f b) c = f (connAt b c) := (connAt_modConn ..).trans (if_pos rfl)
  have hbytes (sec ns : Word) : frameBytes (modConn c f b) c sec ns = frameBytes b c sec ns := by
    rw [frameBytes, frameBytes, cnResetWord, cnResetWord, hown, hseq, hreset]
    rfl
  rw [uslFrame_eq, uslFrame_eq, hbytes]
  rfl

theorem pendFrame_saf (o : Nat) (f : CanFrame) (b : Block) : (pendFrame o f b).saf = b.saf := by
  unfold pendFrame
  split
  · rfl
  · split <;> rfl

theorem canSendUsl_saf (o : Nat) (bytes : List Byte) (b : Block) : (canSendUsl o bytes b).saf = b.saf := by
  unfold canSendUsl
  split
  · rfl
  · exact pendFrame_saf ..

theorem sendMsg_saf (k type flags : Nat) (payload : List Byte) (b : Block) : (sendMsg k type flags payload b).saf = b.saf := by
  unfold sendMsg
  split <;> rfl

theorem toTransport_saf (c : Nat) (bytes : List Byte) (b : Block) : (toTransport c bytes b).saf = b.saf := by
  unfold toTransport
  split
  case isTrue => exact canSendUsl_saf ..
  case isFalse =>
    split
    case isTrue => split <;> rfl
    case isFalse => exact (sendMsg_saf ..).trans (sendMsg_saf ..)

/-- On Ethernet a frame leaves on every LAN that carries frames. -/
theorem toTransport_ethernet (hbus : cnBus b c = 2) (bytes : List Byte) {l : Nat} (hl : l ∈ lansUp b (cnPort b c)) :
    ∃ q, .uslEth (cnPort b c) l c q bytes ∈ (toTransport c bytes b).out := by
  have hout : (toTransport c bytes b).out = (ethSends c bytes b).out := by
    rw [toTransport, if_neg (by omega), if_pos hbus]
    split <;> rfl
  rw [hout]
  exact ⟨_, List.mem_append_left _ (List.mem_reverse.mpr (List.mem_map_of_mem hl))⟩

theorem uslSend_ready (h : cnReady b c = true) :
    uslSend c b = toTransport c (uslFrame c b).1 (modConn c sentNext (uslFrame c b).2) := by
  unfold uslSend toTransport ethSends
  rw [if_neg (by simp [h])]
  dsimp only
  rw [foldl_emit]
  rfl

/-- From `a` to `b` transmit connection `c` sends its next frame: the record follows from `x`, no other connection changes, and on Ethernet the
frame that `a` builds leaves on every LAN that carries frames. -/
structure SendsNext (c : Nat) (x : UslConn) (a b : Block) : Prop where
  conn : connAt b c = sentNext x
  others : ∀ e, e ≠ c → connAt b e = connAt a e
  ethernet : cnBus a c = 2 → ∀ l ∈ lansUp a (cnPort a c), ∃ q, .uslEth (cnPort a c) l c q (uslFrame c a).1 ∈ b.out

theorem uslSend_sends (h : cnReady b c = true) : SendsNext c (connAt b c) b (uslSend c b) := by
  have hconn (e : Nat) : connAt (uslSend c b) e = if e = c then sentNext (connAt b c) else connAt b e := by
    rw [uslSend_ready h, connAt, toTransport_saf, uslFrame_block]
    exact connAt_modConn c e sentNext b
  refine ⟨(hconn c).trans (if_pos rfl), fun e he => (hconn e).trans (if_neg he), fun hbus l hl => ?_⟩
  rw [uslSend_ready h, uslFrame_block]
  exact toTransport_ethernet (b := modConn c sentNext { b with free := (uslFrame c b).2.free }) hbus _ hl

/-- At a multiple of its period a connection sends, unless an event frame of this tick has gone (R219). -/
theorem uslPeriodicSend_due (hc : c < 24) (hsends : cnSends b c = true) (hperiod : cnPeriod b c ≠ 0) (htick : b.tb % cnPeriod b c = 0)
    (hdelayed : (connAt b c).delayed = false) (hevent : (connAt b c).lastEvent ≠ some b.tb) : uslPeriodicSend c b = uslSend c b := by
  simp [uslPeriodicSend, Nat.not_le.mpr hc, hsends, hperiod, htick, hdelayed, hevent]

/-- A connection whose delayed event frame goes out now (R219). -/
def sendsDelayed (tick : Nat) (x : UslConn) : UslConn := { x with delayed := false, lastEvent := some tick }

theorem uslHoldoffEnd_over {t : Nat} (hc : c < 24) (hdelayed : (connAt b c).delayed = true) (hevent : (connAt b c).lastEvent = some t)
    (hover : t + 10000 ≤ b.tb) (hsends : cnSends b c = true) : uslHoldoffEnd c b = uslSend c (modConn c (sendsDelayed b.tb) b) := by
  simp only [uslHoldoffEnd, hevent]
  exact (if_neg (by simp [Nat.not_le.mpr hc, hdelayed, hover])).trans (if_pos hsends)

theorem uslHoldoffEnd_sends (hready : cnReady b c = true) :
    SendsNext c (sendsDelayed b.tb (connAt b c)) b (uslSend c (modConn c (sendsDelayed b.tb) b)) := by
  obtain ⟨hconn, hothers, hethernet⟩ := uslSend_sends (b := modConn c (sendsDelayed b.tb) b) hready
  have hown : connAt (modConn c (sendsDelayed b.tb) b) c = sendsDelayed b.tb (connAt b c) := (connAt_modConn ..).trans (if_pos rfl)
  refine ⟨hconn.trans (by rw [hown]), fun e he => (hothers e he).trans ((connAt_modConn ..).trans (if_neg he)), fun hbus l hl => ?_⟩
  obtain ⟨q, hq⟩ := hethernet hbus l hl
  rw [uslFrame_modConn rfl rfl] at hq
  exact ⟨q, hq⟩

end Send

/-- Settles O41: reception by `uslSeq_window` with `ConnBecomes.uslAccept` and by `uslCheck_corrupt`, the watchdog by `uslExpire_becomes`, the
end of CORRUPT_WIN by `uslFailedEnd_becomes`, and sending by `uslSend_sends` and `uslHoldoffEnd_sends`. -/
theorem safeLayer : Obligations.SafeLayer := by
  unfold Obligations.SafeLayer
  intro c q t bytes s hc hq hon x sub f d a crc others sends
  have hside : q = 0 ↔ 1 - q ≠ 0 := by omega
  have hsent {y : UslConn} {b : Block} (h : SendsNext c y s.blk b) (hseq : y.txSeq = x.txSeq) (ha : y.a = x.a) (hb : y.b = x.b) : sends b := by
    obtain ⟨hconn, hothers, hethernet⟩ := h
    dsimp only [sends]
    rw [hconn, ← hseq, ← ha, ← hb]
    exact ⟨rfl, rfl, rfl, rfl, rfl, hothers, hethernet⟩
  refine ⟨fun hfreeze => does_act rfl (decide_eq_true hc) hon ?waits,
    fun hfreeze hactive hen htx => ⟨fun hlength hformat hcrc hid hvt hearly hlate hrun hlive hpos hwin =>
      does_act rfl (decide_eq_true hc) hon ?accepts, fun hlength hformat hcrc hfirst => does_act rfl (decide_eq_true hc) hon ?corrupt⟩,
    fun hfreeze hstate hdue => does_act rfl (by simp [Instr.ok, hc, hq]) hon ?watchdog,
    fun hfreeze hat hpast => does_act rfl (decide_eq_true hc) hon ?failed,
    fun hsends hready hperiod htick hdelayed hevent => does_act rfl (decide_eq_true hc) hon ?periodic,
    fun hdelayed hevent hover hsends hready => does_act rfl (decide_eq_true hc) hon ?delayed⟩
  case waits => exact if_pos hfreeze
  case accepts =>
    have hrx : Receives s.blk c := ⟨hactive, hen, htx, hc⟩
    rw [uslReceive_live hfreeze, hvt, uslCheck_passes hrx ⟨hlength, hformat, hcrc, hid, hearly, hlate⟩, uslSeq_window rfl hrun hlive hpos hwin]
    have h := ((ConnBecomes.refl c s.blk).modConn fun y => { y with lost := sat16 y.lost (d - 1) }).uslAccept q s.blk.tb f
    rw [h.conn]
    exact ⟨getSub_withSub_self, getSub_withSub_other hside, withSub_lost, rfl, h.others, h.quiet_eq⟩
  case corrupt =>
    rw [uslReceive_live hfreeze]
    have h := uslCheck_corrupt ⟨hactive, hen, htx, hc⟩ hlength hformat hcrc hfirst (tick := s.blk.tb) (vt := s.blk.tim.vt) s.blk.tim.vtValid
    exact ⟨h.conn, h.others, h.spared⟩
  case watchdog =>
    rw [uslWatchdog_expires hfreeze hstate hdue]
    have h := uslExpire_becomes c q s.blk
    rw [h.conn]
    exact ⟨getSub_withSub_self, getSub_withSub_other hside, withSub_timeouts, h.others, h.spared⟩
  case failed =>
    have h := uslFailedEnd_becomes hfreeze hat hpast
    rw [h.conn, getSub_leavesFailed_both hq]
    refine ⟨?_, fun hstays => if_neg hstays, h.others, h.spared⟩
    split <;> rfl
  case periodic =>
    rw [uslPeriodicSend_due hc hsends hperiod htick hdelayed hevent]
    exact hsent (uslSend_sends hready) rfl rfl rfl
  case delayed =>
    rw [uslHoldoffEnd_over hc hdelayed hevent hover hsends]
    have h := uslHoldoffEnd_sends hready
    refine ⟨hsent h rfl rfl rfl, ?_⟩
    rw [h.conn]
    exact ⟨rfl, rfl⟩

end Sys2Proof.Laws

namespace Sys2Proof.Laws

open Sys2Proof.Machine Sys2Proof.Safety

section View

variable {β : Type} (g : Tab Target → Dp → β)

/-- What the operations of the DP engine leave alone outside it: the count, the configuration, the growth monitor and the fault collector but for
its latches, with a part `g` of the targets and of the engine's own record. -/
@[irreducible] def dpView (b : Block) : Nat × Glb × Growth × Flt × β :=
  (b.tb, b.glb, b.growth, { b.flt with latches := [] }, g b.rng.targets b.dp)

variable {g} {b c : Block}

theorem dpView_upd (ht : c.tb = b.tb) (hglb : c.glb = b.glb) (hgrowth : c.growth = b.growth)
    (hflt : { c.flt with latches := [] } = { b.flt with latches := [] }) (hg : g c.rng.targets c.dp = g b.rng.targets b.dp) :
    dpView g c = dpView g b := by
  unfold dpView
  rw [ht, hglb, hgrowth, hflt, hg]

theorem dpView_calm (h : calm c = calm b) : dpView g c = dpView g b := by
  have hflt : { c.flt with latches := [] } = { b.flt with latches := [] } :=
    (congrArg (fun x : Flt => { x with latches := [] }) (spared_of_calm h).flt :)
  exact dpView_upd (tb_of_calm h) (glb_of_calm h) (growth_of_calm h) hflt (by rw [targets_of_calm h, dp_of_calm h])

theorem dpView_modDp {f : Dp → Dp} (hf : (fun t d => g t (f d)) = g) : dpView g (modDp f b) = dpView g b :=
  dpView_upd rfl rfl rfl rfl (congrFun₂ hf ..)

theorem dpView_ite {p : Prop} {_ : Decidable p} {x : Block} (hb : dpView g b = dpView g x) (hc : dpView g c = dpView g x) :
    dpView g (if p then b else c) = dpView g x := by
  split
  · exact hb
  · exact hc

theorem dpView_when {p : Prop} {_ : Decidable p} (hc : dpView g c = dpView g b) : dpView g (if p then c else b) = dpView g b :=
  dpView_ite hc rfl

theorem dpView_refuse (n idx st : Nat) (b : Block) : dpView g (refuse n idx st b) = dpView g b := dpView_upd rfl rfl rfl rfl rfl

theorem dpView_completeWith (n idx st : Nat) (v : Word) (b : Block) : dpView g (completeWith n idx st v b) = dpView g b :=
  dpView_upd rfl rfl rfl rfl rfl

theorem part_of_dpView (h : dpView g c = dpView g b) : g c.rng.targets c.dp = g b.rng.targets b.dp := by
  unfold dpView at h
  exact congrArg (fun x => x.2.2.2.2) h

theorem tb_of_dpView (h : dpView g c = dpView g b) : c.tb = b.tb := by
  unfold dpView at h
  exact congrArg (fun x => x.1) h

theorem glb_of_dpView (h : dpView g c = dpView g b) : c.glb = b.glb := by
  unfold dpView at h
  exact congrArg (fun x => x.2.1) h

theorem growth_of_dpView (h : dpView g c = dpView g b) : c.growth = b.growth := by
  unfold dpView at h
  exact congrArg (fun x => x.2.2.1) h

theorem fenced_of_dpView (h : dpView g c = dpView g b) : c.flt.fenced = b.flt.fenced := by
  unfold dpView at h
  exact (congrArg (fun x => x.2.2.2.1.fenced) h :)

/-! Operations of the DP engine that a part of its record may be blind to. -/

theorem foldl_keeps_snd {α γ δ : Type} {h : Block → δ} {f : γ × Block → α → γ × Block} (hf : ∀ p a, h (f p a).2 = h p.2)
    (l : List α) (p : γ × Block) : h (l.foldl f p).2 = h p.2 := by
  induction l generalizing p with
  | nil => rfl
  | cons a l ih => exact (ih _).trans (hf _ _)

/-- What one element of a list brings about, and no other takes back, stands after a fold over it. -/
theorem foldl_reaches {α : Type} [DecidableEq α] {f : Block → α → Block} {I P : Block → Prop} {n : α} (hI : ∀ b a, I b → I (f b a))
    (hP : ∀ b a, I b → a ≠ n → P b → P (f b a)) (hn : ∀ b, I b → P (f b n)) (l : List α) (b : Block) (hb : I b) (h : P b ∨ n ∈ l) :
    P (l.foldl f b) := by
  induction l generalizing b with
  | nil => exact h.resolve_right List.not_mem_nil
  | cons a l ih =>
    refine ih _ (hI _ _ hb) ?_
    by_cases e : a = n
    · exact .inl (e ▸ hn b hb)
    · exact h.imp (hP b a hb e) fun hmem => (List.mem_cons.mp hmem).resolve_left (Ne.symm e)

section Slots

variable (hslots : ∀ t d x, g t { d with slots := x } = g t d)
include hslots

theorem dpView_modDpSlot (s : Nat) (f : DpSlot → DpSlot) (b : Block) : dpView g (modDpSlot s f b) = dpView g b :=
  dpView_modDp (funext₂ fun _ _ => hslots ..)

theorem dpView_slotShow (s : Nat) (b : Block) : dpView g (slotShow s b) = dpView g b :=
  (dpView_calm (calm_fireIf ..)).trans (dpView_modDpSlot hslots ..)

theorem dpView_voteCounts (l : List Nat) (v : VoteOut) (b : Block) : dpView g (voteCounts l v b) = dpView g b := by
  refine foldl_keeps (fun b s => ?_) l b
  exact dpView_ite ((dpView_slotShow hslots ..).trans (dpView_modDpSlot hslots ..)) (dpView_when (dpView_modDpSlot hslots ..))

theorem dpView_classSlot (at' s : Nat) (b : Block) : dpView g (classSlot at' s b) = dpView g b := dpView_modDpSlot hslots ..

theorem dpView_maskSlot (at' s : Nat) (b : Block) : dpView g (maskSlot at' s b) = dpView g b :=
  (dpView_modDpSlot hslots ..).trans ((dpView_slotShow hslots ..).trans (dpView_modDpSlot hslots ..))

theorem dpView_takePositions (at' : Nat) (t : Int) (voters : List Nat) (v : VoteOut) (b : Block) :
    dpView g (takePositions at' t voters v b).2 = dpView g b := by
  refine foldl_keeps_snd (fun p s => ?_) _ _
  dsimp only
  split
  · rfl
  · split
    · rfl
    · split
      · exact (dpView_modDpSlot hslots ..).trans (dpView_modDpSlot hslots ..)
      · exact (dpView_modDpSlot hslots ..).trans (dpView_modDpSlot hslots ..)

theorem dpView_alignRefs (t : Int) (ins vs : List PosIn) (v : VoteOut) (b : Block) : dpView g (alignRefs t ins vs v b).2 = dpView g b := by
  refine foldl_keeps_snd (fun p x => ?_) _ _
  dsimp only
  split
  · exact dpView_modDpSlot hslots ..
  · rfl

theorem dpView_dropOlder (b : Block) : dpView g (dropOlder b) = dpView g b := foldl_keeps (fun _ _ => dpView_modDpSlot hslots ..) _ _

end Slots

end View

theorem dpView_modTarget {β : Type} {g : Tab Target → Dp → β} (htargets : ∀ t u d, g t d = g u d) (k : Nat)
    (f : Target → Target) (b : Block) : dpView g (modTarget k f b) = dpView g b :=
  dpView_upd rfl rfl rfl rfl (htargets ..)

/-! Intake. -/

/-- What intake leaves alone until it stores its record: the targets, and all of the engine's record but the sensors' slots. -/
def besidesSlots (t : Tab Target) (d : Dp) : Tab Target × Dp := (t, { d with slots := [] })

theorem besidesSlots_slots (t : Tab Target) (d : Dp) (x : Tab DpSlot) : besidesSlots t { d with slots := x } = besidesSlots t d := rfl

theorem formRecord_stores (at' : Nat) (b : Block) : ∃ r c sat, ∃ good : Dp → Option Nat, dpView besidesSlots c = dpView besidesSlots b ∧
    r.outTick = at' ∧ r.mode = b.dp.mode ∧ formRecord at' b = modDp (fun d => { d with
      rec0 := d.rec1, rec1 := some r, records := wrap32 d.records 1, satNow := d.satNow || sat, goodSince := good d }) c := by
  unfold formRecord
  extract_lets prev t vb
  split
  next hv hvote hheading =>
  extract_lets voters hconf voted lead att
  split
  next ins taken htaken =>
  extract_lets vs pn pe
  split
  next pv mn me hposition =>
  extract_lets counted pconf0 aconf pconf1 pconf
  split
  next ins' aligned haligned =>
  extract_lets wind drafts spent kept
  have htaken' : dpView besidesSlots taken = dpView besidesSlots b := by
    have h := dpView_takePositions besidesSlots_slots at' t voters hvote voted
    rw [htaken] at h
    exact h.trans (dpView_voteCounts besidesSlots_slots ..)
  have haligned' : dpView besidesSlots aligned = dpView besidesSlots b := by
    have h := dpView_alignRefs besidesSlots_slots t ins vs pv counted
    rw [haligned] at h
    exact h.trans ((dpView_voteCounts besidesSlots_slots ..).trans htaken')
  have hspent : dpView besidesSlots spent = dpView besidesSlots b := by
    refine (foldl_keeps (fun c s => ?_) _ _).trans haligned'
    split
    · exact dpView_when (dpView_modDpSlot besidesSlots_slots ..)
    · rfl
  have hkept : dpView besidesSlots kept = dpView besidesSlots b := dpView_ite ((dpView_dropOlder besidesSlots_slots ..).trans hspent) hspent
  refine ⟨_, _, _, _, ?_, rfl, ?_, rfl⟩
  · exact (dpView_calm ((calm_fireIf ..).trans ((calm_fireIf ..).trans (calm_fireIf ..)))).trans hkept
  · exact (congrArg (fun x : Tab Target × Dp => x.2.mode) (part_of_dpView hkept) :)

theorem intake_stores (at' : Nat) (b : Block) : ∃ r c sat, ∃ good : Dp → Option Nat, dpView besidesSlots c = dpView besidesSlots b ∧
    r.outTick = at' ∧ r.mode = b.dp.mode ∧ intake at' b = modDp (fun d => { d with
      rec0 := d.rec1, rec1 := some r, records := wrap32 d.records 1, satNow := d.satNow || sat, goodSince := good d }) c := by
  have hmasked : dpView besidesSlots ((slotsOf b 0 28).foldl (fun b s => maskSlot at' s (classSlot at' s b)) b) = dpView besidesSlots b :=
    foldl_keeps (fun _ _ => (dpView_maskSlot besidesSlots_slots ..).trans (dpView_classSlot besidesSlots_slots ..)) _ _
  obtain ⟨r, c, sat, good, hc, htick, hmode, hform⟩ :=
    formRecord_stores at' ((slotsOf b 0 28).foldl (fun b s => maskSlot at' s (classSlot at' s b)) b)
  exact ⟨r, c, sat, good, hc.trans hmasked, htick,
    hmode.trans (congrArg (fun x : Tab Target × Dp => x.2.mode) (part_of_dpView hmasked) :), hform⟩

/-! The estimator. -/

/-- What the estimator leaves alone: the record that it reads, and the cycle. -/
def besidesEstimate (_ : Tab Target) (d : Dp) : Option DpRecord × DpCycle := (d.rec1, d.cycle)

theorem dpView_windStep (r : DpRecord) (b : Block) : dpView besidesEstimate (windStep r b) = dpView besidesEstimate b := by
  unfold windStep
  split
  · exact dpView_modDp rfl
  · split
    · exact dpView_modDp rfl
    · exact dpView_modDp rfl

theorem dpView_originMove (b : Block) : dpView besidesEstimate (originMove b) = dpView besidesEstimate b := by
  unfold originMove
  split
  · rfl
  · exact (dpView_modTarget (fun _ _ _ => rfl) ..).trans ((dpView_modTarget (fun _ _ _ => rfl) ..).trans (dpView_modDp rfl))

theorem dpView_setEst (v : Nat) (b : Block) : dpView besidesEstimate (setEst v b) = dpView besidesEstimate b := by
  unfold setEst
  exact dpView_ite rfl ((dpView_calm (calm_fire ..)).trans (dpView_modDp rfl))

theorem dpView_drStep (both hdg : Bool) (b : Block) : dpView besidesEstimate (drStep both hdg b) = dpView besidesEstimate b :=
  (dpView_setEst ..).trans (dpView_modDp rfl)

theorem dpView_estInit (t : Nat) (pm : Machine.Num × Machine.Num × Machine.Num) (hm : Machine.Num × Machine.Num) (b : Block) :
    dpView besidesEstimate (estInit t pm hm b) = dpView besidesEstimate b :=
  (dpView_setEst ..).trans (dpView_modDp rfl)

theorem dpView_estUpdate (pm : Option (Machine.Num × Machine.Num × Machine.Num)) (hm : Option (Machine.Num × Machine.Num)) (xp : Vec' × Mat)
    (b : Block) : dpView besidesEstimate (estUpdate pm hm xp b) = dpView besidesEstimate b :=
  (dpView_calm (calm_fireIf ..)).trans ((dpView_drStep ..).trans ((dpView_calm (calm_fireIf ..)).trans (dpView_modDp rfl)))

theorem dpView_estResume (tf at' : Nat) (pm : Option (Machine.Num × Machine.Num × Machine.Num)) (hm : Option (Machine.Num × Machine.Num))
    (b : Block) : dpView besidesEstimate (estResume tf at' pm hm b) = dpView besidesEstimate b :=
  (dpView_drStep ..).trans (dpView_modDp rfl)

theorem dpView_estPredict (at' : Nat) (b : Block) : dpView besidesEstimate (estPredict at' b) = dpView besidesEstimate b := by
  unfold estPredict
  exact dpView_ite rfl (dpView_modDp rfl)

theorem dpView_estimate (r : DpRecord) (b : Block) : dpView besidesEstimate (estimate r b) = dpView besidesEstimate b := by
  unfold estimate
  extract_lets t winded pm hm moved xp estimated
  have hmoved : dpView besidesEstimate moved = dpView besidesEstimate b := (dpView_originMove ..).trans (dpView_windStep ..)
  refine (dpView_estPredict ..).trans (Eq.trans ?_ hmoved)
  unfold estimated
  clear_value pm hm
  split
  · exact dpView_estResume ..
  · split
    · split
      · exact dpView_estInit ..
      · rfl
    · exact dpView_ite (dpView_modDp rfl) ((dpView_estUpdate ..).trans (dpView_modDp rfl))

/-! DP_STATE, and what stops the thrusters (Table 10.1). -/

theorem dpView_setDpState {β : Type} {g : Tab Target → Dp → β}
    (hstate : ∀ t d v f, g t { d with state := v, fresh := f } = g t d) (v cause : Nat) (b : Block) :
    dpView g (setDpState v cause b) = dpView g b := by
  unfold setDpState
  exact dpView_ite rfl ((dpView_calm (calm_fire ..)).trans (dpView_modDp (funext₂ fun _ _ => hstate ..)))

section Targets

variable {β : Type} {g : Tab Target → Dp → β} (htargets : ∀ t u d, g t d = g u d)
include htargets

theorem dpView_dropTarget (w : Word) (src : Nat) (b : Block) : dpView g (dropTarget w src b) = dpView g b := by
  unfold dropTarget
  split
  · rfl
  · exact dpView_upd rfl rfl rfl rfl rfl
  · exact dpView_modTarget htargets ..

theorem dpView_dropThr (n : Nat) (b : Block) : dpView g (dropThr n b) = dpView g b :=
  (dpView_dropTarget htargets ..).trans (dpView_dropTarget htargets ..)

theorem dpView_dropThrs (hthrs : ∀ t d x, g t { d with thrs := x } = g t d) (b : Block) : dpView g (dropThrs b) = dpView g b :=
  foldl_keeps (fun _ _ => (dpView_modDp (funext₂ fun _ _ => hthrs ..)).trans (dpView_dropThr htargets ..)) _ _

theorem dpView_enableStep (hthrs : ∀ t d x, g t { d with thrs := x } = g t d)
    (hstate : ∀ t d v f, g t { d with state := v, fresh := f } = g t d) (cause : Nat) (b : Block) :
    dpView g (enableStep cause b) = dpView g b := by
  unfold enableStep
  refine dpView_ite (dpView_setDpState hstate ..) (dpView_ite rfl ?_)
  exact (dpView_setDpState hstate ..).trans (dpView_when (dpView_dropThrs htargets hthrs ..))

theorem dpView_setFusion (hmode : ∀ t d v a m, g t { d with mode := v, alignedFrom := a, missed := m } = g t d) (v cause : Nat) (b : Block) :
    dpView g (setFusion v cause b) = dpView g b := by
  unfold setFusion
  refine dpView_ite (dpView_modTarget htargets ..) ?_
  exact (dpView_calm (calm_fire ..)).trans ((dpView_modDp (funext₂ fun _ _ => hmode ..)).trans (dpView_modTarget htargets ..))

theorem dpView_resolveTarget (k : Nat) (b : Block) : dpView g (resolveTarget k b) = dpView g b := by
  unfold resolveTarget
  split
  · rfl
  · refine dpView_ite rfl ?_
    refine (foldl_keeps (fun _ _ => dpView_completeWith ..) _ _).trans ?_
    refine (foldl_keeps (fun _ _ => dpView_completeWith ..) _ _).trans ?_
    refine (foldl_keeps (fun _ o => ?_) _ _).trans ?_
    · split
      · exact dpView_completeWith ..
      · rfl
    · refine dpView_ite ?_ (dpView_modTarget htargets ..)
      exact (dpView_calm ((calm_fire ..).trans (calm_perf ..))).trans (dpView_upd rfl rfl rfl rfl (htargets ..))

theorem dpView_resolveEng (addr : Nat) (w : Word) (b : Block) : dpView g (resolveEng addr w b) = dpView g b := by
  unfold resolveEng
  refine dpView_ite ?_ (dpView_modTarget htargets ..)
  exact (dpView_calm ((calm_fire ..).trans (calm_perf ..))).trans (dpView_upd rfl rfl rfl rfl (htargets ..))

theorem dpView_dpInputResolve (k : Nat) (b : Block) : dpView g (dpInputResolve k b) = dpView g b :=
  (dpView_modTarget htargets ..).trans (dpView_resolveEng htargets ..)

theorem dpView_autoAlign (hmode : ∀ t d v a m, g t { d with mode := v, alignedFrom := a, missed := m } = g t d) (b : Block) :
    dpView g (autoAlign b) = dpView g b := by
  unfold autoAlign
  dsimp only
  split
  · exact dpView_when (dpView_setFusion htargets hmode ..)
  · rfl

end Targets

/-! The control law. -/

/-- What the control law leaves alone: the cycle and the estimate. -/
def besidesDemand (_ : Tab Target) (d : Dp) : DpCycle × List Word := (d.cycle, d.x)

theorem dpView_setSpTarget (i : Nat) (v : Word) (b : Block) : dpView besidesDemand (setSpTarget i v b) = dpView besidesDemand b :=
  dpView_modTarget (fun _ _ _ => rfl) ..

theorem dpView_spToEstimate (b : Block) : dpView besidesDemand (spToEstimate b) = dpView besidesDemand b :=
  (dpView_setSpTarget ..).trans ((dpView_setSpTarget ..).trans ((dpView_setSpTarget ..).trans (dpView_modDp rfl)))

theorem dpView_rampDp (b : Block) : dpView besidesDemand (rampDp b) = dpView besidesDemand b := by
  unfold rampDp
  extract_lets
  split
  next n east x hpos =>
  extract_lets
  split
  next h y hheading =>
  have hx : dpView besidesDemand x = dpView besidesDemand b := by
    refine (congrArg (fun p => dpView besidesDemand p.2.2) hpos).symm.trans ?_
    split
    · exact (dpView_setSpTarget ..).trans (dpView_setSpTarget ..)
    · split <;> rfl
  have hy : dpView besidesDemand y = dpView besidesDemand x := by
    refine (congrArg (fun p => dpView besidesDemand p.2) hheading).symm.trans ?_
    split
    · exact dpView_setSpTarget ..
    · split <;> rfl
  exact (dpView_modDp rfl).trans (hy.trans hx)

theorem dpView_demand (b : Block) : dpView besidesDemand (demand b) = dpView besidesDemand b := by
  unfold demand
  extract_lets
  split
  extract_lets
  exact (dpView_calm (calm_fireIf ..)).trans (dpView_modDp rfl)

theorem dpView_controlLaw (b : Block) : dpView besidesDemand (controlLaw b) = dpView besidesDemand b := by
  unfold controlLaw
  refine dpView_ite rfl ?_
  extract_lets orders e acted taken entry entered set formed
  have htaken : dpView besidesDemand taken = dpView besidesDemand b := by
    refine (foldl_keeps (fun _ _ => dpView_refuse ..) _ _).trans ((dpView_modDp rfl).trans ?_)
    exact dpView_ite rfl ((dpView_setSpTarget ..).trans ((dpView_setSpTarget ..).trans (dpView_setSpTarget ..)))
  have hset : dpView besidesDemand set = dpView besidesDemand b := by
    refine dpView_ite ((dpView_modDp rfl).trans ((dpView_spToEstimate ..).trans htaken)) (dpView_ite ?_ ?_)
    · exact (dpView_spToEstimate ..).trans htaken
    · exact (dpView_rampDp ..).trans htaken
  have hformed : dpView besidesDemand formed = dpView besidesDemand b := (dpView_demand ..).trans hset
  exact dpView_ite ((dpView_modDp rfl).trans hformed) hformed

/-! The intact solve. -/

/-- What the intact solve leaves alone: the targets, the estimate, DP_STATE, and the cycle but for its mark of an engine that is ACTIVE. -/
def besidesSolve (t : Tab Target) (d : Dp) : Tab Target × List Word × Nat × DpCycle := (t, d.x, d.state, { d.cycle with active := false })

theorem dpView_thrRefresh (n : Nat) (b : Block) : dpView besidesSolve (thrRefresh n b) = dpView besidesSolve b :=
  (dpView_calm (calm_fireIf ..)).trans (dpView_modDp rfl)

theorem dpView_intactSolve (b : Block) : dpView besidesSolve (intactSolve b) = dpView besidesSolve b := by
  unfold intactSolve
  extract_lets refreshed
  refine (dpView_calm (calm_fireIf ..)).trans ((dpView_modDp rfl).trans ?_)
  refine (foldl_keeps (fun _ _ => dpView_modDp rfl) _ _).trans ?_
  exact foldl_keeps (fun _ _ => dpView_thrRefresh ..) _ _

end Sys2Proof.Laws

namespace Sys2Proof.Laws

open Sys2Proof.Machine Sys2Proof.Safety

/-! Stages (R23, R44, R313). -/

/-- A run that ends on a site now has kept within its time, or no growth monitor holds it to that. -/
def InTime (b : Block) (act site dur : Nat) : Prop := isFenced b .growth = true ∨ dur ≤ dCurAt b act site

theorem dCurAt_congr {b c : Block} (hglb : c.glb = b.glb) (hgrowth : c.growth = b.growth) (a s : Nat) : dCurAt c a s = dCurAt b a s := by
  have h (x : Block) : dCurAt x a s = dCurAt { ({} : Block) with glb := x.glb, growth := x.growth } a s := rfl
  rw [h c, h b, hglb, hgrowth]

theorem isFenced_congr {b c : Block} (h : c.flt.fenced = b.flt.fenced) (u : FUnit) : isFenced c u = isFenced b u := by
  rw [isFenced, h, isFenced]

theorem InTime.of_dpView {β : Type} {g : Tab Target → Dp → β} {b c : Block} {act site dur : Nat} (h : InTime b act site dur)
    (hc : dpView g c = dpView g b) : InTime c act site dur := by
  rw [InTime, isFenced_congr (fenced_of_dpView hc), dCurAt_congr (glb_of_dpView hc) (growth_of_dpView hc)]
  exact h

theorem checkForce_congr {b c : Block} (h : c.flt = b.flt) (l : Word) : checkForce c l = checkForce b l := by
  rw [checkForce, h, checkForce]

/-- Without an armed force the results of a stage are stored. -/
theorem stageWrite_unforced {b : Block} {site : Nat} (h : checkForce b (siteLoc site) = none) (results : Dp → List Word) (f : Block → Block) :
    stageWrite site results f b = f b :=
  checkedWrite_unforced _ _ h

theorem monAll_keeps (kind i : Nat) (x : Word) (b : Block) :
    (monAll kind i x b).dp = b.dp ∧ (monAll kind i x b).flt = b.flt := by
  have h : ((monAll kind i x b).dp, (monAll kind i x b).flt) = (b.dp, b.flt) := by
    refine foldl_keeps (g := fun b => (b.dp, b.flt)) (fun b m => ?_) _ b
    unfold monTake
    split <;> rfl
  exact Prod.mk.inj h

theorem instanceEnd_keeps {b : Block} {act site dur : Nat} (h : InTime b act site dur) :
    (instanceEnd act site dur b).dp = b.dp ∧ (instanceEnd act site dur b).flt = b.flt := by
  obtain ⟨hdp, hflt⟩ := monAll_keeps 8 act (fOfNat dur).v b
  unfold instanceEnd
  extract_lets d x bin rho y
  split
  · exact ⟨hdp, hflt⟩
  next hwatched =>
    have hfenced : isFenced x .growth = isFenced b .growth := isFenced_congr (congrArg Flt.fenced hflt :) _
    have hlate : ¬d < dur := by
      obtain hf | hle := h
      · simp [hfenced, hf] at hwatched
      · exact Nat.not_lt.mpr hle
    rw [if_neg hlate]
    exact ⟨hdp, hflt⟩

/-- From `a` to `b` a stage of `dur` ticks of the DP cycle has handed on to stage `k`. -/
def HandsOn (k dur : Nat) (a b : Block) : Prop :=
  b.dp.cycle.stage = k ∧ b.dp.cycle.endAt = a.tb + dur ∧ b.dp.cycle.b = a.dp.cycle.b

/-- The cycle once a stage of `dur` ticks has handed on to stage `k`. -/
def handedOn (k dur : Nat) (b : Block) : DpCycle := { b.dp.cycle with stage := k, endAt := b.tb + dur }

theorem stageDone_keeps {b : Block} {act site dur : Nat} (h : InTime b act site dur) (k : Nat) :
    (stageDone act site dur k b).dp = { b.dp with cycle := handedOn k dur b } ∧ (stageDone act site dur k b).flt = b.flt :=
  instanceEnd_keeps (b := modCycle _ b) h

theorem HandsOn.of_cycle {k dur : Nat} {a b : Block} (h : b.dp.cycle = handedOn k dur a) : HandsOn k dur a b := by
  rw [HandsOn, h]
  exact ⟨rfl, rfl, rfl⟩

theorem handedOn_congr {b c : Block} (htb : c.tb = b.tb) (hcycle : c.dp.cycle = b.dp.cycle) (k dur : Nat) : handedOn k dur c = handedOn k dur b := by
  rw [handedOn, htb, hcycle, handedOn]

section Stages

variable {b : Block} {dur : Nat}

theorem intakeStage_ready (hready : stageReady b 1 = true) (htime : InTime b 0x200 27 dur) (hpasses : checkForce b (siteLoc 27) = none) :
    let y := intakeStage dur b
    HandsOn 2 dur b y ∧ y.dp.rec0 = b.dp.rec1 ∧ y.dp.records = wrap32 b.dp.records 1 ∧
      (∃ r, y.dp.rec1 = some r ∧ r.outTick = b.dp.cycle.b ∧ r.mode = b.dp.mode) ∧ y.dp.x = b.dp.x ∧ y.dp.est = b.dp.est := by
  intro y
  have hstart : calm (instanceStart 0x200 b) = calm b := calm_perf ..
  have hdp₀ := dp_of_calm hstart
  obtain ⟨r, c, sat, good, hc, htick, hmode, hstores⟩ := intake_stores (instanceStart 0x200 b).dp.cycle.b (instanceStart 0x200 b)
  rw [hdp₀] at htick hmode
  have hview : dpView besidesSlots c = dpView besidesSlots b := hc.trans (dpView_calm hstart)
  have hdp : c.dp = { b.dp with slots := c.dp.slots } :=
    (congrArg (fun x : Tab Target × Dp => { x.2 with slots := c.dp.slots }) (part_of_dpView hview) :)
  have hrun : intakeStage dur b = stageDone 0x200 27 dur 2 (intake (instanceStart 0x200 b).dp.cycle.b (instanceStart 0x200 b)) := by
    unfold intakeStage
    rw [if_pos hready]
    exact congrArg (stageDone 0x200 27 dur 2) (stageWrite_unforced ((checkForce_congr (perf_flt ..) _).trans hpasses) _ _)
  have htime' : InTime c 0x200 27 dur := htime.of_dpView hview
  have hdone : y.dp = _ := (congrArg Block.dp (hrun.trans (congrArg _ hstores))).trans (stageDone_keeps (b := modDp _ c) htime' 2).1
  refine ⟨.of_cycle ?_, ?_, ?_, ⟨r, ?_, htick, hmode⟩, ?_, ?_⟩
  all_goals rw [hdone]
  · have hcycle : c.dp.cycle = b.dp.cycle := (congrArg Dp.cycle hdp :)
    show { c.dp.cycle with stage := 2, endAt := c.tb + dur } = _
    rw [hcycle, tb_of_dpView hview]
    rfl
  · exact (congrArg Dp.rec1 hdp :)
  · exact (congrArg (fun d : Dp => wrap32 d.records 1) hdp :)
  · rfl
  · exact (congrArg Dp.x hdp :)
  · exact (congrArg Dp.est hdp :)

/-- What the start of thrust control leaves alone of the estimate. -/
def estimatePart (_ : Tab Target) (d : Dp) : DpCycle × Option DpRecord × List Word × List (List Word) × Nat × List Word :=
  (d.cycle, d.rec1, d.x, d.p, d.est, d.hat)

theorem estimatorStage_ready (hready : stageReady b 2 = true) (htime : InTime b 0x201 27 dur) (hpasses : checkForce b (siteLoc 27) = none)
    {r : DpRecord} (hrec : b.dp.rec1 = some r) :
    let e := estimate r (instanceStart 0x201 b)
    let d := (estimatorStage dur b).dp
    HandsOn 3 dur b (estimatorStage dur b) ∧ d.x = e.dp.x ∧ d.p = e.dp.p ∧ d.est = e.dp.est ∧ d.hat = e.dp.hat ∧ d.rec1 = b.dp.rec1 := by
  intro e d
  have hstart : calm (instanceStart 0x201 b) = calm b := calm_perf ..
  have he : dpView besidesEstimate e = dpView besidesEstimate b := (dpView_estimate ..).trans (dpView_calm hstart)
  have hpasses' : checkForce (instanceStart 0x201 b) (siteLoc 27) = none := (checkForce_congr (perf_flt ..) _).trans hpasses
  have hrec' : (instanceStart 0x201 b).dp.rec1 = some r := by rw [dp_of_calm hstart, hrec]
  have hrun : estimatorStage dur b =
      stageDone 0x201 27 dur 3 (if e.dp.state = 1 ∧ e.dp.est ≠ 0 then enableStep 1 e else e) := by
    unfold estimatorStage
    simp only [if_pos hready, hrec', stageWrite_unforced hpasses']
    rfl
  generalize hw : (if e.dp.state = 1 ∧ e.dp.est ≠ 0 then enableStep 1 e else e) = w at hrun
  have henable : dpView estimatePart w = dpView estimatePart e := by
    rw [← hw]
    exact dpView_when (dpView_enableStep (fun _ _ _ => rfl) (fun _ _ _ => rfl) (fun _ _ _ _ => rfl) ..)
  have hd : d = { w.dp with cycle := handedOn 3 dur w } := by
    rw [← (stageDone_keeps ((htime.of_dpView he).of_dpView henable) 3).1, ← hrun]
  have hparts := part_of_dpView henable
  have hparts₀ := part_of_dpView he
  simp only [estimatePart, besidesEstimate, Prod.mk.injEq] at hparts hparts₀
  obtain ⟨hcycle, hrec1, hx, hp, hest, hhat⟩ := hparts
  have hdone : d.cycle = handedOn 3 dur b :=
    (congrArg Dp.cycle hd).trans (handedOn_congr ((tb_of_dpView henable).trans (tb_of_dpView he)) (hcycle.trans hparts₀.2) ..)
  refine ⟨.of_cycle hdone, ?_⟩
  rw [hd]
  exact ⟨hx, hp, hest, hhat, hrec1.trans hparts₀.1⟩

theorem controlLawStage_ready (hready : stageReady b 3 = true) (htime : InTime b 0x202 28 dur) (hpasses : checkForce b (siteLoc 28) = none) :
    let e := controlLaw (instanceStart 0x202 b)
    let y := controlLawStage dur b
    HandsOn 4 dur b y ∧ y.dp.tau = e.dp.tau ∧ y.dp.sp = e.dp.sp ∧ y.dp.integ = e.dp.integ ∧ y.dp.x = b.dp.x := by
  intro e y
  have he : dpView besidesDemand e = dpView besidesDemand b := (dpView_controlLaw ..).trans (dpView_calm (calm_perf ..))
  have hparts := part_of_dpView he
  simp only [besidesDemand, Prod.mk.injEq] at hparts
  have hrun : controlLawStage dur b = stageDone 0x202 28 dur 4 e := by
    unfold controlLawStage
    rw [if_pos hready, stageWrite_unforced (b := instanceStart 0x202 b) ((checkForce_congr (perf_flt ..) _).trans hpasses)]
  have hy : y.dp = { e.dp with cycle := handedOn 4 dur e } := (congrArg Block.dp hrun).trans (stageDone_keeps (htime.of_dpView he) 4).1
  clear_value y
  refine ⟨.of_cycle ?_, ?_, ?_, ?_, ?_⟩
  all_goals rw [hy]
  · exact handedOn_congr (tb_of_dpView he) hparts.1 ..
  · exact hparts.2

end Stages

/-! The intact solve (R331, R338). -/

/-- What the lanes of the solver are worked out from: the fences, and the physical lanes that the logical ones stand on. -/
def solverSeat (b : Block) : List FUnit × Tab Nat := (b.flt.fenced, b.dp.solverMap)

theorem solverPhys_congr {b c : Block} (h : solverSeat c = solverSeat b) (lu l : Nat) : solverPhys c lu l = solverPhys b lu l := by
  have hseat (x : Block) : solverPhys x lu l =
      solverPhys { ({} : Block) with flt := { fenced := (solverSeat x).1 }, dp := { solverMap := (solverSeat x).2 } } lu l := rfl
  rw [hseat c, hseat b, h]

theorem solverLu_congr {b c : Block} (h : c.flt.fenced = b.flt.fenced) : solverLu c = solverLu b := by
  simp only [solverLu, solverLanes, isFenced, h]

theorem solverSeat_solverMove {b c : Block} (h : solverSeat c = solverSeat b) (lu l : Nat) :
    solverSeat (solverMove lu l c) = solverSeat (solverMove lu l b) := by
  obtain ⟨hfenced, hmap⟩ := Prod.mk.inj h
  have hfree : solverFree c lu = solverFree b lu := by simp only [solverFree, solverLane, isFenced, hfenced, hmap]
  unfold solverMove
  rw [hfree]
  split
  next q _ => exact Prod.ext hfenced (congrArg (fun m => tset 0 m l (q + 1)) hmap)
  · exact h

theorem solverSeat_solverRemap {b c : Block} (h : solverSeat c = solverSeat b) : solverSeat (solverRemap c) = solverSeat (solverRemap b) := by
  unfold solverRemap
  rw [solverLu_congr (Prod.mk.inj h).1]
  refine List.foldl_rel (r := fun x y => solverSeat x = solverSeat y) h fun l _ x y hxy => ?_
  rw [solverLu_congr (Prod.mk.inj hxy).1, solverPhys_congr hxy]
  split
  · exact solverSeat_solverMove hxy ..
  · exact hxy

theorem dpView_solverRemap {β : Type} {g : Tab Target → Dp → β} (hmap : ∀ t d x, g t { d with solverMap := x } = g t d) (b : Block) :
    dpView g (solverRemap b) = dpView g b := by
  refine foldl_keeps (fun c l => dpView_when ?_) _ _
  unfold solverMove
  split
  · exact dpView_modDp (funext₂ fun _ _ => hmap ..)
  · rfl

theorem solverRemap_flt (b : Block) : (solverRemap b).flt = b.flt := by
  refine foldl_keeps (g := Block.flt) (fun c l => ?_) _ _
  unfold solverMove
  split
  · split <;> rfl
  · rfl

theorem dpView_groupOff {b : Block} (l : List Nat) :
    dpView besidesSolve (l.foldl (fun b k => verdictEvent k (dpGrp b k).verdict 0 (modGrp k (fun _ => {}) b)) b) = dpView besidesSolve b :=
  foldl_keeps (fun _ _ => (dpView_calm (calm_fireIf ..)).trans (dpView_modDp rfl)) _ _

theorem cycleSettle_running {b : Block} (h : cycleOver b = false) : cycleSettle b = b := by
  rw [cycleSettle, h]
  rfl

theorem grpOn_congr {b c : Block} (hglb : c.glb = b.glb) (htargets : c.rng.targets = b.rng.targets) (k : Nat) : grpOn c k = grpOn b k := by
  simp only [grpOn, dpHas, grpMask, grpCfg, cfgW, dpField, targetAt, hglb, htargets]

theorem solve_parts {b c : Block} (h : dpView besidesSolve c = dpView besidesSolve b) :
    c.rng.targets = b.rng.targets ∧ c.dp.x = b.dp.x ∧ c.dp.state = b.dp.state ∧ c.dp.cycle.b = b.dp.cycle.b := by
  have hparts := part_of_dpView h
  simp only [besidesSolve, Prod.mk.injEq, DpCycle.mk.injEq] at hparts
  obtain ⟨ht, hx, hstate, hstart, -⟩ := hparts
  exact ⟨ht, hx, hstate, hstart⟩

theorem intactSolveStage_ready {b : Block} {dur : Nat} (hready : stageReady b 4 = true) (hstate : b.dp.state = 3) :
    let phys := (solverPhys (solverRemap b) (solverLu b) 0).getD 8
    let y := intactSolveStage dur b
    InTime b 0x203 (18 + phys) dur → checkForce b (siteLoc (18 + phys)) = none →
      HandsOn 5 dur b y ∧ y.dp.cycle.deliver = true ∧ y.dp.cycle.runs = [] ∧ y.dp.cycle.todo = (List.range 32).filter (grpOn b) ∧
        y.dp.cycle.lu = solverLu b ∧ y.dp.x = b.dp.x := by
  intro phys y htime hpasses
  have hy : y = intactSolveStage dur b := rfl
  unfold intactSolveStage at hy
  rw [if_pos hready] at hy
  extract_lets start active marked moved phys' solved gs off cleared done next at hy
  have hstart : calm start = calm b := calm_perf ..
  have hactive : active = true := beq_iff_eq.mpr ((congrArg Dp.state (dp_of_calm hstart)).trans hstate)
  have hflt : moved.flt = b.flt := (solverRemap_flt marked).trans (perf_flt ..)
  have hmoved : dpView besidesSolve moved = dpView besidesSolve b :=
    (dpView_solverRemap (fun _ _ _ => rfl) ..).trans ((dpView_modDp rfl).trans (dpView_calm hstart))
  have hphys : phys' = phys := by
    have hseat : solverSeat marked = solverSeat b := Prod.ext (congrArg Flt.fenced (perf_flt ..)) (congrArg Dp.solverMap (dp_of_calm hstart) :)
    show (solverPhys moved (solverLu moved) 0).getD 8 = _
    rw [solverLu_congr (congrArg Flt.fenced hflt), solverPhys_congr (solverSeat_solverRemap hseat)]
  have hstateOf {c : Block} (hc : dpView besidesSolve c = dpView besidesSolve b) : ¬c.dp.state < 2 := by
    obtain ⟨-, -, hstate', -⟩ := solve_parts hc
    omega
  have hsolved : dpView besidesSolve solved = dpView besidesSolve b := by
    have hpass : checkForce moved (siteLoc (18 + phys')) = none := by rw [hphys, checkForce_congr hflt, hpasses]
    have heq : solved = intactSolve moved := (if_neg (hstateOf hmoved)).trans (stageWrite_unforced hpass ..)
    exact heq ▸ (dpView_intactSolve ..).trans hmoved
  have hgs : gs = (List.range 32).filter (grpOn b) :=
    (if_neg (hstateOf hsolved)).trans (congrArg (List.filter · _) (funext (grpOn_congr (glb_of_dpView hsolved) (solve_parts hsolved).1)))
  have hcleared : dpView besidesSolve cleared = dpView besidesSolve b := (dpView_groupOff ..).trans hsolved
  obtain ⟨hdone, hdoneFlt⟩ : done.dp = _ ∧ done.flt = _ :=
    stageDone_keeps (act := 0x203) (b := cleared) ((hphys ▸ htime).of_dpView hcleared) 5
  have hlu : solverLu done = solverLu b := solverLu_congr ((congrArg Flt.fenced hdoneFlt).trans (fenced_of_dpView hcleared))
  obtain ⟨-, hx, -, hstart⟩ := solve_parts hcleared
  have hrunning : cycleOver next = false := by
    rw [cycleOver]
    show (_ && !active && _ && _) = _
    simp [hactive]
  rw [hy, cycleSettle_running hrunning]
  clear_value gs cleared done
  have hcycle : done.dp.cycle = handedOn 5 dur cleared := congrArg Dp.cycle hdone
  refine ⟨⟨?_, ?_, ?_⟩, hactive, rfl, hgs, hlu, (congrArg Dp.x hdone).trans hx⟩
  · exact congrArg DpCycle.stage hcycle
  · exact (congrArg DpCycle.endAt hcycle).trans (congrArg (· + dur) (tb_of_dpView hcleared))
  · exact (congrArg DpCycle.b hcycle).trans hstart

/-! The boundary (R301, R313). -/

/-- What the boundary leaves alone but for the commands that act at it: the cycle with its count, SAFE, and the commands themselves. -/
def boundaryPart (_ : Tab Target) (d : Dp) : DpCycle × Nat × Nat × List (Nat × Nat × Nat) × List (Nat × Nat) :=
  (d.cycle, d.cycles, d.safe, d.readmits, d.reOrigins)

theorem dpView_setOrigin (lat lon : Word) (b : Block) : dpView boundaryPart (setOrigin lat lon b) = dpView boundaryPart b := by
  unfold setOrigin
  obtain ⟨kn, ke⟩ := originScale lat
  exact dpView_modDp rfl

theorem reOrigin_view {b c : Block} (h : reOrigin b = some c) : dpView boundaryPart c = dpView boundaryPart b := by
  unfold reOrigin at h
  split at h
  · cases h
  · split at h
    · cases h
    · split at h
      obtain rfl := Option.some.inj h
      exact (dpView_calm (calm_fire ..)).trans ((dpView_modDp rfl).trans (dpView_setOrigin ..))

/-- The commands that wait for the boundary are taken from their lists. -/
def takesActs (b : Block) : Block :=
  modDp (fun d => { d with readmits := [], reOrigins := [], spHeres := [], spActs := d.spActs ++ d.spHeres }) b

theorem dpView_boundaryActs (b : Block) : dpView boundaryPart (boundaryActs b) = dpView boundaryPart (takesActs b) := by
  unfold boundaryActs
  refine (foldl_keeps (fun c x => ?_) _ _).trans (foldl_keeps (fun c x => ?_) _ _)
  · split
    next hmoves => exact (dpView_refuse ..).trans (reOrigin_view hmoves)
    next => exact dpView_refuse ..
  · exact (dpView_refuse ..).trans ((dpView_slotShow (fun _ _ _ => rfl) ..).trans (dpView_modDpSlot (fun _ _ _ => rfl) ..))

/-- What a READMIT leaves of its sensor (R301). -/
structure Readmitted (b : Block) (s : Nat) : Prop where
  votedOut : (dpSlot b s).votedOut = false
  voteCount : (dpSlot b s).voteCount = 0

theorem Readmitted.of_slots {b c : Block} {s : Nat} (h : Readmitted b s) (hslots : c.dp.slots = b.dp.slots) : Readmitted c s := by
  have hslot : dpSlot c s = dpSlot b s := by rw [dpSlot, hslots, dpSlot]
  exact ⟨hslot ▸ h.votedOut, hslot ▸ h.voteCount⟩

theorem dpSlot_slotShow (s k : Nat) (b : Block) :
    dpSlot (slotShow s b) k = if k = s then { dpSlot b s with state := slotState b s } else dpSlot b k := by
  have h : dpSlot (slotShow s b) k = dpSlot (modDpSlot s (fun x => { x with state := slotState b s }) b) k := by
    rw [dpSlot, dpSlot]
    exact congrArg (fun d : Dp => tget {} d.slots k) (dp_of_calm (calm_fireIf ..))
  rw [h, dpSlot_modDpSlot]

theorem dpSlot_readmit (s k : Nat) (b : Block) :
    dpSlot (readmit s b) k = if k = s then
      { dpSlot b s with votedOut := false, voteCount := 0, aligned := false, state := (dpSlot (readmit s b) s).state } else dpSlot b k := by
  unfold readmit
  rw [dpSlot_slotShow, dpSlot_slotShow, dpSlot_modDpSlot, dpSlot_modDpSlot, if_pos rfl, if_pos rfl]
  split
  · rfl
  · rfl

theorem readmit_self (s : Nat) (b : Block) : Readmitted (readmit s b) s := by
  have h := dpSlot_readmit s s b
  rw [if_pos rfl] at h
  exact ⟨by rw [h], by rw [h]⟩

theorem Readmitted.readmit {b : Block} {k : Nat} (h : Readmitted b k) (s : Nat) : Readmitted (readmit s b) k := by
  by_cases e : k = s
  · subst e
    exact readmit_self k b
  · have hslot := dpSlot_readmit s k b
    rw [if_neg e] at hslot
    exact ⟨hslot ▸ h.votedOut, hslot ▸ h.voteCount⟩

/-- Every READMIT of a list acts. -/
theorem readmits_act (l : List (Nat × Nat × Nat)) (b : Block) {x : Nat × Nat × Nat} (h : x ∈ l) :
    Readmitted (l.foldl (fun b x => refuse x.1 x.2.1 stOK (readmit x.2.2 b)) b) x.2.2 :=
  foldl_reaches (I := fun _ => True) (P := fun c => Readmitted c x.2.2) (fun _ _ h => h) (fun _ y _ _ h => (h.readmit y.2.2).of_slots rfl)
    (fun c _ => (readmit_self x.2.2 c).of_slots rfl) l b trivial (.inr h)

theorem boundaryActs_readmits {b : Block} (h : b.dp.reOrigins = []) :
    boundaryActs b = b.dp.readmits.foldl (fun b x => refuse x.1 x.2.1 stOK (readmit x.2.2 b)) (takesActs b) := by
  unfold boundaryActs
  rw [h]
  rfl

/-- What DP_ENABLE leaves alone of what the boundary's commands have done. -/
def actedPart (_ : Tab Target) (d : Dp) : Tab DpSlot × Bool := (d.slots, d.satNow)

/-- The commands of a boundary act in a cycle that begins, and DP_STATE follows DP_ENABLE. -/
def boundaryTurns (b : Block) : Block := enableStep 0 (boundaryActs (modDp (fun d => { d with satNow := false }) b))

theorem dpView_enable {β : Type} {g : Tab Target → Dp → β} (htargets : ∀ t u d, g t d = g u d)
    (hfields : ∀ t d x v f, g t { d with thrs := x, state := v, fresh := f } = g t d) (b : Block) :
    dpView g (enableStep 0 b) = dpView g b :=
  dpView_enableStep htargets (fun t d x => hfields t d x d.state d.fresh) (fun t d v f => hfields t d d.thrs v f) ..

theorem boundaryTurns_parts (b : Block) :
    let y := boundaryTurns b
    y.tb = b.tb ∧ y.dp.cycle = b.dp.cycle ∧ y.dp.cycles = b.dp.cycles ∧ y.dp.readmits = [] ∧ y.dp.reOrigins = [] := by
  have h : dpView boundaryPart (boundaryTurns b) = dpView boundaryPart (takesActs (modDp (fun d => { d with satNow := false }) b)) :=
    (dpView_enable (fun _ _ _ => rfl) (fun _ _ _ _ _ => rfl) _).trans (dpView_boundaryActs _)
  have hparts := part_of_dpView h
  simp only [boundaryPart, Prod.mk.injEq] at hparts
  obtain ⟨hcycle, hcycles, -, hreadmits, hreOrigins⟩ := hparts
  exact ⟨(tb_of_dpView h :), hcycle, hcycles, hreadmits, hreOrigins⟩

theorem boundaryTurns_readmits {b : Block} (h : b.dp.reOrigins = []) :
    (boundaryTurns b).dp.satNow = false ∧ ∀ x ∈ b.dp.readmits, Readmitted (boundaryTurns b) x.2.2 := by
  have hacts := boundaryActs_readmits (b := modDp (fun d => { d with satNow := false }) b) h
  have hview : dpView actedPart (boundaryTurns b) = dpView actedPart (boundaryActs (modDp (fun d => { d with satNow := false }) b)) :=
    dpView_enable (fun _ _ _ => rfl) (fun _ _ _ _ _ => rfl) _
  have hparts := part_of_dpView hview
  simp only [actedPart, Prod.mk.injEq] at hparts
  refine ⟨?_, fun x hx => Readmitted.of_slots ?_ hparts.1⟩
  · rw [hparts.2, hacts]
    have hsat : dpView (fun _ d => d.satNow)
        (b.dp.readmits.foldl (fun b x => refuse x.1 x.2.1 stOK (readmit x.2.2 b))
          (takesActs (modDp (fun d => { d with satNow := false }) b))) = _ :=
      foldl_keeps (fun _ _ => (dpView_refuse ..).trans
        ((dpView_slotShow (fun _ _ _ => rfl) ..).trans (dpView_modDpSlot (fun _ _ _ => rfl) ..))) _ _
    exact part_of_dpView hsat
  · rw [hacts]
    exact readmits_act _ _ hx

theorem dpCycleBoundary_opens {b : Block} (htick : b.tb % 2000000 = 0) (hon : dpOn b = true) (hheld : enginesHeld b = false)
    (hstage : b.dp.cycle.stage = 0) (hsafe : b.dp.safe = 0) : ∃ c, dpView boundaryPart c = dpView boundaryPart b ∧
      dpCycleBoundary b = modCycle (fun _ => { b := b.tb, stage := 1, endAt := b.tb }) (boundaryTurns c) := by
  unfold dpCycleBoundary
  rw [if_neg (by simp [htick, hon, hheld, hstage])]
  extract_lets abandoned opened resolved fused shown inputs aligned acted safed enabled
  have haligned : dpView boundaryPart aligned = dpView boundaryPart b := by
    have hopened : opened = b := if_neg (by simp [hstage])
    have hresolved : dpView boundaryPart resolved = dpView boundaryPart b :=
      (foldl_keeps (fun _ _ => dpView_resolveTarget (fun _ _ _ => rfl) ..) _ _).trans (congrArg _ hopened)
    have hshown : dpView boundaryPart shown = dpView boundaryPart fused :=
      foldl_keeps (fun _ _ => dpView_when (dpView_slotShow (fun _ _ _ => rfl) ..)) _ _
    have hinputs : dpView boundaryPart inputs = dpView boundaryPart shown :=
      foldl_keeps (fun _ _ => dpView_dpInputResolve (fun _ _ _ => rfl) ..) _ _
    calc dpView boundaryPart aligned
        = dpView boundaryPart inputs := dpView_autoAlign (fun _ _ _ => rfl) (fun _ _ _ _ _ => rfl) _
      _ = dpView boundaryPart fused := hinputs.trans hshown
      _ = dpView boundaryPart resolved := dpView_setFusion (fun _ _ _ => rfl) (fun _ _ _ _ _ => rfl) ..
      _ = dpView boundaryPart b := hresolved
  refine ⟨aligned, haligned, ?_⟩
  clear_value aligned
  have hparts := part_of_dpView haligned
  simp only [boundaryPart, Prod.mk.injEq] at hparts
  obtain ⟨hcycle, -, hsafe', -⟩ := hparts
  have hacted : acted = boundaryActs (modDp (fun d => { d with satNow := false }) aligned) := by
    unfold acted
    rw [if_pos (by rw [hcycle, hstage])]
  have hactedSafe : ¬acted.dp.safe = 1 := by
    have hview := dpView_boundaryActs (modDp (fun d => { d with satNow := false }) aligned)
    have hsame : acted.dp.safe = aligned.dp.safe := hacted ▸ (congrArg (fun x => x.2.2.1) (part_of_dpView hview) :)
    omega
  have henabled : enabled = boundaryTurns aligned := by
    unfold enabled safed
    rw [if_neg hactedSafe, hacted, boundaryTurns]
  obtain ⟨htb, hcycle', -⟩ := boundaryTurns_parts aligned
  rw [henabled, if_neg (by rw [hcycle', hcycle, hstage]; decide), htb, tb_of_dpView haligned]

theorem dpCycleBoundary_leaves {b : Block} (htick : b.tb % 2000000 = 0) (hon : dpOn b = true) (hheld : enginesHeld b = false)
    (hstage : b.dp.cycle.stage = 0) (hsafe : b.dp.safe = 0) :
    let y := dpCycleBoundary b
    y.dp.cycle = { b := b.tb, stage := 1, endAt := b.tb } ∧ y.dp.readmits = [] ∧ y.dp.reOrigins = [] ∧ y.dp.cycles = b.dp.cycles ∧
      (b.dp.reOrigins = [] → y.dp.satNow = false ∧
        ∀ x ∈ b.dp.readmits, (dpSlot y x.2.2).votedOut = false ∧ (dpSlot y x.2.2).voteCount = 0) := by
  obtain ⟨c, hc, hruns⟩ := dpCycleBoundary_opens htick hon hheld hstage hsafe
  have hparts := part_of_dpView hc
  simp only [boundaryPart, Prod.mk.injEq] at hparts
  obtain ⟨-, hcycles, -, hreadmits, hreOrigins⟩ := hparts
  obtain ⟨-, -, hcycles', hnone, hnone'⟩ := boundaryTurns_parts c
  have hacts := boundaryTurns_readmits (b := c)
  rw [hreadmits, hreOrigins] at hacts
  rw [hruns]
  generalize boundaryTurns c = turned at *
  refine ⟨rfl, hnone, hnone', hcycles'.trans hcycles, fun h => ?_⟩
  obtain ⟨hsat, hacts⟩ := hacts h
  exact ⟨hsat, fun x hx => ⟨(hacts x hx).votedOut, (hacts x hx).voteCount⟩⟩

theorem does_boundary {s : State} {Q : Block → Prop} (hon : On s) (hopen : pointOpen 2 s.blk = true)
    (hq : Q (dpCycleBoundary (modTim (fun t => { t with point := some (s.blk.tb, 2) }) s.blk))) : Does .dpCycleBoundary s Q := by
  refine does_act rfl rfl hon ?_
  rw [atPoint, hopen]
  exact hq

/-- Settles O43: the boundary by `dpCycleBoundary_leaves`, each stage by its lemma `_ready`. -/
theorem cycleStages : Obligations.CycleStages := by
  unfold Obligations.CycleStages
  intro dur s hon d inTime passes phys next
  refine ⟨fun hopen htick hdp hheld hstage hsafe => ?boundary, fun hready htime hpasses => ?intake, fun hready htime hpasses r hrec => ?estimator,
    fun hready htime hpasses => ?control, fun hready htime hpasses hstate => ?solve⟩
  case boundary => exact does_boundary hon hopen (dpCycleBoundary_leaves htick hdp hheld hstage hsafe)
  case intake => exact does_act rfl rfl hon (intakeStage_ready hready htime hpasses)
  case estimator => exact does_act rfl rfl hon (estimatorStage_ready hready htime hpasses hrec)
  case control => exact does_act rfl rfl hon (controlLawStage_ready hready htime hpasses)
  case solve => exact does_act rfl rfl hon (intactSolveStage_ready hready hstate htime hpasses)

end Sys2Proof.Laws

namespace Sys2Proof.Laws

open Sys2Proof.Machine Sys2Proof.Safety

/-! Delivery (R334). -/

/-- What a delivery leaves alone: the values in force, and all of the engine's record but the held commands of its thrusters. -/
def besidesDelivery (t : Tab Target) (d : Dp) : (Nat → Word) × Dp × (Nat → DpThr) :=
  (fun k => (tget {} t k).inForce, { d with thrs := [] }, fun n => { tget {} d.thrs n with heldB := false })

theorem dpView_modCands (k : Nat) (f : Target → Target) (hf : ∀ t, (f t).inForce = t.inForce) (b : Block) :
    dpView besidesDelivery (modTarget k f b) = dpView besidesDelivery b := by
  refine dpView_upd rfl rfl rfl rfl (Prod.ext (funext fun j => ?_) rfl)
  show (targetAt (modTarget k f b) j).inForce = (targetAt b j).inForce
  rw [targetAt_modTarget]
  split
  next e => rw [hf, e]
  · rfl

theorem dpView_setCand (k src prio : Nat) (v : Word) (b : Block) : dpView besidesDelivery (setCand k src prio v b) = dpView besidesDelivery b := by
  unfold setCand
  exact dpView_modCands k _ (fun _ => by rfl) b

theorem dpView_dropCand (k src : Nat) (b : Block) : dpView besidesDelivery (dropCand k src b) = dpView besidesDelivery b := by
  unfold dropCand
  exact dpView_modCands k _ (fun _ => by rfl) b

theorem dpView_setHeld (n : Nat) (v : Bool) (b : Block) :
    dpView besidesDelivery (modThr n (fun x => { x with heldB := v }) b) = dpView besidesDelivery b := by
  refine dpView_upd rfl rfl rfl rfl (Prod.ext rfl (Prod.ext rfl (funext fun m => ?_)))
  show { dpThr (modThr n _ b) m with heldB := false } = { dpThr b m with heldB := false }
  rw [dpThr_modThr]
  split
  next e => rw [e]
  · rfl

theorem dpView_writeTarget (w : Word) (src : Nat) (loop : Bool) (v : Word) (b : Block) :
    dpView besidesDelivery (writeTarget w src loop v b) = dpView besidesDelivery b := by
  unfold writeTarget
  extract_lets
  split
  case h_3 => exact dpView_upd rfl rfl rfl rfl rfl
  case h_6 => rfl
  all_goals exact dpView_setCand ..

theorem dpView_withdraw (w : Word) (src : Nat) (b : Block) : dpView besidesDelivery (dropTarget w src b) = dpView besidesDelivery b := by
  unfold dropTarget
  split
  · rfl
  · exact dpView_upd rfl rfl rfl rfl rfl
  · exact dpView_dropCand ..

theorem dpView_deliverThr (n : Nat) (b : Block) : dpView besidesDelivery (deliverThr n b) = dpView besidesDelivery b := by
  unfold deliverThr
  refine dpView_ite ((dpView_setHeld ..).trans ((dpView_withdraw ..).trans (dpView_withdraw ..))) ?_
  exact dpView_ite (dpView_ite (dpView_writeTarget ..) ((dpView_setHeld ..).trans ((dpView_writeTarget ..).trans (dpView_writeTarget ..))))
    (dpView_writeTarget ..)

/-- The candidate of a source on a target has a value. -/
def Stands (k src : Nat) (v : Word) (b : Block) : Prop := ∃ o ∈ (targetAt b k).cands, o.src = src ∧ o.val = v

section Stands

variable {k src : Nat} {v : Word} {b : Block}

theorem setCand_stands (k src prio : Nat) (v : Word) (b : Block) : Stands k src v (setCand k src prio v b) := by
  unfold Stands setCand
  rw [targetAt_modTarget, if_pos rfl]
  exact ⟨_, List.mem_append_right _ (List.mem_singleton_self _), rfl, rfl⟩

theorem Stands.modCands (h : Stands k src v b) (k' : Nat) {f : Target → Target} (hf : ∀ t, ∀ o ∈ t.cands, o.src = src → o ∈ (f t).cands) :
    Stands k src v (modTarget k' f b) := by
  obtain ⟨o, hmem, hsrc, hval⟩ := h
  refine ⟨o, ?_, hsrc, hval⟩
  rw [targetAt_modTarget]
  split
  next e => exact hf _ o (e ▸ hmem) hsrc
  · exact hmem

theorem mem_otherCands {l : List Cand} {o : Cand} {src' : Nat} (hmem : o ∈ l) (hne : o.src ≠ src') : o ∈ l.filter (fun c => c.src != src') :=
  List.mem_filter.mpr ⟨hmem, bne_iff_ne.mpr hne⟩

theorem Stands.setCand (h : Stands k src v b) {src' : Nat} (hne : src ≠ src') (k' prio : Nat) (v' : Word) :
    Stands k src v (setCand k' src' prio v' b) :=
  h.modCands k' fun _ _ hmem hsrc => List.mem_append_left _ (mem_otherCands hmem (hsrc ▸ hne))

theorem Stands.dropCand (h : Stands k src v b) {src' : Nat} (hne : src ≠ src') (k' : Nat) : Stands k src v (dropCand k' src' b) :=
  h.modCands k' fun _ _ hmem hsrc => mem_otherCands hmem (hsrc ▸ hne)

theorem Stands.writeTarget (h : Stands k src v b) {src' : Nat} (hne : src ≠ src') (w : Word) (loop : Bool) (v' : Word) :
    Stands k src v (writeTarget w src' loop v' b) := by
  unfold Machine.writeTarget
  extract_lets
  split
  case h_3 => exact h
  case h_6 => exact h
  all_goals exact h.setCand hne ..

theorem Stands.dropTarget (h : Stands k src v b) {src' : Nat} (hne : src ≠ src') (w : Word) : Stands k src v (dropTarget w src' b) := by
  unfold Machine.dropTarget
  split
  · exact h
  · exact h
  · exact h.dropCand hne _

theorem writeTarget_stands {w : Word} (hkind : tgKind w = 2 ∨ tgKind w = 5) (src : Nat) (loop : Bool) (v : Word) (b : Block) :
    Stands (engKey w) src v (Machine.writeTarget w src loop v b) := by
  unfold Machine.writeTarget
  obtain h | h := hkind
  · rw [h]
    exact setCand_stands ..
  · rw [h]
    exact setCand_stands ..

/-- The delivery to another thruster. -/
theorem Stands.deliverThr {n m : Nat} (h : Stands k (dpSrc n) v b) (hne : m ≠ n) : Stands k (dpSrc n) v (deliverThr m b) := by
  have hsrc : dpSrc n ≠ dpSrc m := by
    unfold dpSrc
    omega
  unfold Machine.deliverThr
  split
  · exact (h.dropTarget hsrc _).dropTarget hsrc _
  · extract_lets x wa wb wrote
    have hwrote : Stands k (dpSrc n) v wrote := h.writeTarget hsrc ..
    split
    · split
      · exact hwrote
      · exact hwrote.writeTarget hsrc ..
    · exact hwrote

theorem deliverThr_stands {n : Nat} (hselected : thSelected b n = true) (htype : thType b n = 1) (havail : (dpThr b n).avail = true)
    (hkind : tgKind (thOut b n 0) = 2 ∨ tgKind (thOut b n 0) = 5) :
    Stands (engKey (thOut b n 0)) (dpSrc n) (inFmt (thOut b n 0) (dpThr b n).cmdA) (deliverThr n b) := by
  have hstill : thType (Machine.writeTarget (thOut b n 0) (dpSrc n) false (inFmt (thOut b n 0) (dpThr b n).cmdA) b) n = thType b n := by
    have hglb := glb_of_dpView (dpView_writeTarget (thOut b n 0) (dpSrc n) false (inFmt (thOut b n 0) (dpThr b n).cmdA) b)
    simp only [thType, thrW, cfgW, hglb]
  unfold Machine.deliverThr
  simp only [hselected, havail, hstill, htype, if_true, Bool.not_true, Bool.false_eq_true, if_false]
  exact writeTarget_stands hkind ..

end Stands

/-- What a delivery reads of a thruster. -/
def deliveryPart (b : Block) (n : Nat) : Bool × Nat × Word × Bool × Word :=
  (thSelected b n, thType b n, thOut b n 0, (dpThr b n).avail, (dpThr b n).cmdA)

theorem deliveryPart_congr {b c : Block} (h : dpView besidesDelivery c = dpView besidesDelivery b) (n : Nat) :
    deliveryPart c n = deliveryPart b n := by
  obtain ⟨hforce, -, hthrs⟩ : (_ ∧ _ ∧ _) := by simpa only [besidesDelivery, Prod.mk.injEq] using part_of_dpView h
  have hthr := congrFun hthrs n
  have havail : (dpThr c n).avail = (dpThr b n).avail := (congrArg DpThr.avail hthr :)
  have hcmdA : (dpThr c n).cmdA = (dpThr b n).cmdA := (congrArg DpThr.cmdA hthr :)
  have hselected : thSelected c n = thSelected b n := (congrArg (fun f : Nat → Word => f (targetKey 3 (0x80 + n) 0) == 1) hforce :)
  have hcfg : thType c n = thType b n ∧ thOut c n 0 = thOut b n 0 := by
    simp only [thType, thOut, thrW, cfgW, glb_of_dpView h, and_self]
  rw [deliveryPart, hselected, hcfg.1, hcfg.2, havail, hcmdA, deliveryPart]

theorem deliver_stands {b : Block} {n : Nat} (hmem : n ∈ thrusters b) (hselected : thSelected b n = true) (htype : thType b n = 1)
    (havail : (dpThr b n).avail = true) (hkind : tgKind (thOut b n 0) = 2 ∨ tgKind (thOut b n 0) = 5) :
    Stands (engKey (thOut b n 0)) (dpSrc n) (inFmt (thOut b n 0) (dpThr b n).cmdA) (deliver b) := by
  refine foldl_reaches (I := fun c => dpView besidesDelivery c = dpView besidesDelivery b) (n := n)
    (fun c m h => (dpView_deliverThr ..).trans h) (fun c m _ hne h => h.deliverThr hne) (fun c h => ?_) _ b rfl (.inr hmem)
  have hpart := deliveryPart_congr h n
  simp only [deliveryPart, Prod.mk.injEq] at hpart
  obtain ⟨hselected', htype', hout, havail', hcmdA⟩ := hpart
  rw [← hout] at hkind
  rw [← hout, ← hcmdA]
  exact deliverThr_stands (hselected'.trans hselected) (htype'.trans htype) (havail'.trans havail) hkind

/-- The DP engine may act on a cycle whose intact solve has ended (R26, R371). -/
structure MayRun (b : Block) : Prop where
  on : dpOn b = true
  free : enginesHeld b = false
  stage : b.dp.cycle.stage = 5
  thawed : b.freeze = none

theorem delivery_leaves {b : Block} (hmay : MayRun b) (hdeliver : b.dp.cycle.deliver = true) (hend : b.dp.cycle.endAt ≤ b.tb)
    (htodo : b.dp.cycle.todo ≠ []) : (delivery b).dp.cycle = { b.dp.cycle with deliver := false } ∧
      ∀ n, b.dp.state = 3 → n ∈ thrusters b → thSelected b n = true → thType b n = 1 → (dpThr b n).avail = true →
        tgKind (thOut b n 0) = 2 ∨ tgKind (thOut b n 0) = 5 →
        Stands (engKey (thOut b n 0)) (dpSrc n) (inFmt (thOut b n 0) (dpThr b n).cmdA) (delivery b) := by
  have hcond : (dpOn b && !enginesHeld b && b.dp.cycle.stage == 5 && b.dp.cycle.deliver && b.freeze.isNone &&
      decide (b.dp.cycle.endAt ≤ b.tb)) = true := by
    simp [hmay.on, hmay.free, hmay.stage, hmay.thawed, hdeliver, hend]
  unfold delivery
  rw [if_pos hcond]
  extract_lets delivered
  have hview : dpView besidesDelivery delivered = dpView besidesDelivery b := dpView_when (foldl_keeps (fun _ _ => dpView_deliverThr ..) _ _)
  have hcycle : delivered.dp.cycle = b.dp.cycle :=
    (congrArg (fun x : (Nat → Word) × Dp × (Nat → DpThr) => x.2.1.cycle) (part_of_dpView hview) :)
  have hrunning : cycleOver (modCycle (fun c => { c with deliver := false }) delivered) = false := by
    have htodo' : delivered.dp.cycle.todo.isEmpty = false := by rw [hcycle, List.isEmpty_eq_false_iff.mpr htodo]
    rw [cycleOver]
    show (_ && delivered.dp.cycle.todo.isEmpty && _) = false
    simp [htodo']
  rw [cycleSettle_running hrunning]
  refine ⟨congrArg (fun c : DpCycle => { c with deliver := false }) hcycle, fun n hstate hmem hselected htype havail hkind => ?_⟩
  have hdelivered : delivered = deliver b := if_pos hstate
  rw [hdelivered]
  exact deliver_stands hmem hselected htype havail hkind

/-! Consequence solves (R315, R335, R338). -/

theorem perf_cnt (ev arg wild : Nat) (b : Block) : perf ev arg wild b = { b with prf := { b.prf with cnt := (perf ev arg wild b).prf.cnt } } := by
  unfold perf
  split <;> rfl

theorem consequenceSolve_starts {b : Block} {g dur p : Nat} (hmay : MayRun b)
    (hfirst : (b.dp.cycle.todo.find? fun x => groupLane b.dp.cycle x == groupLane b.dp.cycle g) = some g)
    (hlane : laneFree b (groupLane b.dp.cycle g) = true) (hcutoff : b.tb < b.dp.cycle.b + 1900000)
    (hphys : solverPhys b b.dp.cycle.lu (groupLane b.dp.cycle g) = some p) :
    consequenceSolve g dur b = modCycle (fun c => { c with
      todo := c.todo.filter (· != g), laneEnd := tset 0 c.laneEnd (groupLane b.dp.cycle g) (b.tb + dur)
      runs := c.runs ++ [{ g := g, lane := groupLane b.dp.cycle g, phys := p, stop := b.tb + dur, dur := dur }] }) (instanceStart 0x203 b) := by
  unfold consequenceSolve
  extract_lets c l first
  have hcond : (dpOn b && !enginesHeld b && c.stage == 5 && b.freeze.isNone && first == some g && laneFree b l &&
      decide (b.tb < cutoffOf c)) = true := by
    have hstage : c.stage = 5 := hmay.stage
    have hfirst' : first = some g := hfirst
    have hlane' : laneFree b l = true := hlane
    have hcutoff' : b.tb < cutoffOf c := hcutoff
    simp [hmay.on, hmay.free, hmay.thawed, hstage, hfirst', hlane', hcutoff']
  have hphys' : solverPhys b c.lu l = some p := hphys
  rw [if_pos hcond, hphys']

/-- What a solve of group `g` leaves alone: the cycle, and the results of the other groups. -/
def besidesGroup (g : Nat) (_ : Tab Target) (d : Dp) : DpCycle × ((f : Nat) → f ≠ g → DpResult) := (d.cycle, fun f _ => tget {} d.grps f)

theorem dpView_modGrp {β : Type} {part : Tab Target → Dp → β} {g : Nat}
    (hgrps : ∀ t d x, (∀ f, f ≠ g → tget {} x f = tget {} d.grps f) → part t { d with grps := x } = part t d)
    (f : DpResult → DpResult) (b : Block) : dpView part (modGrp g f b) = dpView part b :=
  dpView_upd rfl rfl rfl rfl (hgrps _ _ _ fun k hk => (dpGrp_modGrp g k f b).trans (if_neg hk))

theorem dpView_groupSolve (g : Nat) (b : Block) : dpView (besidesGroup g) (groupSolve g b) = dpView (besidesGroup g) b := by
  unfold groupSolve
  extract_lets
  exact (dpView_calm (calm_fireIf ..)).trans ((dpView_modDp rfl).trans (dpView_modGrp (fun _ _ _ h => Prod.ext rfl (funext₂ h)) ..))

theorem solveEnd_leaves {b : Block} {r : DpRun} (hpasses : checkForce b (siteLoc (18 + r.phys)) = none)
    (htime : InTime b 0x203 (18 + r.phys) r.dur) :
    (solveEnd r b).dp = (groupSolve r.g (modCycle (fun c => { c with runs := c.runs.filter (· != r) }) b)).dp := by
  unfold solveEnd
  extract_lets ended res
  have hended : dpView (fun _ _ => ()) ended = dpView (fun _ _ => ()) b := dpView_modDp rfl
  have hsolved : InTime (groupSolve r.g ended) 0x203 (18 + r.phys) r.dur := (htime.of_dpView hended).of_dpView (dpView_groupSolve ..)
  have hpasses' : checkForce ended (siteLoc (18 + r.phys)) = none := (checkForce_congr rfl _).trans hpasses
  rw [stageWrite_unforced hpasses', (instanceEnd_keeps hsolved).1]

theorem dpTick_ends {b : Block} {r : DpRun} (hthawed : b.freeze = none) (hfree : enginesHeld b = false) (hstage : b.dp.cycle.stage = 5)
    (hends : (b.dp.cycle.runs.filter fun q => decide (q.stop ≤ b.tb) && decide (q.stop ≤ b.dp.cycle.b + 1900000)) = [r])
    (hmore : b.dp.cycle.deliver = true ∨ b.dp.cycle.todo ≠ [] ∨ b.dp.cycle.runs.filter (· != r) ≠ [])
    (hpasses : checkForce b (siteLoc (18 + r.phys)) = none) (htime : InTime b 0x203 (18 + r.phys) r.dur) :
    let e := modCycle (fun x => { x with runs := x.runs.filter (· != r) }) b
    (dpTick b).dp.cycle = { b.dp.cycle with runs := b.dp.cycle.runs.filter (· != r) } ∧ dpGrp (dpTick b) r.g = dpGrp (groupSolve r.g e) r.g ∧
      ∀ f, f ≠ r.g → dpGrp (dpTick b) f = dpGrp b f := by
  intro e
  have hsolved := solveEnd_leaves hpasses htime
  have hparts : besidesGroup r.g _ (groupSolve r.g e).dp = besidesGroup r.g _ e.dp := part_of_dpView (dpView_groupSolve r.g e)
  rw [← hsolved] at hparts
  simp only [besidesGroup, Prod.mk.injEq] at hparts
  obtain ⟨hcycle, hothers⟩ := hparts
  have hrunning : cycleOver (solveEnd r b) = false := by
    have hcycle' : (solveEnd r b).dp.cycle = { b.dp.cycle with runs := b.dp.cycle.runs.filter (· != r) } := hcycle
    rw [cycleOver, hcycle']
    obtain h | h | h := hmore
    · simp [h]
    · simp [List.isEmpty_eq_false_iff.mpr h]
    · simp [List.isEmpty_eq_false_iff.mpr h]
  have htick : dpTick b = solveEnd r b := by
    unfold dpTick
    extract_lets c
    have hends' : (c.runs.filter fun q => decide (q.stop ≤ b.tb) && decide (q.stop ≤ cutoffOf c)) = [r] := hends
    have hstage' : c.stage = 5 := hstage
    rw [if_neg (by simp [hthawed, hfree, hstage']), hends']
    exact cycleSettle_running hrunning
  rw [htick]
  refine ⟨hcycle, ?_, fun f hf => congrFun₂ hothers f hf⟩
  rw [dpGrp, hsolved, dpGrp]

end Sys2Proof.Laws

namespace Sys2Proof.Laws

open Sys2Proof.Machine Sys2Proof.Safety

/-! The cut-off (R315). -/

theorem cycleEnd_cycle (b : Block) : (cycleEnd b).dp.cycle = {} := rfl

theorem cycleEnd_grps (b : Block) : (cycleEnd b).dp.grps = b.dp.grps := by
  have h : dpView (fun _ d => d.grps) (cycleEnd b) = dpView (fun _ d => d.grps) b := by
    unfold cycleEnd conseqStep
    extract_lets c n on hit undone loss clear v old counted judged shown settled good outs bytes
    have hjudged : dpView (fun _ d => d.grps) judged = dpView (fun _ d => d.grps) b := (dpView_calm (calm_fireIf ..)).trans (dpView_modDp rfl)
    have hshown : dpView (fun _ d => d.grps) shown = dpView (fun _ d => d.grps) b := (dpView_when (dpView_calm (calm_fire ..))).trans hjudged
    exact (dpView_modDp rfl).trans ((dpView_modDp rfl).trans hshown)
  exact part_of_dpView h

theorem cycleSettle_keeps (b : Block) :
    (cycleSettle b).dp.grps = b.dp.grps ∧ ((cycleSettle b).dp.cycle = b.dp.cycle ∨ (cycleSettle b).dp.cycle = {}) := by
  unfold cycleSettle
  split
  · exact ⟨cycleEnd_grps b, .inr (cycleEnd_cycle b)⟩
  · exact ⟨rfl, .inl rfl⟩

/-- What the giving up of group `g` leaves alone: the solves that wait or run, and the results of the other groups. -/
def besidesGivenUp (g : Nat) (_ : Tab Target) (d : Dp) : List Nat × List DpRun × ((f : Nat) → f ≠ g → DpResult) :=
  (d.cycle.todo, d.cycle.runs, fun f _ => tget {} d.grps f)

theorem dpView_notDone (g : Nat) (b : Block) : dpView (besidesGivenUp g) (notDone g b) = dpView (besidesGivenUp g) b := by
  have hcount : dpView (besidesGivenUp g) (modDp (fun d => { d with notDone := sat16 d.notDone 1 })
      (modCycle (fun c => { c with notDone := c.notDone + 1 }) b)) = dpView (besidesGivenUp g) b := (dpView_modDp rfl).trans (dpView_modDp rfl)
  unfold notDone
  exact (dpView_calm (calm_fireIf ..)).trans ((dpView_modGrp (fun _ _ _ h => Prod.ext rfl (Prod.ext rfl (funext₂ h))) ..).trans hcount)

theorem dpGrp_notDone_ne {f g : Nat} (h : f ≠ g) (b : Block) : dpGrp (notDone g b) f = dpGrp b f :=
  (congrArg (fun x : List Nat × List DpRun × ((f : Nat) → f ≠ g → DpResult) => x.2.2 f h) (part_of_dpView (dpView_notDone g b)) :)

theorem notDone_solves (g : Nat) (b : Block) :
    ((notDone g b).dp.cycle.todo, (notDone g b).dp.cycle.runs) = (b.dp.cycle.todo, b.dp.cycle.runs) :=
  (congrArg (fun x : List Nat × List DpRun × ((f : Nat) → f ≠ g → DpResult) => (x.1, x.2.1)) (part_of_dpView (dpView_notDone g b)) :)

theorem notDone_verdict (g : Nat) (b : Block) : (dpGrp (notDone g b) g).verdict = 4 := by
  have h (old : Nat) (f : DpResult → DpResult) (c : Block) : dpGrp (verdictEvent g old 4 (modGrp g f c)) g = f (dpGrp c g) := by
    have hcalm : calm (verdictEvent g old 4 (modGrp g f c)) = calm (modGrp g f c) := calm_fireIf ..
    rw [dpGrp, dp_of_calm hcalm]
    exact (dpGrp_modGrp g g f c).trans (if_pos rfl)
  unfold notDone
  rw [h]

theorem consequenceCutoff_leaves {b : Block} {g : Nat} (hstage : b.dp.cycle.stage = 5) (hlate : b.dp.cycle.b + 1900000 ≤ b.tb)
    (hg : g ∈ b.dp.cycle.todo ∨ ∃ r ∈ b.dp.cycle.runs, r.g = g) :
    let y := consequenceCutoff b
    y.dp.cycle.todo = [] ∧ y.dp.cycle.runs = [] ∧ (dpGrp y g).verdict = 4 ∧
      ∀ f, f ∉ b.dp.cycle.todo → (∀ r ∈ b.dp.cycle.runs, r.g ≠ f) → dpGrp y f = dpGrp b f := by
  have hleft : b.dp.cycle.todo ≠ [] ∨ b.dp.cycle.runs ≠ [] := by
    obtain hmem | ⟨r, hmem, -⟩ := hg
    · exact .inl (List.ne_nil_of_mem hmem)
    · exact .inr (List.ne_nil_of_mem hmem)
  have hcut : consequenceCutoff b = abandonGroups b := if_pos ⟨hstage, hleft, hlate⟩
  intro y
  have hy : y = abandonGroups b := hcut
  unfold abandonGroups at hy
  extract_lets gs at hy
  have hmem : g ∈ gs := by
    obtain h | ⟨r, hr, h⟩ := hg
    · exact List.mem_append_right _ h
    · exact List.mem_append_left _ (List.mem_map.mpr ⟨r, hr, h⟩)
  generalize hw : gs.foldl (fun b g => notDone g b) (modCycle (fun c => { c with todo := [], runs := [] }) b) = w at hy
  have hnone : w.dp.cycle.todo = [] ∧ w.dp.cycle.runs = [] := by
    have hkeeps : (w.dp.cycle.todo, w.dp.cycle.runs) = ([], []) :=
      hw ▸ foldl_keeps (g := fun b => (b.dp.cycle.todo, b.dp.cycle.runs)) (fun c k => notDone_solves k c) gs _
    exact Prod.mk.inj hkeeps
  have hverdict : (dpGrp w g).verdict = 4 := by
    rw [← hw]
    refine foldl_reaches (I := fun _ => True) (n := g) (P := fun c => (dpGrp c g).verdict = 4) (fun _ _ h => h) (fun c k _ hne h => ?_)
      (fun c _ => notDone_verdict g c) gs _ trivial (.inr hmem)
    rw [dpGrp_notDone_ne hne.symm, h]
  obtain ⟨hgrps, hcycle⟩ := cycleSettle_keeps w
  rw [← hy] at hgrps hcycle
  have hgrp (f : Nat) : dpGrp y f = dpGrp w f := by rw [dpGrp, hgrps, dpGrp]
  refine ⟨?_, ?_, (congrArg DpResult.verdict (hgrp g)).trans hverdict, fun f htodo hruns => (hgrp f).trans ?_⟩
  · obtain h | h := hcycle
    · rw [h, hnone.1]
    · rw [h]
  · obtain h | h := hcycle
    · rw [h, hnone.2]
    · rw [h]
  · have hnot : f ∉ gs := by
      intro h
      obtain h | h := List.mem_append.mp h
      · obtain ⟨r, hr, e⟩ := List.mem_map.mp h
        exact hruns r hr e
      · exact htodo h
    rw [← hw]
    refine List.foldlRecOn (motive := fun c => dpGrp c f = dpGrp b f) gs _ rfl fun c h k hk => ?_
    have hne : f ≠ k := fun e => hnot (e.symm ▸ hk)
    rw [dpGrp_notDone_ne hne, h]

/-! Late samples (R295). -/

/-- LATE of a sensor with a late limit after its window (R295). -/
def judgedLate (lim : Nat) (x : DpSlot) : Bool :=
  let beyondLimit := decide (lim * (x.lateN + x.onN) < x.lateN * 1000)
  if lim = 1000 then false else if x.late then decide (x.lateN + x.onN = 0) || beyondLimit else beyondLimit

/-- A sensor's slot after its window, with the state that follows. -/
def judgedSlot (lim state : Nat) (x : DpSlot) : DpSlot := { x with late := judgedLate lim x, lateN := 0, onN := 0, state := state }

/-- The window of one sensor ends. -/
def judgeSlot (s : Nat) (b : Block) : Block :=
  slotShow s (modDpSlot s (judgedSlot (snLateLim b s) (dpSlot b s).state) b)

theorem judgedLate_eq (lim : Nat) (x : DpSlot) :
    (if lim = 1000 then false
      else if x.late then !(decide (x.lateN + x.onN ≠ 0) && !decide (lim * (x.lateN + x.onN) < x.lateN * 1000))
      else decide (lim * (x.lateN + x.onN) < x.lateN * 1000)) = judgedLate lim x := by
  simp only [judgedLate, Bool.not_and, Bool.not_not, ne_eq, decide_not]

theorem modDpSlot_congr {s : Nat} {f g : DpSlot → DpSlot} {b : Block} (h : f (dpSlot b s) = g (dpSlot b s)) : modDpSlot s f b = modDpSlot s g b :=
  congrArg (fun x => modDp (fun d => { d with slots := tset {} d.slots s x }) b) h

theorem lateWindowEnd_judges {b : Block} (htick : b.tb % 1000000000 = 0) (hon : dpOn b = true) :
    lateWindowEnd b = (slotsOf b 0 28).foldl (fun b s => judgeSlot s b) b := by
  unfold lateWindowEnd
  rw [if_neg (by simp [htick, hon])]
  refine congrArg (fun f => List.foldl f b (slotsOf b 0 28)) (funext₂ fun c s => congrArg (slotShow s) (modDpSlot_congr ?_))
  rw [judgedSlot, ← judgedLate_eq]

theorem calm_setDp {a b : Block} (h : calm b = calm a) (x : Dp) : calm { b with dp := x } = calm { a with dp := x } := by
  unfold calm at h ⊢
  exact congrArg (fun p => ({ p.1 with dp := x }, p.2)) h

/-- From `a` to `b` only slots of sensors change, apart from what events leave. -/
def SlotsOnly (a b : Block) : Prop := calm b = calm { a with dp := { a.dp with slots := b.dp.slots } }

theorem SlotsOnly.trans {a b c : Block} (h : SlotsOnly a b) (hc : SlotsOnly b c) : SlotsOnly a c := by
  have hdp : { b.dp with slots := c.dp.slots } = { a.dp with slots := c.dp.slots } :=
    (congrArg (fun d : Dp => { d with slots := c.dp.slots }) (dp_of_calm h) :)
  unfold SlotsOnly at hc
  rw [hdp] at hc
  exact hc.trans (calm_setDp h _)

theorem slotShow_slotsOnly (s : Nat) (b : Block) : SlotsOnly b (slotShow s b) := by
  have h : calm (slotShow s b) = calm (modDpSlot s (fun x => { x with state := slotState b s }) b) := calm_fireIf ..
  rw [SlotsOnly, dp_of_calm h, h]
  rfl

theorem judgeSlot_slotsOnly (s : Nat) (b : Block) : SlotsOnly b (judgeSlot s b) :=
  SlotsOnly.trans (b := modDpSlot s (judgedSlot (snLateLim b s) (dpSlot b s).state) b) rfl (slotShow_slotsOnly ..)

/-- The targets in force: with the configuration, what a sensor's STATE follows from besides its slot. -/
def targetsOf (t : Tab Target) (_ : Dp) : Tab Target := t

/-- A sensor's STATE follows from the configuration, from what is selected and from the causes in its slot. -/
theorem slotState_congr {b c : Block} {k : Nat} (h : dpView targetsOf c = dpView targetsOf b)
    (hslot : { dpSlot c k with state := 0 } = { dpSlot b k with state := 0 }) : slotState c k = slotState b k := by
  have htargets : c.rng.targets = b.rng.targets := part_of_dpView h
  have henabled : snEn c k = snEn b k := by simp only [snEn, dpHas, snsW, cfgW, glb_of_dpView h]
  have hselected : slotSelected c k = slotSelected b k := by simp only [slotSelected, dpField, targetAt, htargets]
  simp only [DpSlot.mk.injEq] at hslot
  simp only [slotState, henabled, hselected, hslot]

theorem snLateLim_congr {b c : Block} (h : dpView targetsOf c = dpView targetsOf b) (k : Nat) : snLateLim c k = snLateLim b k := by
  simp only [snLateLim, snsW, cfgW, glb_of_dpView h]

theorem dpView_judgeSlot (s : Nat) (b : Block) : dpView targetsOf (judgeSlot s b) = dpView targetsOf b :=
  (dpView_slotShow (fun _ _ _ => rfl) ..).trans (dpView_modDpSlot (fun _ _ _ => rfl) ..)

theorem dpSlot_judgeSlot (s k : Nat) (b : Block) : dpSlot (judgeSlot s b) k =
    if k = s then judgedSlot (snLateLim b s) (slotState (judgeSlot s b) s) (dpSlot b s) else dpSlot b k := by
  have h := dpSlot_slotShow s k (modDpSlot s (judgedSlot (snLateLim b s) (dpSlot b s).state) b)
  simp only [dpSlot_modDpSlot, if_true] at h
  rw [judgeSlot, h]
  split
  next e =>
    subst e
    rw [slotState_congr (dpView_slotShow (fun _ _ _ => rfl) ..) (by rw [dpSlot_slotShow, if_pos rfl])]
    rfl
  · rfl

/-- The windows of distinct sensors end one after the other. -/
theorem dpSlot_judgeSlots {l : List Nat} (hl : l.Nodup) {k : Nat} (hk : k ∈ l) (b : Block) :
    let y := l.foldl (fun b s => judgeSlot s b) b
    dpSlot y k = judgedSlot (snLateLim b k) (slotState y k) (dpSlot b k) := by
  induction l generalizing b with
  | nil => exact absurd hk List.not_mem_nil
  | cons s l ih =>
    obtain ⟨hs, hl⟩ := List.nodup_cons.mp hl
    obtain rfl | hk := List.mem_cons.mp hk
    · have hslot : dpSlot (l.foldl (fun b s => judgeSlot s b) (judgeSlot k b)) k = dpSlot (judgeSlot k b) k := by
        refine List.foldlRecOn (motive := fun c => dpSlot c k = dpSlot (judgeSlot k b) k) l _ rfl fun c h m hm => ?_
        have hne : k ≠ m := fun e => hs (e ▸ hm)
        rw [dpSlot_judgeSlot, if_neg hne, h]
      have hview : dpView targetsOf (l.foldl (fun b s => judgeSlot s b) (judgeSlot k b)) = dpView targetsOf (judgeSlot k b) :=
        foldl_keeps (fun _ _ => dpView_judgeSlot ..) _ _
      show dpSlot (l.foldl _ (judgeSlot k b)) k = judgedSlot _ (slotState (l.foldl _ (judgeSlot k b)) k) _
      rw [slotState_congr hview (by rw [hslot]), hslot, dpSlot_judgeSlot, if_pos rfl]
    · have hne : k ≠ s := fun e => hs (e ▸ hk)
      have h := ih hl hk (judgeSlot s b)
      rw [snLateLim_congr (dpView_judgeSlot ..), dpSlot_judgeSlot, if_neg hne] at h
      exact h

theorem slotsOf_nodup (b : Block) (lo n : Nat) : (slotsOf b lo n).Nodup :=
  (List.nodup_range.map fun _ _ h => Nat.add_left_cancel h).filter _

theorem judgeSlots_slotsOnly (l : List Nat) (b : Block) : SlotsOnly b (l.foldl (fun b s => judgeSlot s b) b) :=
  List.foldlRecOn (motive := SlotsOnly b) l _ rfl fun c h s _ => h.trans (judgeSlot_slotsOnly s c)

/-- Settles O44: delivery, the start and the end of a consequence solve, the cut-off and the late windows, each by its lemma. -/
theorem cycleEnds : Obligations.CycleEnds := by
  unfold Obligations.CycleEnds
  intro g dur s hg hon d c lane mayRun
  have hmay : mayRun → MayRun s.blk := fun ⟨hdp, hfree, hstage, hthawed⟩ => ⟨hdp, hfree, hstage, hthawed⟩
  refine ⟨fun hruns hdeliver hend htodo => ?delivery, fun p hruns hfirst hlane hcutoff hphys => ?solve,
    fun r hthawed hfree hstage hends hmore hpasses htime => ?tick, fun hstage hlate hleft => ?cutoff, fun htick hdp => ?windows⟩
  case delivery => exact does_act rfl rfl hon (delivery_leaves (hmay hruns) hdeliver hend htodo)
  case solve =>
    refine does_act rfl (by simp [Instr.ok, hg]) hon ?_
    rw [consequenceSolve_starts (hmay hruns) hfirst hlane hcutoff hphys, instanceStart, perf_cnt]
    rfl
  case tick => exact dpTick_ends hthawed hfree hstage hends hmore hpasses htime
  case cutoff => exact does_act rfl rfl hon (consequenceCutoff_leaves hstage hlate hleft)
  case windows =>
    refine does_act rfl rfl hon ?_
    rw [lateWindowEnd_judges htick hdp]
    exact ⟨spared_of_calm (judgeSlots_slotsOnly ..), fun k hk => dpSlot_judgeSlots (slotsOf_nodup ..) hk s.blk⟩

end Sys2Proof.Laws
